-- ==== Sys2Proof/Word.lean ====
section
/-! DEFINITION. The words that the host, the link and the settings memory see: bytes and 16-bit fields.
Everything else in the model is a name, a number or a list (the FN2460 has no register window, 00 0.2). -/

namespace Sys2Proof

/-- A byte of a panel frame, a link frame or the settings memory (11 R180, 10 R165, 11 R185). -/
abbrev Byte := BitVec 8

/-- A two-byte field, sent least significant byte first (00 0.6.4). -/
abbrev Half := BitVec 16

end Sys2Proof
end

