-- ==== Sys2Proof/Config.lean ====
section
/-! DEFINITION. The fixed values of the part: limits in ms (or µs), the fixed lamp values of 04 Table 4.2, the
codes of READ ID. The spec leaves no value open, so there is no free value here. -/

namespace Sys2Proof.Config

/-- Tray positions, 0 to 99 (01 1.1). -/
def positions : Nat := 100
/-- TPRS stable time (01 R1). -/
def trayStableMs : Nat := 50
/-- Shutter limit (02 Table 2.4 note 2). -/
def shutterLimitMs : Nat := 200
/-- Lift limit, drop limit and limit of a lift-retry drop (02 R27, R29). -/
def actuatorLimitMs : Nat := 500
/-- Step limit per position (02 R28). -/
def stepLimitMs : Nat := 300
/-- Built-in change fade, kept by a JAMMED state at reset (02 R43). -/
def builtInFade : Nat := 5
/-- Preheat level and time (04 Table 4.2). -/
def preheatLevel : Nat := 24
def preheatMs : Nat := 300
/-- Restrike threshold and cool-done threshold, °C (04 Table 4.2). -/
def restrikeTemp : Nat := 60
def coolDoneTemp : Nat := 45
/-- Derate level, heat level, hold level and fan threshold (04 Table 4.2). -/
def derateLevel : Nat := 160
def heatLevel : Nat := 200
def holdLevel : Nat := 128
def fanLevel : Nat := 160
/-- Lamp-open detect time, fan stall time, sample period (04 Table 4.2). -/
def lampOpenMs : Nat := 100
def fanStallMs : Nat := 2000
def samplePeriodMs : Nat := 250
/-- Highest temperature a sample may take (04 R70). -/
def maxTemp : Nat := 200
/-- Seconds of LIT time in a tenth of a lamp hour, and the largest count (04 R88). -/
def hourTenthS : Nat := 360
def maxHours : Nat := 65535
/-- STOP pulse, start limit, stall limit, pause limit (05 R93, R95, R96, R97). -/
def stopPulseMs : Nat := 100
def startLimitMs : Nat := 2000
def stallLimitMs : Nat := 500
def pauseLimitMs : Nat := 1000
/-- Edge watch (06 R107). -/
def edgeWatchMs : Nat := 3
/-- Capacity of the cue queue (07 R124). -/
def cueQueueMax : Nat := 8
/-- Steps of the cue table (07 R121). -/
def steps : Nat := 200
/-- A stable wired line (09 R151). -/
def lineStableMs : Nat := 20
/-- IR release time, digit time, focus run limit (09 R154, R158, R159). -/
def irReleaseMs : Nat := 200
def digitMs : Nat := 3000
def focusLimitMs : Nat := 8000
/-- Capacities of the transmit queue and the receive buffer (10 R169, R174). -/
def txQueueMax : Nat := 4
def rxBufferMax : Nat := 4
/-- An unassigned node (10 R167). -/
def unassigned : Nat := 15
/-- The fade byte that stands for the default change fade (11 R182 note 2). -/
def defaultFadeByte : Byte := 0xFF
/-- READ ID: vendor code, part code, revision (11 R191). -/
def idBytes : List Byte := [0x2C, 0x60, 0x24, 0x01]
/-- The settings image: signature bytes, length bytes, end of the checked part, start of the hours (11 Table 11.7). -/
def imageSignature : List Byte := [0x60, 0x24]
def imageLength : Nat := 3524
def imageBodyStart : Nat := 8
def imageHoursStart : Nat := 3520
/-- What a byte of the settings memory that nothing has written reads as. DESIGN CHOICE (log 6): an erased
memory. UNSAFE: the spec does not say what a memory holds before its first STORE. -/
def erasedByte : Byte := 0xFF

end Sys2Proof.Config
end

