-- ==== Sys2Proof/Syntax.lean ====
section
/-! DEFINITION. The commands of the part: one constructor of `Instr` per row of spec/opcode_table.json, in the
table's order. Operands of panel commands are the payload bytes of 11 Table 11.11; operands of the other rows are
what the event brings from outside (a level, a length, a reading, a frame). LCUR_ACTIVE written without its operand
brings the active level, and LINE_BUSY without its operands a start bit with no other space in its character. -/

namespace Sys2Proof

/-- The four wired lines, key codes 60 to 63 (09 Table 9.1 note 1). -/
inductive Line where
  | fwd | rev | fin | fout
  deriving DecidableEq, Repr

/-- A mark or a space on IRIN with its length in µs (09 R153). -/
inductive IrPulse where
  | mark (us : Nat)
  | space (us : Nat)
  deriving DecidableEq, Repr

/-- What every link frame carries beside its kind and payload: level and source (byte 1) and the destination
byte (byte 2) of 10 Table 10.3. -/
structure FrameHead where
  level : Nat
  src : Nat
  dest : Byte
  deriving DecidableEq, Repr

/-- Bytes 0 to 8 of a source record (03 Table 3.3), as SET SOURCE carries them. -/
structure SourceBytes where
  enable : Byte
  priority : Byte
  classes : Byte
  base : Byte
  limit : Byte
  tenure : Byte
  route : Byte
  destType : Byte
  destNum : Byte
  deriving DecidableEq, Repr

/-- The payload of SET LAMP (04 R89). -/
structure LampBytes where
  warn : Byte
  trip : Byte
  minCool : Half
  heat : Byte
  initShow : Byte
  deriving DecidableEq, Repr

/-- The payload of SET DECODER (06 Table 6.9). -/
structure DecoderBytes where
  mode : Byte
  cues : Byte
  element : Byte
  parity : Byte
  pulseMin : Half
  pulseMax : Half
  holdMin : Half
  deriving DecidableEq, Repr

inductive Instr where
  -- TRU, Section 1
  | trayInsertion
  | trayRemoval
  | indexPulse
  | homePulse
  | setSlot (first last skip : Byte)
  | clearSlot (first last : Byte)
  | readTray (first count : Byte)
  | setTray (limit skipEmpty : Byte)
  -- CSQ, Section 2
  | gateSensorChange (seat clear liftUp : Bool)
  | shutterClosed
  | shutterTimeout
  | shutterClosedLost
  | shutterOpened
  | liftSuccess
  | liftTimeout
  | liftRetryDropEnd
  | stepTimeout
  | dropSeated
  | dropTimeout
  | clearJam
  | clearFaultShutter
  | setSequencer (mode action retries : Byte)
  | readGate
  -- SAR, Section 3
  | advance (count fade : Byte)
  | reverse (count fade : Byte)
  | seek (slot fade : Byte)
  | home (fade : Byte)
  | halt
  | tenureExpiry
  | pendingChangeStart
  | setSource (source : Byte) (record : SourceBytes)
  | readSource (source : Byte)
  | readLastChange
  | setArbiter (fade mask : Byte)
  | readArbiter
  -- LMC, Section 4
  | lampOn
  | lampOff
  | setLevel (level fade : Byte)
  | lampReplaced
  | clearFaultTrip
  | setLamp (settings : LampBytes)
  | readLamp
  | temperatureSample (reading : Option Nat)
  | preheatExpiry
  | coolingTimerExpiry
  | lampRampTick
  | lcurActive (active : Bool := true)
  | lampOpenDetect
  | heatGuardExpiry
  | fanTachPulse
  | fanStallExpiry
  | lampHoursTick
  -- DKC, Section 5
  | deckPlay
  | deckPause
  | deckStop
  | setAudio (level fade : Byte)
  | setDeck (external holdMute initial : Byte)
  | readDeck
  | stopPulseEnd
  | runningRise (tapeEnd : Bool)
  | runningFall (tapeEnd : Bool)
  | endRise
  | startTimeout
  | stallTimeout
  | pauseTimeout
  | showClockTick
  | audioRampTick
  -- CDC, Section 6
  | periodJudgment (lowUs : Nat)
  | edgeWatchExpiry
  | holdMinReached
  | wordStartCheck
  | wordCue
  | setDecoder (settings : DecoderBytes)
  | readDecoder
  -- CRN, Section 7
  | writeStep (number : Byte) (record : List Byte)
  | readStep (number : Byte)
  | eraseSteps (first last : Byte)
  | runStep (number : Byte)
  | flushCues
  | readCues
  | cueTake
  | dwellExpiry
  -- SHC, Section 8
  | showStart
  | showStop
  | hold
  | resume
  | setShow (autoResume : Byte)
  | readShow
  | endingShowEnd
  -- RMI, Section 9
  | wiredLineChange (line : Line) (pressed : Bool)
  | irFrame (pulses : List IrPulse)
  | irRepeat (pulses : List IrPulse)
  | irFrameDrop (pulses : List IrPulse)
  | irReleaseTimeout
  | keyRepeatExpiry (code : Nat)
  | digitTimeout
  | focusEndStop (fsi fso : Bool)
  | focusTimedEnd
  | focusRunLimit
  | clearRemote (mask value : Byte)
  | setKey (code action mode : Byte)
  | readKeys (first count : Byte)
  | focus (direction duration : Byte)
  | focusStop
  | remoteTestEnter
  | remoteTestLeave
  | remoteTestSetLines (lines : Byte)
  | remoteTestPressKey (code : Byte)
  | remoteTestReleaseKey
  | setRemote (channel change wakeAny : Byte)
  | readRemote
  -- LKC, Section 10
  | lineBusy (char : Byte := 0xFF) (stop : Bool := true)
  | lineIdle
  | badFrame
  | linkChangeFrame (head : FrameHead) (kind arg fade : Byte)
  | linkLevelFrame (head : FrameHead) (level fade : Byte)
  | linkLampFrame (head : FrameHead) (on : Byte)
  | linkHoldFrame (head : FrameHead)
  | linkResumeFrame (head : FrameHead)
  | linkStepFrame (head : FrameHead) (number : Byte)
  | linkStandbyFrame (head : FrameHead)
  | linkWakeFrame (head : FrameHead)
  | linkAskFrame (head : FrameHead)
  | linkStateOrDataFrame (head : FrameHead) (kind : Byte) (payload : List Byte)
  | ownAddressFrame (dest kind : Byte) (payload : List Byte)
  | frameSendStart
  | frameSent
  | collision
  | setNode (address : Byte)
  | setGroups (groups : Byte)
  | enableLink (value : Byte)
  | setLink (rate level retryLimit loopback : Byte)
  | sendLink (dest kind length : Byte) (payload : List Byte)
  | readLink
  -- PNP, Section 11
  | panelRead (clocked : Nat)
  | unknownCommand (frame : List Byte)
  | readId
  | readStatus
  | readAttention
  | readFaults
  | setAttention (enable disable : Byte)
  | setPower (minutes : Byte)
  | standby
  | wake
  | standbyEntry
  | idleTimerExpiry
  | resetControl (memAck : Bool)
  | resetHold (memAck : Bool)
  | release (memAck : Bool)
  | storeSettings
  | storeComplete (acked : Nat)
  | loadSettings
  | loadComplete (memAck : Bool)
  | hoursWriteStart
  | hoursWriteComplete (acked : Nat)
  | porstLow
  | powerOnReset (memAck : Bool)
  -- the table's last three rows
  | wordElementSample
  | cueinFallingEdge (highUs : Nat)
  | frameNotAccepted (head : FrameHead)
  deriving DecidableEq, Repr

end Sys2Proof
end

