-- ==== Sys2Proof/Machine/State.lean ====
section
/-! DEFINITION. The state of the part, block by block as the "State" tables of spec/ list it, and its value after
power-on reset. Plain data throughout. Views that other fields give (the lamp output, MUTE, ATTN, the parts of
attention CUE, LINK and REMOTE) are computed in Machine/Flags.lean and stored nowhere. -/

namespace Sys2Proof.Machine

/-! ## Names shared by several blocks -/

/-- Request sources (03). -/
inductive Source where
  | panel | remote | program | link
  deriving DecidableEq, Repr

/-- One value per source. -/
structure PerSource (α : Type) where
  panel : α
  remote : α
  program : α
  link : α
  deriving DecidableEq, Repr

/-- Request classes (03 Table 3.4). -/
inductive ReqClass where
  | transport | lamp | shows | power
  deriving DecidableEq, Repr

/-- Status codes of response frames (11 Table 11.4). -/
inductive Status where
  | ok | busy | disabled | outOfWindow | notHomed | trayAbsent | gateOrphan | slotRetired | noSlide | range
  | jammed | hot | tripped | held | deckEnd | locked | standby | resetHeld | showActive | badArg | unknownCommand
  deriving DecidableEq, Repr

/-- The four change kinds (02 2.2). -/
inductive ChangeKind where
  | advance | reverse | seek | home
  deriving DecidableEq, Repr

/-- A link destination: a node, a group or all (03 3.1, 10 Table 10.3). -/
inductive LinkDest where
  | node (n : Nat)
  | group (n : Nat)
  | all
  deriving DecidableEq, Repr

/-- A linear move of a level (04 R78, 05 R102); `ms` is the time into the present tenth. -/
structure Ramp where
  start : Nat
  target : Nat
  duration : Nat
  elapsed : Nat
  ms : Nat
  deriving DecidableEq, Repr

/-! ## Settings (00 0.7) -/

/-- SET TRAY (01 R9). -/
structure TraySettings where
  retireLimit : Nat
  skipEmpty : Bool
  deriving DecidableEq, Repr

/-- SET SEQUENCER (02 R41): blanking mode DIM, jam action SKIP, jam retries. -/
structure SeqSettings where
  dim : Bool
  skip : Bool
  retries : Nat
  deriving DecidableEq, Repr

/-- SET ARBITER (03 R66). -/
structure ArbSettings where
  fade : Nat
  mask : PerSource Bool
  deriving DecidableEq, Repr

/-- Routes of a source record (03 3.1). -/
inductive Route where
  | here | forward | both
  deriving DecidableEq, Repr

/-- A source record (03 3.1). -/
structure SourceRec where
  enable : Bool
  priority : Nat
  transport : Bool
  lamp : Bool
  shows : Bool
  power : Bool
  base : Nat
  limit : Nat
  tenure : Nat
  route : Route
  dest : LinkDest
  deriving DecidableEq, Repr

/-- SET LAMP (04 R89). -/
structure LampSettings where
  warn : Nat
  trip : Nat
  minCool : Nat
  heat : Nat
  initShow : Nat
  deriving DecidableEq, Repr

/-- SET DECK (05 R104). -/
structure DeckSettings where
  external : Bool
  holdMute : Bool
  initAudio : Nat
  deriving DecidableEq, Repr

/-- Cue modes (06 6.5). -/
inductive CueMode where
  | off | direct | program
  deriving DecidableEq, Repr

/-- Word parity (06 Table 6.2). -/
inductive Parity where
  | none | even | odd
  deriving DecidableEq, Repr

/-- SET DECODER (06 Table 6.2). -/
structure DecoderSettings where
  mode : CueMode
  pulseOn : Bool
  wordOn : Bool
  element : Nat
  parity : Parity
  pulseMin : Nat
  pulseMax : Nat
  holdMin : Nat
  deriving DecidableEq, Repr

/-- SET REMOTE (09 R162); channel none is ANY. -/
structure RemoteSettings where
  channel : Option Nat
  changeEnable : Bool
  wakeAny : Bool
  deriving DecidableEq, Repr

/-- SET LINK (10 R175). -/
structure LinkSettings where
  rate : Nat
  level : Nat
  retryLimit : Nat
  loopback : Bool
  deriving DecidableEq, Repr

/-- SET ATTENTION (11 R184): the enable set (bit 0 FAULT to bit 7 POWER) and the global disable. -/
structure AttnSettings where
  enable : Byte
  off : Bool
  deriving DecidableEq, Repr

/-- Key actions (09 Table 9.4). -/
inductive KeyAction where
  | none | advance | reverse | focusIn | focusOut | hold | resume | showStart | showStop | lampOn | lampOff
  | home | enter | clearJam | nextStep | standby | wake | report
  | digit (d : Nat)
  deriving DecidableEq, Repr

/-- Repeat modes; AUTO with its period in tenths (09 R157). -/
inductive RepeatMode where
  | once | whileHeld
  | auto (period : Nat)
  deriving DecidableEq, Repr

/-- An entry of the key map (09 9.3). -/
structure KeyEntry where
  action : KeyAction
  mode : RepeatMode
  deriving DecidableEq, Repr

/-- Actions of a step (07 7.1). -/
inductive StepAction where
  | none | next | prev
  | slot (s : Nat)
  | home
  deriving DecidableEq, Repr

/-- Deck actions of a step (07 7.1). -/
inductive DeckAction where
  | none | play | stop
  deriving DecidableEq, Repr

/-- Kinds of a step's link action (07 Table 7.2). -/
inductive LinkActKind where
  | change | level | lamp | step | hold | resume
  deriving DecidableEq, Repr

/-- A step's link action (07 Table 7.2). -/
structure LinkAction where
  dest : LinkDest
  kind : LinkActKind
  arg1 : Nat
  arg2 : Nat
  deriving DecidableEq, Repr

/-- A written step record (07 7.1). -/
structure StepRec where
  action : StepAction
  fade : Nat
  level : Option Nat
  audio : Option (Nat × Nat)
  deck : DeckAction
  dwell : Nat
  next : Option Nat
  link : Option LinkAction
  deriving DecidableEq, Repr

/-- Every setting, table and map that the settings image holds (11 Table 11.7). -/
structure Settings where
  tray : TraySettings
  seq : SeqSettings
  arb : ArbSettings
  lamp : LampSettings
  deck : DeckSettings
  decoder : DecoderSettings
  autoResume : Bool
  remote : RemoteSettings
  node : Nat
  groups : Byte
  linkEnable : Bool
  link : LinkSettings
  attn : AttnSettings
  idle : Nat
  sources : PerSource SourceRec
  keys : List KeyEntry
  steps : List (Option StepRec)
  hours : Nat
  deriving DecidableEq, Repr

/-! ## Pins -/

/-- Levels at the pins that rules read as levels. The wired lines stand at their debounced physical level. -/
structure Pins where
  seat : Bool
  clear : Bool
  liftUp : Bool
  shcl : Bool
  tprs : Bool
  running : Bool
  tapeEnd : Bool
  fsi : Bool
  fso : Bool
  fwd : Bool
  rev : Bool
  fin : Bool
  fout : Bool
  lcur : Bool
  porstLow : Bool
  deriving DecidableEq, Repr

/-! ## TRU (01) -/

inductive Content where
  | unknown | slide | empty
  deriving DecidableEq, Repr

structure SlotRec where
  content : Content
  skip : Bool
  jams : Nat
  retired : Bool
  deriving DecidableEq, Repr

structure Tru where
  present : Bool
  position : Option Nat
  map : List SlotRec
  cfg : TraySettings
  readingMs : Nat
  deriving DecidableEq, Repr

/-! ## CSQ (02) -/

inductive SeqState where
  | idle | blanking | lifting | indexing | dropping | revealing | jammed | stalled
  deriving DecidableEq, Repr

/-- Gate states EMPTY, SEATED and PARTIAL. -/
inductive GateState where
  | empty | seated | partway
  deriving DecidableEq, Repr

/-- The sensed condition (02 Table 2.2). -/
inductive Sensed where
  | seated | clear | partway
  deriving DecidableEq, Repr

inductive Direction where
  | none | forward | reverse
  deriving DecidableEq, Repr

inductive StopCause where
  | none | lift | drop | partialAtLoss | partialAtReset | stepLimit | slip
  deriving DecidableEq, Repr

/-- What the actuator is doing inside LIFTING and DROPPING (02 R27, R29, R30). -/
inductive Drive where
  | none | lift | retryDrop | skipLift | drop | dropLiftBack
  deriving DecidableEq, Repr

/-- The in-flight change with the values latched at its start (02 R22). -/
structure Flight where
  kind : ChangeKind
  owner : Source
  target : Nat
  fade : Nat
  dir : Direction
  base : Nat
  limit : Nat
  halt : Bool
  dim : Bool
  skip : Bool
  retries : Nat
  deriving DecidableEq, Repr

structure Csq where
  state : SeqState
  gate : GateState
  origin : Option Nat
  flight : Option Flight
  drive : Drive
  timerMs : Nat
  retry : Nat
  stop : StopCause
  keptOwner : Source
  keptFade : Nat
  shutClosed : Bool
  shutMs : Option Nat
  shutDone : Bool
  lampDone : Bool
  shutFault : Bool
  cfg : SeqSettings
  deriving DecidableEq, Repr

/-! ## SAR (03) -/

inductive ChangeOutcome where
  | none | done | halted | jammed | stalled | trayLost | displaced | replaced | mergedOut | flushed | refusedAtStart
  deriving DecidableEq, Repr

/-- The final position of a last-change record (03 3.8). -/
inductive FinalPos where
  | none | unknown
  | known (p : Nat)
  deriving DecidableEq, Repr

structure LastChange where
  kind : Option ChangeKind
  target : Option Nat
  outcome : ChangeOutcome
  final : FinalPos
  refusals : Nat
  deriving DecidableEq, Repr

/-- The pending change record (03 3.4). -/
structure Waiting where
  source : Source
  kind : ChangeKind
  count : Int
  target : Nat
  fade : Nat
  deriving DecidableEq, Repr

structure Sar where
  sources : PerSource SourceRec
  cfg : ArbSettings
  waiting : Option Waiting
  holder : Option Source
  tenureLeft : Nat
  tenureMs : Nat
  last : PerSource LastChange
  deriving DecidableEq, Repr

/-! ## LMC (04) -/

inductive Lamp where
  | off | preheat | lit | cooling | fault
  deriving DecidableEq, Repr

inductive Claim where
  | none | fade | hold
  deriving DecidableEq, Repr

inductive Fan where
  | off | low | high
  deriving DecidableEq, Repr

structure Lmc where
  lamp : Lamp
  ramp : Ramp
  showLevel : Nat
  claim : Claim
  dim : Bool
  owed : Bool
  restrike : Bool
  deferred : Bool
  trip : Bool
  derate : Bool
  guardCap : Bool
  guardElapsed : Nat
  guardMs : Nat
  preheatMs : Nat
  coolLeft : Nat
  coolMs : Nat
  coolRunning : Bool
  coolDone : Bool
  openMs : Nat
  temp : Option Nat
  sampleMs : Nat
  answered : Bool
  fan : Fan
  fanStall : Bool
  stallMs : Nat
  hours : Nat
  part : Nat
  partMs : Nat
  cfg : LampSettings
  deriving DecidableEq, Repr

/-! ## DKC (05) -/

inductive Deck where
  | stopped | starting | playing | pausing | paused | ended | fault
  deriving DecidableEq, Repr

structure Dkc where
  deck : Deck
  stopPulse : Option Nat
  timerMs : Nat
  stall : Option Nat
  clock : Nat
  clockMs : Nat
  audio : Ramp
  cfg : DeckSettings
  deriving DecidableEq, Repr

/-! ## CDC (06) -/

inductive Tone where
  | none | toneA | toneB
  deriving DecidableEq, Repr

/-- Period judgments (06 Table 6.3). -/
inductive Judgment where
  | a | b | out
  deriving DecidableEq, Repr

inductive PulseRun where
  | none
  | measuring (ms pulseMin pulseMax holdMin : Nat)
  | spent
  deriving DecidableEq, Repr

inductive WordState where
  | idle | startCheck | data | parity | stop
  deriving DecidableEq, Repr

structure CdcFlags where
  noise : Bool
  long : Bool
  parity : Bool
  framing : Bool
  value : Bool
  overrun : Bool
  holdSeen : Bool
  deriving DecidableEq, Repr

inductive LastCue where
  | none | next
  | step (value : Nat)
  | hold
  deriving DecidableEq, Repr

structure Cdc where
  tone : Tone
  candidate : Judgment
  count : Nat
  watchMs : Nat
  risen : Bool
  highUs : Nat
  waitQuiet : Bool
  pulse : PulseRun
  word : WordState
  element : Nat
  bits : List Bool
  wordMs : Nat
  elementMs : Nat
  wordParity : Parity
  flags : CdcFlags
  last : LastCue
  cfg : DecoderSettings
  deriving DecidableEq, Repr

/-! ## CRN (07) -/

inductive CueOrigin where
  | tape | link | panel | remote | dwell
  deriving DecidableEq, Repr

inductive CueKind where
  | next
  | step (n : Nat)
  deriving DecidableEq, Repr

structure CueRec where
  origin : CueOrigin
  kind : CueKind
  stamp : Nat
  deriving DecidableEq, Repr

/-- A step in progress, or a DIRECT request outstanding (07 R128, R133), with the number for the fault detail. -/
structure Progress where
  direct : Bool
  number : Nat
  deriving DecidableEq, Repr

inductive Awaited where
  | none | started | pending
  deriving DecidableEq, Repr

structure Crn where
  table : List (Option StepRec)
  queue : List CueRec
  current : Nat
  latched : Option StepRec
  progress : Option Progress
  awaited : Awaited
  dwell : Option Nat
  dwellMs : Nat
  stepEmpty : Bool
  stepFault : Bool
  cueLost : Bool
  faultStep : Nat
  faultStatus : Option Status
  deriving DecidableEq, Repr

/-! ## SHC (08) -/

inductive Show where
  | stopped | running | held | ending
  deriving DecidableEq, Repr

inductive Cause where
  | operator | cueHold | transport | lamp | deck | link
  deriving DecidableEq, Repr

/-- The hold cause set: each cause at most once (08 Table 8.1 note 1). -/
structure Causes where
  operator : Bool
  cueHold : Bool
  transport : Bool
  lamp : Bool
  deck : Bool
  link : Bool
  deriving DecidableEq, Repr

structure Shc where
  phase : Show
  causes : Causes
  ended : Bool
  autoResume : Bool
  deriving DecidableEq, Repr

/-! ## RMI (09) -/

/-- A key press record (09 Table 9.1). -/
structure Press where
  action : KeyAction
  mode : RepeatMode
  repeatMs : Nat
  spent : Bool
  deriving DecidableEq, Repr

/-- What the next reading of a line is: an event of a watched line, or the reading that 20 ms of a stable level give
after the end of test mode or after a reset, with the time passed (09 R161, R163). -/
inductive LineRead where
  | watched
  | resumed (ms : Nat)
  | first (ms : Nat)
  deriving DecidableEq, Repr

structure LineRec where
  pressed : Bool
  pressedChg : Bool
  releasedChg : Bool
  press : Option Press
  reading : LineRead
  deriving DecidableEq, Repr

/-- The infra-red receiver (09 R153). `bits` holds the bits gathered, bit 0 first; `gotMark` says that the bit
mark of the next bit has been taken. -/
inductive IrRx where
  | waitLeader | leaderSpace
  | bits (got : List Bool) (gotMark : Bool)
  | repeatMark
  | trailer (got : List Bool)
  deriving DecidableEq, Repr

inductive FocusEnd where
  | key (code : Nat)
  | timed (ms : Nat)
  deriving DecidableEq, Repr

/-- The focus drive; `inward` is direction IN (09 R159). -/
inductive Focus where
  | stopped
  | run (inward : Bool) (stopAt : FocusEnd) (runMs : Nat)
  deriving DecidableEq, Repr

structure Rmi where
  fwd : LineRec
  rev : LineRec
  fin : LineRec
  fout : LineRec
  irRx : IrRx
  irHeld : Option Nat
  irReleaseMs : Nat
  irPress : Option Press
  irDrops : Nat
  keys : List KeyEntry
  digit : Option Nat
  digitMs : Nat
  lastKey : Option Nat
  unread : Bool
  focus : Focus
  test : Bool
  injected : Bool
  cfg : RemoteSettings
  deriving DecidableEq, Repr

/-! ## LKC (10) -/

/-- A link frame: bytes 1 to 4 + n of 10 Table 10.3. -/
structure LinkFrame where
  level : Nat
  src : Nat
  dest : Byte
  kind : Byte
  payload : List Byte
  deriving DecidableEq, Repr

/-- An entry of the receive buffer; the level is not kept (10 R174). -/
structure RxEntry where
  src : Nat
  dest : Byte
  kind : Byte
  payload : List Byte
  deriving DecidableEq, Repr

/-- The receiver with the bytes that it has gathered, the lead first (10 R166). -/
inductive LinkRx where
  | waitIdle | waitLead
  | inFrame (got : List Byte)
  deriving DecidableEq, Repr

inductive Access where
  | none | waitIdle | waitSlots | sending
  deriving DecidableEq, Repr

structure Lkc where
  node : Nat
  lock : Bool
  groups : Byte
  enable : Bool
  cfg : LinkSettings
  lineIdle : Bool
  rx : LinkRx
  txq : List LinkFrame
  access : Access
  retry : Nat
  rxbuf : List RxEntry
  giveup : Bool
  overflow : Bool
  rxOverflow : Bool
  rxError : Bool
  replyLost : Bool
  idleInUs : Nat
  idleForUs : Nat
  sendUs : Nat
  looped : Option LinkFrame
  deriving DecidableEq, Repr

/-! ## PNP (11) -/

inductive Power where
  | run | standbyPending | standby | resetHeld
  deriving DecidableEq, Repr

/-- Power events (11 Table 11.8). -/
inductive PowerEvent where
  | none | standbyEntered | woken | resetDone | storeDone | storeFailed | loadDone | loadFailed | loadAbandoned
  deriving DecidableEq, Repr

inductive FaultFlag where
  | lampOpen | overtempTrip | fanStall | trayStall | traySlip | shutter | deckNoStart | deckStall | deckNoPause
  | settings
  deriving DecidableEq, Repr

/-- The ten sticky fault flags (11 R183). -/
structure Faults where
  lampOpen : Bool
  overtempTrip : Bool
  fanStall : Bool
  trayStall : Bool
  traySlip : Bool
  shutter : Bool
  deckNoStart : Bool
  deckStall : Bool
  deckNoPause : Bool
  settings : Bool
  deriving DecidableEq, Repr

/-- The pending causes that events raise. CUE, LINK and REMOTE are pending while their parts stand (11 Table 11.5)
and are computed. -/
structure Pend where
  fault : Bool
  jam : Bool
  showChg : Bool
  change : Bool
  power : Bool
  deriving DecidableEq, Repr

structure Response where
  status : Status
  payload : List Byte
  deriving DecidableEq, Repr

structure Pnp where
  resp : Option Response
  readPos : Nat
  pend : Pend
  cfg : AttnSettings
  faults : Faults
  power : Power
  event : PowerEvent
  store : Option Settings
  load : Bool
  hoursWrite : Option Nat
  hoursWaiting : Option Nat
  memPresent : Bool
  defaulted : Bool
  idleSetting : Nat
  idleElapsed : Nat
  idleMs : Nat
  deriving DecidableEq, Repr

/-! ## The whole part -/

/-- The settings memory outside the part: cells in rising address order, none equal to an erased byte. -/
abbrev Memory := List Host.Cell

/-- `psdo` holds the bytes of the last read, or one FFh after a command (11 R180, log 28). -/
structure State where
  pending : List Instr
  pins : Pins
  psdo : List Byte
  mem : Memory
  tru : Tru
  csq : Csq
  sar : Sar
  lmc : Lmc
  dkc : Dkc
  cdc : Cdc
  crn : Crn
  shc : Shc
  rmi : Rmi
  lkc : Lkc
  pnp : Pnp
  deriving DecidableEq, Repr

/-- What stops the part: nothing. The spec gives every command an effect in every state, so this type has no
constructor and no step answers a fault. -/
inductive Fault where
  deriving DecidableEq, Repr

/-- Why a command has no meaning in this model. -/
inductive Refusal where
  /-- Raised only by an arm of `exec` whose command has not been modelled yet; no arm is (safe). -/
  | notModelled (mnemonic : String)
  deriving DecidableEq, Repr

/-! ## Built-in settings and the values after power-on reset -/

def TraySettings.builtIn : TraySettings := ⟨2, false⟩
def SeqSettings.builtIn : SeqSettings := ⟨true, false, 1⟩
def ArbSettings.builtIn : ArbSettings := ⟨5, ⟨true, true, true, true⟩⟩
def LampSettings.builtIn : LampSettings := ⟨85, 105, 90, 60, 255⟩
def DeckSettings.builtIn : DeckSettings := ⟨false, true, 0⟩
def DecoderSettings.builtIn : DecoderSettings := ⟨.direct, true, true, 20, .even, 250, 1500, 3000⟩
def RemoteSettings.builtIn : RemoteSettings := ⟨none, false, false⟩
def LinkSettings.builtIn : LinkSettings := ⟨1, 8, 3, false⟩
def AttnSettings.builtIn : AttnSettings := ⟨0xFF, false⟩

/-- The built-in source records (03 Table 3.2). -/
def SourceRec.builtInTable : PerSource SourceRec where
  panel := ⟨true, 0, true, true, true, true, 0, 99, 0, .here, .all⟩
  remote := ⟨true, 1, true, true, true, true, 0, 99, 30, .here, .all⟩
  program := ⟨true, 2, true, true, false, false, 0, 99, 0, .here, .all⟩
  link := ⟨true, 3, true, true, true, false, 0, 99, 0, .here, .all⟩

/-- The built-in key map (09 Table 9.3). -/
def KeyEntry.builtInMap : List KeyEntry :=
  (List.range 10).map (fun d => ⟨.digit d, .once⟩)
    ++ [⟨.enter, .once⟩, ⟨.advance, .once⟩, ⟨.reverse, .once⟩, ⟨.hold, .once⟩, ⟨.resume, .once⟩, ⟨.lampOn, .once⟩,
        ⟨.lampOff, .once⟩, ⟨.home, .once⟩, ⟨.clearJam, .once⟩, ⟨.standby, .once⟩, ⟨.wake, .once⟩]
    ++ List.replicate 39 ⟨.none, .once⟩
    ++ [⟨.advance, .auto 5⟩, ⟨.reverse, .auto 5⟩, ⟨.focusIn, .whileHeld⟩, ⟨.focusOut, .whileHeld⟩]

/-- What every block takes where no valid image is found (00 0.7). -/
def Settings.builtIn : Settings where
  tray := .builtIn
  seq := .builtIn
  arb := .builtIn
  lamp := .builtIn
  deck := .builtIn
  decoder := .builtIn
  autoResume := false
  remote := .builtIn
  node := Config.unassigned
  groups := 0
  linkEnable := true
  link := .builtIn
  attn := .builtIn
  idle := 0
  sources := SourceRec.builtInTable
  keys := KeyEntry.builtInMap
  steps := List.replicate Config.steps none
  hours := 0

/-- A record of positions 1–99 after power-on reset or removal, and record 0 (01 R2, R6). -/
def SlotRec.cleared : SlotRec := ⟨.unknown, false, 0, false⟩
def SlotRec.home : SlotRec := ⟨.empty, false, 0, false⟩
def Tru.clearedMap : List SlotRec := SlotRec.home :: List.replicate 99 SlotRec.cleared

def Ramp.still (level : Nat) : Ramp := ⟨level, level, 0, 0, 0⟩

/-- Pin levels at reset. DESIGN CHOICE (log 4): tray out, slide path empty, nothing else active. -/
def Pins.reset : Pins where
  seat := false
  clear := true
  liftUp := false
  shcl := false
  tprs := false
  running := false
  tapeEnd := false
  fsi := false
  fso := false
  fwd := false
  rev := false
  fin := false
  fout := false
  lcur := false
  porstLow := false

/-- 01 Table 1.10. -/
def Tru.reset : Tru where
  present := false
  position := none
  map := Tru.clearedMap
  cfg := .builtIn
  readingMs := 0

/-- 02 R43 with the sensed condition CLEAR. -/
def Csq.reset : Csq where
  state := .idle
  gate := .empty
  origin := none
  flight := none
  drive := .none
  timerMs := 0
  retry := 0
  stop := .none
  keptOwner := .panel
  keptFade := Config.builtInFade
  shutClosed := false
  shutMs := none
  shutDone := false
  lampDone := false
  shutFault := false
  cfg := .builtIn

def LastChange.reset : LastChange := ⟨none, none, .none, .none, 0⟩

/-- 03 R68. -/
def Sar.reset : Sar where
  sources := SourceRec.builtInTable
  cfg := .builtIn
  waiting := none
  holder := none
  tenureLeft := 0
  tenureMs := 0
  last := ⟨.reset, .reset, .reset, .reset⟩

/-- 04 R91. -/
def Lmc.reset : Lmc where
  lamp := .off
  ramp := .still 0
  showLevel := 255
  claim := .none
  dim := false
  owed := false
  restrike := false
  deferred := false
  trip := false
  derate := false
  guardCap := false
  guardElapsed := 0
  guardMs := 0
  preheatMs := 0
  coolLeft := 0
  coolMs := 0
  coolRunning := false
  coolDone := false
  openMs := 0
  temp := none
  sampleMs := 0
  answered := false
  fan := .high
  fanStall := false
  stallMs := 0
  hours := 0
  part := 0
  partMs := 0
  cfg := .builtIn

/-- 05 R105. -/
def Dkc.reset : Dkc where
  deck := .stopped
  stopPulse := some 0
  timerMs := 0
  stall := none
  clock := 0
  clockMs := 0
  audio := .still 0
  cfg := .builtIn

def CdcFlags.clear : CdcFlags := ⟨false, false, false, false, false, false, false⟩

/-- 06 R119. -/
def Cdc.reset : Cdc where
  tone := .none
  candidate := .out
  count := 0
  watchMs := 0
  risen := false
  highUs := 0
  waitQuiet := true
  pulse := .none
  word := .idle
  element := 0
  bits := []
  wordMs := 0
  elementMs := 20
  wordParity := .even
  flags := .clear
  last := .none
  cfg := .builtIn

/-- 07 R137. -/
def Crn.reset : Crn where
  table := List.replicate Config.steps none
  queue := []
  current := 0
  latched := none
  progress := none
  awaited := .none
  dwell := none
  dwellMs := 0
  stepEmpty := false
  stepFault := false
  cueLost := false
  faultStep := 0
  faultStatus := none

def Causes.empty : Causes := ⟨false, false, false, false, false, false⟩

/-- 08 R149. -/
def Shc.reset : Shc := ⟨.stopped, .empty, false, false⟩

def LineRec.reset : LineRec := ⟨false, false, false, none, .first 0⟩

/-- 09 R163. -/
def Rmi.reset : Rmi where
  fwd := .reset
  rev := .reset
  fin := .reset
  fout := .reset
  irRx := .waitLeader
  irHeld := none
  irReleaseMs := 0
  irPress := none
  irDrops := 0
  keys := KeyEntry.builtInMap
  digit := none
  digitMs := 0
  lastKey := none
  unread := false
  focus := .stopped
  test := false
  injected := false
  cfg := .builtIn

/-- 10 R178; two character times at 19,200 bit/s until the line may be IDLE (R165). -/
def Lkc.reset : Lkc where
  node := Config.unassigned
  lock := false
  groups := 0
  enable := true
  cfg := .builtIn
  lineIdle := false
  rx := .waitIdle
  txq := []
  access := .none
  retry := 0
  rxbuf := []
  giveup := false
  overflow := false
  rxOverflow := false
  rxError := false
  replyLost := false
  idleInUs := 1042
  idleForUs := 0
  sendUs := 0
  looped := none

def Faults.clear : Faults := ⟨false, false, false, false, false, false, false, false, false, false⟩
def Pend.clear : Pend := ⟨false, false, false, false, false⟩

/-- 11 R191, with the image read of a fitted and erased memory: not valid (log 6). -/
def Pnp.reset : Pnp where
  resp := none
  readPos := 0
  pend := .clear
  cfg := .builtIn
  faults := .clear
  power := .run
  event := .none
  store := none
  load := false
  hoursWrite := none
  hoursWaiting := none
  memPresent := true
  defaulted := true
  idleSetting := 0
  idleElapsed := 0
  idleMs := 0

/-- The part right after power-on reset (11 R191), its queue empty. -/
def State.reset : State where
  pending := []
  pins := .reset
  psdo := []
  mem := []
  tru := .reset
  csq := .reset
  sar := .reset
  lmc := .reset
  dkc := .reset
  cdc := .reset
  crn := .reset
  shc := .reset
  rmi := .reset
  lkc := .reset
  pnp := .reset

end Sys2Proof.Machine
end

