-- ==== Sys2Proof/Machine/Ops.lean ====
section
/-! DEFINITION. Named operations that every block uses: numbers as bytes, lists by index, the settings memory, the
attention causes and fault flags, the response buffer. -/

namespace Sys2Proof.Machine

/-! ## Numbers, bytes and lists -/

def b8 (n : Nat) : Byte := BitVec.ofNat 8 n

/-- Bit `k` with value `b`, as a number. -/
def bit (b : Bool) (k : Nat) : Nat := if b then 2 ^ k else 0

/-- The two bytes of a 16-bit number, least significant first (00 0.6.4). -/
def le16 (n : Nat) : List Byte := [b8 n, b8 (n / 256)]

def of16 (lo hi : Byte) : Nat := lo.toNat + 256 * hi.toNat

/-- The byte of a value that may be none. -/
def optByte (dflt : Nat) : Option Nat → Byte
  | some n => b8 n
  | none => b8 dflt

/-- A signed count as a two's complement byte (03 Table 3.10). -/
def signedByte (c : Int) : Byte := BitVec.ofInt 8 c

/-- 00h OFF, 01h ON; any other byte is outside the set. -/
def onOff (b : Byte) : Option Bool :=
  if b.toNat = 0 then some false else if b.toNat = 1 then some true else none

/-- Apply `f` to the entries at positions `lo` to `hi` of a list whose first entry has position `i`. -/
def mapRange {α : Type} (f : α → α) (lo hi : Nat) : Nat → List α → List α
  | _, [] => []
  | i, x :: xs => (if lo ≤ i ∧ i ≤ hi then f x else x) :: mapRange f lo hi (i + 1) xs

def updAt {α : Type} (f : α → α) (i : Nat) (xs : List α) : List α := mapRange f i i 0 xs

/-- A counter that stays at its largest value (00 0.6.1). -/
def satInc (top n : Nat) : Nat := if n < top then n + 1 else top

/-! ## One value per source -/

def PerSource.get {α : Type} (p : PerSource α) : Source → α
  | .panel => p.panel
  | .remote => p.remote
  | .program => p.program
  | .link => p.link

def PerSource.set {α : Type} (p : PerSource α) (s : Source) (x : α) : PerSource α :=
  match s with
  | .panel => { p with panel := x }
  | .remote => { p with remote := x }
  | .program => { p with program := x }
  | .link => { p with link := x }

def PerSource.toList {α : Type} (p : PerSource α) : List α := [p.panel, p.remote, p.program, p.link]

/-! ## The settings memory (11.3) -/

/-- A byte of the memory; an unlisted address reads as erased (log 6). -/
def Memory.read : Memory → Nat → Byte
  | [], _ => Config.erasedByte
  | (a, v) :: m, x => if x = a then v else Memory.read m x

/-- Write one byte; writing what an unlisted address reads as removes the entry. -/
def Memory.write : Memory → Nat → Byte → Memory
  | [], x, v => if v = Config.erasedByte then [] else [(x, v)]
  | (a, w) :: m, x, v =>
    if x < a then (if v = Config.erasedByte then (a, w) :: m else (x, v) :: (a, w) :: m)
    else if x = a then (if v = Config.erasedByte then m else (x, v) :: m)
    else (a, w) :: Memory.write m x v

/-- The canonical form: addresses strictly rising, no entry equal to an erased byte. -/
abbrev Memory.wf (m : Memory) : Prop :=
  m.Pairwise (fun a b => a.1 < b.1) ∧ ∀ c ∈ m, c.2 ≠ Config.erasedByte

/-- Write bytes at their addresses, in the order given. -/
def Memory.writes (m : Memory) : List (Nat × Byte) → Memory
  | [] => m
  | (a, v) :: ws => Memory.writes (m.write a v) ws

/-- `n` bytes from an address. -/
def Memory.readFrom (m : Memory) (a : Nat) : Nat → List Byte
  | 0 => []
  | n + 1 => m.read a :: Memory.readFrom m (a + 1) n

/-! ## Attention and faults (11.2) -/

def Faults.set (f : Faults) : FaultFlag → Faults
  | .lampOpen => { f with lampOpen := true }
  | .overtempTrip => { f with overtempTrip := true }
  | .fanStall => { f with fanStall := true }
  | .trayStall => { f with trayStall := true }
  | .traySlip => { f with traySlip := true }
  | .shutter => { f with shutter := true }
  | .deckNoStart => { f with deckNoStart := true }
  | .deckStall => { f with deckStall := true }
  | .deckNoPause => { f with deckNoPause := true }
  | .settings => { f with settings := true }

def Faults.any (f : Faults) : Bool :=
  f.lampOpen || f.overtempTrip || f.fanStall || f.trayStall || f.traySlip || f.shutter || f.deckNoStart
    || f.deckStall || f.deckNoPause || f.settings

/-- Each setting of a fault flag makes FAULT pending (R183). -/
def raiseFault (f : FaultFlag) (s : State) : State :=
  { s with pnp := { s.pnp with faults := s.pnp.faults.set f, pend := { s.pnp.pend with fault := true } } }

/-- Each entry of CSQ to JAMMED or STALLED makes JAM pending (R183). -/
def raiseJam (s : State) : State :=
  { s with pnp := { s.pnp with pend := { s.pnp.pend with jam := true } } }

def raiseShow (s : State) : State :=
  { s with pnp := { s.pnp with pend := { s.pnp.pend with showChg := true } } }

def raiseChange (s : State) : State :=
  { s with pnp := { s.pnp with pend := { s.pnp.pend with change := true } } }

/-- A power event becomes the last one and makes POWER pending (Table 11.8 note 1). -/
def powerEvent (e : PowerEvent) (s : State) : State :=
  { s with pnp := { s.pnp with event := e, pend := { s.pnp.pend with power := true } } }

/-- The idle timer's elapsed time becomes 0 (R189). -/
def idleZero (s : State) : State :=
  { s with pnp := { s.pnp with idleElapsed := 0, idleMs := 0 } }

/-- Fade bytes: FFh stands for the default change fade (Table 11.11 note 2). -/
def fadeOf (s : State) (fade : Byte) : Nat :=
  if fade = Config.defaultFadeByte then s.sar.cfg.fade else fade.toNat

def fadeOk (fade : Byte) : Bool := fade = Config.defaultFadeByte || fade.toNat ≤ 99

/-! ## Answers -/

/-- The answer of a command: status and payload. -/
abbrev Answer := State × Response

def Response.of (st : Status) : Response := ⟨st, []⟩

def reply (s : State) (st : Status) : Answer := (s, .of st)

def replyOk (s : State) (payload : List Byte) : Answer := (s, ⟨.ok, payload⟩)

end Sys2Proof.Machine
end

