-- ==== Sys2Proof/Machine/Operands.lean ====
section
/-! DEFINITION. The layouts of settings, records and the settings image: from bytes, refusing what is out of range,
and to bytes. One pair of functions per layout serves the command, its read and the image (11 Table 11.7 note 1). -/

namespace Sys2Proof.Machine

/-! ## General settings -/

/-- SET TRAY (R9). -/
def TraySettings.parse (limit skipEmpty : Byte) : Option TraySettings :=
  match onOff skipEmpty with
  | some e => if limit.toNat ≤ 3 then some ⟨limit.toNat, e⟩ else none
  | none => none

def TraySettings.bytes (t : TraySettings) : List Byte := [b8 t.retireLimit, b8 (bit t.skipEmpty 0)]

/-- SET SEQUENCER (R41, Table 11.11). -/
def SeqSettings.parse (mode action retries : Byte) : Option SeqSettings :=
  match onOff mode, onOff action with
  | some d, some k => if retries.toNat ≤ 3 then some ⟨d, k, retries.toNat⟩ else none
  | _, _ => none

def SeqSettings.bytes (q : SeqSettings) : List Byte := [b8 (bit q.dim 0), b8 (bit q.skip 0), b8 q.retries]

def maskOf (b : Byte) : PerSource Bool := ⟨b.getLsbD 0, b.getLsbD 1, b.getLsbD 2, b.getLsbD 3⟩

def maskByte (m : PerSource Bool) : Byte := b8 (bit m.panel 0 + bit m.remote 1 + bit m.program 2 + bit m.link 3)

/-- SET ARBITER (R66). -/
def ArbSettings.parse (fade mask : Byte) : Option ArbSettings :=
  if fade.toNat ≤ 99 then some ⟨fade.toNat, maskOf mask⟩ else none

def ArbSettings.bytes (a : ArbSettings) : List Byte := [b8 a.fade, maskByte a.mask]

/-- SET LAMP (R89). -/
def LampSettings.parse (p : LampBytes) : Option LampSettings :=
  let warn := p.warn.toNat
  let trip := p.trip.toNat
  if 50 ≤ warn ∧ warn ≤ 150 ∧ warn + 5 ≤ trip ∧ trip ≤ 180 ∧ p.minCool.toNat ≤ 600 then
    some ⟨warn, trip, p.minCool.toNat, p.heat.toNat, p.initShow.toNat⟩
  else none

def LampSettings.bytes (l : LampSettings) : List Byte :=
  [b8 l.warn, b8 l.trip] ++ le16 l.minCool ++ [b8 l.heat, b8 l.initShow]

/-- SET DECK (R104). -/
def DeckSettings.parse (external holdMute initial : Byte) : Option DeckSettings :=
  match onOff external, onOff holdMute with
  | some e, some h => if initial.toNat ≤ 63 then some ⟨e, h, initial.toNat⟩ else none
  | _, _ => none

def DeckSettings.bytes (d : DeckSettings) : List Byte := [b8 (bit d.external 0), b8 (bit d.holdMute 0), b8 d.initAudio]

def CueMode.code : CueMode → Nat
  | .off => 0
  | .direct => 1
  | .program => 2

def Parity.code : Parity → Nat
  | .none => 0
  | .even => 1
  | .odd => 2

/-- SET DECODER (R118, Table 6.9). -/
def DecoderSettings.parse (p : DecoderBytes) : Option DecoderSettings :=
  let mode? : Option CueMode := match p.mode.toNat with
    | 0 => some .off
    | 1 => some .direct
    | 2 => some .program
    | _ => none
  let parity? : Option Parity := match p.parity.toNat with
    | 0 => some .none
    | 1 => some .even
    | 2 => some .odd
    | _ => none
  let pmin := p.pulseMin.toNat
  let pmax := p.pulseMax.toNat
  let hmin := p.holdMin.toNat
  match mode?, parity? with
  | some mode, some parity =>
    if 10 ≤ p.element.toNat ∧ p.element.toNat ≤ 50 ∧ 50 ≤ pmin ∧ pmin ≤ 1000 ∧ pmin < pmax ∧ pmax ≤ 2500
        ∧ pmax < hmin ∧ hmin ≤ 10000 then
      some ⟨mode, p.cues.getLsbD 0, p.cues.getLsbD 1, p.element.toNat, parity, pmin, pmax, hmin⟩
    else none
  | _, _ => none

def DecoderSettings.bytes (d : DecoderSettings) : List Byte :=
  [b8 d.mode.code, b8 (bit d.pulseOn 0 + bit d.wordOn 1), b8 d.element, b8 d.parity.code]
    ++ le16 d.pulseMin ++ le16 d.pulseMax ++ le16 d.holdMin

/-- SET REMOTE (R162); 10h is ANY. -/
def RemoteSettings.parse (channel change wakeAny : Byte) : Option RemoteSettings :=
  match onOff change, onOff wakeAny with
  | some c, some w =>
    if channel.toNat ≤ 15 then some ⟨some channel.toNat, c, w⟩
    else if channel.toNat = 16 then some ⟨none, c, w⟩ else none
  | _, _ => none

def RemoteSettings.bytes (r : RemoteSettings) : List Byte :=
  [optByte 16 r.channel, b8 (bit r.changeEnable 0), b8 (bit r.wakeAny 0)]

/-- SET LINK (R175). -/
def LinkSettings.parse (rate level retryLimit loopback : Byte) : Option LinkSettings :=
  match onOff loopback with
  | some l =>
    if rate.toNat ≤ 3 ∧ level.toNat ≤ 15 ∧ retryLimit.toNat ∈ [1, 3, 7, 15] then
      some ⟨rate.toNat, level.toNat, retryLimit.toNat, l⟩
    else none
  | none => none

def LinkSettings.bytes (l : LinkSettings) : List Byte := [b8 l.rate, b8 l.level, b8 l.retryLimit, b8 (bit l.loopback 0)]

/-- SET ATTENTION (R184). -/
def AttnSettings.parse (enable disable : Byte) : Option AttnSettings := (onOff disable).map (⟨enable, ·⟩)

def AttnSettings.bytes (a : AttnSettings) : List Byte := [a.enable, b8 (bit a.off 0)]

/-! ## Link destinations and source records -/

/-- Destination byte of 10 Table 10.3; bits 5–4 and the number of ALL are not examined (DEDUCED, log 25). -/
def LinkDest.ofByte (b : Byte) : Option LinkDest :=
  let n := b.toNat % 16
  match b.toNat / 64 with
  | 0 => if n ≤ 14 then some (.node n) else none
  | 1 => if 1 ≤ n ∧ n ≤ 8 then some (.group n) else none
  | 2 => some .all
  | _ => none

def LinkDest.byte : LinkDest → Byte
  | .node n => b8 n
  | .group n => b8 (64 + n)
  | .all => b8 128

/-- Destination of a source record: type and number (Table 3.3); the number of ALL is not examined (log 25). -/
def LinkDest.ofPair (kind num : Byte) : Option LinkDest :=
  match kind.toNat with
  | 0 => if num.toNat ≤ 14 then some (.node num.toNat) else none
  | 1 => if 1 ≤ num.toNat ∧ num.toNat ≤ 8 then some (.group num.toNat) else none
  | 2 => some .all
  | _ => none

def LinkDest.pair : LinkDest → List Byte
  | .node n => [b8 0, b8 n]
  | .group n => [b8 1, b8 n]
  | .all => [b8 2, b8 0]

def Source.ofByte (b : Byte) : Option Source :=
  match b.toNat with
  | 0 => some .panel
  | 1 => some .remote
  | 2 => some .program
  | 3 => some .link
  | _ => none

def Source.code : Source → Nat
  | .panel => 0
  | .remote => 1
  | .program => 2
  | .link => 3

def Route.code : Route → Nat
  | .here => 0
  | .forward => 1
  | .both => 2

/-- SET SOURCE (R46): bytes 0–8 of Table 3.3 for the named source. -/
def SourceRec.parse (src : Source) (r : SourceBytes) : Option SourceRec :=
  let route? : Option Route := match r.route.toNat with
    | 0 => some .here
    | 1 => some .forward
    | 2 => some .both
    | _ => none
  match onOff r.enable, route?, LinkDest.ofPair r.destType r.destNum with
  | some e, some route, some dest =>
    if r.priority.toNat ≤ 3 ∧ r.base.toNat ≤ r.limit.toNat ∧ r.limit.toNat ≤ 99
        ∧ (src = .link → route = .here) then
      some { enable := e, priority := r.priority.toNat, transport := r.classes.getLsbD 0,
             lamp := r.classes.getLsbD 1, shows := r.classes.getLsbD 2, power := r.classes.getLsbD 3,
             base := r.base.toNat, limit := r.limit.toNat, tenure := r.tenure.toNat, route, dest }
    else none
  | _, _, _ => none

/-- The 16 bytes of Table 3.3. -/
def SourceRec.bytes (r : SourceRec) : List Byte :=
  [b8 (bit r.enable 0), b8 r.priority, b8 (bit r.transport 0 + bit r.lamp 1 + bit r.shows 2 + bit r.power 3),
   b8 r.base, b8 r.limit, b8 r.tenure, b8 r.route.code] ++ r.dest.pair ++ List.replicate 7 0

/-! ## Key map (09 Table 9.4) -/

def KeyAction.ofByte (b : Byte) : Option KeyAction :=
  match b.toNat with
  | 0 => some .none
  | 1 => some .advance
  | 2 => some .reverse
  | 3 => some .focusIn
  | 4 => some .focusOut
  | 5 => some .hold
  | 6 => some .resume
  | 7 => some .showStart
  | 8 => some .showStop
  | 9 => some .lampOn
  | 10 => some .lampOff
  | 11 => some .home
  | 12 => some .enter
  | 13 => some .clearJam
  | 14 => some .nextStep
  | 15 => some .standby
  | 16 => some .wake
  | 17 => some .report
  | n => if 32 ≤ n ∧ n ≤ 41 then some (.digit (n - 32)) else Option.none

def KeyAction.byte : KeyAction → Byte
  | .none => 0
  | .advance => 1
  | .reverse => 2
  | .focusIn => 3
  | .focusOut => 4
  | .hold => 5
  | .resume => 6
  | .showStart => 7
  | .showStop => 8
  | .lampOn => 9
  | .lampOff => 10
  | .home => 11
  | .enter => 12
  | .clearJam => 13
  | .nextStep => 14
  | .standby => 15
  | .wake => 16
  | .report => 17
  | .digit d => b8 (32 + d)

/-- An entry of Table 9.4, by the refusals of R155; bits that do not belong to the mode are dropped. -/
def KeyEntry.parse (action mode : Byte) : Option KeyEntry :=
  match KeyAction.ofByte action, mode.toNat / 64 with
  | some a, 0 => some ⟨a, .once⟩
  | some a, 1 => if a = .focusIn ∨ a = .focusOut then some ⟨a, .whileHeld⟩ else none
  | some a, 2 =>
    let p := mode.toNat % 32
    if 2 ≤ p ∧ p ≤ 20 then some ⟨a, .auto p⟩ else none
  | _, _ => none

def RepeatMode.byte : RepeatMode → Byte
  | .once => 0
  | .whileHeld => b8 64
  | .auto p => b8 (128 + p)

def KeyEntry.bytes (k : KeyEntry) : List Byte := [k.action.byte, k.mode.byte]

/-! ## Step records (07 Table 7.3) -/

def LinkActKind.code : LinkActKind → Nat
  | .change => 0
  | .level => 1
  | .lamp => 2
  | .step => 3
  | .hold => 4
  | .resume => 5

/-- The arguments of a change as a link frame or a link action carries them (Tables 7.2, 10.4). -/
def changeArgOk (kind arg : Nat) : Bool :=
  match kind with
  | 1 | 2 => 1 ≤ arg && arg ≤ 15
  | 3 => arg ≤ 99
  | 4 => arg = 0
  | _ => false

/-- A link action whose arguments fit Table 7.2. Bits 5–4 of the destination byte, and its number with ALL, are taken
as any value and stored as 0 (DEDUCED, log 25). -/
def LinkAction.parse (dest kind arg1 arg2 : Byte) : Option LinkAction :=
  let a := arg1.toNat
  let b := arg2.toNat
  match LinkDest.ofByte dest with
  | none => none
  | some d =>
    match kind.toNat with
    | 0 => if changeArgOk a b then some ⟨d, .change, a, b⟩ else none
    | 1 => if b ≤ 99 then some ⟨d, .level, a, b⟩ else none
    | 2 => if a ≤ 1 ∧ b = 0 then some ⟨d, .lamp, a, b⟩ else none
    | 3 => if 1 ≤ a ∧ a ≤ 254 ∧ b = 0 then some ⟨d, .step, a, b⟩ else none
    | 4 => if a = 0 ∧ b = 0 then some ⟨d, .hold, a, b⟩ else none
    | 5 => if a = 0 ∧ b = 0 then some ⟨d, .resume, a, b⟩ else none
    | _ => none

def LinkAction.bytes (l : LinkAction) : List Byte := [l.dest.byte, b8 l.kind.code, b8 l.arg1, b8 l.arg2]

def StepAction.parse (action slot : Byte) : Option StepAction :=
  match action.toNat with
  | 0 => some .none
  | 1 => some .next
  | 2 => some .prev
  | 3 => if slot.toNat ≤ 99 then some (.slot slot.toNat) else Option.none
  | 4 => some .home
  | _ => Option.none

def StepAction.bytes : StepAction → List Byte
  | .none => [0, 0]
  | .next => [1, 0]
  | .prev => [2, 0]
  | .slot s => [3, b8 s]
  | .home => [4, 0]

/-- A field that is read only where its present bit is set; the outer none is a value out of range. -/
def present {α : Type} (on : Bool) (v : Option α) : Option (Option α) :=
  if on then v.map some else some none

/-- A record of Table 7.3 by R122: none is a refusal, `some none` an empty step. -/
def StepRec.parse (r : List Byte) : Option (Option StepRec) :=
  let b (i : Nat) : Byte := r.getD i 0
  let n (i : Nat) : Nat := (b i).toNat
  let flags := b 0
  if r.length ≠ 16 then none
  else if flags.getLsbD 0 = false then some none
  else
    let deck? : Option DeckAction := match n 7 with
      | 0 => some .none
      | 1 => some .play
      | 2 => some .stop
      | _ => none
    let dwell := of16 (b 8) (b 9)
    let level? := present (flags.getLsbD 1) (some (n 4))
    let audio? := present (flags.getLsbD 2) (if n 5 ≤ 63 ∧ n 6 ≤ 99 then some (n 5, n 6) else none)
    let next? := present (flags.getLsbD 3) (if 1 ≤ n 10 ∧ n 10 ≤ Config.steps then some (n 10) else none)
    let link? := present (flags.getLsbD 4) (LinkAction.parse (b 11) (b 12) (b 13) (b 14))
    match StepAction.parse (b 1) (b 2), deck?, level?, audio?, next?, link? with
    | some action, some deck, some level, some audio, some next, some link =>
      if n 3 ≤ 99 ∧ dwell ≤ 6000 then
        some (some { action, fade := n 3, level, audio, deck, dwell, next, link })
      else none
    | _, _, _, _, _, _ => none

def DeckAction.code : DeckAction → Nat
  | .none => 0
  | .play => 1
  | .stop => 2

def StepRec.bytes (r : StepRec) : List Byte :=
  [b8 (1 + bit r.level.isSome 1 + bit r.audio.isSome 2 + bit r.next.isSome 3 + bit r.link.isSome 4)]
    ++ r.action.bytes
    ++ [b8 r.fade, b8 (r.level.getD 0), b8 (r.audio.getD (0, 0)).1, b8 (r.audio.getD (0, 0)).2, b8 r.deck.code]
    ++ le16 r.dwell ++ [b8 (r.next.getD 0)]
    ++ (match r.link with
        | some l => l.bytes
        | none => [0, 0, 0, 0])
    ++ [0]

/-- An empty record reads 00h in all 16 bytes (Table 7.3 note 1). -/
def stepBytes : Option StepRec → List Byte
  | none => List.replicate 16 0
  | some r => r.bytes

/-! ## The settings image (11 Table 11.7) -/

/-- General settings, section bytes 0 to 119. -/
def Settings.general (st : Settings) : List Byte :=
  st.tray.bytes ++ st.seq.bytes ++ st.arb.bytes ++ st.lamp.bytes ++ st.deck.bytes ++ st.decoder.bytes
    ++ [b8 (bit st.autoResume 0)] ++ st.remote.bytes ++ [b8 st.node, st.groups, b8 (bit st.linkEnable 0)]
    ++ st.link.bytes ++ st.attn.bytes ++ [b8 st.idle] ++ List.replicate 80 0

/-- Bytes 8 to 3,519: what the check covers. -/
def Settings.checked (st : Settings) : List Byte :=
  st.general ++ (st.sources.toList.map SourceRec.bytes).flatten ++ (st.keys.map KeyEntry.bytes).flatten
    ++ (st.steps.map stepBytes).flatten

/-- The lamp hours section: hours and their complement. -/
def hoursBytes (h : Nat) : List Byte := le16 h ++ le16 (65535 - h)

def byteSum (bs : List Byte) : Nat := bs.foldl (fun a b => a + b.toNat) 0

/-- The header for checked bytes. -/
def imageHeader (checked : List Byte) : List Byte :=
  let c := byteSum checked
  Config.imageSignature ++ le16 Config.imageLength ++ [b8 c, b8 (c / 2 ^ 8), b8 (c / 2 ^ 16), b8 (c / 2 ^ 24)]

/-- Addresses given to bytes from one address upward. -/
def placed : Nat → List Byte → List (Nat × Byte)
  | _, [] => []
  | a, b :: bs => (a, b) :: placed (a + 1) bs

/-- Steps 1 and 2 of a STORE (R186): the signature 0000h, then the sections. -/
def storeBody (st : Settings) : List (Nat × Byte) :=
  [(0, 0), (1, 0)] ++ placed Config.imageBodyStart (st.checked ++ hoursBytes st.hours)

/-- The byte writes of a whole STORE in their order (R186). -/
def storeWrites (st : Settings) : List (Nat × Byte) := storeBody st ++ placed 0 (imageHeader st.checked)

/-- The byte writes of a lamp hours write (R186). -/
def hoursWrites (h : Nat) : List (Nat × Byte) := placed Config.imageHoursStart (hoursBytes h)

/-- The number of byte writes of a whole STORE: 2 + 3,516 + 8. -/
def storeLength : Nat := 3526

/-- What a STORE of which `acked` byte writes were acknowledged has written. The header is one write: it lands whole,
with its last byte, or not at all, and a STORE that fails after step 1 leaves the signature 0000h (R186, log 21). -/
def storeLanded (st : Settings) (acked : Nat) : List (Nat × Byte) :=
  if storeLength ≤ acked then storeWrites st else (storeBody st).take acked

def parseKeys : List Byte → Option (List KeyEntry)
  | [] => some []
  | [_] => none
  | a :: m :: rest =>
    match KeyEntry.parse a m, parseKeys rest with
    | some k, some ks => some (k :: ks)
    | _, _ => none

/-- `n` step records of 16 bytes each. -/
def parseSteps : Nat → List Byte → Option (List (Option StepRec))
  | 0, _ => some []
  | n + 1, bs =>
    match StepRec.parse (bs.take 16), parseSteps n (bs.drop 16) with
    | some r, some rs => some (r :: rs)
    | _, _ => none

def parseSource (src : Source) (bs : List Byte) : Option SourceRec :=
  let b (i : Nat) : Byte := bs.getD i 0
  SourceRec.parse src ⟨b 0, b 1, b 2, b 3, b 4, b 5, b 6, b 7, b 8⟩

def parseSources (bs : List Byte) : Option (PerSource SourceRec) :=
  match parseSource .panel bs, parseSource .remote (bs.drop 16), parseSource .program (bs.drop 32),
      parseSource .link (bs.drop 48) with
  | some p, some r, some g, some l => some ⟨p, r, g, l⟩
  | _, _, _, _ => none

/-- The settings that checked bytes spell, each in the range its command accepts (R185). The hours come beside. -/
def Settings.parse (bs : List Byte) (hours : Nat) : Option Settings :=
  let b (i : Nat) : Byte := bs.getD i 0
  let h (i : Nat) : Half := BitVec.ofNat 16 (of16 (b i) (b (i + 1)))
  match TraySettings.parse (b 0) (b 1), SeqSettings.parse (b 2) (b 3) (b 4), ArbSettings.parse (b 5) (b 6),
      LampSettings.parse ⟨b 7, b 8, h 9, b 11, b 12⟩, DeckSettings.parse (b 13) (b 14) (b 15),
      DecoderSettings.parse ⟨b 16, b 17, b 18, b 19, h 20, h 22, h 24⟩ with
  | some tray, some seq, some arb, some lamp, some deck, some decoder =>
    match onOff (b 26), RemoteSettings.parse (b 27) (b 28) (b 29), onOff (b 32),
        LinkSettings.parse (b 33) (b 34) (b 35) (b 36), AttnSettings.parse (b 37) (b 38),
        parseSources (bs.drop 120), parseKeys ((bs.drop 184).take 128), parseSteps Config.steps (bs.drop 312) with
    | some autoResume, some remote, some linkEnable, some link, some attn, some sources, some keys, some steps =>
      if (b 30).toNat ≤ Config.unassigned ∧ (b 39).toNat ≤ 240 then
        some { tray, seq, arb, lamp, deck, decoder, autoResume, remote, node := (b 30).toNat, groups := b 31,
               linkEnable, link, attn, idle := (b 39).toNat, sources, keys, steps, hours }
      else none
    | _, _, _, _, _, _, _, _ => none
  | _, _, _, _, _, _ => none

/-- The lamp hours of the image: 0 where the complement does not match (R88, R185). -/
def imageHours (m : Memory) : Nat :=
  let b (i : Nat) : Byte := m.read (Config.imageHoursStart + i)
  if of16 (b 0) (b 1) + of16 (b 2) (b 3) = 65535 then of16 (b 0) (b 1) else 0

/-- The image read (R185): the settings of a valid image, or none. -/
def imageRead (ack : Bool) (m : Memory) : Option Settings :=
  if ack = true ∧ m.readFrom 0 2 = Config.imageSignature then
    let checked := m.readFrom Config.imageBodyStart (Config.imageHoursStart - Config.imageBodyStart)
    if m.readFrom 0 8 = imageHeader checked then Settings.parse checked (imageHours m) else none
  else none

end Sys2Proof.Machine
end

