-- ==== Sys2Proof/Machine/Flags.lean ====
section
/-! DEFINITION. Everything that is read from the state and stored nowhere: sensed conditions, outputs, levels,
attention, and the code values that payloads give. -/

namespace Sys2Proof.Machine

/-! ## Codes -/

def Status.code : Status → Nat
  | .ok => 0
  | .busy => 1
  | .disabled => 2
  | .outOfWindow => 3
  | .notHomed => 4
  | .trayAbsent => 5
  | .gateOrphan => 6
  | .slotRetired => 7
  | .noSlide => 8
  | .range => 9
  | .jammed => 10
  | .hot => 11
  | .tripped => 12
  | .held => 13
  | .deckEnd => 14
  | .locked => 15
  | .standby => 16
  | .resetHeld => 17
  | .showActive => 18
  | .badArg => 19
  | .unknownCommand => 20

def ChangeKind.code : ChangeKind → Nat
  | .advance => 1
  | .reverse => 2
  | .seek => 3
  | .home => 4

def Show.code : Show → Nat
  | .stopped => 0
  | .running => 1
  | .held => 2
  | .ending => 3

def Lamp.code : Lamp → Nat
  | .off => 0
  | .preheat => 1
  | .lit => 2
  | .cooling => 3
  | .fault => 4

def GateState.code : GateState → Nat
  | .empty => 0
  | .seated => 1
  | .partway => 2

def SeqState.code : SeqState → Nat
  | .idle => 0
  | .blanking => 1
  | .lifting => 2
  | .indexing => 3
  | .dropping => 4
  | .revealing => 5
  | .jammed => 6
  | .stalled => 7

def StopCause.code : StopCause → Nat
  | .none => 0
  | .lift => 1
  | .drop => 2
  | .partialAtLoss => 3
  | .partialAtReset => 4
  | .stepLimit => 5
  | .slip => 6

def Direction.code : Direction → Nat
  | .none => 0
  | .forward => 1
  | .reverse => 2

/-- Table 3.7; DONE to REFUSED_AT_START. -/
def ChangeOutcome.code : ChangeOutcome → Nat
  | .none => 0
  | .done => 1
  | .halted => 2
  | .jammed => 3
  | .stalled => 4
  | .trayLost => 5
  | .displaced => 6
  | .replaced => 7
  | .mergedOut => 8
  | .flushed => 9
  | .refusedAtStart => 10

def FinalPos.byte : FinalPos → Byte
  | .known p => b8 p
  | .unknown => 0xFE
  | .none => 0xFF

def Deck.code : Deck → Nat
  | .stopped => 0
  | .starting => 1
  | .playing => 2
  | .pausing => 3
  | .paused => 4
  | .ended => 5
  | .fault => 6

def Claim.code : Claim → Nat
  | .none => 0
  | .fade => 1
  | .hold => 2

def Fan.code : Fan → Nat
  | .off => 0
  | .low => 1
  | .high => 2

def Power.code : Power → Nat
  | .run => 0
  | .standbyPending => 1
  | .standby => 2
  | .resetHeld => 3

def PowerEvent.code : PowerEvent → Nat
  | .none => 0
  | .standbyEntered => 1
  | .woken => 2
  | .resetDone => 3
  | .storeDone => 4
  | .storeFailed => 5
  | .loadDone => 6
  | .loadFailed => 7
  | .loadAbandoned => 8

/-! ## Gate and mechanism -/

/-- Table 2.2. -/
def Pins.sensed (p : Pins) : Sensed :=
  if p.seat && !p.clear then .seated else if !p.seat && p.clear then .clear else .partway

/-- A lift succeeds on LIFT_UP with the sensed condition CLEAR (R18). -/
def Pins.lifted (p : Pins) : Bool := p.liftUp && p.sensed = .clear

/-- R21. -/
def Csq.orphaned (q : Csq) : Bool := q.gate = .seated && q.origin = none

/-- TDF (R28). -/
def Csq.tdf (q : Csq) : Bool :=
  q.state = .indexing && (match q.flight with
    | some f => f.dir = .forward
    | none => false)

/-- TDR (R28). -/
def Csq.tdr (q : Csq) : Bool :=
  q.state = .indexing && (match q.flight with
    | some f => f.dir = .reverse
    | none => false)

/-- LFT (R27, R29, R30). -/
def Csq.lft (q : Csq) : Bool := q.drive = .lift || q.drive = .skipLift || q.drive = .dropLiftBack

/-- DRP (R27, R29). -/
def Csq.drp (q : Csq) : Bool := q.drive = .drop || q.drive = .retryDrop

/-- BLANKING to REVEALING. -/
def SeqState.active : SeqState → Bool
  | .blanking | .lifting | .indexing | .dropping | .revealing => true
  | _ => false

/-! ## Levels and lamp -/

/-- Start plus (target − start) × elapsed ÷ duration, rounded toward the start (R78, R102). -/
def Ramp.level (r : Ramp) : Nat :=
  if r.duration = 0 then r.target
  else if r.start ≤ r.target then r.start + (r.target - r.start) * r.elapsed / r.duration
  else r.start - (r.start - r.target) * r.elapsed / r.duration

def Ramp.complete (r : Ramp) : Bool := r.elapsed = r.duration

/-- A new ramp from a level (R78). -/
def Ramp.from (start target duration : Nat) : Ramp := ⟨start, target, duration, 0, 0⟩

/-- The effective output (R69). -/
def Lmc.output (l : Lmc) : Nat :=
  if l.claim = .hold then 0
  else match l.lamp with
    | .preheat => Config.preheatLevel
    | .lit =>
      let derated := if l.derate then min l.ramp.level Config.derateLevel else l.ramp.level
      if l.guardCap then min derated Config.holdLevel else derated
    | _ => 0

/-- The restrike check: NOT_SAMPLED counts as too hot (R71, log 26). -/
def Lmc.tooHot (l : Lmc) : Bool :=
  match l.temp with
  | some t => Config.restrikeTemp ≤ t
  | none => true

/-- Cooling still to be done: COOLING, or FAULT with the cooling-complete mark clear (Table 4.6 row 3). -/
def Lmc.coolingOn (l : Lmc) : Bool := l.lamp = .cooling || (l.lamp = .fault && !l.coolDone)

/-- Table 4.6, for a sampled temperature. -/
def Lmc.fanFor (l : Lmc) (t : Nat) : Fan :=
  if l.coolingOn then .high
  else if l.cfg.warn ≤ t then .high
  else if l.lamp = .lit ∧ Config.fanLevel < l.output then .high
  else if l.lamp = .preheat ∨ l.lamp = .lit then (if l.fanStall then .high else .low)
  else if Config.coolDoneTemp ≤ t then (if l.fanStall then .high else .low)
  else .off

/-- The fan command (R86). -/
def fanCommand (p : Power) (l : Lmc) : Fan :=
  if p = .standby then .off
  else match l.temp with
    | none => .high
    | some t => l.fanFor t

/-- The heat guard's timer runs (R85). -/
def State.guardRuns (s : State) : Bool :=
  s.csq.gate = .seated && s.lmc.lamp = .lit && Config.heatLevel < s.lmc.output && s.lmc.cfg.heat ≠ 0
    && !s.lmc.guardCap

/-! ## Deck -/

/-- PLAY and PAUSE outputs (Table 5.2). -/
def Deck.play : Deck → Bool
  | .starting | .playing | .pausing | .paused => true
  | _ => false

def Deck.pause : Deck → Bool
  | .pausing | .paused => true
  | _ => false

/-- MUTE (R103). -/
def State.mute (s : State) : Bool :=
  (s.shc.phase = .held && s.dkc.cfg.holdMute) || s.dkc.deck = .fault || s.pnp.power = .standby
    || s.pnp.power = .resetHeld

/-! ## Show and runner -/

def Causes.get (c : Causes) : Cause → Bool
  | .operator => c.operator
  | .cueHold => c.cueHold
  | .transport => c.transport
  | .lamp => c.lamp
  | .deck => c.deck
  | .link => c.link

def Causes.set (c : Causes) (k : Cause) (v : Bool) : Causes :=
  match k with
  | .operator => { c with operator := v }
  | .cueHold => { c with cueHold := v }
  | .transport => { c with transport := v }
  | .lamp => { c with lamp := v }
  | .deck => { c with deck := v }
  | .link => { c with link := v }

def Causes.isEmpty (c : Causes) : Bool := !(c.operator || c.cueHold || c.transport || c.lamp || c.deck || c.link)

/-- SHC ends an ENDING show on these three (R147). -/
def State.runOut (s : State) : Bool :=
  s.crn.queue.isEmpty && s.crn.progress.isNone && s.crn.dwell.isNone

/-- Why the head record waits: 0 nothing, else the first condition of R127 that fails (Table 7.6 note 2). -/
def State.takeWait (s : State) : Nat :=
  if s.crn.queue.isEmpty then 0
  else if s.shc.phase ≠ .running ∧ s.shc.phase ≠ .ending then 1
  else if s.crn.progress.isSome then 2
  else if s.csq.flight.isSome ∨ (s.sar.holder ≠ none ∧ s.sar.holder ≠ some .program) then 3
  else if s.sar.waiting.isSome then 4
  else 0

/-! ## Parts of attention and ATTN (R183, R184) -/

/-- CDC's part of CUE: an error flag is set (R116). -/
def Cdc.part (c : Cdc) : Bool := c.flags.parity || c.flags.framing || c.flags.value || c.flags.overrun

/-- CRN's part of CUE: a runner mark is set (R135). -/
def Crn.part (c : Crn) : Bool := c.stepEmpty || c.stepFault || c.cueLost

def LineRec.marked (l : LineRec) : Bool := l.pressedChg || l.releasedChg

def Rmi.anyMark (r : Rmi) : Bool := r.fwd.marked || r.rev.marked || r.fin.marked || r.fout.marked

/-- RMI's part of REMOTE (R152). -/
def Rmi.part (r : Rmi) : Bool := (r.cfg.changeEnable && r.anyMark) || r.unread

/-- LKC's part of LINK (R174). -/
def Lkc.part (l : Lkc) : Bool := !l.rxbuf.isEmpty || l.giveup || l.overflow || l.rxOverflow

/-- The pending set, bit 0 FAULT to bit 7 POWER. -/
def State.pendingSet (s : State) : Byte :=
  let p := s.pnp.pend
  b8 (bit p.fault 0 + bit p.jam 1 + bit p.showChg 2 + bit (s.cdc.part || s.crn.part) 3 + bit p.change 4
    + bit s.lkc.part 5 + bit s.rmi.part 6 + bit p.power 7)

/-- The lowest set bit plus 1, 0 for none: the rank of Table 11.5. -/
def lowestBit (w : Byte) : Nat :=
  match (List.range 8).find? (fun i => w.getLsbD i) with
  | some i => i + 1
  | none => 0

/-- The highest-ranked cause that is pending and enabled. -/
def State.topCause (s : State) : Nat := lowestBit (s.pendingSet &&& s.pnp.cfg.enable)

/-- ATTN (R184). -/
def State.attn (s : State) : Bool := s.topCause ≠ 0 && !s.pnp.cfg.off && !s.pins.porstLow

/-- RDY (R180, R191): low while PORST is low. -/
def State.rdy (s : State) : Bool := s.pnp.resp.isSome && !s.pins.porstLow

/-! ## Outputs (00 Table 0.4) -/

/-- The levels that the part drives, PSDO and the serial lines apart (log 34). -/
structure Outputs where
  rdy : Bool
  attn : Bool
  lde : Bool
  play : Bool
  pause : Bool
  stop : Bool
  aud : Nat
  mute : Bool
  tdf : Bool
  tdr : Bool
  lft : Bool
  drp : Bool
  shut : Bool
  fci : Bool
  fco : Bool
  ldim : Nat
  fanl : Bool
  fanh : Bool
  deriving DecidableEq, Repr

/-- Every output inactive (R191). -/
def Outputs.inactive : Outputs :=
  ⟨false, false, false, false, false, false, 0, false, false, false, false, false, false, false, false, 0, false, false⟩

/-- The focus drive runs in a direction. -/
def Focus.runs (f : Focus) (inward : Bool) : Bool :=
  match f with
  | .stopped => false
  | .run d _ _ => d = inward

/-- What the part drives: all inactive while PORST is low (R191); LDE stays inactive in loopback (R176). -/
def State.outputs (s : State) : Outputs :=
  if s.pins.porstLow then .inactive
  else
    { rdy := s.rdy
      attn := s.attn
      lde := s.lkc.access = .sending && !s.lkc.cfg.loopback
      play := s.dkc.deck.play
      pause := s.dkc.deck.pause
      stop := s.dkc.stopPulse.isSome
      aud := s.dkc.audio.level
      mute := s.mute
      tdf := s.csq.tdf
      tdr := s.csq.tdr
      lft := s.csq.lft
      drp := s.csq.drp
      shut := s.csq.shutClosed
      fci := s.rmi.focus.runs true
      fco := s.rmi.focus.runs false
      ldim := s.lmc.output
      fanl := s.lmc.fan = .low
      fanh := s.lmc.fan = .high }

/-! ## The settings the blocks hold -/

/-- What a STORE snapshots (R186). -/
def State.settings (s : State) : Settings where
  tray := s.tru.cfg
  seq := s.csq.cfg
  arb := s.sar.cfg
  lamp := s.lmc.cfg
  deck := s.dkc.cfg
  decoder := s.cdc.cfg
  autoResume := s.shc.autoResume
  remote := s.rmi.cfg
  node := s.lkc.node
  groups := s.lkc.groups
  linkEnable := s.lkc.enable
  link := s.lkc.cfg
  attn := s.pnp.cfg
  idle := s.pnp.idleSetting
  sources := s.sar.sources
  keys := s.rmi.keys
  steps := s.crn.table
  hours := s.lmc.hours

end Sys2Proof.Machine
end

