-- ==== Sys2Proof/Machine/TrayOps.lean ====
section
/-! DEFINITION. Shared operations of TRU: eligibility, target resolution, slot record writes (01). -/

namespace Sys2Proof.Machine

/-- The record of a position; outside 0–99 there is none. -/
def Tru.slot (t : Tru) (p : Nat) : SlotRec := t.map.getD p SlotRec.home

/-- R10. -/
def Tru.eligible (t : Tru) (p : Nat) : Bool :=
  let r := t.slot p
  p ≠ 0 && !r.skip && !r.retired && !(t.cfg.skipEmpty && r.content = .empty)

/-- One position onward, modulo 100. -/
def stepFrom (forward : Bool) (p : Nat) : Nat :=
  if forward then (p + 1) % Config.positions else (p + (Config.positions - 1)) % Config.positions

/-- The first eligible position among the next `n` onward of `p`. -/
def Tru.search (t : Tru) (forward : Bool) : Nat → Nat → Option Nat
  | 0, _ => none
  | n + 1, p =>
    let q := stepFrom forward p
    if t.eligible q then some q else Tru.search t forward n q

/-- The n-th eligible position from a base, searching 99 positions for each step (R11). -/
def Tru.nth (t : Tru) (forward : Bool) : Nat → Nat → Option Nat
  | 0, b => some b
  | n + 1, b =>
    match t.search forward (Config.positions - 1) b with
    | some q => Tru.nth t forward n q
    | none => none

/-- Target resolution (R11, R12): `arg` is the step count or the slot. -/
def Tru.resolve (t : Tru) (kind : ChangeKind) (arg base : Nat) : Except Status Nat :=
  match kind with
  | .advance => match t.nth true arg base with
    | some p => .ok p
    | none => .error .noSlide
  | .reverse => match t.nth false arg base with
    | some p => .ok p
    | none => .error .noSlide
  | .seek => if (t.slot arg).retired then .error .slotRetired else .ok arg
  | .home => .ok 0

/-- The direction of a SEEK from the actual position (R12). -/
def seekDirection (p target : Nat) : Direction :=
  let d := (target + Config.positions - p) % Config.positions
  if d = 0 then .none else if d ≤ 50 then .forward else .reverse

/-- Write the content at the position standing at the gate; at position 0 or UNKNOWN no record is written (R6, R7). -/
def reportContent (c : Content) (s : State) : State :=
  match s.tru.position with
  | none => s
  | some p =>
    if p = 0 then s
    else { s with tru := { s.tru with map := updAt (fun r => { r with content := c }) p s.tru.map } }

/-- A jam report: the count rises, and the record retires when it reaches the retire limit (R8). -/
def SlotRec.jammed (limit : Nat) (r : SlotRec) : SlotRec :=
  let n := satInc 3 r.jams
  { r with jams := n, retired := r.retired || (limit ≠ 0 && limit ≤ n) }

def jamReport (s : State) : State :=
  match s.tru.position with
  | none => s
  | some p =>
    if p = 0 then s
    else { s with tru := { s.tru with map := updAt (SlotRec.jammed s.tru.cfg.retireLimit) p s.tru.map } }

def setPosition (p : Option Nat) (s : State) : State := { s with tru := { s.tru with position := p } }

/-- Positions `first` to `last` without record 0 (R6). -/
def Tru.update (f : SlotRec → SlotRec) (first last : Nat) (t : Tru) : Tru :=
  { t with map := mapRange f (max first 1) last 0 t.map }

/-- Table 1.9. -/
def SlotRec.byte (r : SlotRec) : Byte :=
  let c := match r.content with
    | .unknown => 0
    | .slide => 1
    | .empty => 2
  b8 (c + bit r.skip 2 + 8 * r.jams + bit r.retired 5)

end Sys2Proof.Machine
end

