-- ==== Sys2Proof/Machine/ShowOps.lean ====
section
/-! DEFINITION. Shared operations of DKC (05), CRN's queue (07) and SHC (08): deck claims, holding and leaving HELD,
the end of an ENDING show. DKC's claims come first, SHC's operations call them, and DKC's reports to SHC last. -/

namespace Sys2Proof.Machine

def setDeck (d : Deck) (s : State) : State := { s with dkc := { s.dkc with deck := d } }

/-! ## Deck claims without reports -/

/-- In STARTING a RUNNING already active ends it at once (R95). -/
def deckSettle (s : State) : State :=
  if s.dkc.deck = .starting ∧ s.pins.running = true then
    setDeck (if s.pins.tapeEnd then .ended else .playing) s
  else s

/-- The entry to STARTING: timers cleared, a STOP pulse ended (R93, R94). -/
def deckStart (s : State) : State :=
  deckSettle { s with dkc := { s.dkc with deck := .starting, timerMs := 0, stall := none, stopPulse := none } }

/-- A PLAY claim by Table 5.3. -/
def playClaim (fromHost : Bool) (s : State) : State × Status :=
  if s.shc.phase = .held then (s, .held)
  else match s.dkc.deck with
    | .stopped | .pausing | .paused => (deckStart s, .ok)
    | .starting | .playing => (s, .ok)
    | .ended => if s.pins.tapeEnd then (s, .deckEnd) else (deckStart s, .ok)
    | .fault => if fromHost then (deckStart s, .ok) else (s, .busy)

/-- The entry to PAUSING; RUNNING already inactive ends it at once (R97). -/
def deckPause (s : State) : State :=
  { s with dkc := { s.dkc with deck := if s.pins.running then .pausing else .paused, timerMs := 0, stall := none } }

/-- A PAUSE claim (R97). -/
def pauseClaim (s : State) : State × Status :=
  match s.dkc.deck with
  | .playing | .starting => (deckPause s, .ok)
  | .pausing | .paused => (s, .ok)
  | _ => (s, .busy)

/-- The STOP pulse starts; a new start while it runs does not lengthen it (R93). -/
def startPulse (p : Option Nat) : Option Nat := some (p.getD 0)

/-- A STOP claim but for the cause DECK (R98). -/
def deckHalt (s : State) : State :=
  { s with dkc := { s.dkc with deck := .stopped, stopPulse := startPulse s.dkc.stopPulse, timerMs := 0, stall := none } }

/-! ## Show state -/

/-- A change of the show state is reported and makes SHOW pending (R139). -/
def setPhase (p : Show) (s : State) : State :=
  if s.shc.phase = p then s else raiseShow { s with shc := { s.shc with phase := p } }

def setCause (c : Cause) (v : Bool) (s : State) : State :=
  { s with shc := { s.shc with causes := s.shc.causes.set c v } }

def setEnded (v : Bool) (s : State) : State := { s with shc := { s.shc with ended := v } }

/-- The dwell timer stops (R134). -/
def stopDwell (s : State) : State := { s with crn := { s.crn with dwell := none, dwellMs := 0 } }

/-- A flush removes every cue record (R126). -/
def flushQueue (s : State) : State := { s with crn := { s.crn with queue := [] } }

/-- A STOP claim that SHC makes as it ends a show: leaving FAULT drops DECK and nothing more, since the show does not go
on (R98, R99, R141). At a SHOW STOP this removal is DKC's; that R145 keeps DECK is read of what SHC itself drops
(DEDUCED, log 40). -/
def stopClaimPlain (s : State) : State :=
  deckHalt (if s.dkc.deck = .fault then setCause .deck false s else s)

/-- SHC ends an ENDING show that has run out (R147). -/
def endShow (s : State) : State := stopDwell (setPhase .stopped (stopClaimPlain s))

/-- The check at the entry to ENDING (R147). -/
def endCheck (s : State) : State := if s.shc.phase = .ending ∧ s.runOut = true then endShow s else s

/-- The entry to HELD (R142). -/
def enterHeld (s : State) : State :=
  let s1 := setPhase .held (setEnded (s.shc.phase = .ending) s)
  if s1.dkc.deck = .playing ∨ s1.dkc.deck = .starting then deckPause s1 else s1

/-- The state that a show takes on leaving HELD (R143). -/
def leaveTo (s : State) : Show :=
  if s.shc.ended || s.dkc.deck = .ended || ((s.dkc.deck = .pausing || s.dkc.deck = .paused) && s.pins.tapeEnd) then
    .ending
  else .running

/-- Leaving HELD (R143), with the end of an ENDING show that has run out (R147). -/
def leaveHeld (s : State) : State :=
  let p := leaveTo s
  let s1 := setPhase p (setEnded false s)
  let s2 :=
    if s.dkc.deck = .pausing ∨ s.dkc.deck = .paused then
      (if p = .running then deckStart s1 else deckHalt s1)
    else s1
  endCheck s2

/-- The addition of a cause (R140); SHC takes no report in RESET_HELD (R150). -/
def addCause (c : Cause) (s : State) : State :=
  if s.pnp.power = .resetHeld then s
  else
    let s1 := setCause c true s
    if s.shc.phase = .running ∨ s.shc.phase = .ending then enterHeld s1 else s1

/-- The removal of a cause by its block (R141): nothing where the cause is not in the set, and in RESET_HELD. -/
def removeCause (c : Cause) (s : State) : State :=
  if s.pnp.power = .resetHeld ∨ s.shc.causes.get c = false then s
  else
    let s1 := setCause c false s
    if s.shc.phase = .held ∧ s1.shc.causes.isEmpty = true ∧ s.shc.autoResume = true then leaveHeld s1 else s1

/-- RESUME (R146). -/
def resumeShow (s : State) : State :=
  let s1 := setCause .operator false (setCause .cueHold false (setCause .link false s))
  if s.shc.phase = .held ∧ s1.shc.causes.isEmpty = true then leaveHeld s1 else s1

/-! ## Deck claims and reports to SHC -/

/-- DKC reports the entry to ENDED (R147). -/
def deckEnded (s : State) : State := if s.shc.phase = .running then endCheck (setPhase .ending s) else s

/-- The report after a deck transition that may have ended in ENDED. -/
def reportDeck (old : Deck) (s : State) : State := if old ≠ .ended ∧ s.dkc.deck = .ended then deckEnded s else s

/-- A PLAY claim with its reports: out of FAULT the cause DECK is removed (R94, R99). -/
def deckPlayFrom (fromHost : Bool) (s : State) : State × Status :=
  let a := playClaim fromHost s
  let s1 := if s.dkc.deck = .fault ∧ a.2 = .ok then removeCause .deck a.1 else a.1
  (reportDeck s.dkc.deck s1, a.2)

/-- A STOP claim with its reports (R98). -/
def deckStopAll (s : State) : State :=
  let s1 := deckHalt s
  if s.dkc.deck = .fault then removeCause .deck s1 else s1

/-- DKC enters FAULT (R99). -/
def deckFail (f : FaultFlag) (s : State) : State :=
  addCause .deck (setDeck .fault (deckHalt (raiseFault f s)))

/-- SHOW START by Table 8.4 (R144). With the show clock the part of a tenth already counted becomes 0 (R101; DESIGN
CHOICE, log 41). A PLAY claim that ends in ENDED at once is made while the show is STOPPED, so it makes no show ENDING
(DESIGN CHOICE, log 32). -/
def startShow (s : State) : State × Status :=
  if s.shc.phase ≠ .stopped then (s, .busy)
  else if s.shc.causes.isEmpty = false then (s, .held)
  else if s.pnp.power = .standbyPending then (s, .standby)
  else
    let a := playClaim false s
    if a.2 ≠ .ok then (s, a.2)
    else
      let s2 := flushQueue a.1
      let s3 := { s2 with crn := { s2.crn with current := 0 }, dkc := { s2.dkc with clock := 0, clockMs := 0 } }
      (setPhase .running (setEnded false s3), .ok)

/-! ## CRN's queue and completion -/

/-- Append a record stamped with the show clock (R124). -/
def pushCue (origin : CueOrigin) (kind : CueKind) (s : State) : State :=
  { s with crn := { s.crn with queue := s.crn.queue ++ [⟨origin, kind, s.dkc.clock⟩] } }

/-- What an offered record meets (R125). -/
inductive Offer where
  | joined | full | stopped
  deriving DecidableEq, Repr

def offerCue (origin : CueOrigin) (kind : CueKind) (s : State) : State × Offer :=
  if s.shc.phase = .stopped then (s, .stopped)
  else if s.crn.queue.length < Config.cueQueueMax then (pushCue origin kind s, .joined)
  else (s, .full)

/-- The status code of STEP_EMPTY is none (R135). -/
def setStepFault (number : Nat) (st : Status) (s : State) : State :=
  { s with crn := { s.crn with stepFault := true, faultStep := number, faultStatus := some st } }

def setStepEmpty (number : Nat) (s : State) : State :=
  { s with crn := { s.crn with stepEmpty := true, faultStep := number, faultStatus := none } }

/-- A step in progress becomes complete and starts its dwell; a DIRECT request and the cue mode DIRECT start none
(R131, R133). -/
def stepComplete (s : State) : State :=
  match s.crn.progress with
  | none => s
  | some p =>
    let s1 := { s with crn := { s.crn with progress := none, awaited := .none } }
    match p.direct, s.crn.latched with
    | false, some r =>
      if r.dwell = 0 ∨ s.cdc.cfg.mode = .direct then s1
      else { s1 with crn := { s1.crn with dwell := some r.dwell, dwellMs := 0 } }
    | _, _ => s1

/-- A step in progress is abandoned (R132); a completed step keeps its latched record (R131). -/
def abandonStep (s : State) : State :=
  { s with crn := { s.crn with
      progress := none
      awaited := if s.crn.progress = none then s.crn.awaited else .none
      latched := if s.crn.progress = none then s.crn.latched else none } }

/-- The number that a fault of the step in progress names. -/
def progressNumber (s : State) : Nat :=
  match s.crn.progress with
  | some p => p.number
  | none => s.crn.current

end Sys2Proof.Machine
end

