-- ==== Sys2Proof/Machine/LampOps.lean ====
section
/-! DEFINITION. Shared operations of LMC (04) and SAR's records of a change (03): lamp states, claims, trips, hours,
the fan; last-change records, tenure, the discard of a pending change and the end of a change. -/

namespace Sys2Proof.Machine

/-! ## Fan (R86, R87) and idle timer (R189) -/

/-- The fan command is set again; OFF to LOW or HIGH restarts the stall timer, and OFF clears the stall mark. -/
def refreshFan (s : State) : State :=
  let f := fanCommand s.pnp.power s.lmc
  { s with lmc := { s.lmc with
      fan := f
      stallMs := if s.lmc.fan = .off ∨ f = .off then 0 else s.lmc.stallMs
      fanStall := s.lmc.fanStall && f ≠ .off } }

/-- The idle timer counts (R189). -/
def State.idleRuns (s : State) : Bool :=
  s.pnp.power = .run && s.pnp.idleSetting ≠ 0 && s.lmc.lamp = .off && s.shc.phase = .stopped && s.csq.state = .idle

/-- While a condition of the idle timer fails, the elapsed time is 0 (R189). -/
def holdIdle (s : State) : State := if s.idleRuns then s else idleZero s

/-- The open timer runs: LIT with output and without current (R76). -/
def State.openRuns (s : State) : Bool := s.lmc.lamp = .lit && 0 < s.lmc.output && !s.pins.lcur

/-- The open timer is 0 at each moment at which it does not run (R76). -/
def refreshOpen (s : State) : State :=
  { s with lmc := { s.lmc with openMs := if s.openRuns then s.lmc.openMs else 0 } }

/-- What follows every event at once: the open timer, the fan command and the idle timer. -/
def finish (s : State) : State := holdIdle (refreshFan (refreshOpen s))

/-! ## Lamp hours (R88, R186) -/

/-- The hand-off of the lamp hours: discarded with no memory present, else the waiting value is replaced. -/
def handHours (s : State) : State :=
  if s.pnp.memPresent then { s with pnp := { s.pnp with hoursWaiting := some s.lmc.hours } } else s

/-! ## Lamp states -/

/-- A claim, a mark or a record of LMC changes. -/
def setLmc (f : Lmc → Lmc) (s : State) : State := { s with lmc := f s.lmc }

def Lmc.clearGuard (l : Lmc) : Lmc := { l with guardCap := false, guardElapsed := 0, guardMs := 0 }

/-- A state without light: ramp record 0, guard and open timer cleared (R76, R78, R85). The begun second of the part
count stands for the next time in LIT (R88, log 42). -/
def Lmc.darken (l : Lmc) (st : Lamp) : Lmc :=
  { l.clearGuard with lamp := st, ramp := .still 0, preheatMs := 0, openMs := 0 }

/-- The cooling timer starts at the minimum cooling setting (R75). -/
def Lmc.startCooling (l : Lmc) : Lmc := { l with coolLeft := l.cfg.minCool, coolMs := 0, coolRunning := true }

def Lmc.stopCooling (l : Lmc) : Lmc := { l with coolLeft := 0, coolMs := 0, coolRunning := false }

def Lmc.clearMarks (l : Lmc) : Lmc := { l with restrike := false, deferred := false }

/-- A burning lamp enters COOLING; one that leaves LIT hands its hours (R75, R88). -/
def enterCooling (s : State) : State :=
  setLmc (fun l => (l.darken .cooling).startCooling) (if s.lmc.lamp = .lit then handHours s else s)

/-- The entry to PREHEAT (R72). -/
def enterPreheat (s : State) : State :=
  setLmc (fun l => { l.clearMarks.stopCooling with lamp := .preheat, preheatMs := 0 }) s

/-- The entry to LIT (R72): a ramp from 0 to the show level over the default change fade; LAMP leaves the set. -/
def enterLit (s : State) : State :=
  removeCause .lamp (setLmc (fun l =>
    { l with lamp := .lit, preheatMs := 0, openMs := 0, ramp := .from 0 l.showLevel s.sar.cfg.fade }) s)

/-- COOLING and the cooling of FAULT end with the timer run out below 45 °C (R75, R76). -/
def endCooling (s : State) : State :=
  let cold := match s.lmc.temp with
    | some t => decide (t < Config.coolDoneTemp)
    | none => false
  if s.lmc.coolingOn = true ∧ s.lmc.coolRunning = false ∧ cold = true then
    setLmc (fun l => if l.lamp = .cooling then (l.darken .off).stopCooling
                     else { l.stopCooling with coolDone := true }) s
  else s

def burning (s : State) : Bool := s.lmc.lamp = .preheat || s.lmc.lamp = .lit

/-- LAMP OFF (R75). -/
def lampOut (s : State) : State :=
  setLmc Lmc.clearMarks (if burning s then enterCooling s else s)

/-- A trip with its fault flag (R83, R84, R87); `first` is the first sample after power-on reset (R91). -/
def takeTrip (f : FaultFlag) (first : Bool) (s : State) : State :=
  let s1 := setLmc (fun l => { l.clearMarks with trip := true }) (raiseFault f s)
  let s2 := if burning s then enterCooling s1 else s1
  if burning s || first then addCause .lamp s2 else s2

/-- The lamp fails open (R76). -/
def lampFails (s : State) : State :=
  let s1 := handHours (raiseFault .lampOpen s)
  addCause .lamp (setLmc (fun l => { (l.clearMarks.darken .fault).startCooling with coolDone := false }) s1)

/-- A lamp fitted anew: hours and part count 0, handed for writing (R77). -/
def resetHours (s : State) : State := handHours (setLmc (fun l => { l with hours := 0, part := 0, partMs := 0 }) s)

/-- The derate cap against the latest sample (R82). -/
def Lmc.rederate (l : Lmc) : Lmc :=
  { l with derate := match l.temp with
      | some t => decide (l.cfg.warn ≤ t)
      | none => false }

/-! ## Claims of CSQ (R74, R80, R81) -/

/-- The DIM blanking mark is set; a lamp in PREHEAT returns to OFF and its preheat is deferred (R74). -/
def Lmc.markDim (l : Lmc) : Lmc :=
  let l1 := { l with dim := true }
  if l.lamp = .preheat then { l1.darken .off with deferred := true } else l1

/-- A fade claim; a hold that stands stays (R80). -/
def Lmc.fadeClaim (l : Lmc) (fade : Nat) : Lmc :=
  if l.claim = .hold then l
  else
    let l1 := { l with claim := .fade }
    if l.lamp = .lit then { l1 with ramp := .from l.output 0 fade } else l1

def Lmc.holdClaim (l : Lmc) : Lmc := { l with claim := .hold }

/-- The withdrawal of a claim with its reveal ramp (R81); a ramp only in LIT. -/
def Lmc.reveal (l : Lmc) (fade : Nat) : Lmc :=
  let l1 := { l with claim := .none }
  if l.lamp = .lit then { l1 with ramp := .from l.output l.showLevel fade } else l1

/-- The end of a reveal (R81, R74). -/
def endOfReveal (s : State) : State :=
  let s1 := setLmc (fun l => { l with dim := false, guardElapsed := 0, guardMs := 0 }) s
  if s1.lmc.deferred = false then s1
  else if s1.lmc.lamp = .off ∨ s1.lmc.lamp = .cooling then
    (if s1.lmc.tooHot then setLmc (fun l => { l with deferred := false, restrike := true }) s1 else enterPreheat s1)
  else setLmc (fun l => { l with deferred := false }) s1

/-! ## SAR's records (03) -/

/-- A last-change record is written; CHANGE becomes pending for a source in the mask (R64). -/
def writeRecord (src : Source) (kind : ChangeKind) (target : Nat) (o : ChangeOutcome) (final : FinalPos)
    (s : State) : State :=
  let r := s.sar.last.get src
  let s1 := { s with sar := { s.sar with
    last := s.sar.last.set src ⟨some kind, some target, o, final, r.refusals⟩ } }
  if s.sar.cfg.mask.get src then raiseChange s1 else s1

/-- A refusal of REMOTE or LINK is counted (R50). -/
def countRefusal (src : Source) (s : State) : State :=
  if src = .remote ∨ src = .link then
    let r := s.sar.last.get src
    { s with sar := { s.sar with last := s.sar.last.set src { r with refusals := satInc 255 r.refusals } } }
  else s

/-- The source becomes the tenure holder; a tenure of 0 expires at once (R57). -/
def startTenure (src : Source) (s : State) : State :=
  let t := (s.sar.sources.get src).tenure
  { s with sar := { s.sar with
    holder := if t = 0 then none else some src
    tenureLeft := t
    tenureMs := 0 } }

def endTenure (s : State) : State :=
  { s with sar := { s.sar with holder := none, tenureLeft := 0, tenureMs := 0 } }

/-- The pending change is removed without running: its record, and the report to CRN (R54, R55, R56, R131). A
REPLACED request does not complete a step (log 18). -/
def dropWaiting (o : ChangeOutcome) (s : State) : State :=
  match s.sar.waiting with
  | none => s
  | some w =>
    let s1 := writeRecord w.source w.kind w.target o .none { s with sar := { s.sar with waiting := none } }
    if w.source = .program ∧ s1.crn.awaited = .pending ∧ o ≠ .replaced then stepComplete s1 else s1

/-- The end of the in-flight change (R57, R32): record, tenure, discard, and the report to CRN (R131). -/
def changeEnd (o : ChangeOutcome) (final : FinalPos) (s : State) : State :=
  match s.csq.flight with
  | none => s
  | some f =>
    let s1 := writeRecord f.owner f.kind f.target o final { s with csq := { s.csq with flight := none } }
    let s2 := startTenure f.owner s1
    let s3 := if o = .jammed ∨ o = .stalled then dropWaiting .flushed s2 else s2
    if f.owner = .program ∧ s3.crn.awaited = .started then stepComplete s3 else s3

end Sys2Proof.Machine
end

