-- ==== Sys2Proof/Machine/StartOps.lean ====
section
/-! DEFINITION. The start of a change on CSQ (02 R22) with the phases that it may enter at once, and the start of a
pending change by SAR (03 R59), which every end of a change, expiry of a tenure and return to RUN makes where nothing
bars it. -/

namespace Sys2Proof.Machine

def setCsq (f : Csq → Csq) (s : State) : State := { s with csq := f s.csq }

/-! ## Phases -/

/-- DROPPING (R29): the retry counter is set to 0. -/
def enterDropping (s : State) : State :=
  setCsq (fun q => { q with state := .dropping, drive := .drop, timerMs := 0, retry := 0 }) s

def enterIndexing (s : State) : State :=
  setCsq (fun q => { q with state := .indexing, drive := .none, timerMs := 0 }) s

def enterLifting (s : State) : State :=
  setCsq (fun q => { q with state := .lifting, drive := .lift, timerMs := 0 }) s

/-- INDEXING is skipped when the position equals the target (R28). -/
def toTarget (s : State) : State :=
  match s.csq.flight with
  | some f => if s.tru.position = some f.target then enterDropping s else enterIndexing s
  | none => s

/-- The end of BLANKING: LIFTING is skipped when the gate is EMPTY (Table 2.4). -/
def blankingEnd (s : State) : State :=
  if s.csq.state = .blanking then
    let s1 := setCsq (fun q => { q with shutMs := none }) s
    if s1.csq.gate = .empty then toTarget s1 else enterLifting s1
  else s

/-- BLANKING of a change just taken (R24, R25). -/
def startBlanking (f : Flight) (s : State) : State :=
  let s1 := setCsq (fun q => { q with state := .blanking }) s
  if f.dim then
    let s2 := setLmc (fun l => l.markDim.fadeClaim f.fade) s1
    if s2.lmc.output = 0 then blankingEnd (setLmc Lmc.holdClaim s2) else s2
  else
    let s2 := setCsq (fun q => { q with shutClosed := true, shutMs := some 0 }) s1
    if s2.pins.shcl then blankingEnd s2 else s2

/-- The start of a change (R22): the tenure ends (R58), STALLED is left, and the heat guard cap goes (R85) before CSQ
enters BLANKING, so that a DIM fade starts from the output without the cap (DESIGN CHOICE, log 13). -/
def startChange (src : Source) (kind : ChangeKind) (target fade : Nat) (s : State) : State :=
  let r := s.sar.sources.get src
  let dir := match kind with
    | .advance | .home => Direction.forward
    | .reverse => .reverse
    | .seek => seekDirection (s.tru.position.getD 0) target
  let f : Flight := { kind, owner := src, target, fade, dir, base := r.base, limit := r.limit, halt := false,
                      dim := s.csq.cfg.dim || s.csq.shutFault, skip := s.csq.cfg.skip, retries := s.csq.cfg.retries }
  let s1 := if s.csq.state = .stalled then removeCause .transport (endTenure s) else endTenure s
  startBlanking f (setLmc Lmc.clearGuard (setCsq (fun q => { q with
    flight := some f, retry := 0, drive := .none, timerMs := 0, stop := .none }) s1))

/-! ## The class check and the start rule (R49, R53) -/

def SourceRec.hasClass (r : SourceRec) : ReqClass → Bool
  | .transport => r.transport
  | .lamp => r.lamp
  | .shows => r.shows
  | .power => r.power

def classOk (src : Source) (c : ReqClass) (s : State) : Bool :=
  (s.sar.sources.get src).enable && (s.sar.sources.get src).hasClass c

def priority (s : State) (src : Source) : Nat := (s.sar.sources.get src).priority

def ChangeKind.steps : ChangeKind → Bool
  | .advance | .reverse => true
  | _ => false

def insideWindow (r : SourceRec) (kind : ChangeKind) (t : Nat) : Bool :=
  kind = .home || (r.base ≤ t && t ≤ r.limit)

/-- CSQ can take a change in RUN (R53). -/
def canStart (kind : ChangeKind) (s : State) : Bool :=
  s.pnp.power = .run && (s.csq.state = .idle || (s.csq.state = .stalled && kind = .home))

/-- A tenure bars neither its holder nor a source of lower priority number (R58, R59). -/
def tenureLets (src : Source) (s : State) : Bool :=
  match s.sar.holder with
  | none => true
  | some h => src = h || priority s src < priority s h

def setWaiting (w : Option Waiting) (s : State) : State := { s with sar := { s.sar with waiting := w } }

/-! ## The start of a pending change (R59) -/

/-- The start-time checks: the target or the first refusal. -/
def startCheck (w : Waiting) (s : State) : Except Status Nat :=
  if classOk w.source .transport s = false then .error .disabled
  else if s.tru.present = false then .error .trayAbsent
  else if s.tru.position = none ∧ w.kind ≠ .home then .error .notHomed
  else if s.csq.orphaned = true then .error .gateOrphan
  else
    let t := if w.kind.steps then s.tru.resolve w.kind w.count.natAbs (s.tru.position.getD 0) else .ok w.target
    match t with
    | .error st => .error st
    | .ok t => if insideWindow (s.sar.sources.get w.source) w.kind t then .ok t else .error .outOfWindow

/-- The pending change may start now: a level, so that a SET SOURCE that gives its source a priority number below the
holder's lets it start as the next thing on an empty queue (DESIGN CHOICE, log 47). -/
def pendingReady (s : State) : Bool :=
  match s.sar.waiting with
  | none => false
  | some w => canStart w.kind s && tenureLets w.source s

/-- REFUSED_AT_START, with its status to CRN (R59, R131). -/
def refuseStart (w : Waiting) (st : Status) (s : State) : State :=
  let s1 := writeRecord w.source w.kind w.target .refusedAtStart .none (setWaiting none s)
  if w.source = .program ∧ s1.crn.awaited = .pending then stepComplete (setStepFault (progressNumber s1) st s1) else s1

/-- The pending change starts or ends REFUSED_AT_START (R59). -/
def startPending (s : State) : State :=
  match s.sar.waiting with
  | none => s
  | some w =>
    if pendingReady s = false then s
    else match startCheck w s with
      | .error st => refuseStart w st s
      | .ok t =>
        let s1 := setWaiting none s
        let s2 := if w.source = .program ∧ s1.crn.awaited = .pending then
            { s1 with crn := { s1.crn with awaited := .started } } else s1
        startChange w.source w.kind t w.fade s2

end Sys2Proof.Machine
end

