-- ==== Sys2Proof/Machine/SequencerOps.lean ====
section
/-! DEFINITION. Shared operations of CSQ (02): the reveal, jams and stalls, the ends of the phases and their failures,
the reports of LMC, tray loss. -/

namespace Sys2Proof.Machine

/-- The final position that CSQ reports (R32). -/
def finalNow (s : State) : FinalPos :=
  match s.tru.position with
  | some p => .known p
  | none => .unknown

def setGate (g : GateState) (o : Option Nat) (s : State) : State := setCsq (fun q => { q with gate := g, origin := o }) s

/-! ## Reveal (R31) -/

/-- The end of REVEALING: report to LMC, end of the change, or the kept owner's tenure after a CLEAR JAM (R31, R36);
then a pending change that nothing bars starts (R58, R59). -/
def endReveal (s : State) : State :=
  let s1 := endOfReveal (setCsq (fun q => { q with state := .idle, drive := .none, timerMs := 0, shutMs := none }) s)
  startPending (match s1.csq.flight with
    | some f => changeEnd (if f.halt then .halted else .done) (finalNow s1) s1
    | none => startTenure s1.csq.keptOwner s1)

/-- REVEALING ends when both parts are done. -/
def revealCheck (s : State) : State :=
  if s.csq.state = .revealing ∧ s.csq.shutDone = true ∧ s.csq.lampDone = true then endReveal s else s

/-- The fade of the change, or the one kept in JAMMED. -/
def revealFade (q : Csq) : Nat :=
  match q.flight with
  | some f => f.fade
  | none => q.keptFade

/-- The owner of the change, or the one kept in JAMMED. -/
def Csq.ownerNow (q : Csq) : Source :=
  match q.flight with
  | some f => f.owner
  | none => q.keptOwner

/-- The entry to REVEALING (R31). -/
def enterRevealing (s : State) : State :=
  let shutDone := !s.csq.shutClosed || !s.pins.shcl
  let s1 := if s.lmc.claim = .none then s else setLmc (Lmc.reveal · (revealFade s.csq)) s
  let lampDone := s.lmc.claim = .none || s1.lmc.lamp ≠ .lit || s1.lmc.ramp.complete
  let s2 := setLmc (fun l => { l with owed := !lampDone }) s1
  revealCheck (setCsq (fun q => { q with
    state := .revealing, drive := .none, timerMs := 0, shutClosed := false
    shutMs := if shutDone then none else some 0
    shutDone, lampDone }) s2)

/-- A release of blanking: the entry part of REVEALING made without waiting (R31). Its shutter runs no shutter timer
(DESIGN CHOICE, log 45). -/
def releaseBlanking (fade : Nat) (s : State) : State :=
  let s1 := if s.lmc.claim = .none then s else setLmc (Lmc.reveal · fade) s
  let s2 := setLmc (fun l => { l with owed := false }) s1
  endOfReveal (setCsq (fun q => { q with shutClosed := false, shutMs := none }) s2)

/-! ## Jams and stalls -/

/-- The entry to JAMMED (R33, R35). The change ends first and TRANSPORT joins the set second, and an ENDING show that has
run out with the change is not ended in between: it becomes HELD (DESIGN CHOICE, log 52). -/
def enterJammed (cause : StopCause) (s : State) : State :=
  let s1 := changeEnd .jammed (finalNow s) s
  addCause .transport (raiseJam (setCsq (fun q => { q with
    state := .jammed, drive := .none, timerMs := 0, shutMs := none, retry := 0, stop := cause
    keptOwner := s.csq.ownerNow, keptFade := revealFade s.csq }) s1))

/-- The entry to STALLED (R34, R35), with the change end and TRANSPORT in the order of `enterJammed` (DESIGN CHOICE,
log 52). -/
def enterStalled (cause : StopCause) (s : State) : State :=
  let s1 := changeEnd .stalled .unknown (setPosition none s)
  addCause .transport (raiseJam (raiseFault .trayStall (setCsq (fun q => { q with
    state := .stalled, drive := .none, timerMs := 0, stop := cause }) s1)))

/-! ## Shutter failure and positions (R26, R28) -/

/-- Shutter failure (R26). -/
def shutterFallback (s : State) : State :=
  setCsq (fun q => { q with shutFault := true })
    (raiseFault .shutter (setLmc (fun l => { l.markDim.holdClaim with owed := false }) s))

/-- TRU reports a position: the target, or any position with the halt mark set, ends INDEXING (R28, R38). -/
def positionReport (s : State) : State :=
  match s.csq.state, s.csq.flight with
  | .indexing, some f =>
    if s.tru.position = some f.target ∨ f.halt = true then enterDropping s else setCsq (fun q => { q with timerMs := 0 }) s
  | _, _ => s

/-- An index pulse under drive with the position UNKNOWN restarts the step timer (R28). -/
def restartStep (s : State) : State :=
  if s.csq.state = .indexing then setCsq (fun q => { q with timerMs := 0 }) s else s

/-! ## Lift and drop (R27, R29, R30) -/

/-- The result of a SKIP continuation: strictly onward, not past position 0, inside the window (R30). -/
def skipTarget (f : Flight) (t : Tru) : Option Nat :=
  match t.position with
  | none => none
  | some p =>
    match t.resolve f.kind 1 p with
    | .error _ => none
    | .ok r =>
      let onward := if f.kind = .advance then decide (p < r) else decide (r < p)
      if onward = true ∧ f.base ≤ r ∧ r ≤ f.limit then some r else none

/-- The end of a SKIP continuation's lift back (R30, R38). -/
def skipOn (s : State) : State :=
  match s.csq.flight with
  | none => s
  | some f =>
    if f.halt then enterRevealing s
    else match skipTarget f s.tru with
      | some r => enterIndexing (setCsq (fun q => { q with flight := some { f with target := r }, retry := 0 }) s)
      | none => enterJammed .drop s

/-- A lift succeeds, or a lift back (R27, R29, R30). -/
def liftDone (s : State) : State :=
  let s1 := setGate .empty none s
  match s.csq.drive with
  | .lift =>
    let s2 := setCsq (fun q => { q with drive := .none }) s1
    (match s.csq.flight with
      | some f => if f.halt then enterDropping s2 else toTarget s2
      | none => s2)
  | .dropLiftBack => setCsq (fun q => { q with drive := .drop, timerMs := 0 }) s1
  | .skipLift => skipOn (setCsq (fun q => { q with drive := .none }) s1)
  | _ => s

/-- A lift has failed after all its retries (R27, Table 2.3). -/
def liftFails (s : State) : State :=
  let s1 := jamReport s
  let s2 := match s.pins.sensed with
    | .clear => setGate .empty none s1
    | .seated => setGate .seated s.tru.position s1
    | .partway => setGate .partway s.tru.position s1
  enterJammed .lift s2

/-- A drop has failed: JAMMED, or a SKIP continuation (R29, R30). -/
def dropFails (byLiftBack : Bool) (s : State) : State :=
  let s1 := setGate .partway s.tru.position (jamReport s)
  match s.csq.flight with
  | some f =>
    if (f.kind = .advance ∨ f.kind = .reverse) ∧ f.skip = true ∧ f.halt = false ∧ byLiftBack = false then
      setCsq (fun q => { q with state := .lifting, drive := .skipLift, timerMs := 0 }) s1
    else enterJammed .drop s1
  | none => enterJammed .drop s1

def retryLeft (s : State) : Bool :=
  match s.csq.flight with
  | some f => s.csq.retry < f.retries
  | none => false

/-- The lift timer of 500 ms runs out (R27, R29, R30). -/
def liftLimit (s : State) : State :=
  match s.csq.drive with
  | .lift =>
    if retryLeft s then setCsq (fun q => { q with drive := .retryDrop, timerMs := 0, retry := q.retry + 1 }) s
    else liftFails s
  | .dropLiftBack => dropFails true s
  | .skipLift => enterJammed .drop s
  | _ => s

/-- The drop ends SEATED (R29). -/
def dropLands (s : State) : State :=
  enterRevealing (reportContent .slide (setGate .seated s.tru.position (setCsq (fun q => { q with drive := .none }) s)))

/-- The drop limit (R29). -/
def dropLimit (s : State) : State :=
  match s.pins.sensed with
  | .seated => dropLands s
  | .clear =>
    enterRevealing (reportContent .empty (setGate .empty none (setCsq (fun q => { q with drive := .none }) s)))
  | .partway =>
    if retryLeft s then setCsq (fun q => { q with drive := .dropLiftBack, timerMs := 0, retry := q.retry + 1 }) s
    else dropFails false s

/-! ## Reports of LMC (R80, R81) -/

/-- LMC reports the output at 0, and the reveal complete, where they are due. It runs after every event that may
bring the output to 0, complete a ramp or leave LIT. -/
def lampReports (s : State) : State :=
  let s1 := if s.lmc.claim = .fade ∧ s.lmc.output = 0 then blankingEnd (setLmc Lmc.holdClaim s) else s
  if s1.lmc.owed = true ∧ (s1.lmc.lamp ≠ .lit ∨ s1.lmc.ramp.complete = true) then
    revealCheck (setCsq (fun q => { q with lampDone := true }) (setLmc (fun l => { l with owed := false }) s1))
  else s1

/-- A reveal ramp replaced by another is reported complete (R78). -/
def revealReplaced (s : State) : State :=
  if s.lmc.owed then
    revealCheck (setCsq (fun q => { q with lampDone := true }) (setLmc (fun l => { l with owed := false }) s))
  else s

/-! ## Shutter sensor (R24, R26, R31) -/

def setShcl (v : Bool) (s : State) : State := { s with pins := { s.pins with shcl := v } }

/-- The CLOSED sensor becomes active. -/
def shutterActive (s : State) : State :=
  let s1 := setShcl true s
  if s.csq.state = .blanking ∧ s.csq.shutMs ≠ none then blankingEnd s1 else s1

/-- The change in flight is blanked by the shutter. -/
def Csq.shutterBlanked (q : Csq) : Bool :=
  match q.flight with
  | some f => !f.dim
  | none => false

/-- The CLOSED sensor becomes inactive. -/
def shutterInactive (s : State) : State :=
  let s1 := setShcl false s
  match s.csq.state with
  | .revealing => revealCheck (setCsq (fun q => { q with shutDone := true, shutMs := none }) s1)
  | .lifting | .indexing | .dropping =>
    if s.csq.shutClosed = true ∧ s.csq.shutterBlanked = true ∧ s.pins.shcl = true then shutterFallback s1 else s1
  | _ => s1

/-- The shutter timer of 200 ms runs out. -/
def shutterLimit (s : State) : State :=
  if s.csq.shutMs = none then s
  else match s.csq.state with
    | .blanking => blankingEnd (shutterFallback s)
    | .revealing =>
      revealCheck (setCsq (fun q => { q with shutFault := true, shutDone := true, shutMs := none })
        (raiseFault .shutter s))
    | _ => s

/-! ## HALT, CLEAR JAM, tray loss, sensors -/

/-- CSQ takes a HALT by its state (R38). -/
def haltChange (s : State) : State :=
  match s.csq.flight with
  | none => s
  | some f =>
    let s1 := setCsq (fun q => { q with flight := some { f with halt := true } }) s
    match s.csq.state with
    | .blanking => enterRevealing s1
    | .lifting | .indexing => s1
    | _ => s

/-- CLEAR JAM at CSQ (R36). -/
def clearJamAt (s : State) : State × Status :=
  match s.csq.state with
  | .idle => (s, .ok)
  | .stalled => (s, .notHomed)
  | .jammed =>
    (match s.pins.sensed with
      | .partway => (s, .jammed)
      | .clear =>
        let s1 := reportContent .unknown (setGate .empty none s)
        let s2 := releaseBlanking s.csq.keptFade
          (setCsq (fun q => { q with state := .idle, stop := .none }) s1)
        (startPending (removeCause .transport (startTenure s.csq.keptOwner s2)), .ok)
      | .seated =>
        let s1 := reportContent .slide (setGate .seated s.tru.position s)
        (removeCause .transport (enterRevealing (setCsq (fun q => { q with stop := .none }) s1)), .ok))
  | _ => (s, .busy)

/-- The gate at a tray removal: origin NONE (Table 2.3). -/
def loseOrigin (s : State) : State := setCsq (fun q => { q with origin := none }) s

/-- A tray removal during a change or a reveal, with no slide caught (R39). A CLEAR JAM reveal cut short starts the
kept owner's tenure (log 17). A shutter that is opening runs no shutter timer any more (DESIGN CHOICE, log 45). A pending
change that nothing bars is taken up at once (R59), and finds the tray absent. -/
def lossToIdle (s : State) : State :=
  let fade := revealFade s.csq
  let s1 := match s.csq.flight with
    | some _ => changeEnd .trayLost .unknown s
    | none => startTenure s.csq.keptOwner s
  let s2 := setCsq (fun q => { q with state := .idle, drive := .none, timerMs := 0, retry := 0 }) s1
  startPending (if s.csq.state = .revealing then
      endOfReveal (setCsq (fun q => { q with shutMs := none }) (setLmc (fun l => { l with owed := false }) s2))
    else releaseBlanking fade s2)

/-- A tray removal during a change with a slide caught: JAMMED, the pending change discarded (R39, R56). Out of
REVEALING, whose claim is withdrawn already, no new hold is placed: the reveal ramp runs on and the DIM blanking mark
stands. Out of BLANKING the shutter timer stops without a fallback, and a DIM fade runs on to 0 and becomes the hold
(DESIGN CHOICE, log 44). The change end and TRANSPORT come in the order of `enterJammed` (DESIGN CHOICE, log 52). -/
def lossToJam (s : State) : State :=
  let s1 := dropWaiting .flushed (changeEnd .trayLost .unknown s)
  addCause .transport (raiseJam (setCsq (fun q => { q with
    state := .jammed, gate := .partway, drive := .none, timerMs := 0, retry := 0, stop := .partialAtLoss
    shutMs := none, keptOwner := s.csq.ownerNow, keptFade := revealFade s.csq }) (setLmc (fun l => { l with owed := false }) s1)))

/-- TRU reports a tray removal (R39). -/
def trayLost (s : State) : State :=
  let s1 := loseOrigin s
  if s.csq.state.active then
    (if s.csq.gate = .partway ∨ s.pins.sensed = .partway then lossToJam s1 else lossToIdle s1)
  else s1

/-- In IDLE the gate record follows the sensors (R20). It is written at a change of the sensed condition that comes in
IDLE; one that came before is not taken up at the entry to IDLE (DESIGN CHOICE, log 46). -/
def followSensors (old : Sensed) (s : State) : State :=
  let now := s.pins.sensed
  if now = old then s
  else if s.csq.state = .idle ∧ s.pnp.power ≠ .resetHeld then
    (match now with
      | .clear => setGate .empty none s
      | .seated => setGate .seated (if s.csq.gate = .empty then none else s.csq.origin) s
      | .partway => setGate .partway s.csq.origin s)
  else if s.csq.state = .jammed ∧ s.csq.orphaned = true ∧ now = .clear ∧ s.pnp.power ≠ .resetHeld then
    setGate .empty none s
  else s

end Sys2Proof.Machine
end

