-- ==== Sys2Proof/Machine/LinkOps.lean ====
section
/-! DEFINITION. Shared operations of LKC (10): frames and their bytes, the receiver's judgment, address matching, the
transmit queue and access, the receive buffer, times on the line. -/

namespace Sys2Proof.Machine

def setLkc (f : Lkc → Lkc) (s : State) : State := { s with lkc := f s.lkc }

/-! ## Frames (Tables 10.3, 10.4) -/

/-- All bytes of a frame but its check. -/
def LinkFrame.body (f : LinkFrame) : List Byte :=
  [0x7E, b8 (16 * f.level + f.src), f.dest, f.kind, b8 f.payload.length] ++ f.payload

/-- The check makes the sum of all bytes 0 modulo 256. -/
def checkByte (bs : List Byte) : Byte := 0 - bs.foldl (fun a b => a + b) 0

def LinkFrame.bytes (f : LinkFrame) : List Byte := f.body ++ [checkByte f.body]

/-- The payload length that Table 10.4 gives for a kind; DATA takes any up to 8. -/
def kindLengthOk (kind n : Nat) : Bool :=
  match kind with
  | 1 => n = 3
  | 2 => n = 2
  | 3 => n = 1
  | 4 | 5 | 7 | 10 | 11 => n = 0
  | 6 => n = 1
  | 8 => n = 5
  | 9 => n ≤ 8
  | _ => false

/-- The payload values that R166 examines: a CHANGE's kind, a LAMP byte, a STEP number. -/
def kindPayloadOk (kind : Nat) (p : List Byte) : Bool :=
  let a := (p.getD 0 0).toNat
  match kind with
  | 1 => 1 ≤ a && a ≤ 4
  | 3 => a ≤ 1
  | 6 => 1 ≤ a && a ≤ 254
  | _ => true

/-- Destination, kind, length and payload values that R166 finds sound. -/
def frameOk (dest kind : Byte) (payload : List Byte) : Bool :=
  (LinkDest.ofByte dest).isSome && kindLengthOk kind.toNat payload.length && kindPayloadOk kind.toNat payload

/-- The receiver's judgment of a frame's bytes (R166): none is a bad frame. -/
def LinkFrame.parse (bs : List Byte) : Option LinkFrame :=
  match bs with
  | lead :: head :: dest :: kind :: len :: rest =>
    let n := len.toNat
    let payload := rest.take n
    let src := head.toNat % 16
    if lead = 0x7E ∧ n ≤ 8 ∧ rest.length = n + 1 ∧ bs.foldl (fun a b => a + b) 0 = 0 ∧ src ≠ Config.unassigned
        ∧ frameOk dest kind payload = true then
      some ⟨head.toNat / 16, src, dest, kind, payload⟩
    else none
  | _ => none

/-- What one character does to the receiver: it goes on, a bad frame, or a complete frame's bytes. -/
inductive Gathered where
  | going (rx : LinkRx)
  | bad
  | whole (bytes : List Byte)
  deriving DecidableEq, Repr

/-- A character with its stop bit through the receiver (R166). -/
def LinkRx.gather (rx : LinkRx) (char : Byte) (stop : Bool) : Gathered :=
  match rx with
  | .waitIdle => .going .waitIdle
  | .waitLead => if stop = true ∧ char = 0x7E then .going (.inFrame [char]) else .bad
  | .inFrame got =>
    let bs := got ++ [char]
    let n := (bs.getD 4 0).toNat
    if stop = false then .bad
    else if bs.length < 5 then .going (.inFrame bs)
    else if 8 < n then .bad
    else if bs.length < 6 + n then .going (.inFrame bs)
    else .whole bs

/-! ## Address matching (R168) -/

def Lkc.accepts (l : Lkc) (dest : Byte) : Bool :=
  match LinkDest.ofByte dest with
  | some .all => true
  | some (.node n) => n = l.node && l.node ≠ Config.unassigned
  | some (.group g) => l.groups.getLsbD (g - 1) && l.node ≠ Config.unassigned
  | none => false

/-- The link runs: enable ON and not RESET_HELD (R165, R166). -/
def State.linkOn (s : State) : Bool := s.lkc.enable && s.pnp.power ≠ .resetHeld

/-! ## Times (R165, R170) -/

/-- One character time in µs, Table 10.2 (log 22). -/
def Lkc.charUs (l : Lkc) : Nat :=
  match l.cfg.rate with
  | 0 => 1042
  | 1 => 521
  | 2 => 260
  | _ => 174

/-- The slots that access counts (R170). -/
def Lkc.slots (l : Lkc) : Nat := if l.retry = 0 then l.cfg.level + 1 else l.cfg.level + l.node + 2

/-- The count of WAIT_SLOTS is complete with the line IDLE. -/
def Lkc.slotsDone (l : Lkc) : Bool := l.access = .waitSlots && l.lineIdle && l.slots * l.charUs ≤ l.idleForUs

/-- The line carries a character: BUSY until two character times of silence. `chars` is the time to pass. -/
def Lkc.busy (l : Lkc) (chars : Nat) : Lkc :=
  { l with lineIdle := false, idleInUs := chars * l.charUs, idleForUs := 0,
           access := if l.access = .waitSlots then .waitIdle else l.access }

/-- The line watch starts BUSY and the receiver in WAIT_IDLE (R165, R175, R178, R187). -/
def Lkc.listen (l : Lkc) : Lkc := { l with lineIdle := false, rx := .waitIdle, idleInUs := 2 * l.charUs, idleForUs := 0 }

/-! ## Transmit queue (R169, R171) -/

def Lkc.canTake (l : Lkc) : Bool :=
  l.enable && l.node ≠ Config.unassigned && l.txq.length < Config.txQueueMax

/-- Access takes up the head of the queue (R170). -/
def Lkc.seek (l : Lkc) : Lkc :=
  { l with access := if l.txq.isEmpty then .none else if l.lineIdle then .waitSlots else .waitIdle }

/-- The frame joins the tail. -/
def Lkc.enqueue (l : Lkc) (dest kind : Byte) (payload : List Byte) : Lkc :=
  let l1 := { l with txq := l.txq ++ [⟨l.cfg.level, l.node, dest, kind, payload⟩] }
  if l.access = .none then l1.seek else l1

/-- An offer: whether LKC takes the frame. -/
def offerFrame (dest kind : Byte) (payload : List Byte) (s : State) : State × Bool :=
  if s.lkc.canTake then (setLkc (·.enqueue dest kind payload) s, true) else (s, false)

/-- An offer that is dropped with LINK_OVERFLOW where LKC cannot take it (Table 10.5). -/
def offerOrOverflow (dest kind : Byte) (payload : List Byte) (s : State) : State × Bool :=
  let a := offerFrame dest kind payload s
  if a.2 then a else (setLkc (fun l => { l with overflow := true }) a.1, false)

/-- The head leaves the queue, its count at 0, and access goes on. -/
def Lkc.nextFrame (l : Lkc) : Lkc := { l with txq := l.txq.drop 1, retry := 0, sendUs := 0 }.seek

/-- The flush of ENABLE LINK OFF and of the resets (R175, R178). -/
def Lkc.flush (l : Lkc) : Lkc := { l with txq := [], retry := 0, access := .none, sendUs := 0, looped := none }

/-! ## Receive buffer (R174) -/

def Lkc.store (l : Lkc) (e : RxEntry) : Lkc :=
  if l.rxbuf.length < Config.rxBufferMax then { l with rxbuf := l.rxbuf ++ [e] } else { l with rxOverflow := true }

/-- A bad frame: dropped, RX_ERROR, WAIT_IDLE (R166). -/
def Lkc.badFrame (l : Lkc) : Lkc := { l with rx := .waitIdle, rxError := true }

/-- A complete frame: the receiver waits for silence; the line falls silent two characters later. -/
def Lkc.frameTaken (l : Lkc) : Lkc := { l.busy 2 with rx := .waitIdle }

/-- What a frame from the line is to this node: unheard, bad, dropped, its own, or another's (R166, R168, R176). In
WAIT_IDLE its characters are ignored and keep the line BUSY alone. -/
inductive Heard where
  | unheard | bad | dropped | own | other
  deriving DecidableEq, Repr

def State.hears (s : State) (h : FrameHead) (kind : Byte) (payload : List Byte) : Heard :=
  if s.linkOn = false ∨ s.lkc.cfg.loopback = true ∨ s.lkc.access = .sending then .unheard
  else if s.lkc.rx = .waitIdle then .dropped
  else if 15 < h.level ∨ Config.unassigned ≤ h.src ∨ frameOk h.dest kind payload = false then .bad
  else if s.lkc.accepts h.dest = false then .dropped
  else if h.src = s.lkc.node then .own
  else .other

/-- A frame from the line: the receiver's part and the own-address rule, then `f` for another node's frame. -/
def onFrame (h : FrameHead) (kind : Byte) (payload : List Byte) (f : State → State) (s : State) : State :=
  match s.hears h kind payload with
  | .unheard => s
  | .bad => setLkc (fun l => l.frameTaken.badFrame) s
  | .dropped => setLkc Lkc.frameTaken s
  | .own => setLkc (fun l => l.frameTaken.store ⟨h.src, h.dest, kind, payload⟩) s
  | .other => f (setLkc Lkc.frameTaken s)

/-- The link frame that a change request makes (R62, R172): kind, count or slot, fade. -/
def changePayload (kind : ChangeKind) (arg fade : Nat) : List Byte :=
  [b8 kind.code, b8 (if kind = .home then 0 else arg), b8 fade]

end Sys2Proof.Machine
end

