-- ==== Sys2Proof/Machine/Requests.lean ====
section
/-! DEFINITION. Requests of the four sources: SAR's class check, admission, start and pending rules, routes, HALT
(03); what LMC, SHC, CRN and the power states answer to a request handed on (04, 08, 07, 11); wake events. -/

namespace Sys2Proof.Machine

/-! ## The class check (R49, R50) -/

/-- A request of a source: the class check, then the receiving block. A refusal is counted by R50; an accepted
request restarts the idle timer (R49, R189). -/
def sourced (src : Source) (c : ReqClass) (f : State → State × Status) (s : State) : State × Status :=
  if classOk src c s = false then (countRefusal src s, .disabled)
  else
    let a := f s
    if a.2 = .ok then (idleZero a.1, .ok) else (countRefusal src a.1, a.2)

/-! ## Transport requests (R51–R55) -/

inductive Disposition where
  | started | pending | merged | mergedOut | forwarded | forwardDropped
  deriving DecidableEq, Repr

/-- Table 3.6 byte 0. -/
def Disposition.code : Disposition → Nat
  | .started => 0
  | .pending => 1
  | .merged => 2
  | .mergedOut => 3
  | .forwarded => 4
  | .forwardDropped => 5

/-- An accepted transport request: what Table 3.6 returns, and the local disposition that CRN acts on (R129). -/
structure Taken where
  disp : Disposition
  here : Disposition
  target : Option Nat
  deriving DecidableEq, Repr

/-- Check 2 of Table 3.5. -/
def argRefusal (kind : ChangeKind) (arg : Nat) (fade : Byte) : Option Status :=
  if kind.steps = true ∧ (arg < 1 ∨ 15 < arg) then some .range
  else if kind = .seek ∧ 99 < arg then some .range
  else if fadeOk fade = false then some .badArg
  else none

/-- The expected position (R52). -/
def expected (s : State) : Option Nat :=
  match s.csq.flight with
  | some f => some f.target
  | none => s.tru.position

/-- Checks 3 to 7 of Table 3.5: the resolved target or the first refusal. -/
def admitRequest (src : Source) (kind : ChangeKind) (arg : Nat) (s : State) : Except Status Nat :=
  if s.tru.present = false then .error .trayAbsent
  else if s.tru.position = none ∧ kind ≠ .home then .error .notHomed
  else if s.csq.orphaned = true then .error .gateOrphan
  else match s.tru.resolve kind arg ((expected s).getD 0) with
    | .error st => .error st
    | .ok t => if insideWindow (s.sar.sources.get src) kind t then .ok t else .error .outOfWindow

def signedCount (kind : ChangeKind) (arg : Nat) : Int :=
  match kind with
  | .advance => arg
  | .reverse => -(arg : Int)
  | _ => 0

/-- MERGE (R55). -/
def merge (w : Waiting) (src : Source) (c : Int) (fade : Nat) (s : State) : State × Except Status (Disposition × Nat) :=
  let sum := w.count + c
  let e := (expected s).getD 0
  if sum = 0 then (dropWaiting .mergedOut s, .ok (.mergedOut, e))
  else if 15 < sum.natAbs then (s, .error .range)
  else
    let kind : ChangeKind := if 0 < sum then .advance else .reverse
    match s.tru.resolve kind sum.natAbs e with
    | .error st => (s, .error st)
    | .ok t =>
      if insideWindow (s.sar.sources.get src) kind t then
        (setWaiting (some ⟨src, kind, sum, t, fade⟩) s, .ok (.merged, t))
      else (s, .error .outOfWindow)

/-- The pending rules (R54). -/
def pend (src : Source) (kind : ChangeKind) (arg target fade : Nat) (s : State) :
    State × Except Status (Disposition × Nat) :=
  let put (s : State) := (setWaiting (some ⟨src, kind, signedCount kind arg, target, fade⟩) s,
    Except.ok (Disposition.pending, target))
  match s.sar.waiting with
  | none => put s
  | some w =>
    if w.source = src then
      (if w.kind.steps && kind.steps then merge w src (signedCount kind arg) fade s else put (dropWaiting .replaced s))
    else if priority s src < priority s w.source then put (dropWaiting .displaced s)
    else (s, .error .busy)

/-- The start rule (R53, R58): ahead of a pending change only under a tenure that lets the source. -/
def place (src : Source) (kind : ChangeKind) (arg target fade : Nat) (s : State) :
    State × Except Status (Disposition × Nat) :=
  if canStart kind s = true ∧ tenureLets src s = true ∧ (s.sar.holder ≠ none ∨ s.sar.waiting = none) then
    (startChange src kind target fade s, .ok (.started, target))
  else pend src kind arg target fade s

/-- The local part of a request under route LOCAL or BOTH. -/
def requestHere (src : Source) (kind : ChangeKind) (arg fade : Nat) (s : State) :
    State × Except Status (Disposition × Nat) :=
  match admitRequest src kind arg s with
  | .error st => (s, .error st)
  | .ok t => place src kind arg t fade s

/-- A transport request past checks 1 and 2, by the source's route (R51, R62, R63). -/
def requestRouted (src : Source) (kind : ChangeKind) (arg fade : Nat) (s : State) : State × Except Status Taken :=
  let r := s.sar.sources.get src
  let payload := changePayload kind arg fade
  match r.route with
  | .forward =>
    let a := offerFrame r.dest.byte 1 payload s
    if a.2 then (a.1, .ok ⟨.forwarded, .forwarded, none⟩) else (s, .error .busy)
  | .here =>
    let a := requestHere src kind arg fade s
    (match a.2 with
      | .error st => (a.1, .error st)
      | .ok (d, t) => (a.1, .ok ⟨d, d, some t⟩))
  | .both =>
    let a := requestHere src kind arg fade s
    match a.2 with
    | .error st => (a.1, .error st)
    | .ok (d, t) =>
      let b := offerOrOverflow r.dest.byte 1 payload a.1
      (b.1, .ok ⟨if b.2 then .forwarded else .forwardDropped, d, some t⟩)

/-- A transport request of a change kind (R51). -/
def changeRequest (src : Source) (kind : ChangeKind) (arg : Nat) (fade : Byte) (s : State) :
    State × Except Status Taken :=
  if classOk src .transport s = false then (countRefusal src s, .error .disabled)
  else match argRefusal kind arg fade with
    | some st => (countRefusal src s, .error st)
    | none =>
      let a := requestRouted src kind arg (fadeOf s fade) s
      match a.2 with
      | .error st => (countRefusal src a.1, .error st)
      | .ok t => (idleZero a.1, .ok t)

/-- Table 3.6. -/
def takenPayload (t : Taken) (s : State) : List Byte :=
  let c := match s.sar.waiting with
    | some w => w.count
    | none => 0
  [b8 t.disp.code, optByte 0xFF t.target, signedByte c]

/-! ## HALT (R60) -/

def haltFrom (src : Source) (s : State) : State × Status :=
  let ref := match s.csq.flight with
    | some f => some f.owner
    | none => s.sar.holder
  let barred := match ref with
    | some r => decide (priority s r < priority s src)
    | none => false
  if barred then (s, .busy) else (haltChange (dropWaiting .halted s), .ok)

/-! ## Wake and standby (R188) -/

/-- CDC abandons what it measures and waits for silence (R119, R120). R120 gives no edge watch, candidate or half-period at
wake; the element time and the parity of a word keep what they hold, at wake and at a control reset (DESIGN CHOICE,
log 8). -/
def Cdc.restart (c : Cdc) : Cdc :=
  { c with tone := .none, candidate := .out, count := 0, watchMs := 0, risen := false, highUs := 0, waitQuiet := true,
           pulse := .none, word := .idle, element := 0, bits := [], wordMs := 0 }

def setPower (p : Power) (s : State) : State := { s with pnp := { s.pnp with power := p } }

/-- A wake event; a pending change that nothing bars starts with the return to RUN (R59, R67). -/
def wakeUp (s : State) : State :=
  match s.pnp.power with
  | .standbyPending => startPending (powerEvent .woken (setPower .run s))
  | .standby => startPending (powerEvent .woken (setPower .run { s with cdc := s.cdc.restart }))
  | _ => s

/-- A STANDBY request past its class check. -/
def requestStandby (s : State) : State × Status :=
  match s.pnp.power with
  | .run => if s.shc.phase ≠ .stopped then (s, .showActive)
            else (lampReports (lampOut (setPower .standbyPending s)), .ok)
  | _ => (s, .ok)

/-! ## Lamp requests (04) -/

/-- LAMP ON by Table 4.4; it is first a wake event (note 2). -/
def lampOnTaken (s : State) : State × Status :=
  let s1 := wakeUp s
  if s1.lmc.lamp = .fault then (s1, .busy)
  else if s1.lmc.trip then (s1, .tripped)
  else if burning s1 then (s1, .ok)
  else if s1.lmc.tooHot then (setLmc (fun l => { l with restrike := true }) s1, .hot)
  else if s1.lmc.dim then (setLmc (fun l => { l with deferred := true }) s1, .ok)
  else (enterPreheat s1, .ok)

def lampOffTaken (s : State) : State × Status := (lampReports (lampOut s), .ok)

/-- SET LEVEL with its fade in tenths (R79). A ramp starts from the output that stood before it (DESIGN CHOICE, log
13). -/
def setLevelTaken (level fade : Nat) (s : State) : State × Status :=
  let out := s.lmc.output
  let s1 := setLmc (fun l =>
    let l1 := { l with showLevel := level }
    if level ≤ Config.heatLevel then l1.clearGuard else l1) s
  if s.lmc.lamp = .lit ∧ s.lmc.claim = .none then
    (revealReplaced (setLmc (fun l => { l with ramp := .from out level fade }) s1), .ok)
  else (s1, .ok)

/-! ## Show requests (08, 07) -/

/-- SHOW STOP (R145). SHC drops OPERATOR, CUE_HOLD and LINK alone; a DECK goes with the STOP claim that takes the deck
out of FAULT (R98, R99; DEDUCED, log 40). -/
def showStopTaken (s : State) : State × Status :=
  let s1 := stopDwell (abandonStep (flushQueue (stopClaimPlain s)))
  let s2 := match s1.sar.waiting with
    | some w => if w.source = .program then dropWaiting .flushed s1 else s1
    | none => s1
  let s3 := setCause .operator false (setCause .cueHold false (setCause .link false s2))
  (setPhase .stopped (setEnded false s3), .ok)

/-- A NEXT or STEP record of PANEL, REMOTE or LINK (R125, Table 7.4). -/
def offerFrom (origin : CueOrigin) (kind : CueKind) (s : State) : State × Status :=
  let a := offerCue origin kind s
  match a.2 with
  | .joined => (a.1, .ok)
  | .stopped => (a.1, .busy)
  | .full => (if origin = .panel then a.1 else { a.1 with crn := { a.1.crn with cueLost := true } }, .busy)

end Sys2Proof.Machine
end

