-- ==== Sys2Proof/Machine/PanelOps.lean ====
section
/-! DEFINITION. The frame of every meaning: what PORST low voids, what follows an event at once, and the three checks
and the response of a panel command (11 R180, R181). -/

namespace Sys2Proof.Machine

/-- The outcome of a command or a step. -/
abbrev Out := Host.Outcome State Fault Refusal

/-- An event: void while PORST is low (R191), else its effect and what follows at once. -/
def run (f : State → State) (s : State) : Out := .next (if s.pins.porstLow then s else finish (f s))

/-- An event on a pin whose level stands while PORST is low as well. -/
def runPin (pin f : State → State) (s : State) : Out := .next (if s.pins.porstLow then pin s else finish (f s))

/-- An event that touches no input of the fan command or of the idle timer's conditions. -/
def quiet (f : State → State) (s : State) : Out := .next (if s.pins.porstLow then s else f s)

/-- The response buffer is written; RDY rises. The command has clocked out FFh on PSDO (R180, log 28). -/
def writeResponse (r : Response) (s : State) : State :=
  { s with psdo := [0xFF], pnp := { s.pnp with resp := some r, readPos := 0 } }

/-- Check 2 of R181: the refusal of the power state. -/
def powerRefusal (inStandby inReset : Bool) (p : Power) : Option Status :=
  match p with
  | .run | .standbyPending => none
  | .standby => if inStandby then none else some .standby
  | .resetHeld => if inReset then none else some .resetHeld

/-- A panel command with the power states in which it is taken: a command that passes restarts the idle timer
(R189), and its response replaces the one before (R180). -/
def panelIn (inStandby inReset : Bool) (f : State → Answer) (s : State) : State :=
  match powerRefusal inStandby inReset s.pnp.power with
  | some st => writeResponse (.of st) s
  | none =>
    let a := f s
    writeResponse a.2 (idleZero a.1)

/-- A panel command taken in RUN and STANDBY_PENDING only. -/
def panel (f : State → Answer) (s : State) : State := panelIn false false f s

/-- A request of source PANEL that answers without payload. -/
def panelRequest (c : ReqClass) (f : State → State × Status) (s : State) : Answer :=
  let a := sourced .panel c f s
  (a.1, .of a.2)

/-- A transport request of source PANEL (Table 3.6). -/
def panelChange (kind : ChangeKind) (arg : Nat) (fade : Byte) (s : State) : Answer :=
  let a := changeRequest .panel kind arg fade s
  match a.2 with
  | .ok t => (a.1, ⟨.ok, takenPayload t a.1⟩)
  | .error st => (a.1, .of st)

/-- A setting command: a value out of range is refused with BAD_ARG and changes nothing. -/
def setting {α : Type} (v : Option α) (f : α → State → State) (s : State) : Answer :=
  match v with
  | some x => (f x s, .of .ok)
  | none => (s, .of .badArg)

end Sys2Proof.Machine
end

