-- ==== Sys2Proof/Machine/Arbiter.lean ====
section
/-! DEFINITION. Meanings of the SAR commands (03). -/

namespace Sys2Proof.Machine

/-- ADVANCE (R51). -/
def execAdvance (count fade : Byte) (s : State) : Out := run (panel (panelChange .advance count.toNat fade)) s

/-- REVERSE (R51). -/
def execReverse (count fade : Byte) (s : State) : Out := run (panel (panelChange .reverse count.toNat fade)) s

/-- SEEK (R51). -/
def execSeek (slot fade : Byte) (s : State) : Out := run (panel (panelChange .seek slot.toNat fade)) s

/-- HOME (R51). -/
def execHome (fade : Byte) (s : State) : Out := run (panel (panelChange .home 0 fade)) s

/-- HALT (R60, R38). -/
def execHalt (s : State) : Out := run (panel (panelRequest .transport (haltFrom .panel))) s

/-- TENURE_EXPIRY (R57, R58): at 0 the holder becomes none and a pending change starts; in STANDBY the tenure is frozen
(R67). -/
def execTenureExpiry (s : State) : Out :=
  run (fun s => if s.pnp.power = .run ∨ s.pnp.power = .standbyPending then startPending (endTenure s) else s) s

/-- PENDING_CHANGE_START (R59): the start that a SET SOURCE has let (log 47). -/
def execPendingChangeStart (s : State) : Out := run startPending s

/-- The named source owns the in-flight change or holds the pending record (R47). -/
def sourceBusy (src : Source) (s : State) : Bool :=
  (match s.csq.flight with
    | some f => f.owner = src
    | none => false)
  || (match s.sar.waiting with
    | some w => w.source = src
    | none => false)

/-- SET_SOURCE (R46, R47). -/
def execSetSource (source : Byte) (record : SourceBytes) (s : State) : Out :=
  quiet (panel fun s =>
    match Source.ofByte source with
    | none => reply s .badArg
    | some src =>
      match SourceRec.parse src record with
      | none => reply s .badArg
      | some r =>
        if sourceBusy src s then reply s .busy
        else reply { s with sar := { s.sar with sources := s.sar.sources.set src r } } .ok) s

/-- READ_SOURCE (R48). -/
def execReadSource (source : Byte) (s : State) : Out :=
  quiet (panel fun s =>
    match Source.ofByte source with
    | none => reply s .badArg
    | some src => replyOk s (s.sar.sources.get src).bytes) s

def kindByte : Option ChangeKind → Byte
  | some k => b8 k.code
  | none => 0

/-- Table 3.7, one record. -/
def LastChange.bytes (r : LastChange) : List Byte :=
  [kindByte r.kind, optByte 0xFF r.target, b8 r.outcome.code, r.final.byte, b8 r.refusals]

def LastChange.counted (r : LastChange) : LastChange := { r with refusals := 0 }

/-- READ_LAST_CHANGE (R65): refusal counts to 0, CHANGE cleared. -/
def execReadLastChange (s : State) : Out :=
  quiet (panel fun s =>
    let l := s.sar.last
    replyOk { s with
        sar := { s.sar with last := ⟨l.panel.counted, l.remote.counted, l.program.counted, l.link.counted⟩ }
        pnp := { s.pnp with pend := { s.pnp.pend with change := false } } }
      (l.toList.map LastChange.bytes).flatten) s

/-- SET_ARBITER (R66). -/
def execSetArbiter (fade mask : Byte) (s : State) : Out :=
  quiet (panel (setting (ArbSettings.parse fade mask) (fun v s => { s with sar := { s.sar with cfg := v } }))) s

def sourceByte : Option Source → Byte
  | some s => b8 s.code
  | none => 0xFF

/-- Table 3.10. -/
def arbiterPayload (s : State) : List Byte :=
  [sourceByte (s.csq.flight.map (·.owner)), sourceByte s.sar.holder,
   b8 (if s.sar.holder = none then 0 else s.sar.tenureLeft)]
    ++ (match s.sar.waiting with
        | some w => [b8 w.source.code, b8 w.kind.code, signedByte w.count, b8 w.target, b8 w.fade]
        | none => [0xFF, 0, 0, 0xFF, 0])
    ++ [b8 s.sar.cfg.fade, maskByte s.sar.cfg.mask]

/-- READ_ARBITER (R66). -/
def execReadArbiter (s : State) : Out := quiet (panel fun s => replyOk s (arbiterPayload s)) s

end Sys2Proof.Machine
end

