-- ==== Sys2Proof/Decode.lean ====
section
/-! DEFINITION. Words and frames as commands. No row of spec/opcode_table.json gives bits, so no word spells a
command. The panel frames of 11 (Tables 11.2, 11.3, 11.11) are decoded and encoded here. -/

namespace Sys2Proof

/-- The command that a word spells by the table's bits: none, since no row gives bits. -/
def decodeTableWord (_nbits _w : Nat) : Option Instr := none

/-- A two-byte field, least significant byte first. -/
def joinHalf (lo hi : Byte) : Half := BitVec.ofNat 16 (lo.toNat + 256 * hi.toNat)

def splitHalf (h : Half) : List Byte := [BitVec.ofNat 8 h.toNat, BitVec.ofNat 8 (h.toNat / 256)]

/-- Payload size of a command code (Table 11.11); none for a code not in Table 11.3. SEND LINK reads its own
length byte. -/
def payloadSize (code : Nat) (payload : List Byte) : Option Nat :=
  if code ∈ [0x01, 0x02, 0x03, 0x04, 0x07, 0x08, 0x0A, 0x0B, 0x0C, 0x18, 0x19, 0x1B, 0x24, 0x27, 0x29, 0x30, 0x31,
      0x33, 0x34, 0x36, 0x38, 0x39, 0x3A, 0x3D, 0x41, 0x4C, 0x4D, 0x50, 0x51, 0x52, 0x53, 0x55, 0x5E, 0x65] then some 0
  else if code ∈ [0x06, 0x09, 0x23, 0x26, 0x49, 0x4B, 0x54, 0x60, 0x61, 0x62] then some 1
  else if code ∈ [0x05, 0x11, 0x12, 0x13, 0x20, 0x21, 0x22, 0x28, 0x32, 0x3B, 0x4A, 0x58, 0x5A, 0x5B, 0x5C] then some 2
  else if code ∈ [0x10, 0x1A, 0x3C, 0x59, 0x5D] then some 3
  else if code = 0x63 then some 4
  else if code = 0x35 then some 6
  else if code = 0x25 ∨ code = 0x40 then some 10
  else if code = 0x48 then some 17
  else if code = 0x64 then some (3 + (payload.getD 2 0).toNat)
  else none

/-- The codes of Table 11.3. -/
def codeKnown (c : Byte) : Bool := (payloadSize c.toNat []).isSome

/-- Check 3 of R181: the code and payload of a frame with the right length; bytes beyond it are ignored. -/
def frameBody (frame : List Byte) : Option (Nat × List Byte) :=
  match frame with
  | c :: len :: rest =>
    let n := len.toNat
    if n ≤ 64 ∧ n ≤ rest.length ∧ payloadSize c.toNat rest = some n then some (c.toNat, rest.take n) else none
  | _ => none

/-- The command of a code with its payload bytes; `memAck` is what the settings memory answers at a reset. -/
def panelCommand (memAck : Bool) (code : Nat) (payload : List Byte) : Option Instr :=
  match payload with
  | [] =>
    (match code with
      | 0x01 => some .readId
      | 0x02 => some .readStatus
      | 0x03 => some .readAttention
      | 0x04 => some .readFaults
      | 0x07 => some .standby
      | 0x08 => some .wake
      | 0x0A => some (.release memAck)
      | 0x0B => some .storeSettings
      | 0x0C => some .loadSettings
      | 0x18 => some .clearJam
      | 0x19 => some .clearFaultShutter
      | 0x1B => some .readGate
      | 0x24 => some .halt
      | 0x27 => some .readLastChange
      | 0x29 => some .readArbiter
      | 0x30 => some .lampOn
      | 0x31 => some .lampOff
      | 0x33 => some .lampReplaced
      | 0x34 => some .clearFaultTrip
      | 0x36 => some .readLamp
      | 0x38 => some .deckPlay
      | 0x39 => some .deckPause
      | 0x3A => some .deckStop
      | 0x3D => some .readDeck
      | 0x41 => some .readDecoder
      | 0x4C => some .flushCues
      | 0x4D => some .readCues
      | 0x50 => some .showStart
      | 0x51 => some .showStop
      | 0x52 => some .hold
      | 0x53 => some .resume
      | 0x55 => some .readShow
      | 0x5E => some .readRemote
      | 0x65 => some .readLink
      | _ => none)
  | [a] =>
    (match code with
      | 0x06 => some (.setPower a)
      | 0x09 => if a = 0 then some (.resetControl memAck) else if a = 1 then some (.resetHold memAck) else none
      | 0x23 => some (.home a)
      | 0x26 => some (.readSource a)
      | 0x49 => some (.readStep a)
      | 0x4B => some (.runStep a)
      | 0x54 => some (.setShow a)
      | 0x60 => some (.setNode a)
      | 0x61 => some (.setGroups a)
      | 0x62 => some (.enableLink a)
      | _ => none)
  | [a, b] =>
    (match code with
      | 0x05 => some (.setAttention a b)
      | 0x11 => some (.clearSlot a b)
      | 0x12 => some (.readTray a b)
      | 0x13 => some (.setTray a b)
      | 0x20 => some (.advance a b)
      | 0x21 => some (.reverse a b)
      | 0x22 => some (.seek a b)
      | 0x28 => some (.setArbiter a b)
      | 0x32 => some (.setLevel a b)
      | 0x3B => some (.setAudio a b)
      | 0x4A => some (.eraseSteps a b)
      | 0x58 => some (.clearRemote a b)
      | 0x5A => some (.readKeys a b)
      | 0x5B => if a = 0 then some .focusStop else some (.focus a b)
      | 0x5C =>
        if a = 0 then some .remoteTestLeave else if a = 1 then some .remoteTestEnter
        else if a = 2 then some (.remoteTestSetLines b) else if a = 3 then some (.remoteTestPressKey b)
        else if a = 4 then some .remoteTestReleaseKey else none
      | _ => none)
  | [a, b, c] =>
    if code = 0x10 then some (.setSlot a b c)
    else if code = 0x1A then some (.setSequencer a b c)
    else if code = 0x3C then some (.setDeck a b c)
    else if code = 0x59 then some (.setKey a b c)
    else if code = 0x5D then some (.setRemote a b c)
    else if code = 0x64 then some (.sendLink a b c [])
    else none
  | [a, b, c, d] =>
    if code = 0x63 then some (.setLink a b c d)
    else if code = 0x64 then some (.sendLink a b c [d]) else none
  | a :: b :: c :: rest =>
    if code = 0x64 then some (.sendLink a b c rest)
    else if code = 0x48 then some (.writeStep a (b :: c :: rest))
    else match rest with
      | [d, e, f] => if code = 0x35 then some (.setLamp ⟨a, b, joinHalf c d, e, f⟩) else none
      | [d, e, f, g, h, i, j] =>
        if code = 0x25 then some (.setSource a ⟨b, c, d, e, f, g, h, i, j⟩)
        else if code = 0x40 then some (.setDecoder ⟨a, b, c, d, joinHalf e f, joinHalf g h, joinHalf i j⟩)
        else none
      | _ => none

/-- The command that a panel transaction carries (R180, R181): a first byte 00h is a read of the bytes clocked after
it, and no byte of the response goes with it (DESIGN CHOICE, log 28); a frame that is no command of Table 11.11 is UNKNOWN_COMMAND with its bytes (log 36). -/
def panelDecode (memAck : Bool) (frame : List Byte) : Instr :=
  match frame with
  | [] => .unknownCommand []
  | c :: _ =>
    if c = 0 then .panelRead (frame.length - 1)
    else match frameBody frame with
      | none => .unknownCommand frame
      | some (code, payload) => (panelCommand memAck code payload).getD (.unknownCommand frame)

/-- The bytes 0 to 8 of Table 3.3. -/
def SourceBytes.list (r : SourceBytes) : List Byte :=
  [r.enable, r.priority, r.classes, r.base, r.limit, r.tenure, r.route, r.destType, r.destNum]

def LampBytes.list (p : LampBytes) : List Byte := [p.warn, p.trip] ++ splitHalf p.minCool ++ [p.heat, p.initShow]

def DecoderBytes.list (p : DecoderBytes) : List Byte :=
  [p.mode, p.cues, p.element, p.parity] ++ splitHalf p.pulseMin ++ splitHalf p.pulseMax ++ splitHalf p.holdMin

/-- Code and payload of a panel command (Tables 11.3, 11.11); none for a command that is no panel command. -/
def panelParts : Instr → Option (Byte × List Byte)
  | .readId => some (0x01, [])
  | .readStatus => some (0x02, [])
  | .readAttention => some (0x03, [])
  | .readFaults => some (0x04, [])
  | .setAttention a b => some (0x05, [a, b])
  | .setPower a => some (0x06, [a])
  | .standby => some (0x07, [])
  | .wake => some (0x08, [])
  | .resetControl _ => some (0x09, [0])
  | .resetHold _ => some (0x09, [1])
  | .release _ => some (0x0A, [])
  | .storeSettings => some (0x0B, [])
  | .loadSettings => some (0x0C, [])
  | .setSlot a b c => some (0x10, [a, b, c])
  | .clearSlot a b => some (0x11, [a, b])
  | .readTray a b => some (0x12, [a, b])
  | .setTray a b => some (0x13, [a, b])
  | .clearJam => some (0x18, [])
  | .clearFaultShutter => some (0x19, [])
  | .setSequencer a b c => some (0x1A, [a, b, c])
  | .readGate => some (0x1B, [])
  | .advance a b => some (0x20, [a, b])
  | .reverse a b => some (0x21, [a, b])
  | .seek a b => some (0x22, [a, b])
  | .home a => some (0x23, [a])
  | .halt => some (0x24, [])
  | .setSource a r => some (0x25, a :: r.list)
  | .readSource a => some (0x26, [a])
  | .readLastChange => some (0x27, [])
  | .setArbiter a b => some (0x28, [a, b])
  | .readArbiter => some (0x29, [])
  | .lampOn => some (0x30, [])
  | .lampOff => some (0x31, [])
  | .setLevel a b => some (0x32, [a, b])
  | .lampReplaced => some (0x33, [])
  | .clearFaultTrip => some (0x34, [])
  | .setLamp p => some (0x35, p.list)
  | .readLamp => some (0x36, [])
  | .deckPlay => some (0x38, [])
  | .deckPause => some (0x39, [])
  | .deckStop => some (0x3A, [])
  | .setAudio a b => some (0x3B, [a, b])
  | .setDeck a b c => some (0x3C, [a, b, c])
  | .readDeck => some (0x3D, [])
  | .setDecoder p => some (0x40, p.list)
  | .readDecoder => some (0x41, [])
  | .writeStep a r => some (0x48, a :: r)
  | .readStep a => some (0x49, [a])
  | .eraseSteps a b => some (0x4A, [a, b])
  | .runStep a => some (0x4B, [a])
  | .flushCues => some (0x4C, [])
  | .readCues => some (0x4D, [])
  | .showStart => some (0x50, [])
  | .showStop => some (0x51, [])
  | .hold => some (0x52, [])
  | .resume => some (0x53, [])
  | .setShow a => some (0x54, [a])
  | .readShow => some (0x55, [])
  | .clearRemote a b => some (0x58, [a, b])
  | .setKey a b c => some (0x59, [a, b, c])
  | .readKeys a b => some (0x5A, [a, b])
  | .focus a b => some (0x5B, [a, b])
  | .focusStop => some (0x5B, [0, 0])
  | .remoteTestLeave => some (0x5C, [0, 0])
  | .remoteTestEnter => some (0x5C, [1, 0])
  | .remoteTestSetLines a => some (0x5C, [2, a])
  | .remoteTestPressKey a => some (0x5C, [3, a])
  | .remoteTestReleaseKey => some (0x5C, [4, 0])
  | .setRemote a b c => some (0x5D, [a, b, c])
  | .readRemote => some (0x5E, [])
  | .setNode a => some (0x60, [a])
  | .setGroups a => some (0x61, [a])
  | .enableLink a => some (0x62, [a])
  | .setLink a b c d => some (0x63, [a, b, c, d])
  | .sendLink a b c p => some (0x64, a :: b :: c :: p)
  | .readLink => some (0x65, [])
  | .trayInsertion | .trayRemoval | .indexPulse | .homePulse | .gateSensorChange _ _ _ | .shutterClosed
  | .shutterTimeout | .shutterClosedLost | .shutterOpened | .liftSuccess | .liftTimeout | .liftRetryDropEnd
  | .stepTimeout | .dropSeated | .dropTimeout | .tenureExpiry | .pendingChangeStart | .temperatureSample _
  | .preheatExpiry | .coolingTimerExpiry | .lampRampTick | .lcurActive _ | .lampOpenDetect | .heatGuardExpiry
  | .fanTachPulse | .fanStallExpiry | .lampHoursTick | .stopPulseEnd | .runningRise _ | .runningFall _ | .endRise
  | .startTimeout | .stallTimeout | .pauseTimeout | .showClockTick | .audioRampTick | .periodJudgment _
  | .edgeWatchExpiry | .holdMinReached | .wordStartCheck | .wordCue | .cueTake | .dwellExpiry | .endingShowEnd
  | .wiredLineChange _ _ | .irFrame _ | .irRepeat _ | .irFrameDrop _ | .irReleaseTimeout | .keyRepeatExpiry _
  | .digitTimeout | .focusEndStop _ _ | .focusTimedEnd | .focusRunLimit | .lineBusy _ _ | .lineIdle | .badFrame
  | .linkChangeFrame _ _ _ _ | .linkLevelFrame _ _ _ | .linkLampFrame _ _ | .linkHoldFrame _ | .linkResumeFrame _
  | .linkStepFrame _ _ | .linkStandbyFrame _ | .linkWakeFrame _ | .linkAskFrame _ | .linkStateOrDataFrame _ _ _
  | .ownAddressFrame _ _ _ | .frameSendStart | .frameSent | .collision | .panelRead _ | .unknownCommand _
  | .standbyEntry | .idleTimerExpiry | .storeComplete _ | .loadComplete _ | .hoursWriteStart
  | .hoursWriteComplete _ | .porstLow | .powerOnReset _ | .wordElementSample | .cueinFallingEdge _
  | .frameNotAccepted _ => none

/-- The frame of a panel command. -/
def panelEncode (i : Instr) : Option (List Byte) :=
  (panelParts i).map (fun p => p.1 :: BitVec.ofNat 8 p.2.length :: p.2)

/-- What the memory answers, for the three reset commands. -/
def memAckOf : Instr → Bool
  | .resetControl a => a
  | .resetHold a => a
  | .release a => a
  | _ => false

end Sys2Proof
end

