-- ==== Sys2Proof/Machine/Decoder.lean ====
section
/-! DEFINITION. Meanings of the CDC commands (06). -/

namespace Sys2Proof.Machine

def setCdc (f : Cdc → Cdc) (s : State) : State := { s with cdc := f s.cdc }

def setFlags (f : CdcFlags → CdcFlags) (s : State) : State := setCdc (fun c => { c with flags := f c.flags }) s

/-- CDC judges: not in STANDBY and RESET_HELD (R106, R120). -/
def decoderActs (s : State) : Bool := s.pnp.power = .run || s.pnp.power = .standbyPending

/-- Delivery of a NEXT or STEP cue (R114). -/
def deliverCue (last : LastCue) (kind : CueKind) (s : State) : State :=
  let a := offerCue .tape kind (setCdc (fun c => { c with last }) s)
  if a.2 = .full then setFlags (fun f => { f with overrun := true }) a.1 else a.1

/-- A HOLD cue (R110): HOLD_SEEN, the last cue, and the cause CUE_HOLD unless the show is STOPPED. -/
def yieldHold (s : State) : State :=
  let s1 := setCdc (fun c => { c with last := .hold, flags := { c.flags with holdSeen := true } }) s
  if s.shc.phase = .stopped then s1 else addCause .cueHold s1

/-- The class leaves TONE_A: a MEASURING run is judged (R109). A run that ends at hold-min has reached it (Table 6.4
note 1). -/
def endPulse (s : State) : State :=
  let s1 := setCdc (fun c => { c with pulse := .none }) s
  match s.cdc.pulse with
  | .measuring ms pmin pmax hmin =>
    if hmin ≤ ms then yieldHold s1
    else if ms < pmin then setFlags (fun f => { f with noise := true }) s1
    else if ms ≤ pmax then deliverCue .next .next s1
    else setFlags (fun f => { f with long := true }) s1
  | _ => s1

/-- A pulse or a word may begin (R108, R111). -/
def mayBegin (c : Cdc) : Bool := c.cfg.mode ≠ .off && c.word = .idle && !c.waitQuiet

/-- A TONE_A run from NONE as a pulse candidate (R108, R109). -/
def startPulseRun (c : Cdc) : Cdc :=
  if mayBegin c && c.cfg.pulseOn then { c with pulse := .measuring 0 c.cfg.pulseMin c.cfg.pulseMax c.cfg.holdMin }
  else c

/-- A word start (R111). -/
def startWord (c : Cdc) : Cdc :=
  if mayBegin c && c.cfg.wordOn then
    { c with word := .startCheck, element := 0, bits := [], wordMs := 0, elementMs := c.cfg.element,
             wordParity := c.cfg.parity }
  else c

/-- A class change: the end of a pulse run first, a start second (R107–R111). -/
def changeTone (new : Tone) (s : State) : State :=
  let old := s.cdc.tone
  let s1 := setCdc (fun c => { c with tone := new, count := 0 }) (if old = .toneA then endPulse s else s)
  match new with
  | .none => setCdc (fun c => { c with waitQuiet := false }) s1
  | .toneA => if old = .none then setCdc startPulseRun s1 else s1
  | .toneB => setCdc startWord s1

/-- Table 6.3. -/
def judge (us : Nat) : Judgment :=
  if 800 ≤ us ∧ us ≤ 1250 then .a else if 400 ≤ us ∧ us ≤ 625 then .b else .out

def Judgment.tone : Judgment → Tone
  | .a => .toneA
  | .b => .toneB
  | .out => .none

/-- The run of judgments (R107); agreement with NONE makes the sync SYNCED (R108). -/
def takeJudgment (j : Judgment) (s : State) : State :=
  let c := s.cdc
  if j.tone = c.tone then
    setCdc (fun c => { c with count := 0, waitQuiet := c.waitQuiet && c.tone ≠ .none }) s
  else
    let n := if j = c.candidate then c.count + 1 else 1
    let s1 := setCdc (fun c => { c with candidate := j, count := n }) s
    if 4 ≤ n then changeTone j.tone s1 else s1

/-- A rising edge: a period from the two half-periods before it; the first of a signal forms none (R106). -/
def risingEdge (lowUs : Nat) (s : State) : State :=
  let period := s.cdc.highUs + lowUs
  let s1 := setCdc (fun c => { c with watchMs := 0, risen := true, highUs := 0 }) s
  if s.cdc.risen then takeJudgment (judge period) s1 else s1

/-- PERIOD_JUDGMENT (R106, R107). -/
def execPeriodJudgment (lowUs : Nat) (s : State) : Out :=
  quiet (fun s => if decoderActs s then risingEdge lowUs s else s) s

/-- EDGE_WATCH_EXPIRY (R107): 3 ms without an edge. -/
def edgeWatch (s : State) : State :=
  let s1 := if s.cdc.tone = .none then setCdc (fun c => { c with waitQuiet := false }) s else changeTone .none s
  setCdc (fun c => { c with count := 0, risen := false, watchMs := Config.edgeWatchMs }) s1

def execEdgeWatchExpiry (s : State) : Out := quiet (fun s => if decoderActs s then edgeWatch s else s) s

/-- CUEIN_FALLING_EDGE (R106, R107). -/
def execCueinFallingEdge (highUs : Nat) (s : State) : Out :=
  quiet (fun s => if decoderActs s then setCdc (fun c => { c with highUs, watchMs := 0 }) s else s) s

/-- HOLD_MIN_REACHED (R110). -/
def holdCue (s : State) : State :=
  match s.cdc.pulse with
  | .measuring _ _ _ _ => yieldHold (setCdc (fun c => { c with pulse := .spent }) s)
  | _ => s

def execHoldMinReached (s : State) : Out := run holdCue s

/-- WORD_START_CHECK (R111). -/
def startCheckWord (s : State) : State :=
  if s.cdc.word = .startCheck then
    (if s.cdc.tone = .toneB then setCdc (fun c => { c with word := .data, element := 0 }) s
     else setFlags (fun f => { f with noise := true }) (setCdc (fun c => { c with word := .idle }) s))
  else s

def execWordStartCheck (s : State) : Out := quiet startCheckWord s

/-- A word discarded for an error (R113). -/
def discardWord (f : CdcFlags → CdcFlags) (s : State) : State :=
  setFlags f (setCdc (fun c => { c with word := .idle, waitQuiet := true }) s)

/-- The value of data bits, bit 0 first. -/
def bitsValue : List Bool → Nat
  | [] => 0
  | b :: bs => bit b 0 + 2 * bitsValue bs

/-- Table 6.5 note 2: the data bits and the parity bit together. -/
def parityOk (p : Parity) (bits : List Bool) : Bool :=
  match p with
  | .none => true
  | .even => bits.count true % 2 = 0
  | .odd => bits.count true % 2 = 1

/-- A completed word (R113). -/
def completeWord (s : State) : State :=
  let v := bitsValue s.cdc.bits
  let s1 := setCdc (fun c => { c with word := .idle }) s
  if 1 ≤ v ∧ v ≤ 254 then deliverCue (.step v) (.step v) s1 else setFlags (fun f => { f with value := true }) s1

/-- A data element sampled (R112). -/
def sampleData (b : Bool) (c : Cdc) : Cdc :=
  let c1 := { c with bits := c.bits ++ [b] }
  if c.element < 7 then { c1 with element := c.element + 1 }
  else { c1 with word := if c.wordParity = .none then .stop else .parity }

/-- A sample of a word in assembly (R112, R113). -/
def sampleWord (s : State) : State :=
  let framing := discardWord (fun f => { f with framing := true }) s
  match s.cdc.word with
  | .data => if s.cdc.tone = .none then framing else setCdc (sampleData (s.cdc.tone = .toneA)) s
  | .parity =>
    if s.cdc.tone = .none then framing
    else if parityOk s.cdc.wordParity (s.cdc.bits ++ [decide (s.cdc.tone = .toneA)]) then
      setCdc (fun c => { c with word := .stop }) s
    else discardWord (fun f => { f with parity := true }) s
  | .stop => if s.cdc.tone = .toneA then completeWord s else framing
  | _ => s

/-- WORD_ELEMENT_SAMPLE (R112). -/
def execWordElementSample (s : State) : Out := quiet sampleWord s

/-- WORD_CUE (R113): the sample that completes or discards the word. -/
def execWordCue (s : State) : Out := quiet sampleWord s

/-- New decoder settings (R115, R118). -/
def applyDecoder (v : DecoderSettings) (s : State) : State :=
  if v.mode ≠ s.cdc.cfg.mode then
    stopDwell (flushQueue (setCdc (fun c => { c with
      cfg := v, pulse := .none, word := .idle, waitQuiet := true }) s))
  else
    setCdc (fun c => { c with
      cfg := v
      pulse := if v.pulseOn then c.pulse else .none
      word := if v.wordOn then c.word else .idle }) s

/-- SET_DECODER (R118). -/
def execSetDecoder (p : DecoderBytes) (s : State) : Out :=
  quiet (panel (setting (DecoderSettings.parse p) applyDecoder)) s

def CdcFlags.byte (f : CdcFlags) : Byte :=
  b8 (bit f.noise 0 + bit f.long 1 + bit f.parity 2 + bit f.framing 3 + bit f.value 4 + bit f.overrun 5
    + bit f.holdSeen 6)

/-- Table 6.8. -/
def decoderPayload (c : Cdc) : List Byte :=
  let tone := match c.tone with
    | .none => 0
    | .toneA => 1
    | .toneB => 2
  let word := match c.word with
    | .idle => 0
    | .startCheck => 1
    | .data => 2
    | .parity => 3
    | .stop => 4
  let pulse := match c.pulse with
    | .none => 0
    | .measuring _ _ _ _ => 1
    | .spent => 2
  let (last, value) := match c.last with
    | .none => (0, 0)
    | .next => (1, 0)
    | .step v => (2, v)
    | .hold => (3, 0)
  [c.flags.byte, b8 tone, b8 (word + 16 * pulse + bit c.waitQuiet 7), b8 last, b8 value] ++ c.cfg.bytes

/-- READ_DECODER (R117). -/
def execReadDecoder (s : State) : Out :=
  quiet (panel fun s => replyOk (setFlags (fun _ => .clear) s) (decoderPayload s.cdc)) s

end Sys2Proof.Machine
end

