-- ==== Sys2Proof/Machine/Lamp.lean ====
section
/-! DEFINITION. Meanings of the LMC commands (04). -/

namespace Sys2Proof.Machine

/-- LAMP_ON (R71): in STANDBY it is taken as a wake event (R181, R188). -/
def execLampOn (s : State) : Out := run (panelIn true false (panelRequest .lamp lampOnTaken)) s

/-- LAMP_OFF (R75). -/
def execLampOff (s : State) : Out := run (panel (panelRequest .lamp lampOffTaken)) s

/-- A SET LEVEL with a fade byte as a panel command or a link frame carries it (R79). -/
def setLevelByte (level fade : Byte) (s : State) : State × Status :=
  if fadeOk fade then setLevelTaken level.toNat (fadeOf s fade) s else (s, .badArg)

/-- SET_LEVEL (R79). -/
def execSetLevel (level fade : Byte) (s : State) : Out :=
  run (panel (panelRequest .lamp (setLevelByte level fade))) s

/-- LAMP_REPLACED (R77). -/
def execLampReplaced (s : State) : Out :=
  run (panel fun s =>
    match s.lmc.lamp with
    | .fault =>
      if s.lmc.coolDone then
        reply (resetHours (setLmc (fun l => { l.darken .off with coolDone := false }) s)) .ok
      else reply s .hot
    | .off => reply (resetHours s) .ok
    | _ => reply s .busy) s

/-- CLEAR_FAULT_TRIP (R83). -/
def execClearFaultTrip (s : State) : Out :=
  quiet (panel fun s =>
    if s.lmc.trip = false then reply s .ok
    else if s.lmc.tooHot then reply s .hot
    else if s.lmc.fanStall then reply s .tripped
    else reply (setLmc (fun l => { l with trip := false }) s) .ok) s

/-- The guard's part of a new heat time: 0 removes the cap and the elapsed time (R85). -/
def Lmc.applySettings (l : Lmc) (v : LampSettings) : Lmc :=
  let l1 := { l with cfg := v }.rederate
  if v.heat = 0 then l1.clearGuard else l1

/-- A heat time at or below the elapsed time sets the cap at once, if the timer runs (R85). -/
def guardCheck (s : State) : State :=
  if s.guardRuns ∧ s.lmc.cfg.heat ≤ s.lmc.guardElapsed then setLmc (fun l => { l with guardCap := true }) s else s

def applyLamp (v : LampSettings) (s : State) : State := guardCheck (setLmc (·.applySettings v) s)

/-- SET_LAMP (R89). -/
def execSetLamp (p : LampBytes) (s : State) : Out := run (panel (setting (LampSettings.parse p) applyLamp)) s

/-- Table 4.8. -/
def lampPayload (l : Lmc) : List Byte :=
  [b8 l.lamp.code, b8 l.output, b8 l.showLevel, b8 l.ramp.target, b8 (l.ramp.duration - l.ramp.elapsed),
   b8 (bit l.restrike 0 + bit l.deferred 1 + bit l.trip 2 + bit l.derate 3 + bit l.guardCap 4 + bit l.dim 5
     + bit l.coolDone 6 + bit l.fanStall 7),
   b8 l.claim.code, optByte 0xFF l.temp, b8 l.fan.code]
    ++ le16 (if l.coolingOn then l.coolLeft else 0) ++ [b8 l.guardElapsed] ++ le16 l.hours
    ++ [b8 l.cfg.warn, b8 l.cfg.trip]

/-- READ_LAMP (R90). -/
def execReadLamp (s : State) : Out := quiet (panel fun s => replyOk s (lampPayload s.lmc)) s

/-- The trip check of a sample (R83); in STANDBY the trip mark alone is set (R92, log 16). -/
def sampleTrip (t : Nat) (first : Bool) (s : State) : State :=
  if s.lmc.cfg.trip ≤ t ∧ s.lmc.trip = false then
    (if s.pnp.power = .standby then setLmc (fun l => { l with trip := true }) s else takeTrip .overtempTrip first s)
  else s

/-- Residual cooling of a first sample at or above 45 °C: a timer of 0 s, no cause (R91). -/
def residualCooling (t : Nat) (first : Bool) (s : State) : State :=
  if first = true ∧ Config.coolDoneTemp ≤ t ∧ s.lmc.lamp = .off ∧ s.pnp.power ≠ .standby then
    setLmc (fun l => (l.darken .cooling).stopCooling) s
  else s

/-- The restrike of a sample (R73); in STANDBY the marks are held (R92). -/
def sampleRestrike (t : Nat) (s : State) : State :=
  if t < Config.restrikeTemp ∧ s.lmc.restrike = true ∧ (s.lmc.lamp = .off ∨ s.lmc.lamp = .cooling)
      ∧ s.pnp.power ≠ .standby then
    (if s.lmc.dim then setLmc (fun l => { l with restrike := false, deferred := true }) s else enterPreheat s)
  else s

/-- A sample: 200 for no answer or a reading above; then the actions in the order of R70. A sample that the
converter did not answer also opens the next sample period (log 27). -/
def takeSample (reading : Option Nat) (s : State) : State :=
  let t := min (reading.getD Config.maxTemp) Config.maxTemp
  let first := s.lmc.temp.isNone
  let s1 := setLmc (fun l => { l with
    temp := some t, answered := reading.isSome, sampleMs := if reading.isSome then l.sampleMs else 0 }) s
  let s2 := residualCooling t first (setLmc Lmc.rederate (sampleTrip t first s1))
  lampReports (sampleRestrike t (endCooling s2))

/-- TEMPERATURE_SAMPLE (R70). -/
def execTemperatureSample (reading : Option Nat) (s : State) : Out := run (takeSample reading) s

/-- PREHEAT_EXPIRY (R72). -/
def execPreheatExpiry (s : State) : Out := run (fun s => if s.lmc.lamp = .preheat then enterLit s else s) s

/-- COOLING_TIMER_EXPIRY (R75, R76). -/
def execCoolingTimerExpiry (s : State) : Out :=
  run (fun s => if s.lmc.coolingOn then endCooling (setLmc Lmc.stopCooling s) else s) s

/-- LAMP_RAMP_TICK (R78). -/
def execLampRampTick (s : State) : Out :=
  run (fun s =>
    if s.lmc.lamp = .lit ∧ s.lmc.ramp.elapsed < s.lmc.ramp.duration then
      lampReports (setLmc (fun l => { l with ramp := { l.ramp with elapsed := l.ramp.elapsed + 1, ms := 0 } }) s)
    else s) s

def setLcur (active : Bool) (s : State) : State := { s with pins := { s.pins with lcur := active } }

/-- LCUR_ACTIVE with the level of LCUR (R76, log 39): the open timer is set back while LCUR is active. -/
def execLcurActive (s : State) (active : Bool := true) : Out := runPin (setLcur active) (setLcur active) s

/-- LAMP_OPEN_DETECT (R76). -/
def execLampOpenDetect (s : State) : Out :=
  run (fun s => if s.openRuns then lampReports (lampFails s) else s) s

/-- HEAT_GUARD_EXPIRY (R85): the elapsed time has reached the heat time; the cap is set and the timer stops. -/
def execHeatGuardExpiry (s : State) : Out :=
  run (fun s => if s.guardRuns then setLmc (fun l => { l with guardCap := true }) s else s) s

/-- FAN_TACH_PULSE (R87). -/
def execFanTachPulse (s : State) : Out :=
  run (fun s => if s.lmc.fan = .off then s else setLmc (fun l => { l with stallMs := 0, fanStall := false }) s) s

/-- FAN_STALL_EXPIRY (R87). -/
def execFanStallExpiry (s : State) : Out :=
  run (fun s =>
    if s.lmc.fan ≠ .off ∧ s.lmc.fanStall = false then
      let s1 := setLmc (fun l => { l with fanStall := true, stallMs := Config.fanStallMs }) s
      if burning s then lampReports (takeTrip .fanStall false s1) else raiseFault .fanStall s1
    else s) s

/-- LAMP_HOURS_TICK (R88). -/
def execLampHoursTick (s : State) : Out :=
  quiet (fun s =>
    if s.lmc.lamp = .lit ∧ s.pnp.power ≠ .standby then
      setLmc (fun l => { l with hours := satInc Config.maxHours l.hours, part := 0, partMs := 0 }) s
    else s) s

end Sys2Proof.Machine
end

