-- ==== Sys2Proof/Machine/Showctl.lean ====
section
/-! DEFINITION. Meanings of the SHC commands (08). -/

namespace Sys2Proof.Machine

/-- HOLD of a source: OPERATOR, or LINK for a link frame (R146). -/
def holdTaken (c : Cause) (s : State) : State × Status := (addCause c s, .ok)

def resumeTaken (s : State) : State × Status := (resumeShow s, .ok)

/-- SHOW_START (R144). -/
def execShowStart (s : State) : Out := run (panel (panelRequest .shows startShow)) s

/-- SHOW_STOP (R145). -/
def execShowStop (s : State) : Out := run (panel (panelRequest .shows showStopTaken)) s

/-- HOLD (R146). -/
def execHold (s : State) : Out := run (panel (panelRequest .shows (holdTaken .operator))) s

/-- RESUME (R146). -/
def execResume (s : State) : Out := run (panel (panelRequest .shows resumeTaken)) s

/-- New auto-resume: ON in HELD with an empty set leaves HELD at once (R148). -/
def applyAutoResume (v : Bool) (s : State) : State :=
  let s1 := { s with shc := { s.shc with autoResume := v } }
  if v = true ∧ s.shc.phase = .held ∧ s.shc.causes.isEmpty = true then leaveHeld s1 else s1

/-- SET_SHOW (R148). -/
def execSetShow (autoResume : Byte) (s : State) : Out := run (panel (setting (onOff autoResume) applyAutoResume)) s

/-- Table 8.5. -/
def showPayload (c : Shc) : List Byte :=
  let k := c.causes
  [b8 c.phase.code,
   b8 (bit k.operator 0 + bit k.cueHold 1 + bit k.transport 2 + bit k.lamp 3 + bit k.deck 4 + bit k.link 5),
   b8 (bit c.ended 0 + bit c.autoResume 1)]

/-- READ_SHOW (R148): SHOW is cleared. -/
def execReadShow (s : State) : Out :=
  quiet (panel fun s =>
    replyOk { s with pnp := { s.pnp with pend := { s.pnp.pend with showChg := false } } } (showPayload s.shc)) s

/-- ENDING_SHOW_END (R147). -/
def execEndingShowEnd (s : State) : Out := run endCheck s

end Sys2Proof.Machine
end

