-- ==== Sys2Proof/Machine/Link.lean ====
section
/-! DEFINITION. Meanings of the LKC commands (10). -/

namespace Sys2Proof.Machine

/-- LKC hears the line: ON, not in loopback, not sending (R166, R176). -/
def hearsLine (s : State) : Bool := s.linkOn && !s.lkc.cfg.loopback && s.lkc.access ≠ .sending

/-- LINE_IDLE (R165, R166, R170): a frame broken off is bad; the receiver waits for a lead, after a
frame that this entry to IDLE has broken off too (DESIGN CHOICE, log 51). -/
def Lkc.becomeIdle (l : Lkc) : Lkc :=
  let broken := match l.rx with
    | .inFrame _ => true
    | _ => false
  { l with lineIdle := true, idleInUs := 0, idleForUs := 0, rx := .waitLead, rxError := l.rxError || broken,
           access := if l.access = .waitIdle then .waitSlots else l.access }

def execLineIdle (s : State) : Out :=
  quiet (fun s =>
    if s.linkOn = true ∧ s.lkc.access ≠ .sending ∧ s.lkc.lineIdle = false then setLkc Lkc.becomeIdle s else s) s

/-- A bad frame on the line; in WAIT_IDLE its characters are ignored (R166). -/
def Lkc.hearBad (l : Lkc) : Lkc := if l.rx = .waitIdle then l.frameTaken else l.frameTaken.badFrame

/-- BAD_FRAME (R166). -/
def execBadFrame (s : State) : Out := quiet (fun s => if hearsLine s then setLkc Lkc.hearBad s else s) s

/-- A frame that is dropped in STANDBY (R179). -/
def unlessStandby (f : State → State) (s : State) : State := if s.pnp.power = .standby then s else f s

/-- A CHANGE frame's request (Table 10.6). -/
def linkChange (kind arg fade : Byte) (s : State) : State :=
  match kind.toNat with
  | 1 => (changeRequest .link .advance arg.toNat fade s).1
  | 2 => (changeRequest .link .reverse arg.toNat fade s).1
  | 3 => (changeRequest .link .seek arg.toNat fade s).1
  | 4 => (changeRequest .link .home 0 fade s).1
  | _ => s

def changeFrame (h : FrameHead) (kind arg fade : Byte) : State → State :=
  onFrame h 1 [kind, arg, fade] (unlessStandby (linkChange kind arg fade))

/-- LINK_CHANGE_FRAME (R172). -/
def execLinkChangeFrame (h : FrameHead) (kind arg fade : Byte) (s : State) : Out := run (changeFrame h kind arg fade) s

def linkRequest (c : ReqClass) (f : State → State × Status) (s : State) : State := (sourced .link c f s).1

def levelFrame (h : FrameHead) (level fade : Byte) : State → State :=
  onFrame h 2 [level, fade] (unlessStandby (linkRequest .lamp (setLevelByte level fade)))

/-- LINK_LEVEL_FRAME (R172). -/
def execLinkLevelFrame (h : FrameHead) (level fade : Byte) (s : State) : Out := run (levelFrame h level fade) s

def lampFrame (h : FrameHead) (on : Byte) : State → State :=
  onFrame h 3 [on] (unlessStandby (linkRequest .lamp (if on.toNat = 1 then lampOnTaken else lampOffTaken)))

/-- LINK_LAMP_FRAME (R172). -/
def execLinkLampFrame (h : FrameHead) (on : Byte) (s : State) : Out := run (lampFrame h on) s

def holdFrame (h : FrameHead) : State → State := onFrame h 4 [] (unlessStandby (linkRequest .shows (holdTaken .link)))

/-- LINK_HOLD_FRAME (R172, R146). -/
def execLinkHoldFrame (h : FrameHead) (s : State) : Out := run (holdFrame h) s

def resumeFrame (h : FrameHead) : State → State := onFrame h 5 [] (unlessStandby (linkRequest .shows resumeTaken))

/-- LINK_RESUME_FRAME (R172, R146). -/
def execLinkResumeFrame (h : FrameHead) (s : State) : Out := run (resumeFrame h) s

def stepFrame (h : FrameHead) (number : Byte) : State → State :=
  onFrame h 6 [number] (unlessStandby (linkRequest .shows (offerFrom .link (.step number.toNat))))

/-- LINK_STEP_FRAME (R172, R125). -/
def execLinkStepFrame (h : FrameHead) (number : Byte) (s : State) : Out := run (stepFrame h number) s

def standbyFrame (h : FrameHead) : State → State :=
  onFrame h 10 [] (unlessStandby (linkRequest .power requestStandby))

/-- LINK_STANDBY_FRAME (R172, R188). -/
def execLinkStandbyFrame (h : FrameHead) (s : State) : Out := run (standbyFrame h) s

def wakeFrame (h : FrameHead) : State → State := onFrame h 11 [] wakeUp

/-- LINK_WAKE_FRAME (R172, R179, R188). -/
def execLinkWakeFrame (h : FrameHead) (s : State) : Out := run (wakeFrame h) s

/-- The five values of a STATE reply (R173). -/
def statePayload (s : State) : List Byte :=
  [optByte 0xFF s.tru.position, b8 s.csq.gate.code, b8 s.lmc.lamp.code, b8 s.shc.phase.code, b8 s.crn.current]

/-- The STATE reply to an ASK (R173): dropped with REPLY_LOST where LKC cannot take it. -/
def answerAsk (src : Nat) (s : State) : State :=
  let a := offerFrame (LinkDest.node src).byte 8 (statePayload s) s
  if a.2 then a.1 else setLkc (fun l => { l with replyLost := true }) a.1

def askFrame (h : FrameHead) : State → State := onFrame h 7 [] (answerAsk h.src)

/-- LINK_ASK_FRAME (R173, R179). -/
def execLinkAskFrame (h : FrameHead) (s : State) : Out := quiet (askFrame h) s

/-- Kinds 08h and 09h join the receive buffer (R174). -/
def dataFrame (h : FrameHead) (kind : Byte) (payload : List Byte) (s : State) : State :=
  if kind.toNat = 8 ∨ kind.toNat = 9 then
    onFrame h kind payload (unlessStandby (setLkc (·.store ⟨h.src, h.dest, kind, payload⟩))) s
  else s

/-- LINK_STATE_OR_DATA_FRAME (R174). -/
def execLinkStateOrDataFrame (h : FrameHead) (kind : Byte) (payload : List Byte) (s : State) : Out :=
  quiet (dataFrame h kind payload) s

/-- A sound frame by its kind (Table 10.4). -/
def takeFrame (f : LinkFrame) (s : State) : State :=
  let h : FrameHead := ⟨f.level, f.src, f.dest⟩
  let p (i : Nat) : Byte := f.payload.getD i 0
  match f.kind.toNat with
  | 1 => changeFrame h (p 0) (p 1) (p 2) s
  | 2 => levelFrame h (p 0) (p 1) s
  | 3 => lampFrame h (p 0) s
  | 4 => holdFrame h s
  | 5 => resumeFrame h s
  | 6 => stepFrame h (p 0) s
  | 7 => askFrame h s
  | 10 => standbyFrame h s
  | 11 => wakeFrame h s
  | _ => dataFrame h f.kind f.payload s

/-- The bytes of a complete frame are judged, and a sound frame is taken at its check byte (R166). -/
def takeBytes (bytes : List Byte) (s : State) : State :=
  match LinkFrame.parse bytes with
  | some f => takeFrame f s
  | none => setLkc Lkc.badFrame s

/-- A character on the line with its stop bit (R165, R166): the receiver gathers it, and it and two characters of
silence pass before IDLE. -/
def hearChar (char : Byte) (stop : Bool) (s : State) : State :=
  setLkc (·.busy 3) (match s.lkc.rx.gather char stop with
    | .going rx => setLkc (fun l => { l with rx }) s
    | .bad => setLkc Lkc.badFrame s
    | .whole bytes => takeBytes bytes s)

/-- LINE_BUSY (R165, R166, R170): a start bit, with the character that it begins (log 23). -/
def execLineBusy (s : State) (char : Byte := 0xFF) (stop : Bool := true) : Out :=
  run (fun s => if hearsLine s then hearChar char stop s else s) s

/-- A frame heard on the inner line is taken (R176). -/
def Lkc.takeLooped (l : Lkc) : Lkc := { l with looped := none, rx := .waitIdle }

/-- OWN_ADDRESS_FRAME (R168, R174, R176). -/
def ownFrame (dest kind : Byte) (payload : List Byte) (s : State) : State :=
  if s.lkc.cfg.loopback then
    (if s.lkc.looped = none ∨ s.linkOn = false ∨ s.lkc.accepts dest = false then s
     else setLkc (fun l => l.takeLooped.store ⟨l.node, dest, kind, payload⟩) s)
  else onFrame ⟨s.lkc.cfg.level, s.lkc.node, dest⟩ kind payload id s

def execOwnAddressFrame (dest kind : Byte) (payload : List Byte) (s : State) : Out := quiet (ownFrame dest kind payload) s

/-- FRAME_SEND_START (R170, R171): byte 1 takes the node address as it stands (R167). -/
def Lkc.startSend (l : Lkc) : Lkc :=
  match l.txq with
  | [] => l
  | f :: rest =>
    let us := f.bytes.length * l.charUs
    { l with txq := { f with src := l.node } :: rest, access := .sending, sendUs := us, rx := .waitIdle,
             lineIdle := false, idleInUs := us + 2 * l.charUs, idleForUs := 0 }

def execFrameSendStart (s : State) : Out :=
  quiet (fun s =>
    if s.linkOn = true ∧ s.lkc.access = .waitSlots ∧ s.lkc.lineIdle = true then setLkc Lkc.startSend s else s) s

/-- FRAME_SENT (R171, R176). -/
def Lkc.sent (l : Lkc) : Lkc :=
  { (l.busy 2).nextFrame with rx := .waitIdle, looped := if l.cfg.loopback then l.txq.head? else l.looped }

def execFrameSent (s : State) : Out := quiet (fun s => if s.lkc.access = .sending then setLkc Lkc.sent s else s) s

/-- COLLISION (R171): a retry, or the frame given up. -/
def Lkc.collide (l : Lkc) : Lkc :=
  let l1 := { l.busy 2 with rx := .waitIdle, sendUs := 0 }
  if l.retry + 1 ≤ l.cfg.retryLimit then { l1 with retry := l.retry + 1, access := .waitIdle }
  else { l1.nextFrame with giveup := true }

/-- No collision arises in loopback (R176). -/
def execCollision (s : State) : Out :=
  quiet (fun s =>
    if s.lkc.access = .sending ∧ s.lkc.cfg.loopback = false then setLkc Lkc.collide s else s) s

/-- FRAME_NOT_ACCEPTED (R168). -/
def notAccepted (h : FrameHead) (s : State) : State :=
  if s.linkOn = false ∨ s.lkc.accepts h.dest = true ∨ (LinkDest.ofByte h.dest).isNone = true then s
  else if s.lkc.cfg.loopback then (if s.lkc.looped = none then s else setLkc Lkc.takeLooped s)
  else if s.lkc.access = .sending ∨ Config.unassigned ≤ h.src then s
  else setLkc Lkc.frameTaken s

def execFrameNotAccepted (h : FrameHead) (s : State) : Out := quiet (notAccepted h) s

/-- SET_NODE (R167). -/
def execSetNode (address : Byte) (s : State) : Out :=
  quiet (panel fun s =>
    if 14 < address.toNat then reply s .badArg
    else if s.lkc.lock then reply s .locked
    else reply (setLkc (fun l => { l with node := address.toNat, lock := true }) s) .ok) s

/-- SET_GROUPS (R168). -/
def execSetGroups (groups : Byte) (s : State) : Out :=
  quiet (panel fun s => reply (setLkc (fun l => { l with groups }) s) .ok) s

/-- Link enable by R175. While it is OFF the line watch stands at BUSY (DESIGN CHOICE, log 49). -/
def Lkc.setEnable (l : Lkc) (v : Bool) : Lkc :=
  if l.enable = v then l
  else if v then { l with enable := true }.listen
  else { l.flush with enable := false, rx := .waitIdle, lineIdle := false, idleInUs := 0, idleForUs := 0 }

/-- ENABLE_LINK (R175). -/
def execEnableLink (value : Byte) (s : State) : Out :=
  run (panel (setting (onOff value) (fun v => setLkc (·.setEnable v)))) s

/-- SET_LINK (R175): refused while the enable is ON. -/
def execSetLink (rate level retryLimit loopback : Byte) (s : State) : Out :=
  quiet (panel fun s =>
    if s.lkc.enable then reply s .busy
    else setting (LinkSettings.parse rate level retryLimit loopback) (fun v => setLkc (fun l => { l with cfg := v })) s) s

/-- SEND_LINK (R169): the frame goes out as the command gives it. -/
def execSendLink (dest kind length : Byte) (payload : List Byte) (s : State) : Out :=
  quiet (panel fun s =>
    if length.toNat ≠ payload.length ∨ frameOk dest kind payload = false then reply s .badArg
    else if s.lkc.enable = false ∨ s.lkc.node = Config.unassigned then reply s .disabled
    else
      let a := offerFrame dest kind payload s
      reply a.1 (if a.2 then .ok else .busy)) s

def accessCode : Access → Nat
  | .none => 0
  | .waitIdle => 1
  | .waitSlots => 2
  | .sending => 3

/-- Table 10.7. Bytes 10 to 12 of an empty buffer read 00h (DESIGN CHOICE, log 48). -/
def linkPayload (l : Lkc) : List Byte :=
  [b8 l.node, b8 (bit l.lock 0 + bit l.enable 1 + bit l.cfg.loopback 2 + bit l.lineIdle 3), l.groups, b8 l.cfg.rate,
   b8 (16 * l.cfg.level + l.cfg.retryLimit),
   b8 (bit l.giveup 0 + bit l.overflow 1 + bit l.rxOverflow 2 + bit l.rxError 3 + bit l.replyLost 4),
   b8 (l.txq.length + 16 * accessCode l.access), b8 l.retry, b8 l.rxbuf.length]
    ++ (match l.rxbuf.head? with
        | some e => [b8 e.src, e.dest, e.kind, b8 e.payload.length] ++ e.payload
        | none => [0xFF, 0, 0, 0])

/-- READ_LINK (R177). -/
def execReadLink (s : State) : Out :=
  quiet (panel fun s =>
    replyOk (setLkc (fun l => { l with
      rxbuf := l.rxbuf.drop 1, giveup := false, overflow := false, rxOverflow := false, rxError := false,
      replyLost := false }) s) (linkPayload s.lkc)) s

end Sys2Proof.Machine
end

