-- ==== Sys2Proof/Machine/RemoteOps.lean ====
section
/-! DEFINITION. Shared operations of RMI (09): key presses and releases, actions, digits, focus, wired lines, the
infra-red receiver. -/

namespace Sys2Proof.Machine

def setRmi (f : Rmi → Rmi) (s : State) : State := { s with rmi := f s.rmi }

def Rmi.line (r : Rmi) : Line → LineRec
  | .fwd => r.fwd
  | .rev => r.rev
  | .fin => r.fin
  | .fout => r.fout

def Rmi.setLine (r : Rmi) (l : Line) (x : LineRec) : Rmi :=
  match l with
  | .fwd => { r with fwd := x }
  | .rev => { r with rev := x }
  | .fin => { r with fin := x }
  | .fout => { r with fout := x }

/-- Key codes 60 to 63 (Table 9.1 note 1). -/
def lineCode : Line → Nat
  | .fwd => 60
  | .rev => 61
  | .fin => 62
  | .fout => 63

def codeLine (code : Nat) : Option Line :=
  match code with
  | 60 => some .fwd
  | 61 => some .rev
  | 62 => some .fin
  | 63 => some .fout
  | _ => none

/-! ## Focus drive (R159) -/

def stopFocus (s : State) : State := setRmi (fun r => { r with focus := .stopped }) s

def stopActive (p : Pins) (inward : Bool) : Bool := if inward then p.fsi else p.fso

/-- A start: prevented by an active end stop, which stops a run the same way; else it replaces any run. -/
def startFocus (inward : Bool) (stopAt : FocusEnd) (s : State) : State :=
  if stopActive s.pins inward then (if s.rmi.focus.runs inward then stopFocus s else s)
  else setRmi (fun r => { r with focus := .run inward stopAt 0 }) s

/-! ## Actions (Table 9.5) -/

def remoteChange (kind : ChangeKind) (arg : Nat) (s : State) : State :=
  (changeRequest .remote kind arg Config.defaultFadeByte s).1

def remoteRequest (c : ReqClass) (f : State → State × Status) (s : State) : State := (sourced .remote c f s).1

def setDigit (d : Option Nat) (s : State) : State := setRmi (fun r => { r with digit := d, digitMs := 0 }) s

/-- DIGIT d (R158). -/
def digitKey (d : Nat) (s : State) : State :=
  match s.rmi.digit with
  | none => setDigit (some d) s
  | some e => remoteChange .seek (10 * e + d) (setDigit none s)

/-- ENTER (R158). -/
def enterKey (s : State) : State :=
  match s.rmi.digit with
  | none => s
  | some e => remoteChange .seek e (setDigit none s)

/-- A focus action: a run to the key's release under WHILE_HELD, else a nudge of 1 tenth (R157). -/
def focusKey (inward : Bool) (code : Nat) (m : RepeatMode) (s : State) : State :=
  startFocus inward (if m = .whileHeld then .key code else .timed 100) s

/-- Fire an action once (R156). -/
def fireKey (a : KeyAction) (m : RepeatMode) (code : Nat) (s : State) : State :=
  match a with
  | .none => s
  | .advance => remoteChange .advance 1 s
  | .reverse => remoteChange .reverse 1 s
  | .home => remoteChange .home 0 s
  | .clearJam => remoteRequest .transport clearJamAt s
  | .lampOn => remoteRequest .lamp lampOnTaken s
  | .lampOff => remoteRequest .lamp lampOffTaken s
  | .hold => remoteRequest .shows (holdTaken .operator) s
  | .resume => remoteRequest .shows resumeTaken s
  | .showStart => remoteRequest .shows startShow s
  | .showStop => remoteRequest .shows showStopTaken s
  | .nextStep => remoteRequest .shows (offerFrom .remote .next) s
  | .standby => remoteRequest .power requestStandby s
  | .wake => wakeUp s
  | .digit d => digitKey d s
  | .enter => enterKey s
  | .focusIn => focusKey true code m s
  | .focusOut => focusKey false code m s
  | .report => setRmi (fun r => { r with lastKey := some code, unread := true }) s

/-! ## Presses and releases (R156, R164) -/

def setPress (code : Nat) (p : Option Press) (s : State) : State :=
  match codeLine code with
  | some l => setRmi (fun r => r.setLine l { r.line l with press := p }) s
  | none => setRmi (fun r => { r with irPress := p }) s

def pressOf (code : Nat) (s : State) : Option Press :=
  match codeLine code with
  | some l => (s.rmi.line l).press
  | none => if s.rmi.irHeld = some code then s.rmi.irPress else none

def Rmi.entry (r : Rmi) (code : Nat) : KeyEntry := r.keys.getD code ⟨.none, .once⟩

/-- A key pressed in STANDBY (R164). A LAMP_ON that the class check refuses is no request there, and one that passes it
and wakes the part counts a refusal of LMC, as R50 and Table 4.4 do (both DEDUCED, log 31). -/
def standbyKey (a : KeyAction) (s : State) : State :=
  match a with
  | .wake => wakeUp s
  | .lampOn => if classOk .remote .lamp s then remoteRequest .lamp lampOnTaken s else s
  | _ => if s.rmi.cfg.wakeAny then wakeUp s else s

/-- A key press (R156, R164). -/
def pressKey (code : Nat) (s : State) : State :=
  let e := s.rmi.entry code
  if s.pnp.power = .standby then standbyKey e.action (setPress code (some ⟨e.action, e.mode, 0, true⟩) s)
  else fireKey e.action e.mode code (setPress code (some ⟨e.action, e.mode, 0, false⟩) s)

/-- The focus run that a key's release ends (R159). -/
def Focus.drivenBy (f : Focus) (code : Nat) : Bool :=
  match f with
  | .run _ (.key c) _ => c = code
  | _ => false

/-- A key release (R156). -/
def releaseKey (code : Nat) (s : State) : State :=
  let s1 := setPress code none s
  if s1.rmi.focus.drivenBy code then stopFocus s1 else s1

/-- A debounced line event: the mark, and the press or release (R151). -/
def lineEvent (l : Line) (pressed : Bool) (s : State) : State :=
  let x := s.rmi.line l
  if x.pressed = pressed then s
  else if pressed then pressKey (lineCode l) (setRmi (·.setLine l { x with pressed := true, pressedChg := true }) s)
  else releaseKey (lineCode l) (setRmi (·.setLine l { x with pressed := false, releasedChg := true }) s)

/-- Lines that change together are taken in the order FWD, REV, FIN, FOUT (DESIGN CHOICE, log 43). -/
def lineLevels (f : Line → Bool) (s : State) : State :=
  lineEvent .fout (f .fout) (lineEvent .fin (f .fin) (lineEvent .rev (f .rev) (lineEvent .fwd (f .fwd) s)))

def Pins.line (p : Pins) : Line → Bool
  | .fwd => p.fwd
  | .rev => p.rev
  | .fin => p.fin
  | .fout => p.fout

def Pins.setLine (p : Pins) (l : Line) (v : Bool) : Pins :=
  match l with
  | .fwd => { p with fwd := v }
  | .rev => { p with rev := v }
  | .fin => { p with fin := v }
  | .fout => { p with fout := v }

/-- The first reading of a line after a reset: a pressed line gives no mark and no press, and its press record is
spent (R163). -/
def LineRec.sampled (level : Bool) (e : KeyEntry) (l : LineRec) : LineRec :=
  { l with pressed := level, press := if level then some ⟨e.action, e.mode, 0, true⟩ else none, reading := .watched }

/-- A line's reading is over: from here on its changes are events. -/
def watchLine (l : Line) (s : State) : State :=
  setRmi (fun r => r.setLine l { r.line l with reading := .watched }) s

/-- A reading of a line (R151, R161, R163): the first one after a reset, or an event. -/
def lineReading (l : Line) (pressed : Bool) (s : State) : State :=
  match (s.rmi.line l).reading with
  | .first _ => setRmi (fun r => r.setLine l ((r.line l).sampled pressed (r.entry (lineCode l)))) s
  | _ => lineEvent l pressed (watchLine l s)

/-- The readings of all four lines begin again, or stand still in test mode (R161). -/
def Rmi.readFrom (x : LineRead) (r : Rmi) : Rmi :=
  { r with fwd := { r.fwd with reading := x }, rev := { r.rev with reading := x }
           fin := { r.fin with reading := x }, fout := { r.fout with reading := x } }

def Press.spend (p : Press) : Press := { p with spent := true, repeatMs := 0 }

def LineRec.spend (l : LineRec) : LineRec := { l with press := l.press.map Press.spend }

/-- What RMI does at the entry to STANDBY (R164). -/
def Rmi.sleep (r : Rmi) : Rmi :=
  { r with focus := .stopped, digit := none, digitMs := 0, fwd := r.fwd.spend, rev := r.rev.spend,
           fin := r.fin.spend, fout := r.fout.spend, irPress := r.irPress.map Press.spend }

/-! ## Infra-red (R153, R154) -/

/-- What a mark or a space completes. -/
inductive IrEvent where
  | none | drop | again
  | frame (bits : List Bool)
  deriving DecidableEq, Repr

def within (lo hi us : Nat) : Bool := lo ≤ us && us ≤ hi

def leaderMark (us : Nat) : Bool := within 1800 3000 us
def shortPulse (us : Nat) : Bool := within 300 500 us
def longSpace (us : Nat) : Bool := within 900 1500 us

/-- A frame in error: a mark of leader length that ends it begins a new one. -/
def irError : IrPulse → IrRx × IrEvent
  | .mark us => (if leaderMark us then .leaderSpace else .waitLeader, .drop)
  | .space _ => (.waitLeader, .drop)

/-- One more bit; after bit 15 the receiver waits for the trailer mark. -/
def gather (got : List Bool) (b : Bool) : IrRx :=
  if got.length < 15 then .bits (got ++ [b]) false else .trailer (got ++ [b])

/-- One mark or space through the receiver. -/
def irStep (rx : IrRx) (p : IrPulse) : IrRx × IrEvent :=
  match rx, p with
  | .waitLeader, .mark us => (if leaderMark us then .leaderSpace else .waitLeader, .none)
  | .waitLeader, .space _ => (.waitLeader, .none)
  | .leaderSpace, .space us =>
    if longSpace us then (.bits [] false, .none)
    else if within 1800 3000 us then (.repeatMark, .none) else irError p
  | .bits got false, .mark us => if shortPulse us then (.bits got true, .none) else irError p
  | .bits got true, .space us =>
    if shortPulse us then (gather got false, .none)
    else if longSpace us then (gather got true, .none) else irError p
  | .repeatMark, .mark us => if shortPulse us then (.waitLeader, .again) else irError p
  | .trailer got, .mark us => if shortPulse us then (.waitLeader, .frame got) else irError p
  | _, p => irError p

/-- The number that bits spell, the first one least significant. -/
def bitsNat : List Bool → Nat
  | [] => 0
  | b :: bs => bit b 0 + 2 * bitsNat bs

/-- The key of a complete frame that is not dropped (Table 9.2). -/
def irKey (channel : Option Nat) (bits : List Bool) : Option Nat :=
  let ch := bitsNat (bits.take 4)
  let key := bitsNat ((bits.drop 4).take 6)
  let check := bitsNat (bits.drop 10)
  if check = 63 - key ∧ (channel = none ∨ channel = some ch) ∧ key < 60 then some key else none

def irDrop (s : State) : State := setRmi (fun r => { r with irDrops := satInc 255 r.irDrops }) s

/-- A valid frame (R154). -/
def irPressed (key : Nat) (s : State) : State :=
  let hold (s : State) := pressKey key (setRmi (fun r => { r with irHeld := some key, irReleaseMs := 0 }) s)
  match s.rmi.irHeld with
  | none => hold s
  | some k =>
    if k = key then setRmi (fun r => { r with irReleaseMs := 0 }) s
    else hold (setRmi (fun r => { r with irHeld := none }) (releaseKey k s))

/-- The held key is released and no key is held (R154). -/
def irReleased (s : State) : State :=
  match s.rmi.irHeld with
  | none => s
  | some k => setRmi (fun r => { r with irHeld := none, irReleaseMs := 0, injected := false }) (releaseKey k s)

def irTake (e : IrEvent) (s : State) : State :=
  match e with
  | .none => s
  | .drop => irDrop s
  | .again => if s.rmi.irHeld = none then s else setRmi (fun r => { r with irReleaseMs := 0 }) s
  | .frame bits =>
    match irKey s.rmi.cfg.channel bits with
    | some key => irPressed key s
    | none => irDrop s

/-- Marks and spaces on IRIN, in their order. -/
def irWalk : List IrPulse → State → State
  | [], s => s
  | p :: ps, s =>
    let a := irStep s.rmi.irRx p
    irWalk ps (irTake a.2 (setRmi (fun r => { r with irRx := a.1 }) s))

/-- The receiver is stopped in RESET_HELD and in test mode (R153). -/
def irSignal (ps : List IrPulse) (s : State) : State :=
  if s.pnp.power = .resetHeld ∨ s.rmi.test = true then s else irWalk ps s

end Sys2Proof.Machine
end

