-- ==== Sys2Proof/Machine/Remote.lean ====
section
/-! DEFINITION. Meanings of the RMI commands (09). -/

namespace Sys2Proof.Machine

/-- The lines are watched: not in RESET_HELD, not in test mode (R151, R161). -/
def linesWatched (s : State) : Bool := s.pnp.power ≠ .resetHeld && !s.rmi.test

def setLinePin (l : Line) (v : Bool) (s : State) : State := { s with pins := s.pins.setLine l v }

/-- WIRED_LINE_CHANGE (R151): a reading of the line that has stood for 20 ms. -/
def execWiredLineChange (l : Line) (pressed : Bool) (s : State) : Out :=
  runPin (setLinePin l pressed)
    (fun s => if linesWatched s then lineReading l pressed (setLinePin l pressed s) else setLinePin l pressed s) s

/-- IR_FRAME (R153, R154). -/
def execIrFrame (pulses : List IrPulse) (s : State) : Out := run (irSignal pulses) s

/-- IR_REPEAT (R153, R154). -/
def execIrRepeat (pulses : List IrPulse) (s : State) : Out := run (irSignal pulses) s

/-- IR_FRAME_DROP (R153). -/
def execIrFrameDrop (pulses : List IrPulse) (s : State) : Out := run (irSignal pulses) s

/-- IR_RELEASE_TIMEOUT (R154); an injected key has no release timer (R161). -/
def execIrReleaseTimeout (s : State) : Out := run (fun s => if s.rmi.injected then s else irReleased s) s

/-- The repeat timer restarts (R157). -/
def restartRepeat (code : Nat) (p : Press) (s : State) : State := setPress code (some { p with repeatMs := 0 }) s

/-- KEY_REPEAT_EXPIRY (R157). -/
def keyRepeat (code : Nat) (s : State) : State :=
  match pressOf code s with
  | some p =>
    (match p.mode with
      | .auto _ => if p.spent then s else fireKey p.action p.mode code (restartRepeat code p s)
      | _ => s)
  | none => s

def execKeyRepeatExpiry (code : Nat) (s : State) : Out := run (keyRepeat code) s

/-- DIGIT_TIMEOUT (R158). -/
def execDigitTimeout (s : State) : Out := quiet (setDigit none) s

def setStopPins (fsi fso : Bool) (s : State) : State := { s with pins := { s.pins with fsi, fso } }

/-- FOCUS_END_STOP (R159). -/
def endStop (fsi fso : Bool) (s : State) : State :=
  let s1 := setStopPins fsi fso s
  if (fsi && s.rmi.focus.runs true) || (fso && s.rmi.focus.runs false) then stopFocus s1 else s1

def execFocusEndStop (fsi fso : Bool) (s : State) : Out := runPin (setStopPins fsi fso) (endStop fsi fso) s

/-- The run in progress has end TIMED. -/
def Focus.isTimed (f : Focus) : Bool :=
  match f with
  | .run _ (.timed _) _ => true
  | _ => false

/-- FOCUS_TIMED_END (R159). -/
def execFocusTimedEnd (s : State) : Out := quiet (fun s => if s.rmi.focus.isTimed then stopFocus s else s) s

/-- FOCUS_RUN_LIMIT (R159). -/
def execFocusRunLimit (s : State) : Out := quiet stopFocus s

/-- A mark takes the value of its value bit where its mask bit is set (R152). -/
def maskMark (mask value : Byte) (i : Nat) (old : Bool) : Bool := if mask.getLsbD i then value.getLsbD i else old

def LineRec.clearMarks (mask value : Byte) (i : Nat) (l : LineRec) : LineRec :=
  { l with pressedChg := maskMark mask value i l.pressedChg, releasedChg := maskMark mask value (i + 4) l.releasedChg }

/-- CLEAR_REMOTE (R152). -/
def execClearRemote (mask value : Byte) (s : State) : Out :=
  quiet (panel fun s => reply (setRmi (fun r => { r with
    fwd := r.fwd.clearMarks mask value 0, rev := r.rev.clearMarks mask value 1
    fin := r.fin.clearMarks mask value 2, fout := r.fout.clearMarks mask value 3 }) s) .ok) s

/-- SET_KEY (R155). -/
def execSetKey (code action mode : Byte) (s : State) : Out :=
  quiet (panel fun s =>
    match KeyEntry.parse action mode with
    | some e =>
      if code.toNat ≤ 63 then reply (setRmi (fun r => { r with keys := updAt (fun _ => e) code.toNat r.keys }) s) .ok
      else reply s .badArg
    | none => reply s .badArg) s

/-- READ_KEYS (R155). -/
def execReadKeys (first count : Byte) (s : State) : Out :=
  quiet (panel fun s =>
    if first.toNat ≤ 63 ∧ 1 ≤ count.toNat ∧ count.toNat ≤ 32 then
      replyOk s (((s.rmi.keys.drop first.toNat).take count.toNat).map KeyEntry.bytes).flatten
    else reply s .badArg) s

/-- FOCUS (R160). -/
def execFocus (direction duration : Byte) (s : State) : Out :=
  quiet (panel fun s =>
    let d := duration.toNat
    match direction.toNat with
    | 0 => reply (stopFocus s) .ok
    | 1 => if 1 ≤ d ∧ d ≤ 80 then reply (startFocus true (.timed (100 * d)) s) .ok else reply s .badArg
    | 2 => if 1 ≤ d ∧ d ≤ 80 then reply (startFocus false (.timed (100 * d)) s) .ok else reply s .badArg
    | _ => reply s .badArg) s

/-- FOCUS_STOP (R159, R160). -/
def execFocusStop (s : State) : Out := quiet (panel fun s => reply (stopFocus s) .ok) s

/-- Test mode entered (R161). -/
def enterTest (s : State) : State :=
  if s.rmi.test then s
  else
    let s1 := irReleased (lineLevels (fun _ => false) s)
    setRmi (fun r => { r.readFrom .watched with test := true, irRx := .waitLeader }) s1

/-- Test mode left (R161): the forced lines and the injected key are released, and the physical lines are read. -/
def leaveTest (s : State) : State :=
  if s.rmi.test then
    let s1 := lineLevels (fun _ => false) (irReleased s)
    setRmi (fun r => { r.readFrom (.resumed 0) with test := false, irRx := .waitLeader }) s1
  else s

/-- REMOTE_TEST_ENTER (R161). -/
def execRemoteTestEnter (s : State) : Out := run (panel fun s => reply (enterTest s) .ok) s

/-- REMOTE_TEST_LEAVE (R161). -/
def execRemoteTestLeave (s : State) : Out := run (panel fun s => reply (leaveTest s) .ok) s

/-- Functions 02h to 04h are refused with BUSY while test mode is OFF (R161). -/
def inTest (f : State → Answer) (s : State) : Answer := if s.rmi.test then f s else reply s .busy

/-- Bits 0 to 3 of the argument of Set lines; bits 4 to 7 are ignored (DESIGN CHOICE, log 43). -/
def lineBit (lines : Byte) : Line → Bool
  | .fwd => lines.getLsbD 0
  | .rev => lines.getLsbD 1
  | .fin => lines.getLsbD 2
  | .fout => lines.getLsbD 3

/-- REMOTE_TEST_SET_LINES (R161). -/
def execRemoteTestSetLines (lines : Byte) (s : State) : Out :=
  run (panel (inTest fun s => reply (lineLevels (lineBit lines) s) .ok)) s

/-- REMOTE_TEST_PRESS_KEY (R161): BUSY while test mode is OFF stands before BAD_ARG for the code (DESIGN CHOICE,
log 14). -/
def execRemoteTestPressKey (code : Byte) (s : State) : Out :=
  run (panel (inTest fun s =>
    if code.toNat ≤ 59 then reply (setRmi (fun r => { r with injected := true }) (irPressed code.toNat s)) .ok
    else reply s .badArg)) s

/-- REMOTE_TEST_RELEASE_KEY (R161). -/
def execRemoteTestReleaseKey (s : State) : Out := run (panel (inTest fun s => reply (irReleased s) .ok)) s

/-- SET_REMOTE (R162). -/
def execSetRemote (channel change wakeAny : Byte) (s : State) : Out :=
  quiet (panel (setting (RemoteSettings.parse channel change wakeAny)
    (fun v => setRmi (fun r => { r with cfg := v })))) s

def Focus.code : Focus → Nat
  | .stopped => 0
  | .run true _ _ => 1
  | .run false _ _ => 2

/-- Table 9.6. -/
def remotePayload (r : Rmi) : List Byte :=
  [b8 (bit r.fwd.pressed 0 + bit r.rev.pressed 1 + bit r.fin.pressed 2 + bit r.fout.pressed 3),
   b8 (bit r.fwd.pressedChg 0 + bit r.rev.pressedChg 1 + bit r.fin.pressedChg 2 + bit r.fout.pressedChg 3
     + bit r.fwd.releasedChg 4 + bit r.rev.releasedChg 5 + bit r.fin.releasedChg 6 + bit r.fout.releasedChg 7),
   optByte 0xFF r.irHeld, optByte 0xFF r.lastKey,
   b8 (bit r.unread 0 + bit r.test 1 + bit r.cfg.changeEnable 2 + bit r.cfg.wakeAny 3),
   optByte 0xFF r.digit, b8 r.focus.code, b8 r.irDrops, optByte 16 r.cfg.channel]

/-- READ_REMOTE (R162): unread is cleared and the drop count becomes 0. -/
def execReadRemote (s : State) : Out :=
  quiet (panel fun s => replyOk (setRmi (fun r => { r with unread := false, irDrops := 0 }) s) (remotePayload s.rmi)) s

end Sys2Proof.Machine
end

