-- ==== Sys2Proof/Machine/Deck.lean ====
section
/-! DEFINITION. Meanings of the DKC commands (05). -/

namespace Sys2Proof.Machine

/-- DKC acts on its inputs and claims: not in STANDBY and RESET_HELD (R105). -/
def deckActs (s : State) : Bool := s.pnp.power = .run || s.pnp.power = .standbyPending

def panelDeck (f : State → State × Status) (s : State) : Answer :=
  ((f s).1, .of (f s).2)

/-- DECK_PLAY (R94). -/
def execDeckPlay (s : State) : Out := run (panel (panelDeck (deckPlayFrom true))) s

/-- DECK_PAUSE (R97). -/
def execDeckPause (s : State) : Out := quiet (panel (panelDeck pauseClaim)) s

/-- DECK_STOP (R98). -/
def execDeckStop (s : State) : Out := run (panel (panelDeck fun s => (deckStopAll s, .ok))) s

/-- An audio ramp from the present level (R102). -/
def startAudio (level fade : Nat) (s : State) : State :=
  { s with dkc := { s.dkc with audio := .from s.dkc.audio.level level fade } }

/-- SET_AUDIO (R102). -/
def execSetAudio (level fade : Byte) (s : State) : Out :=
  quiet (panel fun s =>
    if level.toNat ≤ 63 ∧ fade.toNat ≤ 99 then reply (startAudio level.toNat fade.toNat s) .ok
    else reply s .badArg) s

/-- SET_DECK (R104). -/
def execSetDeck (external holdMute initial : Byte) (s : State) : Out :=
  quiet (panel (setting (DeckSettings.parse external holdMute initial)
    (fun v s => { s with dkc := { s.dkc with cfg := v } }))) s

/-- Table 5.4. -/
def deckPayload (s : State) : List Byte :=
  let d := s.dkc
  [b8 d.deck.code,
   b8 (bit d.deck.play 0 + bit d.deck.pause 1 + bit d.stopPulse.isSome 2 + bit s.pins.running 3
     + bit s.pins.tapeEnd 4 + bit s.mute 5)]
    ++ le16 d.clock
    ++ [b8 d.audio.level, b8 d.audio.target, b8 (d.audio.duration - d.audio.elapsed),
        b8 (bit d.cfg.external 0 + bit d.cfg.holdMute 1), b8 d.cfg.initAudio]

/-- READ_DECK (R104). -/
def execReadDeck (s : State) : Out := quiet (panel fun s => replyOk s (deckPayload s)) s

/-- STOP_PULSE_END (R93). -/
def execStopPulseEnd (s : State) : Out := quiet (fun s => { s with dkc := { s.dkc with stopPulse := none } }) s

def setDeckPins (running tapeEnd : Bool) (s : State) : State := { s with pins := { s.pins with running, tapeEnd } }

/-- END becomes active in PLAYING (R96). -/
def endActive (s : State) : State :=
  if deckActs s = true ∧ s.dkc.deck = .playing then
    deckEnded { s with dkc := { s.dkc with deck := .ended, stall := none } }
  else s

/-- RUNNING rises (R95, R96, R100). -/
def runningUp (s : State) : State :=
  if deckActs s = false then s
  else match s.dkc.deck with
    | .starting => reportDeck .starting (deckSettle s)
    | .playing => { s with dkc := { s.dkc with stall := none } }
    | .stopped =>
      if s.dkc.stopPulse = none ∧ s.shc.phase ≠ .held then
        let s1 := setDeck .playing s
        if s.dkc.cfg.external then (startShow s1).1 else s1
      else s
    | _ => s

/-- RUNNING falls (R96, R97). A fall in PLAYING with END active since before the play began (R100) starts no stall
timer and leaves the deck PLAYING (DESIGN CHOICE, log 32). -/
def runningDown (s : State) : State :=
  if deckActs s = false then s
  else match s.dkc.deck with
    | .playing => if s.pins.tapeEnd then s else { s with dkc := { s.dkc with stall := some 0 } }
    | .pausing => { s with dkc := { s.dkc with deck := .paused, timerMs := 0 } }
    | _ => s

/-- A change of RUNNING with the level of END: an END that has risen with it is taken first (log 10). -/
def deckEdge (running tapeEnd : Bool) (s : State) : State :=
  let s1 := setDeckPins running tapeEnd s
  let s2 := if tapeEnd && !s.pins.tapeEnd then endActive s1 else s1
  if running = s.pins.running then s2 else if running then runningUp s2 else runningDown s2

/-- RUNNING_RISE (R95, R96, R100). -/
def execRunningRise (tapeEnd : Bool) (s : State) : Out := runPin (setDeckPins true tapeEnd) (deckEdge true tapeEnd) s

/-- RUNNING_FALL (R96, R97). -/
def execRunningFall (tapeEnd : Bool) (s : State) : Out :=
  runPin (setDeckPins false tapeEnd) (deckEdge false tapeEnd) s

/-- END_RISE (R96). -/
def execEndRise (s : State) : Out :=
  runPin (fun s => setDeckPins s.pins.running true s) (fun s => deckEdge s.pins.running true s) s

/-- START_TIMEOUT (R95, R99). -/
def execStartTimeout (s : State) : Out :=
  run (fun s => if s.dkc.deck = .starting then deckFail .deckNoStart s else s) s

/-- STALL_TIMEOUT (R96, R99). -/
def execStallTimeout (s : State) : Out :=
  run (fun s => if s.dkc.deck = .playing ∧ s.dkc.stall ≠ none then deckFail .deckStall s else s) s

/-- PAUSE_TIMEOUT (R97, R99). -/
def execPauseTimeout (s : State) : Out :=
  run (fun s => if s.dkc.deck = .pausing then deckFail .deckNoPause s else s) s

/-- SHOW_CLOCK_TICK (R101): wrapping after 65535. -/
def execShowClockTick (s : State) : Out :=
  quiet (fun s =>
    if s.dkc.deck = .playing ∧ deckActs s = true then
      { s with dkc := { s.dkc with clock := (s.dkc.clock + 1) % 65536, clockMs := 0 } }
    else s) s

/-- AUDIO_RAMP_TICK (R102). -/
def execAudioRampTick (s : State) : Out :=
  quiet (fun s =>
    if s.dkc.audio.elapsed < s.dkc.audio.duration ∧ deckActs s = true then
      { s with dkc := { s.dkc with audio := { s.dkc.audio with elapsed := s.dkc.audio.elapsed + 1, ms := 0 } } }
    else s) s

end Sys2Proof.Machine
end

