-- ==== Sys2Proof/Machine/Runner.lean ====
section
/-! DEFINITION. Meanings of the CRN commands (07): the cue table, the take of a record and the start of a step. -/

namespace Sys2Proof.Machine

def setCrn (f : Crn → Crn) (s : State) : State := { s with crn := f s.crn }

def stepNumberOk (n : Byte) : Bool := 1 ≤ n.toNat && n.toNat ≤ Config.steps

/-- WRITE_STEP (R122). -/
def execWriteStep (number : Byte) (record : List Byte) (s : State) : Out :=
  quiet (panel fun s =>
    match stepNumberOk number, StepRec.parse record with
    | true, some r =>
      reply (setCrn (fun c => { c with table := updAt (fun _ => r) (number.toNat - 1) c.table }) s) .ok
    | _, _ => reply s .badArg) s

/-- The record of a step, none for an empty one or a number outside 1–200. -/
def Crn.step (c : Crn) (n : Nat) : Option StepRec := if n = 0 then none else c.table.getD (n - 1) none

/-- READ_STEP (R123). -/
def execReadStep (number : Byte) (s : State) : Out :=
  quiet (panel fun s =>
    if stepNumberOk number then replyOk s (number :: stepBytes (s.crn.step number.toNat)) else reply s .badArg) s

/-- ERASE_STEPS (R123). -/
def execEraseSteps (first last : Byte) (s : State) : Out :=
  quiet (panel fun s =>
    if stepNumberOk first && stepNumberOk last && first.toNat ≤ last.toNat then
      reply (setCrn (fun c => { c with
        table := mapRange (fun _ => none) (first.toNat - 1) (last.toNat - 1) 0 c.table }) s) .ok
    else reply s .badArg) s

/-- RUN_STEP (R125): the class check, then the number. -/
def execRunStep (number : Byte) (s : State) : Out :=
  quiet (panel (panelRequest .shows fun s =>
    if 1 ≤ number.toNat ∧ number.toNat ≤ 254 then offerFrom .panel (.step number.toNat) s else (s, .badArg))) s

/-- FLUSH_CUES (R126). -/
def execFlushCues (s : State) : Out := quiet (panel fun s => reply (flushQueue s) .ok) s

def CueOrigin.code : CueOrigin → Nat
  | .tape => 0
  | .link => 1
  | .panel => 2
  | .remote => 3
  | .dwell => 4

def CueRec.bytes (r : CueRec) : List Byte :=
  let (kind, number) := match r.kind with
    | .next => (0, 0)
    | .step n => (1, n)
  [b8 r.origin.code, b8 kind, b8 number] ++ le16 r.stamp

/-- Table 7.6. -/
def cuesPayload (s : State) : List Byte :=
  let c := s.crn
  let frozen := c.dwell.isSome && s.shc.phase = .held
  [b8 c.current,
   b8 (bit c.progress.isSome 0 + bit (c.dwell.isSome && !frozen) 1 + bit frozen 2 + bit c.stepEmpty 3
     + bit c.stepFault 4 + bit c.cueLost 5)]
    ++ le16 (c.dwell.getD 0)
    ++ [b8 c.faultStep, b8 (match c.faultStatus with
        | some st => st.code
        | none => 0), b8 c.queue.length, b8 s.takeWait]
    ++ (c.queue.map CueRec.bytes).flatten

/-- READ_CUES (R136): the marks are cleared and the fault detail is none. -/
def execReadCues (s : State) : Out :=
  quiet (panel fun s =>
    replyOk (setCrn (fun c => { c with
      stepEmpty := false, stepFault := false, cueLost := false, faultStep := 0, faultStatus := none }) s)
      (cuesPayload s)) s

/-- The runner acts on SAR's answer to a transport request (R129, R131). -/
def awaitAnswer (number : Nat) (s : State) : Except Status Taken → State
  | .error st => stepComplete (setStepFault number st s)
  | .ok t =>
    match t.here with
    | .started => setCrn (fun c => { c with awaited := .started }) s
    | .pending | .merged => setCrn (fun c => { c with awaited := .pending }) s
    | _ => stepComplete s

def runnerRequest (number : Nat) (kind : ChangeKind) (arg : Nat) (fade : Byte) (s : State) : State :=
  let a := changeRequest .program kind arg fade s
  awaitAnswer number a.1 a.2

/-- A step's level (R128): a SET LEVEL of source PROGRAM. -/
def stepLevel (number : Nat) (r : StepRec) (s : State) : State :=
  match r.level with
  | none => s
  | some l =>
    let a := sourced .program .lamp (setLevelTaken l r.fade) s
    if a.2 = .ok then a.1 else setStepFault number a.2 a.1

def stepAudio (r : StepRec) (s : State) : State :=
  match r.audio with
  | none => s
  | some (l, f) => startAudio l f s

/-- Table 10.4 kind and payload of a link action (R130). -/
def linkActionFrame (r : StepRec) (l : LinkAction) : Byte × List Byte :=
  match l.kind with
  | .change => (1, [b8 l.arg1, b8 l.arg2, b8 r.fade])
  | .level => (2, [b8 l.arg1, b8 l.arg2])
  | .lamp => (3, [b8 l.arg1])
  | .hold => (4, [])
  | .resume => (5, [])
  | .step => (6, [b8 l.arg1])

def stepLink (r : StepRec) (s : State) : State :=
  match r.link with
  | none => s
  | some l => (offerOrOverflow l.dest.byte (linkActionFrame r l).1 (linkActionFrame r l).2 s).1

def stepDeck (number : Nat) (r : StepRec) (s : State) : State :=
  match r.deck with
  | .none => s
  | .stop => deckStopAll s
  | .play =>
    let a := deckPlayFrom false s
    if a.2 = .ok then a.1 else setStepFault number a.2 a.1

/-- Table 7.5. -/
def stepTransport (number : Nat) (r : StepRec) (s : State) : State :=
  match r.action with
  | .none => stepComplete s
  | .next => runnerRequest number .advance 1 (b8 r.fade) s
  | .prev => runnerRequest number .reverse 1 (b8 r.fade) s
  | .slot n => runnerRequest number .seek n (b8 r.fade) s
  | .home => runnerRequest number .home 0 (b8 r.fade) s

/-- STEP_START (R128): the actions in their order. -/
def startStep (number : Nat) (r : StepRec) (s : State) : State :=
  let s1 := setCrn (fun c => { c with
    current := number, latched := some r, progress := some ⟨false, number⟩, awaited := .none }) s
  stepTransport number r (stepDeck number r (stepLink r (stepAudio r (stepLevel number r s1))))

/-- The step that a record names (R127). -/
def namedStep (c : Crn) : CueKind → Nat
  | .step n => n
  | .next =>
    if c.current = 0 then 1
    else match c.step c.current with
      | some r => r.next.getD (c.current + 1)
      | none => c.current + 1

/-- A record that drives the cue program. -/
def takeProgram (k : CueKind) (s : State) : State :=
  let n := namedStep s.crn k
  match s.crn.step n with
  | some r => startStep n r s
  | none => setStepEmpty n s

/-- A DIRECT request outstanding; a NEXT names no number (R133, log 19). -/
def directRequest (number : Nat) (kind : ChangeKind) (arg : Nat) (s : State) : State :=
  runnerRequest number kind arg Config.defaultFadeByte
    (setCrn (fun c => { c with progress := some ⟨true, number⟩, awaited := .none }) s)

/-- A record in DIRECT mode (R133). -/
def takeDirect (k : CueKind) (s : State) : State :=
  match k with
  | .next => directRequest 0 .advance 1 s
  | .step n => if 1 ≤ n ∧ n ≤ 99 then directRequest n .seek n s else setStepFault n .range s

/-- The take of the head record (R127): it stops a dwell timer. -/
def takeCue (s : State) : State :=
  match s.crn.queue with
  | [] => s
  | r :: rest =>
    if s.takeWait ≠ 0 then s
    else
      let s1 := stopDwell (setCrn (fun c => { c with queue := rest }) s)
      if s.cdc.cfg.mode = .direct then takeDirect r.kind s1 else takeProgram r.kind s1

/-- CUE_TAKE (R127). -/
def execCueTake (s : State) : Out := run takeCue s

/-- The dwell timer runs (R134). -/
def dwellRuns (s : State) : Bool :=
  s.crn.dwell.isSome && (s.shc.phase = .running || s.shc.phase = .ending) && s.pnp.power = .run

/-- DWELL_EXPIRY (R134): no DWELL record arises in DIRECT mode (R133). -/
def execDwellExpiry (s : State) : Out :=
  quiet (fun s =>
    if dwellRuns s then
      let s1 := stopDwell s
      if s1.crn.queue.isEmpty && s.cdc.cfg.mode ≠ .direct then pushCue .dwell .next s1 else s1
    else s) s

end Sys2Proof.Machine
end

