-- ==== Sys2Proof/Machine/ResetOps.lean ====
section
/-! DEFINITION. Shared operations of PNP (11) over every block: power-on reset, control reset, the image and its
application, the entry to STANDBY. -/

namespace Sys2Proof.Machine

/-! ## Blocks at a reset -/

/-- CSQ at a reset (R43): `kept` says that the origin of a SEATED gate is kept. -/
def Csq.atReset (q : Csq) (sensed : Sensed) (kept : Bool) (cfg : SeqSettings) : Csq :=
  let r := { Csq.reset with cfg }
  match sensed with
  | .clear => r
  | .seated => { r with gate := .seated, origin := if kept then q.origin else none }
  | .partway => { r with gate := .partway, state := .jammed, stop := .partialAtReset }

/-- LMC at control reset, before its settings are loaded (R92). A fan-stall mark cleared here starts the stall timer
again (R87). -/
def lampReset (s : State) : State :=
  let s1 := if burning s then enterCooling s else s
  setLmc (fun l => { l.clearMarks.clearGuard with
    claim := .none, dim := false, owed := false, fanStall := false
    stallMs := if l.fanStall then 0 else l.stallMs }) s1

/-- DKC at a reset (R105). A control reset keeps the show clock, and with it the part of a tenth already counted (DESIGN
CHOICE, log 41). -/
def Dkc.atReset (d : Dkc) (cfg : DeckSettings) : Dkc :=
  { d with deck := .stopped, stopPulse := startPulse d.stopPulse, timerMs := 0, stall := none, cfg,
           audio := .still cfg.initAudio }

/-- RMI at a reset (R163): the lines stand released until their first reading. -/
def rmiAtReset (keys : List KeyEntry) (cfg : RemoteSettings) : Rmi := { Rmi.reset with keys, cfg }

/-- LKC at a reset (R178): the node address and the lock stand. -/
def Lkc.atReset (l : Lkc) (v : Settings) : Lkc :=
  { Lkc.reset with node := l.node, lock := l.lock, groups := v.groups, enable := v.linkEnable, cfg := v.link }.listen

/-- The causes that SHC includes in its rebuilt set (R149). -/
def rebuiltCauses (q : Csq) (l : Lmc) : Causes :=
  { Causes.empty with transport := q.state = .jammed, lamp := l.lamp = .fault || l.trip }

/-- Attention after a reset: clear but for a CSQ that comes up JAMMED (R43, R190). -/
def pendAtReset (q : Csq) : Pend := { Pend.clear with jam := q.state = .jammed }

/-- A STORE in flight is abandoned by a reset, with the signature left 0000h (R186, R190); every other byte of the memory
stands as it stood (DESIGN CHOICE, log 7). -/
def abandonStore (s : State) : State :=
  if s.pnp.store = none then s else { s with mem := s.mem.writes [(0, 0), (1, 0)] }

/-! ## Power-on reset (R191) -/

/-- Every block at its power-on values, with the settings of a valid image or the built-in ones. -/
def powerOn (memAck : Bool) (s0 : State) : State :=
  let s := abandonStore s0
  let img := imageRead memAck s.mem
  let v := img.getD .builtIn
  let csq := s.csq.atReset s.pins.sensed false v.seq
  { pending := s.pending
    pins := { s.pins with porstLow := false }
    psdo := s.psdo
    mem := s.mem
    tru := { Tru.reset with cfg := v.tray }
    csq := csq
    sar := { Sar.reset with sources := v.sources, cfg := v.arb }
    lmc := { Lmc.reset with cfg := v.lamp, showLevel := v.lamp.initShow, hours := v.hours }
    dkc := Dkc.reset.atReset v.deck
    cdc := { Cdc.reset with cfg := v.decoder }
    crn := { Crn.reset with table := v.steps }
    shc := { Shc.reset with autoResume := v.autoResume, causes := rebuiltCauses csq Lmc.reset }
    rmi := rmiAtReset v.keys v.remote
    lkc := Lkc.atReset { Lkc.reset with node := v.node, lock := v.node ≠ Config.unassigned } v
    pnp := { Pnp.reset with pend := pendAtReset csq, cfg := v.attn, idleSetting := v.idle, memPresent := memAck,
                            defaulted := img.isNone } }

/-! ## Control reset (R190) -/

/-- Steps 1 to 4 of a control reset. A lamp hours write in flight waits again (log 20); the element time and the parity of a
word keep what they hold (DESIGN CHOICE, log 8). -/
def controlReset (memAck : Bool) (s0 : State) : State :=
  let s := lampReset (abandonStore s0)
  let img := imageRead memAck s.mem
  let v := img.getD .builtIn
  let csq := s.csq.atReset s.pins.sensed (s.csq.state = .idle && s.csq.gate = .seated) v.seq
  let lmc := { s.lmc with cfg := v.lamp, showLevel := v.lamp.initShow }.rederate
  { s with
    tru := { s.tru with cfg := v.tray, position := if s.csq.state = .indexing then none else s.tru.position }
    csq := csq
    sar := { Sar.reset with sources := v.sources, cfg := v.arb }
    lmc := lmc
    dkc := s.dkc.atReset v.deck
    cdc := { s.cdc.restart with cfg := v.decoder, flags := .clear, last := .none }
    crn := { Crn.reset with table := v.steps }
    shc := { phase := .stopped, ended := false, autoResume := v.autoResume, causes := rebuiltCauses csq lmc }
    rmi := rmiAtReset v.keys v.remote
    lkc := s.lkc.atReset v
    pnp := { s.pnp with
      resp := none, readPos := 0, pend := pendAtReset csq, cfg := v.attn, store := none, load := false
      hoursWrite := none
      hoursWaiting := if s.pnp.hoursWaiting = none then s.pnp.hoursWrite else s.pnp.hoursWaiting
      memPresent := memAck, defaulted := img.isNone
      idleSetting := v.idle, idleElapsed := 0, idleMs := 0 } }

/-- Steps 1 to 5: the return to RUN with power event RESET_DONE. -/
def resetToRun (memAck : Bool) (s : State) : State := powerEvent .resetDone (setPower .run (controlReset memAck s))

/-! ## LOAD (R187) -/

/-- The four conditions of LOAD SETTINGS. -/
def loadAllowed (s : State) : Bool :=
  s.csq.state = .idle && s.sar.waiting.isNone && s.shc.phase = .stopped && s.lkc.txq.isEmpty

/-- The image applied to the running part; running state stands, the heat guard's cap and elapsed time with it (R85 names
SET LAMP alone; log 29). The derate cap is set again (R82). -/
def applyImage (v : Settings) (s : State) : State :=
  let s1 := applyDecoder v.decoder (setLmc (fun l => { l with cfg := v.lamp }.rederate) s)
  { s1 with
    tru := { s1.tru with cfg := v.tray }
    csq := { s1.csq with cfg := v.seq }
    sar := { s1.sar with sources := v.sources, cfg := v.arb }
    dkc := { s1.dkc with cfg := v.deck }
    crn := { s1.crn with table := v.steps }
    shc := { s1.shc with autoResume := v.autoResume }
    rmi := { s1.rmi with keys := v.keys, cfg := v.remote }
    lkc := { s1.lkc.flush with enable := v.linkEnable, cfg := v.link, groups := v.groups }.listen
    pnp := { s1.pnp with cfg := v.attn, idleSetting := v.idle, defaulted := false } }

/-- The end of a LOAD. -/
def endLoad (memAck : Bool) (s : State) : State :=
  let s1 := { s with pnp := { s.pnp with load := false, memPresent := memAck } }
  match imageRead memAck s.mem with
  | none => powerEvent .loadFailed (raiseFault .settings s1)
  | some v => if loadAllowed s1 then powerEvent .loadDone (applyImage v s1) else powerEvent .loadAbandoned s1

/-! ## Standby (R188) -/

/-- The entry to STANDBY may be made. -/
def standbyReady (s : State) : Bool :=
  s.pnp.power = .standbyPending && s.csq.state = .idle && s.lmc.lamp = .off && s.lkc.txq.isEmpty

/-- The entry to STANDBY with the blocks' standby values. -/
def enterStandby (s : State) : State :=
  let s1 := deckStopAll s
  powerEvent .standbyEntered (setPower .standby { s1 with rmi := s1.rmi.sleep, cdc := s1.cdc.restart })

end Sys2Proof.Machine
end

