-- ==== Sys2Proof/Machine/Panelport.lean ====
section
/-! DEFINITION. Meanings of the PNP commands (11). -/

namespace Sys2Proof.Machine

/-- The bytes of a response frame (Table 11.2). -/
def Response.bytes (r : Response) : List Byte := [b8 r.status.code, b8 r.payload.length] ++ r.payload

/-- A read transaction of `n` bytes (R180). -/
def readOut (n : Nat) (s : State) : State :=
  match s.pnp.resp with
  | none => { s with psdo := [0xFF, (0 : Byte)].take n }
  | some r =>
    let out := r.bytes
    let whole := decide (out.length ≤ n)
    { s with
      psdo := out.take n
      pnp := { s.pnp with resp := if whole then none else some r, readPos := if whole then 0 else n } }

/-- PANEL_READ (R180). -/
def execPanelRead (clocked : Nat) (s : State) : Out := quiet (readOut clocked) s

/-- The refusal of a command code by the power state (R181). -/
def codeRefusal (c : Byte) (p : Power) : Option Status :=
  powerRefusal (c.toNat ∈ [0x08, 0x02, 0x03, 0x01, 0x09, 0x30]) (c.toNat ∈ [0x0A, 0x02, 0x01]) p

/-- The status of a frame that fails a check of R181: code, power state, frame. -/
def badFrameStatus (c : Byte) (p : Power) : Status :=
  if codeKnown c = false then .unknownCommand
  else match codeRefusal c p with
    | some st => st
    | none => .badArg

/-- UNKNOWN_COMMAND (R181): a frame that is no command of Table 11.11 (log 36). A frame that passes the three checks
and names no row (a RESET or REMOTE TEST value outside its set) is refused with BAD_ARG by its block. -/
def execUnknownCommand (frame : List Byte) (s : State) : Out :=
  quiet (fun s =>
    match frame with
    | [] => s
    | c :: _ =>
      if c = 0 then s
      else if (frameBody frame).isSome ∧ codeRefusal c s.pnp.power = none then writeResponse (.of .badArg) (idleZero s)
      else writeResponse (.of (badFrameStatus c s.pnp.power)) s) s

/-- READ_ID (R191). -/
def execReadId (s : State) : Out := quiet (panelIn true true fun s => replyOk s Config.idBytes) s

/-- Table 11.9. -/
def statusPayload (s : State) : List Byte :=
  let p := s.pnp
  [b8 p.power.code, b8 p.event.code,
   b8 (bit p.defaulted 0 + bit p.memPresent 1 + bit p.store.isSome 2 + bit p.load 3 + bit p.hoursWaiting.isSome 4
     + bit p.faults.any 5 + bit s.tru.present 6),
   b8 p.idleSetting] ++ le16 p.idleElapsed ++ [b8 s.topCause]

/-- READ_STATUS (R191): POWER is cleared. -/
def execReadStatus (s : State) : Out :=
  quiet (panelIn true true fun s =>
    replyOk { s with pnp := { s.pnp with pend := { s.pnp.pend with power := false } } } (statusPayload s)) s

/-- READ_ATTENTION (R184). -/
def execReadAttention (s : State) : Out :=
  quiet (panelIn true false fun s =>
    replyOk s [b8 s.topCause, s.pendingSet, s.pnp.cfg.enable, b8 (bit s.pnp.cfg.off 0)]) s

/-- Table 11.6. -/
def faultsPayload (f : Faults) : List Byte :=
  [b8 (bit f.lampOpen 0 + bit f.overtempTrip 1 + bit f.fanStall 2 + bit f.trayStall 3 + bit f.traySlip 4
     + bit f.shutter 5 + bit f.deckNoStart 6 + bit f.deckStall 7),
   b8 (bit f.deckNoPause 0 + bit f.settings 1)]

/-- READ_FAULTS (R183): all ten flags and FAULT are cleared. -/
def execReadFaults (s : State) : Out :=
  quiet (panel fun s =>
    replyOk { s with pnp := { s.pnp with faults := .clear, pend := { s.pnp.pend with fault := false } } }
      (faultsPayload s.pnp.faults)) s

/-- SET_ATTENTION (R184). -/
def execSetAttention (enable disable : Byte) (s : State) : Out :=
  quiet (panel (setting (AttnSettings.parse enable disable)
    (fun v s => { s with pnp := { s.pnp with cfg := v } }))) s

/-- SET_POWER (R189). -/
def execSetPower (minutes : Byte) (s : State) : Out :=
  run (panel fun s =>
    if minutes.toNat ≤ 240 then
      reply { s with pnp := { s.pnp with idleSetting := minutes.toNat, idleElapsed := 0, idleMs := 0 } } .ok
    else reply s .badArg) s

/-- STANDBY (R188). -/
def execStandby (s : State) : Out := run (panel (panelRequest .power requestStandby)) s

/-- WAKE (R188). -/
def execWake (s : State) : Out := run (panelIn true false fun s => reply (wakeUp s) .ok) s

/-- STANDBY_ENTRY (R188). -/
def execStandbyEntry (s : State) : Out := run (fun s => if standbyReady s then enterStandby s else s) s

/-- IDLE_TIMER_EXPIRY (R189). -/
def execIdleTimerExpiry (s : State) : Out :=
  run (fun s => if s.idleRuns then (requestStandby (idleZero s)).1 else s) s

/-- RESET_CONTROL (R190). -/
def execResetControl (memAck : Bool) (s : State) : Out :=
  run (panelIn true false fun s => reply (resetToRun memAck s) .ok) s

/-- RESET_HOLD (R190). -/
def execResetHold (memAck : Bool) (s : State) : Out :=
  run (panelIn true false fun s => reply (setPower .resetHeld (controlReset memAck s)) .ok) s

/-- RELEASE (R190): in RUN and STANDBY_PENDING nothing changes. -/
def execRelease (memAck : Bool) (s : State) : Out :=
  run (panelIn false true fun s =>
    reply (if s.pnp.power = .resetHeld then resetToRun memAck s else s) .ok) s

/-- STORE_SETTINGS (R186): the snapshot is taken at once. -/
def execStoreSettings (s : State) : Out :=
  quiet (panel fun s =>
    if s.pnp.store.isSome || s.pnp.load then reply s .busy
    else reply { s with pnp := { s.pnp with store := some s.settings } } .ok) s

/-- The end of a store after `acked` byte writes (R186). -/
def endStore (v : Settings) (acked : Nat) (s : State) : State :=
  let s1 := { s with mem := s.mem.writes (storeLanded v acked), pnp := { s.pnp with store := none } }
  if storeLength ≤ acked then powerEvent .storeDone { s1 with pnp := { s1.pnp with defaulted := false } }
  else powerEvent .storeFailed (raiseFault .settings s1)

/-- STORE_COMPLETE (R186): the store runs after an hours write in flight. -/
def execStoreComplete (acked : Nat) (s : State) : Out :=
  quiet (fun s =>
    match s.pnp.store with
    | some v => if s.pnp.hoursWrite = none then endStore v acked s else s
    | none => s) s

/-- LOAD_SETTINGS (R187). -/
def execLoadSettings (s : State) : Out :=
  quiet (panel fun s =>
    if s.pnp.store.isSome || s.pnp.load || !loadAllowed s then reply s .busy
    else reply { s with pnp := { s.pnp with load := true } } .ok) s

/-- LOAD_COMPLETE (R187): the read runs after an hours write in flight. -/
def execLoadComplete (memAck : Bool) (s : State) : Out :=
  run (fun s => if s.pnp.load = true ∧ s.pnp.hoursWrite = none then endLoad memAck s else s) s

/-- A waiting hours write may begin (R186). -/
def hoursReady (s : State) : Bool :=
  s.pnp.hoursWaiting.isSome && s.pnp.store.isNone && !s.pnp.load && s.pnp.hoursWrite.isNone

/-- HOURS_WRITE_START (R186). -/
def execHoursWriteStart (s : State) : Out :=
  quiet (fun s =>
    if hoursReady s then
      { s with pnp := { s.pnp with hoursWrite := s.pnp.hoursWaiting, hoursWaiting := none } }
    else s) s

/-- HOURS_WRITE_COMPLETE (R186): a write that fails sets SETTINGS. -/
def execHoursWriteComplete (acked : Nat) (s : State) : Out :=
  quiet (fun s =>
    match s.pnp.hoursWrite with
    | some h =>
      let s1 := { s with mem := s.mem.writes ((hoursWrites h).take acked), pnp := { s.pnp with hoursWrite := none } }
      if 4 ≤ acked then s1 else raiseFault .settings s1
    | none => s) s

/-- PORST_LOW (R191). -/
def execPorstLow (s : State) : Out := .next { s with pins := { s.pins with porstLow := true } }

/-- POWER_ON_RESET (R191): PORST rises. -/
def execPowerOnReset (memAck : Bool) (s : State) : Out := .next (finish (powerOn memAck s))

end Sys2Proof.Machine
end

