-- ==== Sys2Proof/Machine/Sequencer.lean ====
section
/-! DEFINITION. Meanings of the CSQ commands (02). -/

namespace Sys2Proof.Machine

def setGatePins (seat clear liftUp : Bool) (s : State) : State := { s with pins := { s.pins with seat, clear, liftUp } }

/-- GATE_SENSOR_CHANGE (R20). -/
def execGateSensorChange (seat clear liftUp : Bool) (s : State) : Out :=
  runPin (setGatePins seat clear liftUp)
    (fun s => followSensors s.pins.sensed (setGatePins seat clear liftUp s)) s

/-- SHUTTER_CLOSED (R24). -/
def execShutterClosed (s : State) : Out := runPin (setShcl true) shutterActive s

/-- SHUTTER_TIMEOUT (R24, R26, R31). -/
def execShutterTimeout (s : State) : Out := run shutterLimit s

/-- SHUTTER_CLOSED_LOST (R26). -/
def execShutterClosedLost (s : State) : Out := runPin (setShcl false) shutterInactive s

/-- SHUTTER_OPENED (R31). -/
def execShutterOpened (s : State) : Out := runPin (setShcl false) shutterInactive s

/-- A lift under way: of the change, back in a drop retry, or back in a SKIP continuation. -/
def Csq.liftRuns (q : Csq) : Bool := q.lft

/-- LIFT_SUCCESS (R27, R29, R30): LIFT_UP with the sensed condition CLEAR. -/
def execLiftSuccess (s : State) : Out :=
  run (fun s => if s.csq.liftRuns then liftDone (setGatePins false true true s) else s) s

/-- LIFT_TIMEOUT (R27, R29, R30). -/
def execLiftTimeout (s : State) : Out := run liftLimit s

/-- LIFT_RETRY_DROP_END (R27): the lift is driven again with a new timer. -/
def execLiftRetryDropEnd (s : State) : Out :=
  run (fun s => if s.csq.drive = .retryDrop then setCsq (fun q => { q with drive := .lift, timerMs := 0 }) s else s) s

/-- STEP_TIMEOUT (R28, R34). -/
def execStepTimeout (s : State) : Out :=
  run (fun s => if s.csq.state = .indexing then enterStalled .stepLimit s else s) s

/-- DROP_SEATED (R29): SEAT is taken. -/
def execDropSeated (s : State) : Out :=
  run (fun s => if s.csq.drive = .drop then dropLands (setGatePins true false s.pins.liftUp s) else s) s

/-- DROP_TIMEOUT (R29). -/
def execDropTimeout (s : State) : Out := run (fun s => if s.csq.drive = .drop then dropLimit s else s) s

/-- CLEAR_JAM (R36, R61). -/
def execClearJam (s : State) : Out := run (panel (panelRequest .transport clearJamAt)) s

/-- CLEAR_FAULT_SHUTTER (R26). -/
def execClearFaultShutter (s : State) : Out :=
  quiet (panel fun s => reply (setCsq (fun q => { q with shutFault := false }) s) .ok) s

/-- SET_SEQUENCER (R41). -/
def execSetSequencer (mode action retries : Byte) (s : State) : Out :=
  quiet (panel (setting (SeqSettings.parse mode action retries) (fun v => setCsq (fun q => { q with cfg := v })))) s

/-- The CLEAR JAM reveal: REVEALING with no change in flight (R36). -/
def Csq.jamReveal (q : Csq) : Bool := q.state = .revealing && q.flight.isNone

/-- Table 2.7 bytes 6 to 11. -/
def flightPayload (q : Csq) : List Byte :=
  match q.flight with
  | some f => [b8 f.kind.code, b8 f.owner.code, b8 f.target, b8 f.dir.code, b8 f.fade,
      b8 (bit f.halt 0 + 2 * q.retry + bit f.dim 3)]
  | none =>
    if q.jamReveal then [5, b8 q.keptOwner.code, 0xFF, 0, b8 q.keptFade, 0]
    else if q.state = .jammed then [0, b8 q.keptOwner.code, 0xFF, 0, b8 q.keptFade, 0]
    else [0, 0xFF, 0xFF, 0, 0, 0]

/-- Table 2.7. -/
def gatePayload (s : State) : List Byte :=
  let q := s.csq
  let p := s.pins
  [b8 q.state.code, b8 q.gate.code, optByte 0xFF q.origin,
   b8 (bit p.seat 0 + bit p.clear 1 + bit p.liftUp 2 + bit p.shcl 3 + bit q.shutClosed 4 + bit q.shutFault 5
     + bit q.orphaned 6 + bit (s.lmc.claim = .hold) 7),
   b8 q.stop.code, b8 (bit q.cfg.dim 0 + bit q.cfg.skip 1 + 4 * q.cfg.retries)]
    ++ flightPayload q ++ [optByte 0xFF s.tru.position]

/-- READ_GATE (R42): JAM is cleared. -/
def execReadGate (s : State) : Out :=
  quiet (panel fun s =>
    replyOk { s with pnp := { s.pnp with pend := { s.pnp.pend with jam := false } } } (gatePayload s)) s

end Sys2Proof.Machine
end

