-- ==== Sys2Proof/Machine/Tray.lean ====
section
/-! DEFINITION. Meanings of the TRU commands (01). -/

namespace Sys2Proof.Machine

def setTprs (v : Bool) (s : State) : State :=
  { s with pins := { s.pins with tprs := v }, tru := { s.tru with readingMs := if v then Config.trayStableMs else 0 } }

/-- TPRS has read the tray in place for 50 ms (R1). -/
def insertTray (s : State) : State :=
  let s1 := setTprs true s
  { s1 with tru := { s1.tru with present := true } }

/-- TPRS has read the tray out for 50 ms (R2). -/
def removeTray (s : State) : State :=
  let s1 := setTprs false s
  if s.tru.present then
    trayLost { s1 with tru := { s1.tru with present := false, position := none, map := Tru.clearedMap } }
  else s1

/-- TRAY_INSERTION (R1). -/
def execTrayInsertion (s : State) : Out := runPin (setTprs true) insertTray s

/-- TRAY_REMOVAL (R2, R39). -/
def execTrayRemoval (s : State) : Out := runPin (setTprs false) removeTray s

/-- The step of a pulse under drive; none with neither drive line active. -/
def driveStep (s : State) : Option (Nat → Nat) :=
  if s.csq.tdf then some (stepFrom true) else if s.csq.tdr then some (stepFrom false) else none

/-- Table 1.2, index pulse (R3, R5). -/
def indexPulse (s : State) : State :=
  match driveStep s, s.tru.position with
  | none, _ => s
  | some _, none => restartStep s
  | some step, some p =>
    if step p = 0 then enterStalled .slip (raiseFault .traySlip (setPosition none s))
    else positionReport (setPosition (some (step p)) s)

/-- Table 1.2, home pulse (R4). -/
def homePulse (s : State) : State :=
  match driveStep s, s.tru.position with
  | none, _ => s
  | some _, none => positionReport (setPosition (some 0) s)
  | some step, some p =>
    let s1 := setPosition (some 0) s
    positionReport (if step p = 0 then s1 else raiseFault .traySlip s1)

/-- INDEX_PULSE (R3). -/
def execIndexPulse (s : State) : Out := run indexPulse s

/-- HOME_PULSE (R4). -/
def execHomePulse (s : State) : Out := run homePulse s

/-- A range of positions that SET SLOT and CLEAR SLOT take (R14, R15). -/
def rangeOk (first last : Byte) : Bool := first.toNat ≤ last.toNat && last.toNat ≤ 99

/-- SET_SLOT (R14). -/
def execSetSlot (first last skip : Byte) (s : State) : Out :=
  quiet (panel fun s =>
    match rangeOk first last, onOff skip with
    | true, some v =>
      if s.tru.present then
        reply { s with tru := s.tru.update (fun r => { r with skip := v }) first.toNat last.toNat } .ok
      else reply s .trayAbsent
    | _, _ => reply s .badArg) s

/-- CLEAR_SLOT (R15). -/
def execClearSlot (first last : Byte) (s : State) : Out :=
  quiet (panel fun s =>
    if rangeOk first last = false then reply s .badArg
    else if s.tru.present then
      reply { s with tru := s.tru.update (fun r => { r with jams := 0, retired := false }) first.toNat last.toNat } .ok
    else reply s .trayAbsent) s

/-- Table 1.8. -/
def trayPayload (t : Tru) (first count : Nat) : List Byte :=
  let n := min count (Config.positions - first)
  [b8 (bit t.present 0), optByte 0xFF t.position, b8 t.cfg.retireLimit, b8 (bit t.cfg.skipEmpty 0), b8 first, b8 n]
    ++ ((t.map.drop first).take n).map SlotRec.byte

/-- READ_TRAY (R16). -/
def execReadTray (first count : Byte) (s : State) : Out :=
  quiet (panel fun s =>
    if first.toNat ≤ 99 ∧ 1 ≤ count.toNat ∧ count.toNat ≤ 50 then
      replyOk s (trayPayload s.tru first.toNat count.toNat)
    else reply s .badArg) s

/-- SET_TRAY (R9). -/
def execSetTray (limit skipEmpty : Byte) (s : State) : Out :=
  quiet (panel (setting (TraySettings.parse limit skipEmpty)
    (fun v s => { s with tru := { s.tru with cfg := v } }))) s

end Sys2Proof.Machine
end

