-- ==== Sys2Proof/Machine/Dispatch.lean ====
section
/-! DEFINITION. The meaning of every command: one arm per constructor of Instr, each one call of its meaning. -/

namespace Sys2Proof.Machine

open Sys2Proof

def exec (i : Instr) (s : State) : Host.Outcome State Fault Refusal :=
  match i with
  | .trayInsertion => Sys2Proof.Machine.execTrayInsertion s
  | .trayRemoval => Sys2Proof.Machine.execTrayRemoval s
  | .indexPulse => Sys2Proof.Machine.execIndexPulse s
  | .homePulse => Sys2Proof.Machine.execHomePulse s
  | .setSlot first last skip => Sys2Proof.Machine.execSetSlot first last skip s
  | .clearSlot first last => Sys2Proof.Machine.execClearSlot first last s
  | .readTray first count => Sys2Proof.Machine.execReadTray first count s
  | .setTray limit skipEmpty => Sys2Proof.Machine.execSetTray limit skipEmpty s
  | .gateSensorChange seat clear liftUp => Sys2Proof.Machine.execGateSensorChange seat clear liftUp s
  | .shutterClosed => Sys2Proof.Machine.execShutterClosed s
  | .shutterTimeout => Sys2Proof.Machine.execShutterTimeout s
  | .shutterClosedLost => Sys2Proof.Machine.execShutterClosedLost s
  | .shutterOpened => Sys2Proof.Machine.execShutterOpened s
  | .liftSuccess => Sys2Proof.Machine.execLiftSuccess s
  | .liftTimeout => Sys2Proof.Machine.execLiftTimeout s
  | .liftRetryDropEnd => Sys2Proof.Machine.execLiftRetryDropEnd s
  | .stepTimeout => Sys2Proof.Machine.execStepTimeout s
  | .dropSeated => Sys2Proof.Machine.execDropSeated s
  | .dropTimeout => Sys2Proof.Machine.execDropTimeout s
  | .clearJam => Sys2Proof.Machine.execClearJam s
  | .clearFaultShutter => Sys2Proof.Machine.execClearFaultShutter s
  | .setSequencer mode action retries => Sys2Proof.Machine.execSetSequencer mode action retries s
  | .readGate => Sys2Proof.Machine.execReadGate s
  | .advance count fade => Sys2Proof.Machine.execAdvance count fade s
  | .reverse count fade => Sys2Proof.Machine.execReverse count fade s
  | .seek slot fade => Sys2Proof.Machine.execSeek slot fade s
  | .home fade => Sys2Proof.Machine.execHome fade s
  | .halt => Sys2Proof.Machine.execHalt s
  | .tenureExpiry => Sys2Proof.Machine.execTenureExpiry s
  | .pendingChangeStart => Sys2Proof.Machine.execPendingChangeStart s
  | .setSource source record => Sys2Proof.Machine.execSetSource source record s
  | .readSource source => Sys2Proof.Machine.execReadSource source s
  | .readLastChange => Sys2Proof.Machine.execReadLastChange s
  | .setArbiter fade mask => Sys2Proof.Machine.execSetArbiter fade mask s
  | .readArbiter => Sys2Proof.Machine.execReadArbiter s
  | .lampOn => Sys2Proof.Machine.execLampOn s
  | .lampOff => Sys2Proof.Machine.execLampOff s
  | .setLevel level fade => Sys2Proof.Machine.execSetLevel level fade s
  | .lampReplaced => Sys2Proof.Machine.execLampReplaced s
  | .clearFaultTrip => Sys2Proof.Machine.execClearFaultTrip s
  | .setLamp settings => Sys2Proof.Machine.execSetLamp settings s
  | .readLamp => Sys2Proof.Machine.execReadLamp s
  | .temperatureSample reading => Sys2Proof.Machine.execTemperatureSample reading s
  | .preheatExpiry => Sys2Proof.Machine.execPreheatExpiry s
  | .coolingTimerExpiry => Sys2Proof.Machine.execCoolingTimerExpiry s
  | .lampRampTick => Sys2Proof.Machine.execLampRampTick s
  | .lcurActive active => Sys2Proof.Machine.execLcurActive s active
  | .lampOpenDetect => Sys2Proof.Machine.execLampOpenDetect s
  | .heatGuardExpiry => Sys2Proof.Machine.execHeatGuardExpiry s
  | .fanTachPulse => Sys2Proof.Machine.execFanTachPulse s
  | .fanStallExpiry => Sys2Proof.Machine.execFanStallExpiry s
  | .lampHoursTick => Sys2Proof.Machine.execLampHoursTick s
  | .deckPlay => Sys2Proof.Machine.execDeckPlay s
  | .deckPause => Sys2Proof.Machine.execDeckPause s
  | .deckStop => Sys2Proof.Machine.execDeckStop s
  | .setAudio level fade => Sys2Proof.Machine.execSetAudio level fade s
  | .setDeck external holdMute initial => Sys2Proof.Machine.execSetDeck external holdMute initial s
  | .readDeck => Sys2Proof.Machine.execReadDeck s
  | .stopPulseEnd => Sys2Proof.Machine.execStopPulseEnd s
  | .runningRise tapeEnd => Sys2Proof.Machine.execRunningRise tapeEnd s
  | .runningFall tapeEnd => Sys2Proof.Machine.execRunningFall tapeEnd s
  | .endRise => Sys2Proof.Machine.execEndRise s
  | .startTimeout => Sys2Proof.Machine.execStartTimeout s
  | .stallTimeout => Sys2Proof.Machine.execStallTimeout s
  | .pauseTimeout => Sys2Proof.Machine.execPauseTimeout s
  | .showClockTick => Sys2Proof.Machine.execShowClockTick s
  | .audioRampTick => Sys2Proof.Machine.execAudioRampTick s
  | .periodJudgment lowUs => Sys2Proof.Machine.execPeriodJudgment lowUs s
  | .edgeWatchExpiry => Sys2Proof.Machine.execEdgeWatchExpiry s
  | .holdMinReached => Sys2Proof.Machine.execHoldMinReached s
  | .wordStartCheck => Sys2Proof.Machine.execWordStartCheck s
  | .wordCue => Sys2Proof.Machine.execWordCue s
  | .setDecoder settings => Sys2Proof.Machine.execSetDecoder settings s
  | .readDecoder => Sys2Proof.Machine.execReadDecoder s
  | .writeStep number record => Sys2Proof.Machine.execWriteStep number record s
  | .readStep number => Sys2Proof.Machine.execReadStep number s
  | .eraseSteps first last => Sys2Proof.Machine.execEraseSteps first last s
  | .runStep number => Sys2Proof.Machine.execRunStep number s
  | .flushCues => Sys2Proof.Machine.execFlushCues s
  | .readCues => Sys2Proof.Machine.execReadCues s
  | .cueTake => Sys2Proof.Machine.execCueTake s
  | .dwellExpiry => Sys2Proof.Machine.execDwellExpiry s
  | .showStart => Sys2Proof.Machine.execShowStart s
  | .showStop => Sys2Proof.Machine.execShowStop s
  | .hold => Sys2Proof.Machine.execHold s
  | .resume => Sys2Proof.Machine.execResume s
  | .setShow autoResume => Sys2Proof.Machine.execSetShow autoResume s
  | .readShow => Sys2Proof.Machine.execReadShow s
  | .endingShowEnd => Sys2Proof.Machine.execEndingShowEnd s
  | .wiredLineChange line pressed => Sys2Proof.Machine.execWiredLineChange line pressed s
  | .irFrame pulses => Sys2Proof.Machine.execIrFrame pulses s
  | .irRepeat pulses => Sys2Proof.Machine.execIrRepeat pulses s
  | .irFrameDrop pulses => Sys2Proof.Machine.execIrFrameDrop pulses s
  | .irReleaseTimeout => Sys2Proof.Machine.execIrReleaseTimeout s
  | .keyRepeatExpiry code => Sys2Proof.Machine.execKeyRepeatExpiry code s
  | .digitTimeout => Sys2Proof.Machine.execDigitTimeout s
  | .focusEndStop fsi fso => Sys2Proof.Machine.execFocusEndStop fsi fso s
  | .focusTimedEnd => Sys2Proof.Machine.execFocusTimedEnd s
  | .focusRunLimit => Sys2Proof.Machine.execFocusRunLimit s
  | .clearRemote mask value => Sys2Proof.Machine.execClearRemote mask value s
  | .setKey code action mode => Sys2Proof.Machine.execSetKey code action mode s
  | .readKeys first count => Sys2Proof.Machine.execReadKeys first count s
  | .focus direction duration => Sys2Proof.Machine.execFocus direction duration s
  | .focusStop => Sys2Proof.Machine.execFocusStop s
  | .remoteTestEnter => Sys2Proof.Machine.execRemoteTestEnter s
  | .remoteTestLeave => Sys2Proof.Machine.execRemoteTestLeave s
  | .remoteTestSetLines lines => Sys2Proof.Machine.execRemoteTestSetLines lines s
  | .remoteTestPressKey code => Sys2Proof.Machine.execRemoteTestPressKey code s
  | .remoteTestReleaseKey => Sys2Proof.Machine.execRemoteTestReleaseKey s
  | .setRemote channel change wakeAny => Sys2Proof.Machine.execSetRemote channel change wakeAny s
  | .readRemote => Sys2Proof.Machine.execReadRemote s
  | .lineBusy char stop => Sys2Proof.Machine.execLineBusy s char stop
  | .lineIdle => Sys2Proof.Machine.execLineIdle s
  | .badFrame => Sys2Proof.Machine.execBadFrame s
  | .linkChangeFrame head kind arg fade => Sys2Proof.Machine.execLinkChangeFrame head kind arg fade s
  | .linkLevelFrame head level fade => Sys2Proof.Machine.execLinkLevelFrame head level fade s
  | .linkLampFrame head on => Sys2Proof.Machine.execLinkLampFrame head on s
  | .linkHoldFrame head => Sys2Proof.Machine.execLinkHoldFrame head s
  | .linkResumeFrame head => Sys2Proof.Machine.execLinkResumeFrame head s
  | .linkStepFrame head number => Sys2Proof.Machine.execLinkStepFrame head number s
  | .linkStandbyFrame head => Sys2Proof.Machine.execLinkStandbyFrame head s
  | .linkWakeFrame head => Sys2Proof.Machine.execLinkWakeFrame head s
  | .linkAskFrame head => Sys2Proof.Machine.execLinkAskFrame head s
  | .linkStateOrDataFrame head kind payload => Sys2Proof.Machine.execLinkStateOrDataFrame head kind payload s
  | .ownAddressFrame dest kind payload => Sys2Proof.Machine.execOwnAddressFrame dest kind payload s
  | .frameSendStart => Sys2Proof.Machine.execFrameSendStart s
  | .frameSent => Sys2Proof.Machine.execFrameSent s
  | .collision => Sys2Proof.Machine.execCollision s
  | .setNode address => Sys2Proof.Machine.execSetNode address s
  | .setGroups groups => Sys2Proof.Machine.execSetGroups groups s
  | .enableLink value => Sys2Proof.Machine.execEnableLink value s
  | .setLink rate level retryLimit loopback => Sys2Proof.Machine.execSetLink rate level retryLimit loopback s
  | .sendLink dest kind length payload => Sys2Proof.Machine.execSendLink dest kind length payload s
  | .readLink => Sys2Proof.Machine.execReadLink s
  | .panelRead clocked => Sys2Proof.Machine.execPanelRead clocked s
  | .unknownCommand frame => Sys2Proof.Machine.execUnknownCommand frame s
  | .readId => Sys2Proof.Machine.execReadId s
  | .readStatus => Sys2Proof.Machine.execReadStatus s
  | .readAttention => Sys2Proof.Machine.execReadAttention s
  | .readFaults => Sys2Proof.Machine.execReadFaults s
  | .setAttention enable disable => Sys2Proof.Machine.execSetAttention enable disable s
  | .setPower minutes => Sys2Proof.Machine.execSetPower minutes s
  | .standby => Sys2Proof.Machine.execStandby s
  | .wake => Sys2Proof.Machine.execWake s
  | .standbyEntry => Sys2Proof.Machine.execStandbyEntry s
  | .idleTimerExpiry => Sys2Proof.Machine.execIdleTimerExpiry s
  | .resetControl memAck => Sys2Proof.Machine.execResetControl memAck s
  | .resetHold memAck => Sys2Proof.Machine.execResetHold memAck s
  | .release memAck => Sys2Proof.Machine.execRelease memAck s
  | .storeSettings => Sys2Proof.Machine.execStoreSettings s
  | .storeComplete acked => Sys2Proof.Machine.execStoreComplete acked s
  | .loadSettings => Sys2Proof.Machine.execLoadSettings s
  | .loadComplete memAck => Sys2Proof.Machine.execLoadComplete memAck s
  | .hoursWriteStart => Sys2Proof.Machine.execHoursWriteStart s
  | .hoursWriteComplete acked => Sys2Proof.Machine.execHoursWriteComplete acked s
  | .porstLow => Sys2Proof.Machine.execPorstLow s
  | .powerOnReset memAck => Sys2Proof.Machine.execPowerOnReset memAck s
  | .wordElementSample => Sys2Proof.Machine.execWordElementSample s
  | .cueinFallingEdge highUs => Sys2Proof.Machine.execCueinFallingEdge highUs s
  | .frameNotAccepted head => Sys2Proof.Machine.execFrameNotAccepted head s

end Sys2Proof.Machine
end

