-- ==== Sys2Proof/Machine/Timing.lean ====
section
/-! DEFINITION. What the part does of itself when no command waits (log 1): the command that is due, by a follow-up
condition, a level or an expired timer, in a fixed order; and the passing of 1 ms. -/

namespace Sys2Proof.Machine

/-! ## What is due -/

/-- Conditions that hold as levels, and follow-up steps taken "at the first moment" they may be. -/
def dueNow (s : State) : List (Bool × Instr) :=
  let own := fun (f : LinkFrame) => s.lkc.accepts f.dest
  [ (s.csq.liftRuns && s.pins.lifted, .liftSuccess),
    (s.csq.drive = .retryDrop && (s.pins.seat || Config.actuatorLimitMs ≤ s.csq.timerMs), .liftRetryDropEnd),
    (s.csq.drive = .drop && s.pins.sensed = .seated, .dropSeated),
    (s.pins.tprs && !s.tru.present && Config.trayStableMs ≤ s.tru.readingMs, .trayInsertion),
    (match s.lkc.looped with
      | some f => (s.linkOn && s.lkc.cfg.loopback && own f, .ownAddressFrame f.dest f.kind f.payload)
      | none => (false, .lineIdle)),
    (match s.lkc.looped with
      | some f => (s.linkOn && s.lkc.cfg.loopback && !own f, .frameNotAccepted ⟨f.level, f.src, f.dest⟩)
      | none => (false, .lineIdle)),
    (pendingReady s, .pendingChangeStart),
    (!s.crn.queue.isEmpty && s.takeWait = 0, .cueTake),
    (s.shc.phase = .ending && s.runOut, .endingShowEnd),
    (standbyReady s, .standbyEntry),
    (hoursReady s, .hoursWriteStart) ]

def dueMechanism (s : State) : List (Bool × Instr) :=
  [ (s.csq.liftRuns && Config.actuatorLimitMs ≤ s.csq.timerMs, .liftTimeout),
    (s.csq.drive = .drop && Config.actuatorLimitMs ≤ s.csq.timerMs, .dropTimeout),
    (s.csq.state = .indexing && Config.stepLimitMs ≤ s.csq.timerMs, .stepTimeout),
    (Config.shutterLimitMs ≤ s.csq.shutMs.getD 0 && s.csq.state.active, .shutterTimeout),
    (s.sar.holder.isSome && s.sar.tenureLeft = 0 && deckActs s, .tenureExpiry) ]

def dueLamp (s : State) : List (Bool × Instr) :=
  let l := s.lmc
  [ (Config.samplePeriodMs ≤ l.sampleMs && !l.answered, .temperatureSample none),
    (l.lamp = .preheat && Config.preheatMs ≤ l.preheatMs, .preheatExpiry),
    (l.coolingOn && l.coolRunning && l.coolLeft = 0, .coolingTimerExpiry),
    (l.lamp = .lit && l.ramp.elapsed < l.ramp.duration && 100 ≤ l.ramp.ms, .lampRampTick),
    (s.openRuns && Config.lampOpenMs ≤ l.openMs, .lampOpenDetect),
    (s.guardRuns && l.cfg.heat ≤ l.guardElapsed, .heatGuardExpiry),
    (l.fan ≠ .off && !l.fanStall && Config.fanStallMs ≤ l.stallMs, .fanStallExpiry),
    (l.lamp = .lit && s.pnp.power ≠ .standby && Config.hourTenthS ≤ l.part, .lampHoursTick) ]

def dueDeck (s : State) : List (Bool × Instr) :=
  let d := s.dkc
  [ (Config.stopPulseMs ≤ d.stopPulse.getD 0, .stopPulseEnd),
    (d.deck = .starting && Config.startLimitMs ≤ d.timerMs, .startTimeout),
    (d.deck = .playing && Config.stallLimitMs ≤ d.stall.getD 0, .stallTimeout),
    (d.deck = .pausing && Config.pauseLimitMs ≤ d.timerMs, .pauseTimeout),
    (d.deck = .playing && deckActs s && 100 ≤ d.clockMs, .showClockTick),
    (d.audio.elapsed < d.audio.duration && deckActs s && 100 ≤ d.audio.ms, .audioRampTick) ]

/-- An expiry of the edge watch would change something (log 9). -/
def watchMatters (c : Cdc) : Bool := c.tone ≠ .none || c.count ≠ 0 || c.waitQuiet || c.risen

/-- Half element times after the anchor of the next sample of a word (Table 6.5). -/
def sampleAt (c : Cdc) : Nat :=
  match c.word with
  | .idle => 0
  | .startCheck => 1
  | .data => 2 * c.element + 3
  | .parity => 19
  | .stop => if c.wordParity = .none then 19 else 21

/-- The moment of the start check or of the next sample has come. A moment on a half ms is taken at the next whole ms
(DESIGN CHOICE, log 50). -/
def sampleDue (c : Cdc) : Bool := sampleAt c * c.elementMs ≤ 2 * c.wordMs

def holdReached (p : PulseRun) : Bool :=
  match p with
  | .measuring ms _ _ h => h ≤ ms
  | _ => false

def dueCues (s : State) : List (Bool × Instr) :=
  let c := s.cdc
  [ (holdReached c.pulse, .holdMinReached),
    (decoderActs s && Config.edgeWatchMs ≤ c.watchMs && watchMatters c, .edgeWatchExpiry),
    (c.word = .startCheck && sampleDue c, .wordStartCheck),
    ((c.word = .data || c.word = .parity) && sampleDue c, .wordElementSample),
    (c.word = .stop && sampleDue c, .wordCue),
    (dwellRuns s && s.crn.dwell = some 0, .dwellExpiry) ]

def repeatDue (s : State) (code : Nat) : Bool :=
  match pressOf code s with
  | some p =>
    (match p.mode with
      | .auto n => !p.spent && 100 * n ≤ p.repeatMs
      | _ => false)
  | none => false

/-- A first reading has stood for 20 ms (R161, R163). -/
def LineRead.due : LineRead → Bool
  | .watched => false
  | .resumed ms | .first ms => Config.lineStableMs ≤ ms

def focusTimedOut (f : Focus) : Bool :=
  match f with
  | .run _ (.timed ms) _ => ms = 0
  | _ => false

def focusTooLong (f : Focus) : Bool :=
  match f with
  | .run _ _ ms => Config.focusLimitMs ≤ ms
  | _ => false

def dueRemote (s : State) : List (Bool × Instr) :=
  let r := s.rmi
  [ (r.irHeld.isSome && !r.injected && Config.irReleaseMs ≤ r.irReleaseMs, .irReleaseTimeout),
    (r.digit.isSome && Config.digitMs ≤ r.digitMs, .digitTimeout),
    (focusTimedOut r.focus, .focusTimedEnd),
    (focusTooLong r.focus, .focusRunLimit) ]
    ++ [Line.fwd, .rev, .fin, .fout].map (fun l =>
      (linesWatched s && (r.line l).reading.due, Instr.wiredLineChange l (s.pins.line l)))
    ++ ([60, 61, 62, 63] ++ r.irHeld.toList).map (fun k => (repeatDue s k, Instr.keyRepeatExpiry k))

def dueLink (s : State) : List (Bool × Instr) :=
  let l := s.lkc
  [ (s.linkOn && l.access = .sending && l.sendUs = 0, .frameSent),
    (s.linkOn && l.access ≠ .sending && !l.lineIdle && l.idleInUs = 0, .lineIdle),
    (s.linkOn && l.slotsDone && !l.txq.isEmpty, .frameSendStart),
    (s.idleRuns && 60 * s.pnp.idleSetting ≤ s.pnp.idleElapsed, .idleTimerExpiry) ]

/-- The first command that is due; none while PORST is low. -/
def due (s : State) : Option Instr :=
  if s.pins.porstLow then none
  else ((dueNow s ++ dueMechanism s ++ dueLamp s ++ dueDeck s ++ dueCues s ++ dueRemote s
    ++ dueLink s).find? (·.1)).map (·.2)

/-! ## One millisecond -/

/-- A counter of whole units with its milliseconds: one unit more at `per`. -/
def countUp (per : Nat) (units ms : Nat) : Nat × Nat := if ms + 1 < per then (units, ms + 1) else (units + 1, 0)

def countDown (per : Nat) (units ms : Nat) : Nat × Nat := if ms + 1 < per then (units, ms + 1) else (units - 1, 0)

def tickTru (s : State) : Tru :=
  let t := s.tru
  if s.pins.tprs && !t.present then { t with readingMs := min Config.trayStableMs (t.readingMs + 1) } else t

def tickCsq (q : Csq) : Csq :=
  { q with
    timerMs := if q.drive ≠ .none ∨ q.state = .indexing then q.timerMs + 1 else q.timerMs
    shutMs := q.shutMs.map (· + 1) }

/-- The tenure counts in RUN and STANDBY_PENDING (R57, R67). -/
def tickSar (s : State) : Sar :=
  let a := s.sar
  if a.holder.isSome && deckActs s then
    { a with tenureLeft := (countDown 100 a.tenureLeft a.tenureMs).1
             tenureMs := (countDown 100 a.tenureLeft a.tenureMs).2 }
  else a

/-- The sample period (R70): a new one begins after an answer. -/
def Lmc.tickSample (l : Lmc) : Lmc :=
  if Config.samplePeriodMs ≤ l.sampleMs + 1 ∧ l.answered = true then { l with sampleMs := 0, answered := false }
  else { l with sampleMs := l.sampleMs + 1 }

def Lmc.tickCooling (awake : Bool) (l : Lmc) : Lmc :=
  if l.coolRunning && awake then
    { l with coolLeft := (countDown 1000 l.coolLeft l.coolMs).1, coolMs := (countDown 1000 l.coolLeft l.coolMs).2 }
  else l

/-- The timers of a burning lamp but for the open timer (R72, R78, R88). -/
def Lmc.tickBurning (awake : Bool) (l : Lmc) : Lmc :=
  match l.lamp with
  | .preheat => { l with preheatMs := l.preheatMs + 1 }
  | .lit =>
    { l with
      ramp := if l.ramp.elapsed < l.ramp.duration then { l.ramp with ms := l.ramp.ms + 1 } else l.ramp
      part := if awake then (countUp 1000 l.part l.partMs).1 else l.part
      partMs := if awake then (countUp 1000 l.part l.partMs).2 else l.partMs }
  | _ => l

def tickLmc (s : State) : Lmc :=
  let awake := decide (s.pnp.power ≠ .standby)
  let l := ((s.lmc.tickSample).tickCooling awake).tickBurning awake
  { l with
    openMs := if s.openRuns then l.openMs + 1 else 0
    guardElapsed := if s.guardRuns then (countUp 1000 l.guardElapsed l.guardMs).1 else l.guardElapsed
    guardMs := if s.guardRuns then (countUp 1000 l.guardElapsed l.guardMs).2 else l.guardMs
    stallMs := if l.fan = .off then l.stallMs else min Config.fanStallMs (l.stallMs + 1) }

def tickDkc (s : State) : Dkc :=
  let d := { s.dkc with stopPulse := s.dkc.stopPulse.map (· + 1) }
  if deckActs s then
    { d with
      timerMs := if d.deck = .starting ∨ d.deck = .pausing then d.timerMs + 1 else d.timerMs
      stall := d.stall.map (· + 1)
      clockMs := if d.deck = .playing then d.clockMs + 1 else d.clockMs
      audio := if d.audio.elapsed < d.audio.duration then { d.audio with ms := d.audio.ms + 1 } else d.audio }
  else d

def PulseRun.tick : PulseRun → PulseRun
  | .measuring ms a b h => .measuring (ms + 1) a b h
  | p => p

def tickCdc (s : State) : Cdc :=
  let c := s.cdc
  if decoderActs s then
    { c with
      watchMs := min Config.edgeWatchMs (c.watchMs + 1)
      pulse := c.pulse.tick
      wordMs := if c.word = .idle then c.wordMs else c.wordMs + 1 }
  else c

def tickCrn (s : State) : Crn :=
  let c := s.crn
  if dwellRuns s then
    { c with dwell := c.dwell.map (fun n => (countDown 100 n c.dwellMs).1), dwellMs := (countDown 100 0 c.dwellMs).2 }
  else c

def Press.tick (p : Press) : Press :=
  match p.mode with
  | .auto _ => if p.spent then p else { p with repeatMs := p.repeatMs + 1 }
  | _ => p

/-- The 20 ms of a first reading (R161, R163). -/
def LineRead.tick : LineRead → LineRead
  | .watched => .watched
  | .resumed ms => .resumed (ms + 1)
  | .first ms => .first (ms + 1)

def LineRec.tick (l : LineRec) : LineRec := { l with press := l.press.map Press.tick, reading := l.reading.tick }

def Focus.tick : Focus → Focus
  | .run d (.timed ms) n => .run d (.timed (ms - 1)) (n + 1)
  | .run d e n => .run d e (n + 1)
  | .stopped => .stopped

def Rmi.tick (r : Rmi) : Rmi :=
  { r with
    fwd := r.fwd.tick, rev := r.rev.tick, fin := r.fin.tick, fout := r.fout.tick
    irPress := r.irPress.map Press.tick
    irReleaseMs := if r.irHeld.isSome && !r.injected then r.irReleaseMs + 1 else r.irReleaseMs
    digitMs := if r.digit.isSome then r.digitMs + 1 else r.digitMs
    focus := r.focus.tick }

/-- Silence and sending on the line (R165, R170, R171); no wait for slots is longer than 50 ms. -/
def Lkc.tick (l : Lkc) : Lkc :=
  { l with
    idleInUs := l.idleInUs - 1000
    idleForUs := if l.lineIdle then min 50000 (l.idleForUs + 1000) else 0
    sendUs := l.sendUs - 1000 }

def tickPnp (s : State) : Pnp :=
  let p := s.pnp
  if s.idleRuns then
    { p with idleElapsed := (countUp 1000 p.idleElapsed p.idleMs).1, idleMs := (countUp 1000 p.idleElapsed p.idleMs).2 }
  else p

/-- 1 ms passes for every timer. -/
def tick (s : State) : State :=
  if s.pins.porstLow then s
  else
    { s with
      tru := tickTru s
      csq := tickCsq s.csq
      sar := tickSar s
      lmc := tickLmc s
      dkc := tickDkc s
      cdc := tickCdc s
      crn := tickCrn s
      rmi := if s.pnp.power = .resetHeld then s.rmi else s.rmi.tick
      lkc := if s.linkOn then s.lkc.tick else s.lkc
      pnp := tickPnp s }

end Sys2Proof.Machine
end

