-- ==== Sys2Proof/Machine/Step.lean ====
section
/-! DEFINITION. One step of the part: the command at the front of its queue, or what the part does of itself. -/

namespace Sys2Proof.Machine

/-- The command at the front runs on the state with the queue's rest. On an empty queue the part takes the command
that is due, or lets 1 ms pass (DESIGN CHOICE, log 1). -/
def step (s : State) : Host.Outcome State Fault Refusal :=
  match s.pending with
  | c :: rest => exec c { s with pending := rest }
  | [] =>
    match due s with
    | some c => exec c s
    | none => .next (tick s)

/-- The command that a word spells, put at the front of the queue; no word spells one (spec/opcode_table.json). -/
def State.withFetchWord (s : State) (nbits w : Nat) : State :=
  match decodeTableWord nbits w with
  | some c => { s with pending := c :: s.pending }
  | none => s

end Sys2Proof.Machine
end

