-- ==== Sys2Proof/Safety.lean ====
section
/-! DEFINITION. What the statements speak of: when the part acts, the answer of a panel command, what is due and what
1 ms adds, the search for a position, and the properties that every step keeps. -/

namespace Sys2Proof.Machine

/-- PORST is high. -/
abbrev Powered (s : State) : Prop := s.pins.porstLow = false

/-- PORST is high and the power state is RUN or STANDBY_PENDING: every panel command passes check 2 (11 R181). -/
abbrev Awake (s : State) : Prop := Powered s ∧ (s.pnp.power = .run ∨ s.pnp.power = .standbyPending)

/-- The state with the response of a panel command that has passed its checks: the response buffer holds status and
payload, the reading starts at its first byte, PSDO has given FFh, and the idle timer's elapsed time is 0 (11 R180,
R189; PSDO: log 28). -/
def answered (st : Status) (payload : List Byte) (s : State) : State :=
  { s with
    psdo := [0xFF]
    pnp := { s.pnp with resp := some ⟨st, payload⟩, readPos := 0, idleElapsed := 0, idleMs := 0 } }

/-- The state with the response of a panel command that a check of 11 R181 refuses: nothing else changes but PSDO,
which has given FFh (11 R180, log 28). -/
def turnedAway (st : Status) (s : State) : State :=
  { s with psdo := [0xFF], pnp := { s.pnp with resp := some ⟨st, []⟩, readPos := 0 } }

/-! ## Time -/

/-- The power states in which tenures, the deck, the decoder and the audio ramp run (03 R67, 05 R101, R102, 06 R120). -/
abbrev Counting (s : State) : Prop := s.pnp.power = .run ∨ s.pnp.power = .standbyPending

/-- The heat guard's timer runs (04 R85). -/
abbrev GuardRuns (s : State) : Prop :=
  s.csq.gate = .seated ∧ s.lmc.lamp = .lit ∧ 200 < s.lmc.output ∧ s.lmc.cfg.heat ≠ 0 ∧ s.lmc.guardCap = false

/-- The open timer runs (04 R76; the level of LCUR is held, log 39). -/
abbrev OpenRuns (s : State) : Prop := s.lmc.lamp = .lit ∧ 0 < s.lmc.output ∧ s.pins.lcur = false

/-- The dwell timer runs (07 R134). -/
abbrev DwellRuns (s : State) : Prop :=
  s.crn.dwell ≠ none ∧ (s.shc.phase = .running ∨ s.shc.phase = .ending) ∧ s.pnp.power = .run

/-- LKC watches the line (10 R165). -/
abbrev LinkRuns (s : State) : Prop := s.lkc.enable = true ∧ s.pnp.power ≠ .resetHeld

/-- The idle timer runs (11 R189). -/
abbrev IdleRuns (s : State) : Prop :=
  s.pnp.power = .run ∧ s.pnp.idleSetting ≠ 0 ∧ s.lmc.lamp = .off ∧ s.shc.phase = .stopped ∧ s.csq.state = .idle

/-- CSQ can take the pending change and no tenure bars it: it starts with the return to RUN (03 R59, R67). -/
abbrev DueAtRun (s : State) (w : Waiting) : Prop :=
  (s.csq.state = .idle ∨ (s.csq.state = .stalled ∧ w.kind = .home))
    ∧ ∀ h ∈ s.sar.holder, w.source = h ∨ priority s w.source < priority s h

/-- A press record whose AUTO period has passed (09 R157). -/
abbrev RepeatDue (p : Press) : Prop := ∃ n, p.mode = .auto n ∧ p.spent = false ∧ 100 * n ≤ p.repeatMs

/-- The 20 ms of a line's first reading have passed (09 R161, R163). -/
abbrev ReadingDue (l : LineRec) : Prop := ∃ n, 20 ≤ n ∧ (l.reading = .first n ∨ l.reading = .resumed n)

/-- The event that the part takes of itself has come: its level or follow-up condition holds, or its timer runs and
stands at its limit, in ms where no other unit is named. Every row that is not here comes from outside only. -/
def Due (s : State) : Instr → Prop
  -- 01 R1: 50 ms
  | .trayInsertion => s.pins.tprs = true ∧ s.tru.present = false ∧ 50 ≤ s.tru.readingMs
  -- 02 R18, R27, R29, R30: the levels of the gate sensors
  | .liftSuccess => s.csq.lft = true ∧ s.pins.liftUp = true ∧ s.pins.seat = false ∧ s.pins.clear = true
  | .dropSeated => s.csq.drive = .drop ∧ s.pins.seat = true ∧ s.pins.clear = false
  -- 02 R27, R29: 500 ms; R28: 300 ms; R24, R31: 200 ms
  | .liftRetryDropEnd => s.csq.drive = .retryDrop ∧ (s.pins.seat = true ∨ 500 ≤ s.csq.timerMs)
  | .liftTimeout => s.csq.lft = true ∧ 500 ≤ s.csq.timerMs
  | .dropTimeout => s.csq.drive = .drop ∧ 500 ≤ s.csq.timerMs
  | .stepTimeout => s.csq.state = .indexing ∧ 300 ≤ s.csq.timerMs
  | .shutterTimeout => s.csq.state.active = true ∧ ∃ n, s.csq.shutMs = some n ∧ 200 ≤ n
  -- 03 R57: no tenth left; R59: the conditions of the pending change
  | .tenureExpiry => s.sar.holder ≠ none ∧ s.sar.tenureLeft = 0 ∧ Counting s
  | .pendingChangeStart => s.pnp.power = .run ∧ ∃ w, s.sar.waiting = some w ∧ DueAtRun s w
  -- 04 R70: 250 ms with no answer; R72: 300 ms; R75: no second left; R78: a tenth; R76: 100 ms; R85: the heat time
  | .temperatureSample r => r = none ∧ s.lmc.answered = false ∧ 250 ≤ s.lmc.sampleMs
  | .preheatExpiry => s.lmc.lamp = .preheat ∧ 300 ≤ s.lmc.preheatMs
  | .coolingTimerExpiry => (s.lmc.lamp = .cooling ∨ (s.lmc.lamp = .fault ∧ s.lmc.coolDone = false))
      ∧ s.lmc.coolRunning = true ∧ s.lmc.coolLeft = 0
  | .lampRampTick => s.lmc.lamp = .lit ∧ s.lmc.ramp.elapsed < s.lmc.ramp.duration ∧ 100 ≤ s.lmc.ramp.ms
  | .lampOpenDetect => OpenRuns s ∧ 100 ≤ s.lmc.openMs
  | .heatGuardExpiry => GuardRuns s ∧ s.lmc.cfg.heat ≤ s.lmc.guardElapsed
  -- 04 R87: 2 s; R88: 360 s
  | .fanStallExpiry => s.lmc.fan ≠ .off ∧ s.lmc.fanStall = false ∧ 2000 ≤ s.lmc.stallMs
  | .lampHoursTick => s.lmc.lamp = .lit ∧ s.pnp.power ≠ .standby ∧ 360 ≤ s.lmc.part
  -- 05 R93: 100 ms; R95: 2.0 s; R96: 0.5 s; R97: 1.0 s; R101, R102: a tenth
  | .stopPulseEnd => ∃ n, s.dkc.stopPulse = some n ∧ 100 ≤ n
  | .startTimeout => s.dkc.deck = .starting ∧ 2000 ≤ s.dkc.timerMs
  | .stallTimeout => s.dkc.deck = .playing ∧ ∃ n, s.dkc.stall = some n ∧ 500 ≤ n
  | .pauseTimeout => s.dkc.deck = .pausing ∧ 1000 ≤ s.dkc.timerMs
  | .showClockTick => s.dkc.deck = .playing ∧ Counting s ∧ 100 ≤ s.dkc.clockMs
  | .audioRampTick => s.dkc.audio.elapsed < s.dkc.audio.duration ∧ Counting s ∧ 100 ≤ s.dkc.audio.ms
  -- 06 R110: hold-min; R107, R108: 3 ms, where the expiry changes something (log 9)
  | .holdMinReached => ∃ n a b h, s.cdc.pulse = .measuring n a b h ∧ h ≤ n
  | .edgeWatchExpiry => Counting s ∧ 3 ≤ s.cdc.watchMs
      ∧ (s.cdc.tone ≠ .none ∨ s.cdc.count ≠ 0 ∨ s.cdc.waitQuiet = true ∨ s.cdc.risen = true)
  -- 06 R111, R112, Table 6.5: half an element time, and one and a half and so on; a half ms counts as a whole (log 50)
  | .wordStartCheck => s.cdc.word = .startCheck ∧ s.cdc.elementMs ≤ 2 * s.cdc.wordMs
  | .wordElementSample => (s.cdc.word = .data ∧ (2 * s.cdc.element + 3) * s.cdc.elementMs ≤ 2 * s.cdc.wordMs)
      ∨ (s.cdc.word = .parity ∧ 19 * s.cdc.elementMs ≤ 2 * s.cdc.wordMs)
  | .wordCue => s.cdc.word = .stop
      ∧ (if s.cdc.wordParity = .none then 19 else 21) * s.cdc.elementMs ≤ 2 * s.cdc.wordMs
  -- 07 R127, R134
  | .cueTake => s.crn.queue ≠ [] ∧ (s.shc.phase = .running ∨ s.shc.phase = .ending) ∧ s.crn.progress = none
      ∧ s.csq.flight = none ∧ (s.sar.holder = none ∨ s.sar.holder = some .program) ∧ s.sar.waiting = none
  | .dwellExpiry => DwellRuns s ∧ s.crn.dwell = some 0
  -- 08 R147
  | .endingShowEnd => s.shc.phase = .ending ∧ s.crn.queue = [] ∧ s.crn.progress = none ∧ s.crn.dwell = none
  -- 09 R161, R163: 20 ms; R154: 200 ms; R158: 3 s; R157: the AUTO period; R159: the duration, and 8 s
  | .wiredLineChange l v => s.pnp.power ≠ .resetHeld ∧ s.rmi.test = false ∧ ReadingDue (s.rmi.line l)
      ∧ v = s.pins.line l
  | .irReleaseTimeout => s.rmi.irHeld ≠ none ∧ s.rmi.injected = false ∧ 200 ≤ s.rmi.irReleaseMs
  | .digitTimeout => s.rmi.digit ≠ none ∧ 3000 ≤ s.rmi.digitMs
  | .keyRepeatExpiry k => ∃ p, RepeatDue p
      ∧ ((∃ l, k = lineCode l ∧ (s.rmi.line l).press = some p)
        ∨ ((∀ l, k ≠ lineCode l) ∧ s.rmi.irHeld = some k ∧ s.rmi.irPress = some p))
  | .focusTimedEnd => ∃ d n, s.rmi.focus = .run d (.timed 0) n
  | .focusRunLimit => ∃ d e n, s.rmi.focus = .run d e n ∧ 8000 ≤ n
  -- 10 R165, R171: the silence and the sending that are still to pass; R170: the slots of the count, 10 Table 10.2
  | .lineIdle => LinkRuns s ∧ s.lkc.access ≠ .sending ∧ s.lkc.lineIdle = false ∧ s.lkc.idleInUs = 0
  | .frameSent => LinkRuns s ∧ s.lkc.access = .sending ∧ s.lkc.sendUs = 0
  | .frameSendStart => LinkRuns s ∧ s.lkc.access = .waitSlots ∧ s.lkc.lineIdle = true ∧ s.lkc.txq ≠ []
      ∧ (if s.lkc.retry = 0 then s.lkc.cfg.level + 1 else s.lkc.cfg.level + s.lkc.node + 2)
          * [1042, 521, 260].getD s.lkc.cfg.rate 174 ≤ s.lkc.idleForUs
  -- 10 R176: the frame heard in loopback
  | .ownAddressFrame d k p => LinkRuns s ∧ s.lkc.cfg.loopback = true ∧ s.lkc.accepts d = true
      ∧ ∃ f, s.lkc.looped = some f ∧ (f.dest, f.kind, f.payload) = (d, k, p)
  | .frameNotAccepted h => LinkRuns s ∧ s.lkc.cfg.loopback = true ∧ s.lkc.accepts h.dest = false
      ∧ ∃ f, s.lkc.looped = some f ∧ (⟨f.level, f.src, f.dest⟩ : FrameHead) = h
  -- 11 R188; R186; R189: minutes as seconds
  | .standbyEntry => s.pnp.power = .standbyPending ∧ s.csq.state = .idle ∧ s.lmc.lamp = .off ∧ s.lkc.txq = []
  | .hoursWriteStart => s.pnp.hoursWaiting ≠ none ∧ s.pnp.store = none ∧ s.pnp.load = false ∧ s.pnp.hoursWrite = none
  | .idleTimerExpiry => IdleRuns s ∧ 60 * s.pnp.idleSetting ≤ s.pnp.idleElapsed
  | _ => False

/-- The milliseconds into a unit of `per` ms after 1 ms more; they stand where the count does not run. -/
def msAfter (runs : Bool) (per ms : Nat) : Nat := if runs = false then ms else if ms + 1 < per then ms + 1 else 0

/-- Whether that ms completes the unit, 1 or 0. -/
def unitDone (runs : Bool) (per ms : Nat) : Nat := if runs = true ∧ per ≤ ms + 1 then 1 else 0

/-- A press record after 1 ms: the repeat timer of an AUTO key that is not spent (09 R157). -/
def pressedLonger (p : Press) : Press :=
  match p.mode, p.spent with
  | .auto _, false => { p with repeatMs := p.repeatMs + 1 }
  | _, _ => p

/-! ## The slide change -/

/-- The first eligible position that a search onward or backward finds: `k` steps from `p` round the 100 positions, at
most 99, with no eligible position before it (01 R11). -/
def NextEligible (t : Tru) (forward : Bool) (p q : Nat) : Prop :=
  ∃ k, 1 ≤ k ∧ k ≤ 99 ∧ q = (if forward then p + k else p + (100 - k)) % 100 ∧ t.eligible q = true
    ∧ ∀ j < k, 1 ≤ j → t.eligible ((if forward then p + j else p + (100 - j)) % 100) = false

/-- The tray drive runs in a direction for a change in INDEXING (02 R28). -/
abbrev Driven (s : State) (f : Flight) (forward : Bool) : Prop :=
  s.csq.state = .indexing ∧ s.csq.flight = some f ∧ f.dir = if forward then .forward else .reverse

/-- CSQ at the report of a position in INDEXING: DROPPING at the target or under the halt mark, else the step timer
restarts (02 R28, R38). -/
def reached (f : Flight) (p : Nat) (q : Csq) : Csq :=
  if p = f.target ∨ f.halt = true then { q with state := .dropping, drive := .drop, timerMs := 0, retry := 0 }
  else { q with timerMs := 0 }

/-- CSQ after an entry to JAMMED with its stop cause: the change over, motion released, owner and fade kept
(02 R33). -/
abbrev Jammed (f : Flight) (cause : StopCause) (s t : State) : Prop :=
  t.csq.state = .jammed ∧ t.csq.stop = cause ∧ t.csq.flight = none ∧ t.csq.drive = .none ∧ t.csq.retry = 0
    ∧ t.csq.keptOwner = f.owner ∧ t.csq.keptFade = f.fade ∧ t.csq.shutClosed = s.csq.shutClosed
    ∧ t.lmc.claim = s.lmc.claim ∧ t.pnp.pend.jam = true ∧ (s.pnp.power ≠ .resetHeld → t.shc.causes.transport = true)

/-- The last-change record and the tenure that the end of a change leaves (03 R57, R64); a pending change of the same
source that is flushed with it writes the record after it. -/
abbrev Ended (f : Flight) (o : ChangeOutcome) (p : FinalPos) (s t : State) : Prop :=
  (s.sar.waiting.map (·.source) ≠ some f.owner →
      t.sar.last.get f.owner = ⟨some f.kind, some f.target, o, p, (s.sar.last.get f.owner).refusals⟩)
    ∧ t.sar.holder = (if (s.sar.sources.get f.owner).tenure = 0 then none else some f.owner)
    ∧ t.sar.tenureLeft = (s.sar.sources.get f.owner).tenure

/-- In RUN the tenure that the end of a change of `o` starts does not bar the pending change (03 R58, R59). -/
abbrev LetIn (o : Source) (s : State) (w : Waiting) : Prop :=
  s.pnp.power = .run
    ∧ ((s.sar.sources.get o).tenure = 0 ∨ w.source = o ∨ priority s w.source < priority s o)

/-- The end of a change of `o` starts no pending change. -/
abbrev StartsNothing (o : Source) (s : State) : Prop := ∀ w ∈ s.sar.waiting, ¬ LetIn o s w

/-- A reveal that LMC reports complete with this event starts no pending change at its end. -/
abbrev RevealStartsNothing (s : State) : Prop := s.lmc.owed = true → StartsNothing s.csq.ownerNow s

/-- The return to RUN starts no pending change. -/
abbrev NoneDue (s : State) : Prop := ∀ w ∈ s.sar.waiting, ¬ DueAtRun s w

/-- The pending change has started with target `q`: the record is empty, the tenure over, the change in flight
(03 R59, R53, R58; 07 R131). -/
abbrev StartedPending (w : Waiting) (q : Nat) (s t : State) : Prop :=
  t.sar.waiting = none ∧ t.sar.holder = none ∧ t.csq.state.active = true ∧ t.csq.state ≠ .revealing
    ∧ t.csq.flight.map (fun f => (f.kind, f.owner, f.target, f.fade, f.halt))
      = some (w.kind, w.source, q, w.fade, false)
    ∧ (w.source = .program → s.crn.awaited = .pending → t.crn.awaited = .started)

/-- The pending change has ended REFUSED_AT_START (03 R59). -/
abbrev RefusedPending (w : Waiting) (s t : State) : Prop :=
  t.sar.waiting = none ∧ t.csq.flight = none
    ∧ t.sar.last.get w.source
      = ⟨some w.kind, some w.target, .refusedAtStart, .none, (s.sar.last.get w.source).refusals⟩

/-- The panel command of a change kind; HOME has no step count or slot. -/
def panelChangeOf (k : ChangeKind) (a fade : Byte) : Instr :=
  match k with
  | .advance => .advance a fade
  | .reverse => .reverse a fade
  | .seek => .seek a fade
  | .home => .home fade

/-- Checks 1 and 2 of 03 Table 3.5 pass for a panel command. -/
abbrev Formed (s : State) (k : ChangeKind) (a fade : Byte) : Prop :=
  classOk .panel .transport s = true ∧ fadeOk fade = true
    ∧ (k = .advance ∨ k = .reverse → 1 ≤ a.toNat ∧ a.toNat ≤ 15) ∧ (k = .seek → a.toNat ≤ 99)

/-- Checks 3 to 5 of 03 Table 3.5 pass. -/
abbrev Placed (s : State) (k : ChangeKind) : Prop :=
  s.tru.present = true ∧ (s.tru.position = none → k = .home) ∧ s.csq.orphaned = false

/-- A panel request under route LOCAL passes admission with target `q` (03 Table 3.5). -/
abbrev Admitted (s : State) (k : ChangeKind) (a fade : Byte) (q : Nat) : Prop :=
  Formed s k a fade ∧ s.sar.sources.panel.route = .here ∧ Placed s k
    ∧ s.tru.resolve k a.toNat ((expected s).getD 0) = .ok q
    ∧ (k = .home ∨ (s.sar.sources.panel.base ≤ q ∧ q ≤ s.sar.sources.panel.limit))

/-- A panel request that passes admission starts at once (03 R53, R58). -/
abbrev Startable (s : State) (k : ChangeKind) : Prop :=
  s.pnp.power = .run ∧ (s.csq.state = .idle ∨ (s.csq.state = .stalled ∧ k = .home))
    ∧ (s.sar.holder = none → s.sar.waiting = none)
    ∧ (∀ h ∈ s.sar.holder, h = .panel ∨ priority s .panel < priority s h)

/-- The signed step count of the pending record (03 Table 3.6 byte 2). -/
def pendingCount (s : State) : Byte :=
  match s.sar.waiting with
  | some w => signedByte w.count
  | none => 0

/-- The class has left TONE_A: what becomes of the pulse run (06 R109, R110, Table 6.4 and its note 1). A run that has
reached hold-min is a HOLD; a shorter one is NOISE, a NEXT cue for the queue, or LONG by its length; with no MEASURING
run nothing is cued. -/
def pulseEnded (s : State) : State :=
  match s.cdc.pulse with
  | .measuring ms lo hi hold =>
    if hold ≤ ms then
      let t := { s with cdc := { s.cdc with pulse := .none, last := .hold, flags := { s.cdc.flags with holdSeen := true } } }
      if s.shc.phase = .stopped then t else addCause .cueHold t
    else if ms < lo then
      { s with cdc := { s.cdc with pulse := .none, flags := { s.cdc.flags with noise := true } } }
    else if hi < ms then
      { s with cdc := { s.cdc with pulse := .none, flags := { s.cdc.flags with long := true } } }
    else
      { s with
        cdc := { s.cdc with
          pulse := .none, last := .next
          flags := { s.cdc.flags with overrun := s.cdc.flags.overrun
            || (s.shc.phase ≠ .stopped && decide (Config.cueQueueMax ≤ s.crn.queue.length)) } }
        crn := if s.shc.phase ≠ .stopped ∧ s.crn.queue.length < Config.cueQueueMax then
            { s.crn with queue := s.crn.queue ++ [⟨.tape, .next, s.dkc.clock⟩] }
          else s.crn }
  | _ => { s with cdc := { s.cdc with pulse := .none } }

/-! ## Cue table and keys (07, 09) -/

/-- The link action of a step record that WRITE STEP refuses: destination type 3, a node above 14, a group of 0 or
above 8, a kind above 5, or arguments that do not fit 07 Table 7.2 (07 R122). -/
abbrev LinkActionRefused (dest kind a b : Nat) : Prop :=
  dest / 64 = 3 ∨ (dest / 64 = 0 ∧ 14 < dest % 16) ∨ (dest / 64 = 1 ∧ (dest % 16 = 0 ∨ 8 < dest % 16)) ∨ 5 < kind
    ∨ (kind = 0 ∧ (a = 0 ∨ 4 < a ∨ (a ≤ 2 ∧ (b = 0 ∨ 15 < b)) ∨ (a = 3 ∧ 99 < b) ∨ (a = 4 ∧ b ≠ 0)))
    ∨ (kind = 1 ∧ 99 < b) ∨ (kind = 2 ∧ (1 < a ∨ b ≠ 0)) ∨ (kind = 3 ∧ (a = 0 ∨ 254 < a ∨ b ≠ 0))
    ∨ ((kind = 4 ∨ kind = 5) ∧ (a ≠ 0 ∨ b ≠ 0))

/-- A written step record that WRITE STEP refuses, byte by byte of 07 Table 7.3 (07 R122). -/
abbrev StepRefused (b : Nat → Byte) : Prop :=
  4 < (b 1).toNat ∨ ((b 1).toNat = 3 ∧ 99 < (b 2).toNat) ∨ 99 < (b 3).toNat ∨ 2 < (b 7).toNat
    ∨ 6000 < (b 8).toNat + 256 * (b 9).toNat
    ∨ ((b 0).getLsbD 2 = true ∧ (63 < (b 5).toNat ∨ 99 < (b 6).toNat))
    ∨ ((b 0).getLsbD 3 = true ∧ ((b 10).toNat = 0 ∨ 200 < (b 10).toNat))
    ∨ ((b 0).getLsbD 4 = true ∧ LinkActionRefused (b 11).toNat (b 12).toNat (b 13).toNat (b 14).toNat)

/-- A wired line, read as released till now, whose key map entry is the action and mode given (09 R151, R156). -/
abbrev Pressing (l : Line) (a : KeyAction) (m : RepeatMode) (s : State) : Prop :=
  s.rmi.test = false ∧ (s.rmi.line l).pressed = false ∧ (∀ n, (s.rmi.line l).reading ≠ .first n)
    ∧ s.rmi.entry (lineCode l) = ⟨a, m⟩

/-- The line pressed: its mark, and its press record with the action and mode latched (09 R151, R156). -/
def pressedLine (l : Line) (a : KeyAction) (m : RepeatMode) (s : State) : State :=
  { s with
    pins := s.pins.setLine l true
    rmi := s.rmi.setLine l ⟨true, true, (s.rmi.line l).releasedChg, some ⟨a, m, 0, false⟩, .watched⟩ }

/-! ## Infra-red frames (09 R153) -/

/-- Bit marks and spaces of the bits, bit 0 first, and the trailer mark. -/
def irTail : List Bool → List IrPulse → Bool
  | [], [.mark t] => shortPulse t
  | b :: bs, .mark m :: .space g :: ps =>
    shortPulse m && (if b then longSpace g else shortPulse g) && irTail bs ps
  | _, _ => false

/-- Marks and spaces of a frame that carries the bits. -/
def irSpells (bits : List Bool) (ps : List IrPulse) : Bool :=
  match ps with
  | .mark m :: .space g :: rest => leaderMark m && longSpace g && irTail bits rest
  | _ => false

/-- The 16 bits of a channel and a key (09 Table 9.2): channel, key, and the key's complement. -/
def irCode (channel key : Nat) : List Bool :=
  (List.range 4).map channel.testBit ++ (List.range 6).map key.testBit ++ (List.range 6).map (63 - key).testBit

/-! ## Link frames (10) -/

/-- LKC hears the line: PORST high, the enable ON, not RESET_HELD, not in loopback, not sending (10 R166, R176). -/
abbrev Hearing (s : State) : Prop :=
  Powered s ∧ s.lkc.enable = true ∧ s.pnp.power ≠ .resetHeld ∧ s.lkc.cfg.loopback = false ∧ s.lkc.access ≠ .sending

/-- A frame of another node with a sound head that this node accepts is heard, the receiver not in WAIT_IDLE
(10 R166, R168; log 23). -/
abbrev Reaches (h : FrameHead) (s : State) : Prop :=
  Hearing s ∧ s.lkc.rx ≠ .waitIdle ∧ h.level ≤ 15 ∧ h.src ≤ 14 ∧ h.src ≠ s.lkc.node ∧ s.lkc.accepts h.dest = true

/-! ## Properties that every step keeps -/

/-- The settings memory is in canonical form. -/
abbrev MemoryCanonical (s : State) : Prop := s.mem.wf

/-- The tables have their sizes and the queues stay within their capacities; slot record 0 has content EMPTY and is
not retired (01 R6, 07 7.1, R124, 09 9.3, 10 R169, R174). -/
abbrev TablesSound (s : State) : Prop :=
  s.tru.map.length = Config.positions ∧ (s.tru.slot 0).content = .empty ∧ (s.tru.slot 0).retired = false
    ∧ s.crn.table.length = Config.steps ∧ s.rmi.keys.length = 64
    ∧ s.crn.queue.length ≤ Config.cueQueueMax ∧ s.lkc.txq.length ≤ Config.txQueueMax
    ∧ s.lkc.rxbuf.length ≤ Config.rxBufferMax

/-- A slide in the gate with an origin stands at that position, an EMPTY gate has no origin, and the tray is driven
only under an EMPTY gate (02 R18, R19). -/
abbrev GateSound (s : State) : Prop :=
  (s.csq.gate = .empty → s.csq.origin = none)
    ∧ (s.csq.origin ≠ none → s.tru.position = s.csq.origin)
    ∧ (s.csq.state = .indexing → s.csq.gate = .empty)

/-- The phases that move the mechanism. -/
abbrev Moving (q : Csq) : Prop := q.state = .lifting ∨ q.state = .indexing ∨ q.state = .dropping

/-- No change is in flight in IDLE, JAMMED and STALLED; the actuator is driven only in LIFTING and DROPPING; the
shutter timer runs only in REVEALING and in the BLANKING of a SHUTTER change, whose shutter command is CLOSED; and in
a moving phase the blanking hold stands, or the shutter of a SHUTTER change is closed by command and by sensor. The
last is void while PORST is low, where every output is inactive (02 R23, R32). -/
abbrev DarkWhileMoving (s : State) : Prop :=
  (s.csq.state.active = false → s.csq.flight = none)
    ∧ (s.csq.drive ≠ .none → s.csq.state = .lifting ∨ s.csq.state = .dropping)
    ∧ (s.csq.shutMs ≠ none → s.csq.state = .revealing
        ∨ (s.csq.state = .blanking ∧ s.csq.shutClosed = true ∧ s.csq.shutterBlanked = true))
    ∧ (s.pins.porstLow = true ∨ (Moving s.csq → s.lmc.claim = .hold
        ∨ (s.csq.shutClosed = true ∧ s.csq.shutterBlanked = true ∧ s.pins.shcl = true)))

/-- No key press can repeat (09 R156, R163). -/
abbrev PressesSpent (r : Rmi) : Prop :=
  ∀ p ∈ [r.fwd.press, r.rev.press, r.fin.press, r.fout.press, r.irPress], p.all (·.spent) = true

/-- The cause TRANSPORT is in the set exactly while CSQ is JAMMED or STALLED (02 R35); in RESET_HELD CSQ is IDLE or
JAMMED and no key press can repeat (02 R43, 09 R163). -/
abbrev TransportCauseExact (s : State) : Prop :=
  (s.shc.causes.transport = true ↔ (s.csq.state = .jammed ∨ s.csq.state = .stalled))
    ∧ (s.pnp.power = .resetHeld → (s.csq.state = .idle ∨ s.csq.state = .jammed) ∧ PressesSpent s.rmi)

/-- The cause DECK is in the set exactly while the deck is in FAULT (05 R98, R99; 08 Table 8.3 note 2; DEDUCED at a SHOW
STOP, log 40); in RESET_HELD the deck is STOPPED and no key press can repeat (05 R105, 09 R163). -/
abbrev DeckCauseExact (s : State) : Prop :=
  (s.shc.causes.deck = true ↔ s.dkc.deck = .fault)
    ∧ (s.pnp.power = .resetHeld → s.dkc.deck = .stopped ∧ PressesSpent s.rmi)

/-- A running or ending show has no hold cause, and while the show is HELD the deck is not PLAYING or STARTING
(08 R140, R142); the STOP pulse never stands beside PLAY (05 R93). -/
abbrev ShowSound (s : State) : Prop :=
  ((s.shc.phase = .running ∨ s.shc.phase = .ending) → s.shc.causes = Causes.empty)
    ∧ (s.shc.phase = .held → s.dkc.deck ≠ .playing ∧ s.dkc.deck ≠ .starting)
    ∧ (s.dkc.stopPulse ≠ none → s.dkc.deck = .stopped ∨ s.dkc.deck = .fault)

end Sys2Proof.Machine
end

