-- ==== Sys2Proof/WellFormed.lean ====
section
/-! DEFINITION. Commands that can arise: operands that are bytes of a frame have the frame's length and the values
that put them into their row. A panel command's values are not restricted here, since the part itself answers a
value out of range with BAD_ARG or RANGE. -/

namespace Sys2Proof

/-- A link destination byte that R166 finds sound. -/
def destSound (b : Byte) : Bool :=
  let n := b.toNat % 16
  match b.toNat / 64 with
  | 0 => n ≤ 14
  | 1 => 1 ≤ n && n ≤ 8
  | 2 => true
  | _ => false

/-- The head of a sound frame: level 0–15, source 0–14, a sound destination. -/
def FrameHead.sound (h : FrameHead) : Bool := h.level ≤ 15 && h.src ≤ 14 && destSound h.dest

/-- A kind with a payload that Table 10.4 and R166 find sound. -/
def kindSound (kind : Byte) (p : List Byte) : Bool :=
  let a := (p.getD 0 0).toNat
  match kind.toNat with
  | 1 => p.length = 3 && 1 ≤ a && a ≤ 4
  | 2 => p.length = 2
  | 3 => p.length = 1 && a ≤ 1
  | 4 | 5 | 7 | 10 | 11 => p.isEmpty
  | 6 => p.length = 1 && 1 ≤ a && a ≤ 254
  | 8 => p.length = 5
  | 9 => p.length ≤ 8
  | _ => false

def Instr.wf : Instr → Bool
  | .writeStep _ record => record.length = 16
  | .keyRepeatExpiry code => code ≤ 63
  | .irFrame ps | .irRepeat ps | .irFrameDrop ps => !ps.isEmpty
  | .focus direction _ => direction ≠ 0
  | .linkChangeFrame h kind arg fade => h.sound && kindSound 1 [kind, arg, fade]
  | .linkLevelFrame h _ _ | .linkHoldFrame h | .linkResumeFrame h | .linkStandbyFrame h | .linkWakeFrame h
  | .linkAskFrame h | .frameNotAccepted h => h.sound
  | .linkLampFrame h on => h.sound && kindSound 3 [on]
  | .linkStepFrame h number => h.sound && kindSound 6 [number]
  | .linkStateOrDataFrame h kind p => h.sound && (kind = 8 || kind = 9) && kindSound kind p
  | .ownAddressFrame dest kind p => destSound dest && kindSound kind p
  | .sendLink _ _ length p => p.length = length.toNat && p.length ≤ 61
  | .unknownCommand frame =>
    (match frame with
      | [] => false
      | c :: _ => c ≠ 0)
  | .storeComplete acked => acked ≤ 3526
  | .hoursWriteComplete acked => acked ≤ 4
  | _ => true

end Sys2Proof
end

