-- ==== Sys2Proof/Certificates/Slice0/Obligations.lean ====
section
/-! DEFINITION. The statements for the provers. -/

open Sys2Proof Sys2Proof.Machine

/-! ## The queue, PORST and the power states -/

/-- A step with a command at the front of the queue is that command on the state with the queue's rest. -/
def Obligations.StepRunsTheFrontCommand : Prop :=
  ∀ (c : Instr) (rest : List Instr) (s : State),
    step { s with pending := c :: rest } = exec c { s with pending := rest }

/-- On an empty queue the part takes a command that is due (`Due`: its level or follow-up condition holds, or its timer
stands at its limit), and 1 ms passes exactly where none is due: a timer that runs grows by 1 ms, or by its unit where
the ms complete one, and one that does not run stays. While PORST is low nothing is due and nothing counts. That a step
on an empty queue is this, and which of two commands that are due comes first, is the model's choice (log 1); so are the
edge watch (log 9), the line's µs (log 22), the sample period (log 27), LCUR's level (log 39) and half ms (log 50). -/
def Obligations.AnEmptyQueueTakesWhatIsDue : Prop :=
  (∀ s : State, s.pending = [] →
    (∀ c, due s = some c → step s = exec c s) ∧ (due s = none → step s = .next (tick s)))
    ∧ (∀ s : State, Powered s → (∀ c, due s = some c → Due s c) ∧ (due s = none ↔ ∀ c, ¬ Due s c))
    ∧ (∀ s : State, s.pins.porstLow = true → due s = none ∧ tick s = s)
    ∧ (∀ s : State, Powered s → tick s = { s with
        tru := (tick s).tru, csq := (tick s).csq, sar := (tick s).sar, lmc := (tick s).lmc, dkc := (tick s).dkc
        cdc := (tick s).cdc, crn := (tick s).crn, rmi := (tick s).rmi, lkc := (tick s).lkc, pnp := (tick s).pnp })
    ∧ (∀ s : State, Powered s → (tick s).tru = { s.tru with
        readingMs := if s.pins.tprs = true ∧ s.tru.present = false then min 50 (s.tru.readingMs + 1)
          else s.tru.readingMs })
    ∧ (∀ s : State, Powered s → (tick s).csq = { s.csq with
        timerMs := if s.csq.lft = true ∨ s.csq.drp = true ∨ s.csq.state = .indexing then s.csq.timerMs + 1
          else s.csq.timerMs
        shutMs := s.csq.shutMs.map (· + 1) })
    ∧ (∀ s : State, Powered s →
        let runs := decide (s.sar.holder ≠ none ∧ Counting s)
        (tick s).sar = { s.sar with
          tenureLeft := s.sar.tenureLeft - unitDone runs 100 s.sar.tenureMs
          tenureMs := msAfter runs 100 s.sar.tenureMs })
    ∧ (∀ s : State, Powered s →
        let opens := decide (250 ≤ s.lmc.sampleMs + 1 ∧ s.lmc.answered = true)
        let cools := decide (s.lmc.coolRunning = true ∧ s.pnp.power ≠ .standby)
        let burns := decide (s.lmc.lamp = .lit ∧ s.pnp.power ≠ .standby)
        (tick s).lmc = { s.lmc with
          sampleMs := if opens then 0 else s.lmc.sampleMs + 1
          answered := s.lmc.answered && !opens
          coolLeft := s.lmc.coolLeft - unitDone cools 1000 s.lmc.coolMs
          coolMs := msAfter cools 1000 s.lmc.coolMs
          preheatMs := if s.lmc.lamp = .preheat then s.lmc.preheatMs + 1 else s.lmc.preheatMs
          ramp := if s.lmc.lamp = .lit ∧ s.lmc.ramp.elapsed < s.lmc.ramp.duration then
              { s.lmc.ramp with ms := s.lmc.ramp.ms + 1 } else s.lmc.ramp
          part := s.lmc.part + unitDone burns 1000 s.lmc.partMs
          partMs := msAfter burns 1000 s.lmc.partMs
          openMs := if OpenRuns s then s.lmc.openMs + 1 else 0
          guardElapsed := s.lmc.guardElapsed + unitDone (GuardRuns s) 1000 s.lmc.guardMs
          guardMs := msAfter (GuardRuns s) 1000 s.lmc.guardMs
          stallMs := if s.lmc.fan = .off then s.lmc.stallMs else min 2000 (s.lmc.stallMs + 1) })
    ∧ (∀ s : State, Powered s → (tick s).dkc = { s.dkc with
        stopPulse := s.dkc.stopPulse.map (· + 1)
        timerMs := if (s.dkc.deck = .starting ∨ s.dkc.deck = .pausing) ∧ Counting s then s.dkc.timerMs + 1
          else s.dkc.timerMs
        stall := if Counting s then s.dkc.stall.map (· + 1) else s.dkc.stall
        clockMs := if s.dkc.deck = .playing ∧ Counting s then s.dkc.clockMs + 1 else s.dkc.clockMs
        audio := if s.dkc.audio.elapsed < s.dkc.audio.duration ∧ Counting s then
            { s.dkc.audio with ms := s.dkc.audio.ms + 1 } else s.dkc.audio })
    ∧ (∀ s : State, Powered s → Counting s → (tick s).cdc = { s.cdc with
        watchMs := min 3 (s.cdc.watchMs + 1)
        pulse := match s.cdc.pulse with
          | .measuring n a b h => .measuring (n + 1) a b h
          | p => p
        wordMs := if s.cdc.word = .idle then s.cdc.wordMs else s.cdc.wordMs + 1 })
    ∧ (∀ s : State, Powered s → ¬ Counting s → (tick s).cdc = s.cdc)
    ∧ (∀ s : State, Powered s → (tick s).crn = { s.crn with
        dwell := s.crn.dwell.map (· - unitDone (DwellRuns s) 100 s.crn.dwellMs)
        dwellMs := msAfter (DwellRuns s) 100 s.crn.dwellMs })
    ∧ (∀ s : State, Powered s → s.pnp.power = .resetHeld → (tick s).rmi = s.rmi)
    ∧ (∀ s : State, Powered s → s.pnp.power ≠ .resetHeld → (tick s).rmi = { s.rmi with
        fwd := (tick s).rmi.fwd, rev := (tick s).rmi.rev, fin := (tick s).rmi.fin, fout := (tick s).rmi.fout
        irPress := s.rmi.irPress.map pressedLonger
        irReleaseMs := if s.rmi.irHeld ≠ none ∧ s.rmi.injected = false then s.rmi.irReleaseMs + 1
          else s.rmi.irReleaseMs
        digitMs := if s.rmi.digit ≠ none then s.rmi.digitMs + 1 else s.rmi.digitMs
        focus := match s.rmi.focus with
          | .run d (.timed left) n => .run d (.timed (left - 1)) (n + 1)
          | .run d e n => .run d e (n + 1)
          | .stopped => .stopped })
    ∧ (∀ (s : State) (l : Line), Powered s → s.pnp.power ≠ .resetHeld → (tick s).rmi.line l = { s.rmi.line l with
        press := (s.rmi.line l).press.map pressedLonger
        reading := match (s.rmi.line l).reading with
          | .watched => .watched
          | .resumed n => .resumed (n + 1)
          | .first n => .first (n + 1) })
    ∧ (∀ s : State, Powered s → LinkRuns s → (tick s).lkc = { s.lkc with
        idleInUs := s.lkc.idleInUs - 1000
        idleForUs := if s.lkc.lineIdle then min 50000 (s.lkc.idleForUs + 1000) else 0
        sendUs := s.lkc.sendUs - 1000 })
    ∧ (∀ s : State, Powered s → ¬ LinkRuns s → (tick s).lkc = s.lkc)
    ∧ (∀ s : State, Powered s → (tick s).pnp = { s.pnp with
        idleElapsed := s.pnp.idleElapsed + unitDone (IdleRuns s) 1000 s.pnp.idleMs
        idleMs := msAfter (IdleRuns s) 1000 s.pnp.idleMs })

/-- Every command answers a next state in every state and leaves the queue as it stands; PORST is low after it
only where it was low before or the command is PORST_LOW. -/
def Obligations.EveryCommandCompletes : Prop :=
  ∀ (c : Instr) (s : State), ∃ t, exec c s = .next t ∧ t.pending = s.pending
    ∧ (t.pins.porstLow = true → s.pins.porstLow = true ∨ c = .porstLow)

/-- PORST_LOW, and every other command but POWER_ON_RESET while PORST is low: pin levels (and the reading of TPRS)
alone change, and every output is inactive (11 R191). -/
def Obligations.WhilePorstIsLow : Prop :=
  (∀ s : State, ∃ t, exec .porstLow s = .next t ∧ t = { s with pins := { s.pins with porstLow := true } }
      ∧ t.outputs = Outputs.inactive)
    ∧ ∀ (c : Instr) (s : State), s.pins.porstLow = true → (∀ a, c ≠ .powerOnReset a) →
        ∃ t, exec c s = .next t
          ∧ t = { s with pins := t.pins, tru := { s.tru with readingMs := t.tru.readingMs } }
          ∧ t.outputs = Outputs.inactive

/-- In STANDBY and RESET_HELD a panel command outside the list of 11 R181 is refused and changes nothing but the
response buffer and PSDO, which has given FFh (and the open timer, the fan command and the idle timer where they do not
follow already). One FFh for the bytes of a command is the model's choice (log 28). -/
def Obligations.RefusedInStandbyAndResetHold : Prop :=
  ∀ (c : Instr) (s : State), (panelParts c).isSome = true → Powered s →
    (s.pnp.power = .standby → c ∉ [.wake, .readStatus, .readAttention, .readId, .lampOn] →
        (∀ a, c ≠ .resetControl a ∧ c ≠ .resetHold a) →
        exec c s = .next (turnedAway .standby s) ∨ exec c s = .next (finish (turnedAway .standby s)))
    ∧ (s.pnp.power = .resetHeld → c ∉ [.readStatus, .readId] → (∀ a, c ≠ .release a) →
        exec c s = .next (turnedAway .resetHeld s) ∨ exec c s = .next (finish (turnedAway .resetHeld s)))

/-- After every event the fan command follows 04 Table 4.6, row by row, OFF clears the stall mark and restarts the stall
timer (04 R86, R87), the open timer is 0 where it does not run (04 R76; the level of LCUR is held by the model's choice,
log 39), and the idle timer's elapsed time is 0 while a condition of R189 fails; nothing else changes. -/
def Obligations.FinishSetsTheFanAndTheIdleTimer : Prop :=
  ∀ s : State,
    (finish s = { s with
      lmc := { s.lmc with
        openMs := if s.lmc.lamp = .lit ∧ 0 < s.lmc.output ∧ s.pins.lcur = false then s.lmc.openMs else 0
        fan := fanCommand s.pnp.power s.lmc
        stallMs := if s.lmc.fan = .off ∨ fanCommand s.pnp.power s.lmc = .off then 0 else s.lmc.stallMs
        fanStall := s.lmc.fanStall && fanCommand s.pnp.power s.lmc ≠ .off }
      pnp := if s.idleRuns then s.pnp else { s.pnp with idleElapsed := 0, idleMs := 0 } })
    ∧ (s.pnp.power = .standby → fanCommand s.pnp.power s.lmc = .off)
    ∧ (s.pnp.power ≠ .standby → s.lmc.temp = none → fanCommand s.pnp.power s.lmc = .high)
    ∧ (∀ t, s.pnp.power ≠ .standby → s.lmc.temp = some t →
        (s.lmc.lamp = .cooling ∨ (s.lmc.lamp = .fault ∧ s.lmc.coolDone = false) ∨ s.lmc.cfg.warn ≤ t
          ∨ (s.lmc.lamp = .lit ∧ 160 < s.lmc.output) → fanCommand s.pnp.power s.lmc = .high)
        ∧ (s.lmc.lamp = .preheat → t < s.lmc.cfg.warn →
            fanCommand s.pnp.power s.lmc = if s.lmc.fanStall then .high else .low)
        ∧ (s.lmc.lamp = .off ∨ (s.lmc.lamp = .fault ∧ s.lmc.coolDone = true) → t < s.lmc.cfg.warn → t < 45 →
            fanCommand s.pnp.power s.lmc = .off)
        ∧ (s.lmc.lamp = .lit → t < s.lmc.cfg.warn → s.lmc.output ≤ 160 →
            fanCommand s.pnp.power s.lmc = if s.lmc.fanStall then .high else .low)
        ∧ (s.lmc.lamp = .off ∨ (s.lmc.lamp = .fault ∧ s.lmc.coolDone = true) → t < s.lmc.cfg.warn → 45 ≤ t →
            fanCommand s.pnp.power s.lmc = if s.lmc.fanStall then .high else .low))

/-! ## What every step keeps -/

/-- The settings memory stays in canonical form; tables and queues keep their sizes (11 Table 11.7, 01 R6, 07 R124,
10 R169, R174). -/
def Obligations.StorageKeepsItsForm : Prop :=
  (∀ s t : State, MemoryCanonical s → step s = .next t → MemoryCanonical t)
    ∧ (∀ s t : State, TablesSound s → step s = .next t → TablesSound t)

/-- A slide in the gate with an origin stands at that position, an EMPTY gate has no origin, and the tray is driven only
under an EMPTY gate: every step keeps this (02 R18, R19, R28). -/
def Obligations.SeatedOriginIsThePosition : Prop :=
  ∀ s t : State, GateSound s → step s = .next t → GateSound t

/-- With `DarkWhileMoving` kept by every step, no motion output stands beside light (02 R23, R32). -/
def Obligations.MechanismMovesInTheDark : Prop :=
  (∀ s t : State, DarkWhileMoving s → step s = .next t → DarkWhileMoving t)
    ∧ ∀ s : State, DarkWhileMoving s →
        s.outputs.lft = true ∨ s.outputs.drp = true ∨ s.outputs.tdf = true ∨ s.outputs.tdr = true →
        s.outputs.ldim = 0 ∨ (s.outputs.shut = true ∧ s.pins.shcl = true)

/-- The cause TRANSPORT stands exactly with JAMMED or STALLED (02 R35), and the cause DECK exactly with the deck in FAULT
(05 R98, R99; at a SHOW STOP the model's deduction, log 40); a show that runs has no hold cause, and a HELD show has no
running deck (08 R140, R142; 05 R93). -/
def Obligations.HoldCausesAndDeckStayConsistent : Prop :=
  (∀ s t : State, TransportCauseExact s → step s = .next t → TransportCauseExact t)
    ∧ (∀ s t : State, DeckCauseExact s → step s = .next t → DeckCauseExact t)
    ∧ (∀ s t : State, ShowSound s → step s = .next t → ShowSound t)

/-- The state after reset meets every invariant. -/
def Obligations.ResetMeetsTheInvariants : Prop :=
  MemoryCanonical State.reset ∧ TablesSound State.reset ∧ GateSound State.reset ∧ DarkWhileMoving State.reset
    ∧ TransportCauseExact State.reset ∧ DeckCauseExact State.reset ∧ ShowSound State.reset

/-! ## What the commands leave -/

/-- The memory, the serial output and the pins change only by the commands named here (the frame of every other
command); a panel command leaves FFh on PSDO, kept as one byte by the model's choice (log 28). -/
def Obligations.MemoryAndPinsChangeOnlyByTheirCommands : Prop :=
  (∀ (c : Instr) (s t : State), exec c s = .next t → match c with
      | .storeComplete _ | .hoursWriteComplete _ | .resetControl _ | .resetHold _ | .release _
      | .powerOnReset _ => True
      | _ => t.mem = s.mem)
    ∧ (∀ (c : Instr) (s t : State), exec c s = .next t → match c with
      | .panelRead _ => True
      | .unknownCommand _ => t.psdo = s.psdo ∨ t.psdo = [0xFF]
      | _ => t.psdo = s.psdo ∨ ((panelParts c).isSome = true ∧ t.psdo = [0xFF]))
    ∧ (∀ (c : Instr) (s t : State), exec c s = .next t → match c with
      | .trayInsertion | .trayRemoval | .gateSensorChange _ _ _ | .shutterClosed | .shutterClosedLost
      | .shutterOpened | .liftSuccess | .dropSeated | .runningRise _ | .runningFall _ | .endRise
      | .wiredLineChange _ _ | .focusEndStop _ _ | .lcurActive _ | .porstLow | .powerOnReset _ => True
      | _ => t.pins = s.pins)

/-- Settings and tables, lamp hours, temperature, tray presence, position and slot records, audio ramp and fault flags
change only by the commands named here (the frame of every other command). -/
def Obligations.RecordsChangeOnlyByTheirCommands : Prop :=
  (∀ (c : Instr) (s t : State), exec c s = .next t → match c with
      | .setTray _ _ | .setSequencer _ _ _ | .setArbiter _ _ | .setSource _ _ | .setLamp _ | .setDeck _ _ _
      | .setDecoder _ | .setShow _ | .setRemote _ _ _ | .setKey _ _ _ | .setNode _ | .setGroups _ | .enableLink _
      | .setLink _ _ _ _ | .setAttention _ _ | .setPower _ | .writeStep _ _ | .eraseSteps _ _ | .loadComplete _
      | .resetControl _ | .resetHold _ | .release _ | .powerOnReset _ => True
      | _ => t.settings = { s.settings with hours := t.lmc.hours })
    ∧ (∀ (c : Instr) (s t : State), exec c s = .next t → match c with
      | .lampHoursTick | .lampReplaced | .powerOnReset _ => True
      | _ => t.lmc.hours = s.lmc.hours)
    ∧ (∀ (c : Instr) (s t : State), exec c s = .next t → match c with
      | .temperatureSample _ | .powerOnReset _ => True
      | _ => t.lmc.temp = s.lmc.temp)
    ∧ (∀ (c : Instr) (s t : State), exec c s = .next t → match c with
      | .trayInsertion | .trayRemoval | .powerOnReset _ => True
      | _ => t.tru.present = s.tru.present)
    ∧ (∀ (c : Instr) (s t : State), exec c s = .next t → match c with
      | .trayRemoval | .indexPulse | .homePulse | .stepTimeout | .resetControl _ | .resetHold _ | .release _
      | .powerOnReset _ => True
      | _ => t.tru.position = s.tru.position)
    ∧ (∀ (c : Instr) (s t : State), exec c s = .next t → match c with
      | .trayRemoval | .setSlot _ _ _ | .clearSlot _ _ | .dropSeated | .dropTimeout | .liftTimeout | .clearJam
      | .wiredLineChange _ _ | .irFrame _ | .irRepeat _ | .irFrameDrop _ | .keyRepeatExpiry _
      | .remoteTestSetLines _ | .remoteTestPressKey _ | .powerOnReset _ => True
      | _ => t.tru.map = s.tru.map)
    ∧ (∀ (c : Instr) (s t : State), exec c s = .next t → match c with
      | .setAudio _ _ | .audioRampTick | .cueTake | .resetControl _ | .resetHold _ | .release _
      | .powerOnReset _ => True
      | _ => t.dkc.audio = s.dkc.audio)
    ∧ (∀ (c : Instr) (s t : State) (f : FaultFlag), exec c s = .next t → s.pnp.faults.set f = s.pnp.faults →
      match c with
      | .readFaults | .powerOnReset _ => True
      | _ => t.pnp.faults.set f = t.pnp.faults)

/-! ## Encodings -/

/-- Every well-formed panel command is read back from its frame (11 Tables 11.2, 11.3, 11.11). -/
def Obligations.PanelFramesDecodeBack : Prop :=
  ∀ (c : Instr) (f : List Byte), c.wf = true → panelEncode c = some f → panelDecode (memAckOf c) f = c

/-- Every sound link frame is read back from its bytes (10 Tables 10.3, 10.4), and what a record's command accepts is
read back from the bytes that the reads and the image give (01 R9, 03 Table 3.3, 07 Table 7.3, 09 Table 9.4). -/
def Obligations.LinkFramesAndRecordsReadBack : Prop :=
  (∀ f : LinkFrame, f.level ≤ 15 → f.src ≤ 14 → frameOk f.dest f.kind f.payload = true →
    LinkFrame.parse f.bytes = some f)
    ∧ (∀ (bs : List Byte) (r : StepRec), StepRec.parse bs = some (some r) → StepRec.parse r.bytes = some (some r))
    ∧ (∀ (a m : Byte) (k : KeyEntry), KeyEntry.parse a m = some k →
        KeyEntry.parse k.action.byte k.mode.byte = some k)
    ∧ (∀ (src : Source) (b : SourceBytes) (r : SourceRec), SourceRec.parse src b = some r →
        parseSource src r.bytes = some r)

/-- A whole STORE of settings that parse back from their own bytes leaves a memory whose image read gives them
(11 R185, R186). That the bytes of the settings stored parse back to them is a hypothesis. -/
def Obligations.AStoreReadsBack : Prop :=
  ∀ (v : Settings) (m : Memory), m.wf → v.checked.length = 3512 → v.hours ≤ 65535 →
    Settings.parse v.checked v.hours = some v →
    imageRead true (m.writes (storeWrites v)) = some v

/-! ## The tray and its slot map (01) -/

/-- TRAY_INSERTION and TRAY_REMOVAL (01 R1, R2; 02 R39): outside a change the map is cleared; in a change TRAY_LOST,
and JAMMED with a slide caught part way, else IDLE and lit. By the model's choice a removal that ends JAMMED out of
REVEALING places no new blanking claim and leaves the shutter command as it stands, and one out of BLANKING leaves both
as they stand (log 44); and the time that TPRS has been read in starts again at a removal, with the tray absent too
(log 38). -/
def Obligations.TrayPresenceFollowsTprs : Prop :=
  (∀ s : State, Powered s → exec .trayInsertion s = .next (finish { s with
      pins := { s.pins with tprs := true }, tru := { s.tru with present := true, readingMs := 50 } }))
    ∧ (∀ s : State, Powered s → s.tru.present = true → s.csq.state.active = false →
        exec .trayRemoval s = .next (finish { s with
          pins := { s.pins with tprs := false }
          tru := { s.tru with
            present := false, position := none, readingMs := 0
            map := ⟨.empty, false, 0, false⟩ :: List.replicate 99 ⟨.unknown, false, 0, false⟩ }
          csq := { s.csq with origin := none } }))
    ∧ (∀ s : State, Powered s → s.tru.present = false → exec .trayRemoval s = .next (finish { s with
        pins := { s.pins with tprs := false }, tru := { s.tru with readingMs := 0 } }))
    ∧ (∀ (s : State) (f : Flight), Powered s → s.tru.present = true → s.csq.state.active = true →
    s.csq.flight = some f →
    ∃ t, exec .trayRemoval s = .next t ∧ t.tru.present = false ∧ t.tru.position = none ∧ t.csq.origin = none
      ∧ t.csq.drive = .none ∧ t.csq.flight = none ∧ Ended f .trayLost .unknown s t
      ∧ (s.csq.gate = .partway ∨ s.pins.sensed = .partway →
          Jammed f .partialAtLoss s t ∧ t.csq.gate = .partway)
      ∧ (¬ (s.csq.gate = .partway ∨ s.pins.sensed = .partway) → t.csq.state = .idle ∧ t.csq.gate = s.csq.gate
          ∧ (s.csq.state ≠ .revealing → t.csq.shutClosed = false ∧ t.lmc.claim = .none))
      ∧ t.psdo = s.psdo ∧ t.mem = s.mem ∧ t.cdc = s.cdc ∧ t.rmi = s.rmi ∧ t.lkc = s.lkc)

/-- INDEX_PULSE and HOME_PULSE (01 R3, R4, R5; 02 R28): one position a pulse, a slip at 0, the step timer while UNKNOWN,
nothing undriven; a home pulse makes the position 0, with TRAY_SLIP where the count says otherwise. -/
def Obligations.PulsesMoveThePosition : Prop :=
  (∀ (s : State) (f : Flight) (p : Nat), Powered s → Driven s f true → s.tru.position = some p → p < 99 →
      exec .indexPulse s = .next (finish { s with
        tru := { s.tru with position := some (p + 1) }, csq := reached f (p + 1) s.csq }))
    ∧ (∀ (s : State) (f : Flight) (p : Nat), Powered s → Driven s f false → s.tru.position = some p → 2 ≤ p →
        p < 100 → exec .indexPulse s = .next (finish { s with
          tru := { s.tru with position := some (p - 1) }, csq := reached f (p - 1) s.csq }))
    ∧ (∀ (s : State) (f : Flight), Powered s → Driven s f false → s.tru.position = some 0 →
        exec .indexPulse s = .next (finish { s with
          tru := { s.tru with position := some 99 }, csq := reached f 99 s.csq }))
    ∧ (∀ (s : State) (f : Flight) (fwd : Bool), Powered s → Driven s f fwd →
        s.tru.position = some (if fwd then 99 else 1) →
        ∃ t, exec .indexPulse s = .next t ∧ t.csq.state = .stalled ∧ t.csq.stop = .slip ∧ t.csq.drive = .none
          ∧ t.csq.flight = none ∧ t.tru = { s.tru with position := none }
          ∧ t.pnp.faults.traySlip = true ∧ t.pnp.faults.trayStall = true ∧ t.pnp.pend.fault = true
          ∧ t.pnp.pend.jam = true ∧ Ended f .stalled .unknown s t ∧ t.lmc.claim = s.lmc.claim
          ∧ t.csq.shutClosed = s.csq.shutClosed ∧ (s.pnp.power ≠ .resetHeld → t.shc.causes.transport = true))
    ∧ (∀ (s : State) (f : Flight) (fwd : Bool), Powered s → Driven s f fwd → s.tru.position = none →
        exec .indexPulse s = .next (finish { s with csq := { s.csq with timerMs := 0 } }))
    ∧ (∀ s : State, Powered s → s.csq.state ≠ .indexing → exec .indexPulse s = .next (finish s))
    ∧ (∀ (s : State) (f : Flight) (fwd : Bool), Powered s → Driven s f fwd →
      s.tru.position = none ∨ s.tru.position = some (if fwd then 99 else 1) →
      exec .homePulse s = .next (finish { s with
        tru := { s.tru with position := some 0 }, csq := reached f 0 s.csq }))
    ∧ (∀ (s : State) (f : Flight) (fwd : Bool) (p : Nat), Powered s → Driven s f fwd → s.tru.position = some p →
        p < 100 → p ≠ (if fwd then 99 else 1) →
        exec .homePulse s = .next (finish { s with
          tru := { s.tru with position := some 0 }, csq := reached f 0 s.csq
          pnp := { s.pnp with faults := { s.pnp.faults with traySlip := true },
                              pend := { s.pnp.pend with fault := true } } }))
    ∧ (∀ s : State, Powered s → s.csq.state ≠ .indexing → exec .homePulse s = .next (finish s))

/-- SET_SLOT, CLEAR_SLOT, READ_TRAY and SET_TRAY (01 R14, R15, R16, R9). BAD_ARG before TRAY_ABSENT is the model's
choice (log 14). -/
def Obligations.SlotCommandsAndReads : Prop :=
  (∀ (s : State) (a b v : Byte) (k : Bool), Awake s → a.toNat ≤ b.toNat → b.toNat ≤ 99 → onOff v = some k →
      s.tru.present = true →
      ∃ m, exec (.setSlot a b v) s = .next (answered .ok [] { s with tru := { s.tru with map := m } })
        ∧ m.length = s.tru.map.length
        ∧ ∀ p r, s.tru.map[p]? = some r → m[p]? = some
            (if a.toNat ≤ p ∧ p ≤ b.toNat ∧ p ≠ 0 then { r with skip := k } else r))
    ∧ (∀ (s : State) (a b : Byte), Awake s → a.toNat ≤ b.toNat → b.toNat ≤ 99 → s.tru.present = true →
      ∃ m, exec (.clearSlot a b) s = .next (answered .ok [] { s with tru := { s.tru with map := m } })
        ∧ m.length = s.tru.map.length
        ∧ ∀ p r, s.tru.map[p]? = some r → m[p]? = some
            (if a.toNat ≤ p ∧ p ≤ b.toNat ∧ p ≠ 0 then { r with jams := 0, retired := false } else r))
    ∧ (∀ (s : State) (a b v : Byte), Awake s → 99 < a.toNat ∨ 99 < b.toNat ∨ b.toNat < a.toNat →
        exec (.setSlot a b v) s = .next (answered .badArg [] s)
          ∧ exec (.clearSlot a b) s = .next (answered .badArg [] s))
    ∧ (∀ (s : State) (a b v : Byte), Awake s → a.toNat ≤ b.toNat → b.toNat ≤ 99 → 1 < v.toNat →
        exec (.setSlot a b v) s = .next (answered .badArg [] s))
    ∧ (∀ (s : State) (a b v : Byte), Awake s → a.toNat ≤ b.toNat → b.toNat ≤ 99 → v.toNat ≤ 1 →
        s.tru.present = false →
        exec (.setSlot a b v) s = .next (answered .trayAbsent [] s)
          ∧ exec (.clearSlot a b) s = .next (answered .trayAbsent [] s))
    ∧ (∀ (s : State) (a n : Byte), Awake s → a.toNat ≤ 99 → 1 ≤ n.toNat → n.toNat ≤ 50 → s.tru.map.length = 100 →
      ∃ pl, exec (.readTray a n) s = .next (answered .ok pl s)
        ∧ pl.take 6 = [b8 (bit s.tru.present 0), optByte 0xFF s.tru.position, b8 s.tru.cfg.retireLimit,
            b8 (bit s.tru.cfg.skipEmpty 0), a, b8 (min n.toNat (100 - a.toNat))]
        ∧ pl.length = 6 + min n.toNat (100 - a.toNat)
        ∧ ∀ i, i < min n.toNat (100 - a.toNat) → pl[6 + i]? = some (s.tru.slot (a.toNat + i)).byte)
    ∧ (∀ (s : State) (a n : Byte), Awake s → 99 < a.toNat ∨ n.toNat = 0 ∨ 50 < n.toNat →
        exec (.readTray a n) s = .next (answered .badArg [] s))
    ∧ (∀ (s : State) (l e : Byte) (v : Bool), Awake s → l.toNat ≤ 3 → onOff e = some v →
        exec (.setTray l e) s = .next (answered .ok [] { s with tru := { s.tru with cfg := ⟨l.toNat, v⟩ } }))
    ∧ (∀ (s : State) (l e : Byte), Awake s → 3 < l.toNat ∨ 1 < e.toNat →
        exec (.setTray l e) s = .next (answered .badArg [] s))

/-- Eligibility, and what the kinds of a change make of it (01 R10, R11, R12). ADVANCE and REVERSE n resolve to the n-th
eligible position onward or backward of the base round the 100 positions (`NextEligible`): the first step searches the
99 others of the base, each further step the 99 others of the position that the step before it found, and NO_SLIDE
stands exactly where a step finds none. A count outside 1 to 15 is refused with RANGE before a resolution, and the change
runs forward for ADVANCE and in reverse for REVERSE, whatever the target. -/
def Obligations.EligiblePositions : Prop :=
  ∀ t : Tru,
    (∀ p, t.eligible p = true ↔ (p ≠ 0 ∧ (t.slot p).skip = false ∧ (t.slot p).retired = false
      ∧ (t.cfg.skipEmpty = true → (t.slot p).content ≠ .empty)))
    ∧ (∀ n b q, 1 ≤ n → t.resolve .advance n b = .ok q ∨ t.resolve .reverse n b = .ok q → t.eligible q = true)
    ∧ (∀ (k : ChangeKind) (forward : Bool), (k, forward) = (.advance, true) ∨ (k, forward) = (.reverse, false) →
        (∀ b q, t.resolve k 1 b = .ok q ↔ NextEligible t forward b q)
        ∧ (∀ b, t.resolve k 1 b = .error .noSlide ↔ ∀ p < 100, p ≠ b % 100 → t.eligible p = false)
        ∧ (∀ n b q, 1 ≤ n → (t.resolve k (n + 1) b = .ok q
            ↔ ∃ p, t.resolve k n b = .ok p ∧ NextEligible t forward p q))
        ∧ (∀ n b, 1 ≤ n → (t.resolve k (n + 1) b = .error .noSlide
            ↔ t.resolve k n b = .error .noSlide
              ∨ ∃ p, t.resolve k n b = .ok p ∧ ∀ r < 100, r ≠ p → t.eligible r = false))
        ∧ (∀ n b st, t.resolve k n b = .error st → st = .noSlide)
        ∧ (∀ n fade, argRefusal k n fade = some .range ↔ (n < 1 ∨ 15 < n))
        ∧ (∀ src target fade s, (startChange src k target fade s).csq.flight.map (·.dir)
            = some (if forward then .forward else .reverse)))
    ∧ (∀ p b, t.resolve .seek p b = if (t.slot p).retired then .error .slotRetired else .ok p)
    ∧ (∀ n b, t.resolve .home n b = .ok 0)

/-! ## The slide change (02) -/

/-- GATE_SENSOR_CHANGE, SET_SEQUENCER, CLEAR_FAULT_SHUTTER and READ_GATE (02 R20, R41, R26, R42). -/
def Obligations.GateRecordAndSequencerSettings : Prop :=
  (∀ (s : State) (a b c : Bool), Powered s → s.csq.state = .idle → s.pnp.power ≠ .resetHeld →
      (setGatePins a b c s).pins.sensed ≠ s.pins.sensed →
      exec (.gateSensorChange a b c) s = .next (finish { s with
        pins := { s.pins with seat := a, clear := b, liftUp := c }
        csq := { s.csq with
          gate := if a && !b then .seated else if !a && b then .empty else .partway
          origin := if !a && b || (a && !b && s.csq.gate = .empty) then none else s.csq.origin } }))
    ∧ (∀ (s : State) (a b c : Bool), Powered s → s.csq.state = .jammed → s.csq.gate = .seated →
        s.csq.origin = none → s.pnp.power ≠ .resetHeld → a = false → b = true →
        exec (.gateSensorChange a b c) s = .next (finish { s with
          pins := { s.pins with seat := a, clear := b, liftUp := c }
          csq := { s.csq with gate := if s.pins.sensed = .clear then .seated else .empty } }))
    ∧ (∀ (s : State) (a b c : Bool), Powered s → (s.csq.state ≠ .idle ∧ s.csq.state ≠ .jammed)
          ∨ s.pnp.power = .resetHeld ∨ (setGatePins a b c s).pins.sensed = s.pins.sensed →
        exec (.gateSensorChange a b c) s = .next (finish { s with
          pins := { s.pins with seat := a, clear := b, liftUp := c } }))
    ∧ (∀ (s : State) (m a n : Byte) (d k : Bool), Awake s → onOff m = some d → onOff a = some k → n.toNat ≤ 3 →
      exec (.setSequencer m a n) s = .next (answered .ok [] { s with
        csq := { s.csq with cfg := ⟨d, k, n.toNat⟩ } }))
    ∧ (∀ (s : State) (m a n : Byte), Awake s → 1 < m.toNat ∨ 1 < a.toNat ∨ 3 < n.toNat →
        exec (.setSequencer m a n) s = .next (answered .badArg [] s))
    ∧ (∀ s : State, Awake s →
        exec .clearFaultShutter s = .next (answered .ok [] { s with csq := { s.csq with shutFault := false } }))
    ∧ (∀ s : State, Awake s → exec .readGate s = .next (answered .ok
        ([match s.csq.state with
            | .idle => (0 : Byte)
            | .blanking => 1
            | .lifting => 2
            | .indexing => 3
            | .dropping => 4
            | .revealing => 5
            | .jammed => 6
            | .stalled => 7,
          match s.csq.gate with
            | .empty => 0
            | .seated => 1
            | .partway => 2,
          optByte 0xFF s.csq.origin,
          b8 (bit s.pins.seat 0 + bit s.pins.clear 1 + bit s.pins.liftUp 2 + bit s.pins.shcl 3
            + bit s.csq.shutClosed 4 + bit s.csq.shutFault 5
            + bit (s.csq.gate = .seated && s.csq.origin = none) 6 + bit (s.lmc.claim = .hold) 7),
          match s.csq.stop with
            | .none => 0
            | .lift => 1
            | .drop => 2
            | .partialAtLoss => 3
            | .partialAtReset => 4
            | .stepLimit => 5
            | .slip => 6,
          b8 (bit s.csq.cfg.dim 0 + bit s.csq.cfg.skip 1 + 4 * s.csq.cfg.retries)]
        ++ (match s.csq.flight with
            | some f => [b8 f.kind.code, b8 f.owner.code, b8 f.target,
                match f.dir with
                  | .none => 0
                  | .forward => 1
                  | .reverse => 2,
                b8 f.fade, b8 (bit f.halt 0 + 2 * s.csq.retry + bit f.dim 3)]
            | none =>
              if s.csq.state = .revealing then [5, b8 s.csq.keptOwner.code, 0xFF, 0, b8 s.csq.keptFade, 0]
              else if s.csq.state = .jammed then [0, b8 s.csq.keptOwner.code, 0xFF, 0, b8 s.csq.keptFade, 0]
              else [0, 0xFF, 0xFF, 0, 0, 0])
        ++ [optByte 0xFF s.tru.position])
        { s with pnp := { s.pnp with pend := { s.pnp.pend with jam := false } } }))
    ∧ [ChangeKind.advance, .reverse, .seek, .home].map ChangeKind.code = [1, 2, 3, 4]
    ∧ [Source.panel, .remote, .program, .link].map Source.code = [0, 1, 2, 3]

/-- SHUTTER_CLOSED, SHUTTER_TIMEOUT, SHUTTER_CLOSED_LOST and SHUTTER_OPENED (02 R24, R26, R31, R32); the end of a reveal
starts the pending change that no tenure bars, or ends it REFUSED_AT_START (03 R57, R58, R59). -/
def Obligations.ShutterEventsEndTheirPhase : Prop :=
  (∀ s : State, Powered s → s.csq.state = .blanking → s.csq.shutMs ≠ none → s.csq.gate ≠ .empty →
      exec .shutterClosed s = .next (finish { s with
        pins := { s.pins with shcl := true }
        csq := { s.csq with state := .lifting, drive := .lift, timerMs := 0, shutMs := none } }))
    ∧ (∀ (s : State) (f : Flight), Powered s → s.csq.state = .blanking → s.csq.shutMs ≠ none →
        s.csq.gate = .empty → s.csq.flight = some f →
        exec .shutterClosed s = .next (finish { s with
          pins := { s.pins with shcl := true }
          csq := if s.tru.position = some f.target then
              { s.csq with state := .dropping, drive := .drop, timerMs := 0, retry := 0, shutMs := none }
            else { s.csq with state := .indexing, drive := .none, timerMs := 0, shutMs := none } }))
    ∧ (∀ s : State, Powered s → s.csq.state ≠ .blanking →
        exec .shutterClosed s = .next (finish { s with pins := { s.pins with shcl := true } }))
    ∧ (∀ s : State, Powered s → s.csq.state = .blanking → s.csq.shutMs ≠ none → s.csq.gate ≠ .empty →
        ∃ t, exec .shutterTimeout s = .next t
          ∧ t.csq = { s.csq with state := .lifting, drive := .lift, timerMs := 0, shutMs := none, shutFault := true }
          ∧ t.lmc.claim = .hold ∧ t.lmc.output = 0 ∧ t.lmc.dim = true ∧ t.pnp.faults = s.pnp.faults.set .shutter
          ∧ t.pnp.pend.fault = true
          ∧ t = { s with csq := t.csq, lmc := t.lmc, pnp := t.pnp })
    ∧ (∀ s : State, Powered s → Moving s.csq → s.csq.shutClosed = true → s.csq.shutterBlanked = true →
        s.pins.shcl = true →
        ∃ t, exec .shutterClosedLost s = .next t ∧ t.csq = { s.csq with shutFault := true }
          ∧ t.lmc.claim = .hold ∧ t.lmc.output = 0 ∧ t.lmc.dim = true ∧ t.pnp.faults = s.pnp.faults.set .shutter
          ∧ t.pnp.pend.fault = true
          ∧ t = { s with pins := { s.pins with shcl := false }, csq := t.csq, lmc := t.lmc, pnp := t.pnp })
    ∧ (∀ s : State, Powered s → s.csq.state = .revealing → s.csq.lampDone = false →
      exec .shutterOpened s = .next (finish { s with
        pins := { s.pins with shcl := false }, csq := { s.csq with shutDone := true, shutMs := none } }))
    ∧ (∀ (s : State) (f : Flight), Powered s → s.csq.state = .revealing → s.csq.lampDone = true →
        s.csq.flight = some f → StartsNothing f.owner s →
        ∃ t, exec .shutterOpened s = .next t ∧ t.csq.state = .idle ∧ t.csq.flight = none
          ∧ Ended f (if f.halt then .halted else .done) (finalNow s) s t ∧ t.lmc.dim = false
          ∧ t.lmc.guardElapsed = 0 ∧ t.lmc.deferred = false ∧ t.tru = s.tru ∧ t.csq.gate = s.csq.gate
          ∧ t.csq.origin = s.csq.origin ∧ t.dkc = s.dkc ∧ t.mem = s.mem ∧ t.rmi = s.rmi ∧ t.lkc = s.lkc)
    ∧ (∀ (s : State) (f : Flight) (w : Waiting) (q : Nat), Powered s → s.csq.state = .revealing →
        s.csq.lampDone = true → s.csq.flight = some f → s.sar.waiting = some w → LetIn f.owner s w →
        startCheck w s = .ok q →
        ∃ t, exec .shutterOpened s = .next t ∧ StartedPending w q s t
          ∧ t.sar.last.get f.owner = ⟨some f.kind, some f.target, if f.halt then .halted else .done, finalNow s,
              (s.sar.last.get f.owner).refusals⟩
          ∧ t.tru = s.tru ∧ t.csq.gate = s.csq.gate ∧ t.csq.origin = s.csq.origin ∧ t.shc = s.shc
          ∧ t.dkc = s.dkc ∧ t.mem = s.mem)
    ∧ (∀ (s : State) (f : Flight) (w : Waiting) (st : Status), Powered s → s.csq.state = .revealing →
        s.csq.lampDone = true → s.csq.flight = some f → s.sar.waiting = some w → LetIn f.owner s w →
        startCheck w s = .error st →
        ∃ t, exec .shutterOpened s = .next t ∧ RefusedPending w s t ∧ t.csq.state = .idle
          ∧ t.sar.holder = (if (s.sar.sources.get f.owner).tenure = 0 then none else some f.owner)
          ∧ t.sar.tenureLeft = (s.sar.sources.get f.owner).tenure)
    ∧ (∀ s : State, Powered s → s.csq.state = .revealing → s.csq.lampDone = true → s.csq.flight = none →
        StartsNothing s.csq.keptOwner s →
        ∃ t, exec .shutterOpened s = .next t ∧ t.csq.state = .idle ∧ t.csq.flight = none
          ∧ t.sar.last = s.sar.last ∧ t.sar.waiting = s.sar.waiting
          ∧ t.sar.holder = (if (s.sar.sources.get s.csq.keptOwner).tenure = 0 then none else some s.csq.keptOwner)
          ∧ t.sar.tenureLeft = (s.sar.sources.get s.csq.keptOwner).tenure)
    ∧ (∀ s : State, Powered s → s.csq.state ∉ [.revealing, .lifting, .indexing, .dropping] →
        exec .shutterOpened s = .next (finish { s with pins := { s.pins with shcl := false } }))
    ∧ (∀ s : State, Powered s → s.csq.state = .revealing → s.csq.shutMs ≠ none → s.csq.lampDone = false →
        exec .shutterTimeout s = .next (finish { s with
          csq := { s.csq with shutDone := true, shutMs := none, shutFault := true }
          pnp := { s.pnp with faults := s.pnp.faults.set .shutter, pend := { s.pnp.pend with fault := true } } }))

/-- LIFT_SUCCESS, LIFT_TIMEOUT and LIFT_RETRY_DROP_END (02 R27, R29, R30, R33, R38), and the pending change that starts
where the change ends at once (03 R59). That LIFT_SUCCESS has no effect with no lift running is the model's choice (log
3). -/
def Obligations.LiftsSucceedRetryOrJam : Prop :=
  (∀ (s : State) (f : Flight), Powered s → s.csq.drive = .lift → s.csq.flight = some f →
      exec .liftSuccess s = .next (finish { s with
        pins := { s.pins with seat := false, clear := true, liftUp := true }
        csq := if f.halt = true ∨ s.tru.position = some f.target then
            { s.csq with gate := .empty, origin := none, state := .dropping, drive := .drop, timerMs := 0, retry := 0 }
          else { s.csq with gate := .empty, origin := none, state := .indexing, drive := .none, timerMs := 0 } }))
    ∧ (∀ s : State, Powered s → s.csq.drive = .dropLiftBack →
        exec .liftSuccess s = .next (finish { s with
          pins := { s.pins with seat := false, clear := true, liftUp := true }
          csq := { s.csq with gate := .empty, origin := none, drive := .drop, timerMs := 0 } }))
    ∧ (∀ (s : State) (f : Flight) (p q : Nat), Powered s → s.csq.drive = .skipLift → s.csq.flight = some f →
        f.halt = false → f.kind = .advance → s.tru.position = some p → s.tru.resolve .advance 1 p = .ok q →
        p < q → f.base ≤ q → q ≤ f.limit →
        exec .liftSuccess s = .next (finish { s with
          pins := { s.pins with seat := false, clear := true, liftUp := true }
          csq := { s.csq with gate := .empty, origin := none, state := .indexing, drive := .none, timerMs := 0,
                              retry := 0, flight := some { f with target := q } } }))
    ∧ (∀ (s : State) (f : Flight) (p q : Nat), Powered s → s.csq.drive = .skipLift → s.csq.flight = some f →
        f.halt = false → f.kind = .reverse → s.tru.position = some p → s.tru.resolve .reverse 1 p = .ok q →
        q < p → f.base ≤ q → q ≤ f.limit →
        exec .liftSuccess s = .next (finish { s with
          pins := { s.pins with seat := false, clear := true, liftUp := true }
          csq := { s.csq with gate := .empty, origin := none, state := .indexing, drive := .none, timerMs := 0,
                              retry := 0, flight := some { f with target := q } } }))
    ∧ (∀ (s : State) (f : Flight), Powered s → s.csq.drive = .skipLift → s.csq.flight = some f → f.halt = true →
        ∃ t, exec .liftSuccess s = .next t ∧ t.csq.gate = .empty ∧ t.csq.origin = none ∧ t.tru = s.tru
          ∧ ((s.csq.shutClosed = true ∧ s.pins.shcl = true) ∨ StartsNothing f.owner s →
              t.csq.drive = .none ∧ t.csq.shutClosed = false ∧ t.lmc.claim = .none
                ∧ ((t.csq.state = .revealing ∧ t.csq.flight = some f ∧ t.sar = s.sar)
                  ∨ (t.csq.state = .idle ∧ t.csq.flight = none ∧ Ended f .halted (finalNow s) s t)))
          ∧ (∀ w q, s.csq.shutClosed = false → s.lmc.claim = .none → s.sar.waiting = some w → LetIn f.owner s w →
              startCheck w (setGate .empty none s) = .ok q → StartedPending w q s t))
    ∧ (∀ (s : State) (f : Flight), Powered s → s.csq.drive = .skipLift → s.csq.flight = some f →
        f.halt = false → skipTarget f s.tru = none →
        ∃ t, exec .liftSuccess s = .next t ∧ Jammed f .drop s t ∧ t.csq.gate = .empty ∧ t.csq.origin = none
          ∧ Ended f .jammed (finalNow s) s t ∧ t.tru = s.tru)
    ∧ (∀ s : State, Powered s → s.csq.drive ∉ [.lift, .skipLift, .dropLiftBack] →
        exec .liftSuccess s = .next (finish s))
    ∧ (∀ (s : State) (f : Flight), Powered s → s.csq.drive = .lift → s.csq.flight = some f →
      s.csq.retry < f.retries →
      exec .liftTimeout s = .next (finish { s with
        csq := { s.csq with drive := .retryDrop, timerMs := 0, retry := s.csq.retry + 1 } }))
    ∧ (∀ s : State, Powered s → s.csq.drive = .retryDrop →
        exec .liftRetryDropEnd s = .next (finish { s with csq := { s.csq with drive := .lift, timerMs := 0 } }))
    ∧ (∀ (s : State) (f : Flight), Powered s → s.csq.drive = .lift → s.csq.flight = some f →
        f.retries ≤ s.csq.retry →
        ∃ t, exec .liftTimeout s = .next t ∧ Jammed f .lift s t ∧ Ended f .jammed (finalNow s) s t
          ∧ t.tru = (jamReport s).tru
          ∧ t.csq.gate = (match s.pins.sensed with
              | .clear => .empty
              | .seated => .seated
              | .partway => .partway)
          ∧ t.csq.origin = (if s.pins.sensed = .clear then none else s.tru.position))
    ∧ (∀ (s : State) (f : Flight), Powered s → s.csq.drive = .dropLiftBack → s.csq.flight = some f →
        ∃ t, exec .liftTimeout s = .next t ∧ Jammed f .drop s t ∧ Ended f .jammed (finalNow s) s t
          ∧ t.tru = (jamReport s).tru ∧ t.csq.gate = .partway ∧ t.csq.origin = s.tru.position)
    ∧ (∀ (s : State) (f : Flight), Powered s → s.csq.drive = .skipLift → s.csq.flight = some f →
        ∃ t, exec .liftTimeout s = .next t ∧ Jammed f .drop s t ∧ Ended f .jammed (finalNow s) s t
          ∧ t.tru = s.tru ∧ t.csq.gate = s.csq.gate ∧ t.csq.origin = s.csq.origin)

/-- STEP_TIMEOUT, DROP_SEATED and DROP_TIMEOUT (02 R28, R29, R30, R31, R34), what a drop result and a jam report write
into the slot map (01 R6, R7, R8), and the pending change that starts where the change ends at once (03 R59). That
STEP_TIMEOUT has no effect outside INDEXING is the model's choice (log 3). -/
def Obligations.StallsAndDropResults : Prop :=
  (∀ (s : State) (f : Flight), Powered s → s.csq.state = .indexing → s.csq.flight = some f →
      ∃ t, exec .stepTimeout s = .next t ∧ t.csq.state = .stalled ∧ t.csq.stop = .stepLimit
        ∧ t.csq.drive = .none ∧ t.csq.flight = none ∧ t.tru = { s.tru with position := none }
        ∧ t.pnp.faults = s.pnp.faults.set .trayStall ∧ t.pnp.pend.fault = true ∧ t.pnp.pend.jam = true
        ∧ Ended f .stalled .unknown s t ∧ t.csq.gate = s.csq.gate ∧ t.csq.shutClosed = s.csq.shutClosed
        ∧ t.lmc.claim = s.lmc.claim ∧ (s.pnp.power ≠ .resetHeld → t.shc.causes.transport = true))
    ∧ (∀ s : State, Powered s → s.csq.state ≠ .indexing → exec .stepTimeout s = .next (finish s))
    ∧ (∀ (s : State) (f : Flight), Powered s → s.csq.drive = .drop → s.csq.flight = some f →
      ∃ t, exec .dropSeated s = .next t ∧ t.csq.gate = .seated ∧ t.csq.origin = s.tru.position
        ∧ t.tru = (reportContent .slide s).tru
        ∧ ((s.csq.shutClosed = true ∧ s.pins.shcl = true) ∨ StartsNothing f.owner s →
            t.csq.drive = .none ∧ t.csq.shutClosed = false ∧ t.lmc.claim = .none
              ∧ (s.lmc.claim ≠ .none → s.lmc.lamp = .lit →
                  t.lmc.ramp = ⟨s.lmc.output, s.lmc.showLevel, f.fade, 0, 0⟩))
        ∧ (s.csq.shutClosed = true ∧ s.pins.shcl = true → t.csq.state = .revealing ∧ t.csq.flight = some f)
        ∧ (s.csq.shutClosed = false ∧ s.lmc.claim = .none → StartsNothing f.owner s →
            t.csq.state = .idle ∧ t.csq.flight = none
            ∧ Ended f (if f.halt then .halted else .done) (finalNow s) s t)
        ∧ (∀ w q, s.csq.shutClosed = false → s.lmc.claim = .none → s.sar.waiting = some w → LetIn f.owner s w →
            startCheck w (reportContent .slide (setGate .seated s.tru.position s)) = .ok q →
            StartedPending w q s t))
    ∧ (∀ (s : State) (f : Flight), Powered s → s.csq.drive = .drop → s.csq.flight = some f →
        s.pins.sensed = .clear →
        ∃ t, exec .dropTimeout s = .next t ∧ t.csq.gate = .empty ∧ t.csq.origin = none
          ∧ t.tru = (reportContent .empty s).tru
          ∧ ((s.csq.shutClosed = true ∧ s.pins.shcl = true) ∨ StartsNothing f.owner s →
              t.csq.drive = .none ∧ t.csq.shutClosed = false ∧ t.lmc.claim = .none)
          ∧ (s.csq.shutClosed = true ∧ s.pins.shcl = true → t.csq.state = .revealing ∧ t.csq.flight = some f)
          ∧ (s.csq.shutClosed = false ∧ s.lmc.claim = .none → StartsNothing f.owner s →
              t.csq.state = .idle ∧ t.csq.flight = none
              ∧ Ended f (if f.halt then .halted else .done) (finalNow s) s t)
          ∧ (∀ w q, s.csq.shutClosed = false → s.lmc.claim = .none → s.sar.waiting = some w → LetIn f.owner s w →
              startCheck w (reportContent .empty (setGate .empty none s)) = .ok q → StartedPending w q s t))
    ∧ (∀ (s : State) (f : Flight), Powered s → s.csq.drive = .drop → s.csq.flight = some f →
        s.pins.sensed = .partway → s.csq.retry < f.retries →
        exec .dropTimeout s = .next (finish { s with
          csq := { s.csq with drive := .dropLiftBack, timerMs := 0, retry := s.csq.retry + 1 } }))
    ∧ (∀ (s : State) (f : Flight), Powered s → s.csq.drive = .drop → s.csq.flight = some f →
        s.pins.sensed = .partway → f.retries ≤ s.csq.retry →
        f.skip = true → f.halt = false → f.kind = .advance ∨ f.kind = .reverse →
        exec .dropTimeout s = .next (finish { s with
          tru := (jamReport s).tru
          csq := { s.csq with gate := .partway, origin := s.tru.position, state := .lifting, drive := .skipLift,
                              timerMs := 0 } }))
    ∧ (∀ (s : State) (f : Flight), Powered s → s.csq.drive = .drop → s.csq.flight = some f →
        s.pins.sensed = .partway → f.retries ≤ s.csq.retry →
        f.skip = false ∨ f.halt = true ∨ f.kind = .seek ∨ f.kind = .home →
        ∃ t, exec .dropTimeout s = .next t ∧ Jammed f .drop s t ∧ Ended f .jammed (finalNow s) s t
          ∧ t.tru = (jamReport s).tru ∧ t.csq.gate = .partway ∧ t.csq.origin = s.tru.position)
    ∧ (∀ (s : State) (p q : Nat) (c : Content) (r : SlotRec), s.tru.position = some p → s.tru.map[q]? = some r →
      (reportContent c s).tru.map[q]? = some (if q = p ∧ p ≠ 0 then { r with content := c } else r)
        ∧ (jamReport s).tru.map[q]? = some (if q = p ∧ p ≠ 0 then
            { r with
              jams := if r.jams < 3 then r.jams + 1 else 3
              retired := r.retired || (s.tru.cfg.retireLimit ≠ 0
                && s.tru.cfg.retireLimit ≤ (if r.jams < 3 then r.jams + 1 else 3)) }
          else r))
    ∧ (∀ (s : State) (c : Content), s.tru.position = none → reportContent c s = s ∧ jamReport s = s)

/-- CLEAR_JAM by CSQ's state (02 R36, R35), and the pending change that it lets start (03 R59). -/
def Obligations.ClearJamByState : Prop :=
  (∀ s : State, Awake s → classOk .panel .transport s = true → s.csq.state = .idle →
      exec .clearJam s = .next (finish (answered .ok [] s)))
    ∧ (∀ s : State, Awake s → classOk .panel .transport s = true → s.csq.state.active = true →
        exec .clearJam s = .next (finish (answered .busy [] s)))
    ∧ (∀ s : State, Awake s → classOk .panel .transport s = true → s.csq.state = .stalled →
        exec .clearJam s = .next (finish (answered .notHomed [] s)))
    ∧ (∀ s : State, Awake s → classOk .panel .transport s = true → s.csq.state = .jammed →
        s.pins.sensed = .partway → exec .clearJam s = .next (finish (answered .jammed [] s)))
    ∧ (∀ s : State, Awake s → classOk .panel .transport s = false →
        exec .clearJam s = .next (finish (answered .disabled [] s)))
    ∧ (∀ s : State, Awake s → classOk .panel .transport s = true → s.csq.state = .jammed →
        s.pins.sensed = .clear → StartsNothing s.csq.keptOwner s →
        ∃ t, exec .clearJam s = .next t ∧ t.pnp.resp = some ⟨.ok, []⟩ ∧ t.csq.state = .idle
          ∧ t.csq.gate = .empty ∧ t.csq.origin = none ∧ t.csq.stop = .none ∧ t.csq.shutClosed = false
          ∧ t.lmc.claim = .none ∧ t.tru = (reportContent .unknown s).tru ∧ t.shc.causes.transport = false
          ∧ t.sar.last = s.sar.last ∧ t.sar.tenureLeft = (s.sar.sources.get s.csq.keptOwner).tenure)
    ∧ (∀ (s : State) (w : Waiting) (q : Nat), Awake s → classOk .panel .transport s = true →
        s.csq.state = .jammed → s.pins.sensed = .clear → s.sar.waiting = some w → LetIn s.csq.keptOwner s w →
        startCheck w (reportContent .unknown (setGate .empty none s)) = .ok q →
        ∃ t, exec .clearJam s = .next t ∧ t.pnp.resp = some ⟨.ok, []⟩ ∧ StartedPending w q s t
          ∧ t.csq.gate = .empty ∧ t.csq.origin = none ∧ t.tru = (reportContent .unknown s).tru
          ∧ t.shc.causes.transport = false ∧ t.sar.last = s.sar.last)
    ∧ (∀ s : State, Awake s → classOk .panel .transport s = true → s.csq.state = .jammed →
        s.csq.flight = none → s.pins.sensed = .seated →
        ∃ t, exec .clearJam s = .next t ∧ t.pnp.resp = some ⟨.ok, []⟩ ∧ t.csq.gate = .seated
          ∧ t.csq.origin = s.tru.position ∧ t.csq.stop = .none
          ∧ t.tru = (reportContent .slide s).tru ∧ t.shc.causes.transport = false
          ∧ ((s.csq.shutClosed = true ∧ s.pins.shcl = true) ∨ StartsNothing s.csq.keptOwner s →
              t.csq.shutClosed = false ∧ t.lmc.claim = .none ∧ t.sar.last = s.sar.last)
          ∧ (s.csq.shutClosed = true ∧ s.pins.shcl = true → t.csq.state = .revealing)
          ∧ (s.csq.shutClosed = false → s.lmc.claim = .none → StartsNothing s.csq.keptOwner s →
              t.csq.state = .idle ∧ t.sar.tenureLeft = (s.sar.sources.get s.csq.keptOwner).tenure)
          ∧ (∀ w q, s.csq.shutClosed = false → s.lmc.claim = .none → s.sar.waiting = some w →
              LetIn s.csq.keptOwner s w →
              startCheck w (reportContent .slide (setGate .seated s.tru.position s)) = .ok q →
              StartedPending w q s t))

/-! ## Requests and arbitration (03) -/

/-- ADVANCE, REVERSE, SEEK and HOME that start at once (03 R53, R58; 02 R22, R24, R25): the change in flight with what
CSQ latches, the tenure over, the gate being blanked, and the answer of Table 3.6. -/
def Obligations.TransportRequestStartsAChange : Prop :=
  ∀ (s : State) (k : ChangeKind) (a fade : Byte) (q : Nat), Powered s → Admitted s k a fade q → Startable s k →
    ∃ t, exec (panelChangeOf k a fade) s = .next t
      ∧ t.pnp.resp = some ⟨.ok, [0, b8 q, pendingCount s]⟩
      ∧ t.csq.flight = some
          { kind := k, owner := .panel, target := q
            fade := if fade = 0xFF then s.sar.cfg.fade else fade.toNat
            dir := if k = .reverse then .reverse else if k = .seek then seekDirection (s.tru.position.getD 0) q
              else .forward
            base := s.sar.sources.panel.base, limit := s.sar.sources.panel.limit, halt := false
            dim := s.csq.cfg.dim || s.csq.shutFault, skip := s.csq.cfg.skip, retries := s.csq.cfg.retries }
      ∧ t.csq.state.active = true ∧ t.csq.state ≠ .revealing ∧ t.csq.retry = 0 ∧ t.csq.stop = .none
      ∧ t.sar = { s.sar with holder := none, tenureLeft := 0, tenureMs := 0 }
      ∧ (s.csq.cfg.dim = true ∨ s.csq.shutFault = true → t.lmc.dim = true ∧ t.lmc.claim ≠ .none)
      ∧ (s.csq.cfg.dim = false ∧ s.csq.shutFault = false → t.csq.shutClosed = true)
      ∧ (s.csq.state = .idle → t.shc = s.shc) ∧ (s.csq.state = .stalled → t.shc.causes.transport = false)
      ∧ t.tru = s.tru ∧ t.psdo = [0xFF] ∧ t.mem = s.mem ∧ t.cdc = s.cdc ∧ t.rmi = s.rmi ∧ t.lkc = s.lkc

/-- ADVANCE, REVERSE, SEEK and HOME that cannot start (03 R54, R55): pending, replaced, displaced, merged with a sum of
either sign, merged out or refused. -/
def Obligations.PendingRulesAndMerging : Prop :=
  (∀ (s : State) (k : ChangeKind) (a fade : Byte) (q : Nat), Awake s → Admitted s k a fade q → ¬ Startable s k →
      s.sar.waiting = none →
      exec (panelChangeOf k a fade) s = .next (finish (answered .ok [1, b8 q, signedByte (signedCount k a.toNat)]
        { s with sar := { s.sar with waiting := (some
          ⟨.panel, k, signedCount k a.toNat, q, if fade = 0xFF then s.sar.cfg.fade else fade.toNat⟩) } })))
    ∧ (∀ (s : State) (k : ChangeKind) (a fade : Byte) (q : Nat) (w : Waiting), Awake s → Admitted s k a fade q →
        ¬ Startable s k → s.sar.waiting = some w → w.source = .panel → w.kind.steps = false ∨ k.steps = false →
        ∃ t, exec (panelChangeOf k a fade) s = .next t
          ∧ t.pnp.resp = some ⟨.ok, [1, b8 q, signedByte (signedCount k a.toNat)]⟩
          ∧ t.sar.waiting = some
            ⟨.panel, k, signedCount k a.toNat, q, if fade = 0xFF then s.sar.cfg.fade else fade.toNat⟩
          ∧ t.sar.last.panel = ⟨some w.kind, some w.target, .replaced, .none, s.sar.last.panel.refusals⟩
          ∧ (s.sar.cfg.mask.panel = true → t.pnp.pend.change = true) ∧ t.csq = s.csq ∧ t.crn = s.crn)
    ∧ (∀ (s : State) (k : ChangeKind) (a fade : Byte) (q : Nat) (w : Waiting), Awake s → Admitted s k a fade q →
        ¬ Startable s k → s.sar.waiting = some w → w.source ≠ .panel → priority s .panel < priority s w.source →
        ∃ t, exec (panelChangeOf k a fade) s = .next t
          ∧ t.pnp.resp = some ⟨.ok, [1, b8 q, signedByte (signedCount k a.toNat)]⟩
          ∧ t.sar.waiting = some
            ⟨.panel, k, signedCount k a.toNat, q, if fade = 0xFF then s.sar.cfg.fade else fade.toNat⟩
          ∧ t.sar.last.get w.source
            = ⟨some w.kind, some w.target, .displaced, .none, (s.sar.last.get w.source).refusals⟩
          ∧ t.csq = s.csq)
    ∧ (∀ (s : State) (k : ChangeKind) (a fade : Byte) (q : Nat) (w : Waiting), Awake s → Admitted s k a fade q →
        ¬ Startable s k → s.sar.waiting = some w → w.source ≠ .panel → priority s w.source ≤ priority s .panel →
        exec (panelChangeOf k a fade) s = .next (finish (answered .busy [] s)))
    ∧ (∀ (s : State) (k : ChangeKind) (a fade : Byte) (q : Nat) (w : Waiting), Awake s → Admitted s k a fade q →
      ¬ Startable s k → s.sar.waiting = some w → w.source = .panel → w.kind.steps = true → k.steps = true →
      w.count + signedCount k a.toNat = 0 →
      ∃ t, exec (panelChangeOf k a fade) s = .next t
        ∧ t.pnp.resp = some ⟨.ok, [3, b8 ((expected s).getD 0), 0]⟩ ∧ t.sar.waiting = none
        ∧ t.sar.last.panel = ⟨some w.kind, some w.target, .mergedOut, .none, s.sar.last.panel.refusals⟩
        ∧ t.csq = s.csq)
    ∧ (∀ (s : State) (k : ChangeKind) (a fade : Byte) (q : Nat) (w : Waiting), Awake s → Admitted s k a fade q →
        ¬ Startable s k → s.sar.waiting = some w → w.source = .panel → w.kind.steps = true → k.steps = true →
        15 < (w.count + signedCount k a.toNat).natAbs →
        exec (panelChangeOf k a fade) s = .next (finish (answered .range [] s)))
    ∧ (∀ (s : State) (k : ChangeKind) (a fade : Byte) (q r : Nat) (w : Waiting), Awake s → Admitted s k a fade q →
        ¬ Startable s k → s.sar.waiting = some w → w.source = .panel → w.kind.steps = true → k.steps = true →
        0 < w.count + signedCount k a.toNat → w.count + signedCount k a.toNat ≤ 15 →
        s.tru.resolve .advance (w.count + signedCount k a.toNat).natAbs ((expected s).getD 0) = .ok r →
        s.sar.sources.panel.base ≤ r → r ≤ s.sar.sources.panel.limit →
        exec (panelChangeOf k a fade) s = .next (finish (answered .ok
          [2, b8 r, signedByte (w.count + signedCount k a.toNat)]
          { s with sar := { s.sar with waiting := some ⟨.panel, .advance, w.count + signedCount k a.toNat, r,
            if fade = 0xFF then s.sar.cfg.fade else fade.toNat⟩ } })))
    ∧ (∀ (s : State) (k : ChangeKind) (a fade : Byte) (q r : Nat) (w : Waiting), Awake s → Admitted s k a fade q →
        ¬ Startable s k → s.sar.waiting = some w → w.source = .panel → w.kind.steps = true → k.steps = true →
        w.count + signedCount k a.toNat < 0 → -15 ≤ w.count + signedCount k a.toNat →
        s.tru.resolve .reverse (w.count + signedCount k a.toNat).natAbs ((expected s).getD 0) = .ok r →
        s.sar.sources.panel.base ≤ r → r ≤ s.sar.sources.panel.limit →
        exec (panelChangeOf k a fade) s = .next (finish (answered .ok
          [2, b8 r, signedByte (w.count + signedCount k a.toNat)]
          { s with sar := { s.sar with waiting := some ⟨.panel, .reverse, w.count + signedCount k a.toNat, r,
            if fade = 0xFF then s.sar.cfg.fade else fade.toNat⟩ } })))
    ∧ (∀ (s : State) (k : ChangeKind) (a fade : Byte) (q : Nat) (w : Waiting) (st : Status), Awake s →
        Admitted s k a fade q → ¬ Startable s k → s.sar.waiting = some w → w.source = .panel →
        w.kind.steps = true → k.steps = true → 0 < w.count + signedCount k a.toNat →
        w.count + signedCount k a.toNat ≤ 15 →
        s.tru.resolve .advance (w.count + signedCount k a.toNat).natAbs ((expected s).getD 0) = .error st →
        exec (panelChangeOf k a fade) s = .next (finish (answered st [] s)))
    ∧ (∀ (s : State) (k : ChangeKind) (a fade : Byte) (q r : Nat) (w : Waiting), Awake s → Admitted s k a fade q →
        ¬ Startable s k → s.sar.waiting = some w → w.source = .panel → w.kind.steps = true → k.steps = true →
        w.count + signedCount k a.toNat ≠ 0 → (w.count + signedCount k a.toNat).natAbs ≤ 15 →
        s.tru.resolve (if 0 < w.count + signedCount k a.toNat then .advance else .reverse)
          (w.count + signedCount k a.toNat).natAbs ((expected s).getD 0) = .ok r →
        r < s.sar.sources.panel.base ∨ s.sar.sources.panel.limit < r →
        exec (panelChangeOf k a fade) s = .next (finish (answered .outOfWindow [] s)))
    ∧ (∀ (t : Tru) (n b : Nat) (st : Status), t.resolve .advance n b = .error st ∨ t.resolve .reverse n b = .error st →
        st = .noSlide)
    ∧ (∀ (s : State) (k : ChangeKind) (a fade : Byte) (q : Nat) (w : Waiting) (st : Status), Awake s →
        Admitted s k a fade q → ¬ Startable s k → s.sar.waiting = some w → w.source = .panel →
        w.kind.steps = true → k.steps = true → w.count + signedCount k a.toNat < 0 →
        -15 ≤ w.count + signedCount k a.toNat →
        s.tru.resolve .reverse (w.count + signedCount k a.toNat).natAbs ((expected s).getD 0) = .error st →
        exec (panelChangeOf k a fade) s = .next (finish (answered st [] s)))

/-- The refusals of 03 Table 3.5 in their order, route FORWARD (03 R51, R62), and route BOTH (03 R63): the local result
with FORWARDED, or with FORWARD_DROPPED and LINK_OVERFLOW where the link cannot take the frame. RANGE before BAD_ARG
inside check 2 is the model's choice (log 14). -/
def Obligations.TransportRefusalsAndForwarding : Prop :=
  (∀ (s : State) (k : ChangeKind) (a fade : Byte), Awake s → classOk .panel .transport s = false →
      exec (panelChangeOf k a fade) s = .next (finish (answered .disabled [] s)))
    ∧ (∀ (s : State) (k : ChangeKind) (a fade : Byte), Awake s → classOk .panel .transport s = true →
        (k.steps = true ∧ (a.toNat = 0 ∨ 15 < a.toNat)) ∨ (k = .seek ∧ 99 < a.toNat) →
        exec (panelChangeOf k a fade) s = .next (finish (answered .range [] s)))
    ∧ (∀ (s : State) (k : ChangeKind) (a fade : Byte), Awake s → classOk .panel .transport s = true →
        (k.steps = true → 1 ≤ a.toNat ∧ a.toNat ≤ 15) → (k = .seek → a.toNat ≤ 99) →
        99 < fade.toNat → fade ≠ 0xFF →
        exec (panelChangeOf k a fade) s = .next (finish (answered .badArg [] s)))
    ∧ (∀ (s : State) (k : ChangeKind) (a fade : Byte), Awake s → Formed s k a fade →
        s.sar.sources.panel.route ≠ .forward → s.tru.present = false →
        exec (panelChangeOf k a fade) s = .next (finish (answered .trayAbsent [] s)))
    ∧ (∀ (s : State) (k : ChangeKind) (a fade : Byte), Awake s → Formed s k a fade →
        s.sar.sources.panel.route ≠ .forward → s.tru.present = true → s.tru.position = none → k ≠ .home →
        exec (panelChangeOf k a fade) s = .next (finish (answered .notHomed [] s)))
    ∧ (∀ (s : State) (k : ChangeKind) (a fade : Byte), Awake s → Formed s k a fade →
        s.sar.sources.panel.route ≠ .forward → s.tru.present = true → (s.tru.position = none → k = .home) →
        s.csq.gate = .seated → s.csq.origin = none →
        exec (panelChangeOf k a fade) s = .next (finish (answered .gateOrphan [] s)))
    ∧ (∀ (s : State) (k : ChangeKind) (a fade : Byte) (st : Status), Awake s → Formed s k a fade →
        s.sar.sources.panel.route ≠ .forward → Placed s k →
        s.tru.resolve k a.toNat ((expected s).getD 0) = .error st →
        exec (panelChangeOf k a fade) s = .next (finish (answered st [] s)))
    ∧ (∀ (s : State) (k : ChangeKind) (a fade : Byte) (q : Nat), Awake s → Formed s k a fade →
        s.sar.sources.panel.route ≠ .forward → Placed s k → k ≠ .home →
        s.tru.resolve k a.toNat ((expected s).getD 0) = .ok q →
        q < s.sar.sources.panel.base ∨ s.sar.sources.panel.limit < q →
        exec (panelChangeOf k a fade) s = .next (finish (answered .outOfWindow [] s)))
    ∧ (∀ (s : State) (k : ChangeKind) (a fade : Byte), Awake s → Formed s k a fade →
        s.sar.sources.panel.route = .forward → s.lkc.canTake = true →
        exec (panelChangeOf k a fade) s = .next (finish (answered .ok [4, 0xFF, pendingCount s] { s with
          lkc := s.lkc.enqueue s.sar.sources.panel.dest.byte 1 [b8 k.code, if k = .home then 0 else a,
            if fade = 0xFF then b8 s.sar.cfg.fade else fade] })))
    ∧ (∀ (s : State) (k : ChangeKind) (a fade : Byte), Awake s → Formed s k a fade →
        s.sar.sources.panel.route = .forward → s.lkc.canTake = false →
        exec (panelChangeOf k a fade) s = .next (finish (answered .busy [] s)))
    ∧ (∀ (s : State) (k : ChangeKind) (a fade : Byte) (q : Nat), Powered s → Formed s k a fade →
        s.sar.sources.panel.route = .both → Placed s k →
        s.tru.resolve k a.toNat ((expected s).getD 0) = .ok q →
        (k = .home ∨ (s.sar.sources.panel.base ≤ q ∧ q ≤ s.sar.sources.panel.limit)) → Startable s k →
        ∃ t, exec (panelChangeOf k a fade) s = .next t
          ∧ t.pnp.resp = some ⟨.ok, [if s.lkc.canTake then 4 else 5, b8 q, pendingCount s]⟩
          ∧ t.csq.state.active = true ∧ t.sar.holder = none ∧ t.sar.waiting = s.sar.waiting
          ∧ t.csq.flight.map (fun f => (f.kind, f.owner, f.target, f.fade))
            = some (k, .panel, q, if fade = 0xFF then s.sar.cfg.fade else fade.toNat)
          ∧ t.lkc = (if s.lkc.canTake then s.lkc.enqueue s.sar.sources.panel.dest.byte 1
              [b8 k.code, if k = .home then 0 else a, if fade = 0xFF then b8 s.sar.cfg.fade else fade]
              else { s.lkc with overflow := true }))
    ∧ (∀ (s u : State) (k : ChangeKind) (a fade d : Byte) (rest : List Byte), Awake s →
        s.sar.sources.panel.route = .both →
        exec (panelChangeOf k a fade) { s with sar := { s.sar with
          sources := { s.sar.sources with panel := { s.sar.sources.panel with route := .here } } } } = .next u →
        u.pnp.resp = some ⟨.ok, d :: rest⟩ →
        exec (panelChangeOf k a fade) s = .next { u with
          sar := { u.sar with sources := s.sar.sources }
          pnp := { u.pnp with resp := some ⟨.ok, (if s.lkc.canTake then 4 else 5) :: rest⟩ }
          lkc := if s.lkc.canTake then s.lkc.enqueue s.sar.sources.panel.dest.byte 1
              [b8 k.code, if k = .home then 0 else a, if fade = 0xFF then b8 s.sar.cfg.fade else fade]
            else { s.lkc with overflow := true } })
    ∧ (∀ (s u : State) (k : ChangeKind) (a fade : Byte) (st : Status), Awake s →
        s.sar.sources.panel.route = .both →
        exec (panelChangeOf k a fade) { s with sar := { s.sar with
          sources := { s.sar.sources with panel := { s.sar.sources.panel with route := .here } } } } = .next u →
        u.pnp.resp = some ⟨st, []⟩ →
        exec (panelChangeOf k a fade) s = .next { u with sar := { u.sar with sources := s.sar.sources } })

/-- HALT, TENURE_EXPIRY and PENDING_CHANGE_START (03 R60, R57, R58, R59, R67; 02 R38): the expiry itself starts the
pending change that CSQ can take. PENDING_CHANGE_START finds one only after a SET_SOURCE that changed a priority, by
the model's choice (log 47). -/
def Obligations.HaltTenureAndPendingStart : Prop :=
  (∀ (s : State) (f : Flight), Awake s → classOk .panel .transport s = true → s.csq.flight = some f →
      priority s f.owner < priority s .panel →
      exec .halt s = .next (finish (answered .busy [] s)))
    ∧ (∀ (s : State) (f : Flight), Awake s → classOk .panel .transport s = true → s.csq.flight = some f →
        priority s .panel ≤ priority s f.owner → s.sar.waiting = none →
        s.csq.state = .lifting ∨ s.csq.state = .indexing →
        exec .halt s = .next (finish (answered .ok [] { s with
          csq := { s.csq with flight := some { f with halt := true } } })))
    ∧ (∀ (s : State) (f : Flight), Awake s → classOk .panel .transport s = true → s.csq.flight = some f →
        priority s .panel ≤ priority s f.owner → s.sar.waiting = none →
        s.csq.state = .dropping ∨ s.csq.state = .revealing →
        exec .halt s = .next (finish (answered .ok [] s)))
    ∧ (∀ (s : State) (f : Flight), Awake s → classOk .panel .transport s = true → s.csq.flight = some f →
        priority s .panel ≤ priority s f.owner → s.sar.waiting = none → s.csq.state = .blanking →
        ∃ t, exec .halt s = .next t ∧ t.pnp.resp = some ⟨.ok, []⟩ ∧ t.csq.shutClosed = false
          ∧ t.lmc.claim = .none ∧ t.tru = s.tru ∧ t.csq.gate = s.csq.gate ∧ t.csq.origin = s.csq.origin
          ∧ ((t.csq.state = .revealing ∧ t.csq.flight = some { f with halt := true } ∧ t.sar = s.sar)
            ∨ (t.csq.state = .idle ∧ t.csq.flight = none ∧ Ended f .halted (finalNow s) s t)))
    ∧ (∀ (s : State) (w : Waiting), Awake s → classOk .panel .transport s = true → s.csq.flight = none →
        s.sar.holder = none → s.sar.waiting = some w →
        ∃ t, exec .halt s = .next t ∧ t.pnp.resp = some ⟨.ok, []⟩ ∧ t.csq = s.csq ∧ t.sar.waiting = none
          ∧ t.sar.last.get w.source
            = ⟨some w.kind, some w.target, .halted, .none, (s.sar.last.get w.source).refusals⟩)
    ∧ (∀ s : State, Awake s → classOk .panel .transport s = false →
        exec .halt s = .next (finish (answered .disabled [] s)))
    ∧ (∀ (s : State) (f : Flight) (w : Waiting), Awake s → classOk .panel .transport s = true →
        s.csq.flight = some f → priority s .panel ≤ priority s f.owner → s.sar.waiting = some w →
        s.csq.state = .lifting ∨ s.csq.state = .indexing →
        ∃ t, exec .halt s = .next t ∧ t.pnp.resp = some ⟨.ok, []⟩ ∧ t.sar.waiting = none
          ∧ t.csq = { s.csq with flight := some { f with halt := true } }
          ∧ t.sar.last.get w.source
            = ⟨some w.kind, some w.target, .halted, .none, (s.sar.last.get w.source).refusals⟩)
    ∧ (∀ s : State, Awake s →
        (∀ w ∈ s.sar.waiting, s.pnp.power = .standbyPending ∨ s.csq.state ≠ .idle ∧ (s.csq.state ≠ .stalled ∨ w.kind ≠ .home)) →
        exec .tenureExpiry s = .next (finish { s with
          sar := { s.sar with holder := none, tenureLeft := 0, tenureMs := 0 } }))
    ∧ (∀ (s : State) (w : Waiting) (q : Nat), Powered s → s.pnp.power = .run → s.sar.waiting = some w →
        s.csq.state = .idle ∨ (s.csq.state = .stalled ∧ w.kind = .home) → startCheck w s = .ok q →
        ∃ t, exec .tenureExpiry s = .next t ∧ StartedPending w q s t ∧ t.sar.last = s.sar.last ∧ t.tru = s.tru
          ∧ t.csq.gate = s.csq.gate ∧ (s.csq.state = .idle → t.shc = s.shc)
          ∧ (s.csq.state = .stalled → t.shc.causes.transport = false))
    ∧ (∀ (s : State) (w : Waiting) (st : Status), Powered s → s.pnp.power = .run → s.sar.waiting = some w →
        s.csq.state = .idle ∨ (s.csq.state = .stalled ∧ w.kind = .home) → s.csq.flight = none →
        startCheck w s = .error st →
        ∃ t, exec .tenureExpiry s = .next t ∧ RefusedPending w s t ∧ t.sar.holder = none ∧ t.csq = s.csq
          ∧ t.tru = s.tru)
    ∧ (∀ s : State, Powered s → s.pnp.power = .standby ∨ s.pnp.power = .resetHeld →
        exec .tenureExpiry s = .next (finish s))
    ∧ (∀ (s : State) (w : Waiting) (q : Nat), Powered s → s.pnp.power = .run → s.csq.state = .idle →
        s.sar.waiting = some w → s.sar.holder = none ∨ s.sar.holder = some w.source → startCheck w s = .ok q →
        ∃ t, exec .pendingChangeStart s = .next t ∧ t.sar.waiting = none ∧ t.sar.holder = none
          ∧ t.csq.state.active = true
          ∧ t.csq.flight.map (fun f => (f.kind, f.owner, f.target, f.fade, f.halt))
            = some (w.kind, w.source, q, w.fade, false)
          ∧ t.sar.last = s.sar.last ∧ t.tru = s.tru)
    ∧ (∀ (s : State) (w : Waiting) (st : Status), Powered s → s.pnp.power = .run → s.csq.state = .idle →
        s.sar.waiting = some w → s.sar.holder = none ∨ s.sar.holder = some w.source → startCheck w s = .error st →
        ∃ t, exec .pendingChangeStart s = .next t ∧ t.sar.waiting = none ∧ t.sar.holder = s.sar.holder
          ∧ t.csq = s.csq
          ∧ t.sar.last.get w.source
            = ⟨some w.kind, some w.target, .refusedAtStart, .none, (s.sar.last.get w.source).refusals⟩)
    ∧ (∀ (s : State) (w : Waiting), Powered s → s.sar.waiting = some w → classOk w.source .transport s = true →
        s.tru.present = true → w.kind = .seek → s.tru.position ≠ none → s.csq.orphaned = false →
        startCheck w s = (if (s.sar.sources.get w.source).base ≤ w.target
            ∧ w.target ≤ (s.sar.sources.get w.source).limit then .ok w.target else .error .outOfWindow))
    ∧ (∀ s : State, Powered s → s.sar.waiting = none → exec .pendingChangeStart s = .next (finish s))

/-- SET_SOURCE, SET_ARBITER, READ_SOURCE and READ_ARBITER (03 R46, R47, R48, R66). BAD_ARG before BUSY is the order of
R46 ("If no case applies and R47 does not refuse it"). -/
def Obligations.ArbitrationSettingsAndReads : Prop :=
  (∀ (s : State) (n : Byte) (b : SourceBytes) (src : Source) (r : SourceRec), Awake s → n.toNat = src.code →
      SourceRec.parse src b = some r → (∀ f ∈ s.csq.flight, f.owner ≠ src) →
      (∀ w ∈ s.sar.waiting, w.source ≠ src) →
      exec (.setSource n b) s = .next (answered .ok [] { s with
        sar := { s.sar with sources := s.sar.sources.set src r } }))
    ∧ (∀ (s : State) (n : Byte) (b : SourceBytes) (src : Source) (r : SourceRec) (f : Flight), Awake s →
        n.toNat = src.code → SourceRec.parse src b = some r → s.csq.flight = some f → f.owner = src →
        exec (.setSource n b) s = .next (answered .busy [] s))
    ∧ (∀ (s : State) (n : Byte) (b : SourceBytes) (src : Source) (r : SourceRec) (w : Waiting), Awake s →
        n.toNat = src.code → SourceRec.parse src b = some r → s.sar.waiting = some w → w.source = src →
        exec (.setSource n b) s = .next (answered .busy [] s))
    ∧ (∀ (s : State) (n : Byte) (b : SourceBytes) (src : Source), Awake s → n.toNat = src.code →
        1 < b.enable.toNat ∨ 2 < b.route.toNat ∨ 2 < b.destType.toNat ∨ 3 < b.priority.toNat ∨ 99 < b.base.toNat
          ∨ 99 < b.limit.toNat ∨ b.limit.toNat < b.base.toNat ∨ (b.destType.toNat = 0 ∧ 14 < b.destNum.toNat)
          ∨ (b.destType.toNat = 1 ∧ (b.destNum.toNat = 0 ∨ 8 < b.destNum.toNat))
          ∨ (src = .link ∧ b.route.toNat ≠ 0) →
        SourceRec.parse src b = none ∧ exec (.setSource n b) s = .next (answered .badArg [] s))
    ∧ (∀ (src : Source) (b : SourceBytes), SourceRec.parse src b = none →
        1 < b.enable.toNat ∨ 2 < b.route.toNat ∨ 2 < b.destType.toNat ∨ 3 < b.priority.toNat ∨ 99 < b.base.toNat
          ∨ 99 < b.limit.toNat ∨ b.limit.toNat < b.base.toNat ∨ (b.destType.toNat = 0 ∧ 14 < b.destNum.toNat)
          ∨ (b.destType.toNat = 1 ∧ (b.destNum.toNat = 0 ∨ 8 < b.destNum.toNat))
          ∨ (src = .link ∧ b.route.toNat ≠ 0))
    ∧ (∀ (s : State) (n : Byte) (b : SourceBytes), Awake s → 3 < n.toNat →
        exec (.setSource n b) s = .next (answered .badArg [] s)
          ∧ exec (.readSource n) s = .next (answered .badArg [] s))
    ∧ (∀ (s : State) (n : Byte) (src : Source), Awake s → n.toNat = src.code →
        ∃ t, exec (.readSource n) s = .next t ∧ t = answered .ok (s.sar.sources.get src).bytes s
          ∧ (s.sar.sources.get src).bytes.length = 16)
    ∧ (∀ (s : State) (fade m : Byte), Awake s → fade.toNat ≤ 99 →
        exec (.setArbiter fade m) s = .next (answered .ok [] { s with
          sar := { s.sar with cfg :=
            ⟨fade.toNat, ⟨m.getLsbD 0, m.getLsbD 1, m.getLsbD 2, m.getLsbD 3⟩⟩ } }))
    ∧ (∀ (s : State) (fade m : Byte), Awake s → 99 < fade.toNat →
        exec (.setArbiter fade m) s = .next (answered .badArg [] s))
    ∧ (∀ s : State, Awake s → exec .readArbiter s = .next (answered .ok
        [match s.csq.flight with
            | some f => b8 f.owner.code
            | none => (0xFF : Byte),
         match s.sar.holder with
            | some h => b8 h.code
            | none => 0xFF,
         if s.sar.holder = none then 0 else b8 s.sar.tenureLeft,
         match s.sar.waiting with
            | some w => b8 w.source.code
            | none => 0xFF,
         match s.sar.waiting with
            | some w => b8 w.kind.code
            | none => 0,
         match s.sar.waiting with
            | some w => if 0 ≤ w.count then b8 w.count.natAbs else 0 - b8 w.count.natAbs
            | none => 0,
         match s.sar.waiting with
            | some w => b8 w.target
            | none => 0xFF,
         match s.sar.waiting with
            | some w => b8 w.fade
            | none => 0,
         b8 s.sar.cfg.fade,
         b8 (bit s.sar.cfg.mask.panel 0 + bit s.sar.cfg.mask.remote 1 + bit s.sar.cfg.mask.program 2
           + bit s.sar.cfg.mask.link 3)] s))
    ∧ [ChangeKind.advance, .reverse, .seek, .home].map ChangeKind.code = [1, 2, 3, 4]
    ∧ [Source.panel, .remote, .program, .link].map Source.code = [0, 1, 2, 3]

/-- READ_LAST_CHANGE (03 R65, Table 3.7). -/
def Obligations.ReadLastChangeClearsTheRefusalCounts : Prop :=
  (∀ s : State, Awake s → ∃ t, exec .readLastChange s = .next t
    ∧ t = answered .ok
        (([s.sar.last.panel, s.sar.last.remote, s.sar.last.program, s.sar.last.link].map (fun r =>
          [match r.kind with
            | none => (0 : Byte)
            | some .advance => 1
            | some .reverse => 2
            | some .seek => 3
            | some .home => 4,
           match r.target with
            | some p => b8 p
            | none => 0xFF,
           match r.outcome with
            | .none => 0
            | .done => 1
            | .halted => 2
            | .jammed => 3
            | .stalled => 4
            | .trayLost => 5
            | .displaced => 6
            | .replaced => 7
            | .mergedOut => 8
            | .flushed => 9
            | .refusedAtStart => 10,
           match r.final with
            | .known p => b8 p
            | .unknown => 0xFE
            | .none => 0xFF,
           b8 r.refusals])).flatten)
        { s with
          sar := { s.sar with last :=
            ⟨{ s.sar.last.panel with refusals := 0 }, { s.sar.last.remote with refusals := 0 },
             { s.sar.last.program with refusals := 0 }, { s.sar.last.link with refusals := 0 }⟩ }
          pnp := { s.pnp with pend := { s.pnp.pend with change := false } } })
    ∧ (∀ (s : State) (src : Source) (k : ChangeKind) (q : Nat) (o : ChangeOutcome) (f : FinalPos),
        s.sar.cfg.mask.get src = true → (writeRecord src k q o f s).pnp.pend.change = true
          ∧ (writeRecord src k q o f s).sar.last.get src = ⟨some k, some q, o, f, (s.sar.last.get src).refusals⟩)

/-! ## Lamp, dissolve and cooling (04) -/

/-- LAMP_ON by 04 Table 4.4, row by row in RUN; the class check; the wake event of its note 2, which starts a pending
change that nothing bars (03 R59, R67). -/
def Obligations.LampOnByTable : Prop :=
  (∀ s : State, Powered s → s.pnp.power = .run → classOk .panel .lamp s = true → s.lmc.lamp = .fault →
      exec .lampOn s = .next (finish (answered .busy [] s)))
    ∧ (∀ s : State, Powered s → s.pnp.power = .run → classOk .panel .lamp s = true → s.lmc.lamp ≠ .fault →
        s.lmc.trip = true → exec .lampOn s = .next (finish (answered .tripped [] s)))
    ∧ (∀ s : State, Powered s → s.pnp.power = .run → classOk .panel .lamp s = true → s.lmc.trip = false →
        s.lmc.lamp = .preheat ∨ s.lmc.lamp = .lit → exec .lampOn s = .next (finish (answered .ok [] s)))
    ∧ (∀ s : State, Powered s → s.pnp.power = .run → classOk .panel .lamp s = true → s.lmc.trip = false →
        s.lmc.lamp = .off ∨ s.lmc.lamp = .cooling → 60 ≤ s.lmc.temp.getD 60 →
        exec .lampOn s = .next (finish (answered .hot [] { s with lmc := { s.lmc with restrike := true } })))
    ∧ (∀ s : State, Powered s → s.pnp.power = .run → classOk .panel .lamp s = true → s.lmc.trip = false →
        s.lmc.lamp = .off ∨ s.lmc.lamp = .cooling → s.lmc.temp.getD 60 < 60 → s.lmc.dim = true →
        exec .lampOn s = .next (finish (answered .ok [] { s with lmc := { s.lmc with deferred := true } })))
    ∧ (∀ s : State, Powered s → s.pnp.power = .run → classOk .panel .lamp s = true → s.lmc.trip = false →
        s.lmc.lamp = .off ∨ s.lmc.lamp = .cooling → s.lmc.temp.getD 60 < 60 → s.lmc.dim = false →
        exec .lampOn s = .next (finish (answered .ok [] { s with
          lmc := { s.lmc with lamp := .preheat, preheatMs := 0, restrike := false, deferred := false,
                              coolLeft := 0, coolMs := 0, coolRunning := false } })))
    ∧ (∀ s : State, Powered s → s.pnp.power ≠ .resetHeld → classOk .panel .lamp s = false →
        exec .lampOn s = .next (finish (answered .disabled [] s)))
    ∧ (∀ s : State, Powered s → s.pnp.power = .standby ∨ s.pnp.power = .standbyPending →
        classOk .panel .lamp s = true →
        ∃ t, exec .lampOn s = .next t ∧ t.pnp.power = .run ∧ t.pnp.event = .woken ∧ t.pnp.pend.power = true
          ∧ t.lmc.temp = s.lmc.temp
          ∧ (NoneDue s → t.csq = s.csq ∧ t.sar = s.sar ∧ t.dkc = s.dkc ∧ t.shc = s.shc)
          ∧ (∀ w q, s.sar.waiting = some w → DueAtRun s w → startCheck w s = .ok q → StartedPending w q s t))

/-- LAMP_OFF, PREHEAT_EXPIRY, COOLING_TIMER_EXPIRY, LCUR_ACTIVE and LAMP_OPEN_DETECT (04 R72, R75, R76, R88).
LCUR_ACTIVE carries the level of LCUR by the model's choice (log 39); that the three timers' events have no effect
where their timer does not run is the model's choice too (log 3). -/
def Obligations.LampOffPreheatAndCooling : Prop :=
  (∀ s : State, Awake s → classOk .panel .lamp s = true → s.lmc.lamp = .preheat ∨ s.lmc.lamp = .lit →
      ∃ t, exec .lampOff s = .next t ∧ t.pnp.resp = some ⟨.ok, []⟩ ∧ t.lmc.lamp = .cooling ∧ t.lmc.output = 0
        ∧ t.lmc.ramp = ⟨0, 0, 0, 0, 0⟩ ∧ t.lmc.coolLeft = s.lmc.cfg.minCool ∧ t.lmc.coolRunning = true
        ∧ t.lmc.restrike = false ∧ t.lmc.deferred = false ∧ t.lmc.guardCap = false ∧ t.lmc.guardElapsed = 0
        ∧ t.lmc.trip = s.lmc.trip ∧ t.lmc.hours = s.lmc.hours ∧ t.lmc.temp = s.lmc.temp
        ∧ t.pnp.hoursWaiting = (if s.lmc.lamp = .lit ∧ s.pnp.memPresent = true then some s.lmc.hours
            else s.pnp.hoursWaiting)
        ∧ t.mem = s.mem ∧ t.dkc = s.dkc ∧ t.shc = s.shc ∧ t.rmi = s.rmi ∧ t.lkc = s.lkc ∧ t.cdc = s.cdc)
    ∧ (∀ s : State, Awake s → classOk .panel .lamp s = true → s.lmc.lamp ≠ .preheat → s.lmc.lamp ≠ .lit →
        ∃ t, exec .lampOff s = .next t ∧ t.pnp.resp = some ⟨.ok, []⟩ ∧ t.lmc.lamp = s.lmc.lamp
          ∧ t.lmc.restrike = false ∧ t.lmc.deferred = false ∧ t.lmc.trip = s.lmc.trip
          ∧ t.pnp.hoursWaiting = s.pnp.hoursWaiting)
    ∧ (∀ s : State, Awake s → classOk .panel .lamp s = false →
        exec .lampOff s = .next (finish (answered .disabled [] s)))
    ∧ (∀ s : State, Powered s → s.lmc.lamp = .preheat →
        ∃ t, exec .preheatExpiry s = .next t ∧ t.lmc.lamp = .lit
          ∧ t.lmc.ramp = ⟨0, s.lmc.showLevel, s.sar.cfg.fade, 0, 0⟩
          ∧ (s.pnp.power ≠ .resetHeld → t.shc.causes.lamp = false) ∧ t.lmc.showLevel = s.lmc.showLevel
          ∧ t.csq = s.csq ∧ t.sar = s.sar ∧ t.tru = s.tru ∧ t.mem = s.mem)
    ∧ (∀ s : State, Powered s → s.lmc.lamp ≠ .preheat → exec .preheatExpiry s = .next (finish s))
    ∧ (∀ s : State, Powered s → s.lmc.lamp = .cooling → s.lmc.temp.getD 45 < 45 →
      exec .coolingTimerExpiry s = .next (finish { s with
        lmc := { s.lmc with lamp := .off, ramp := ⟨0, 0, 0, 0, 0⟩, preheatMs := 0, openMs := 0, guardCap := false,
                            guardElapsed := 0, guardMs := 0, coolLeft := 0, coolMs := 0, coolRunning := false } }))
    ∧ (∀ s : State, Powered s → s.lmc.lamp = .cooling → 45 ≤ s.lmc.temp.getD 45 →
        exec .coolingTimerExpiry s = .next (finish { s with
          lmc := { s.lmc with coolLeft := 0, coolMs := 0, coolRunning := false } }))
    ∧ (∀ s : State, Powered s → s.lmc.lamp = .fault → s.lmc.coolDone = false → s.lmc.temp.getD 45 < 45 →
        exec .coolingTimerExpiry s = .next (finish { s with
          lmc := { s.lmc with coolLeft := 0, coolMs := 0, coolRunning := false, coolDone := true } }))
    ∧ (∀ s : State, Powered s → s.lmc.lamp ≠ .cooling → s.lmc.lamp ≠ .fault →
        exec .coolingTimerExpiry s = .next (finish s))
    ∧ (∀ (s : State) (a : Bool), Powered s →
        ∃ t, exec (.lcurActive a) s = .next t ∧ t = finish { s with pins := { s.pins with lcur := a } }
          ∧ (a = true ∨ s.lmc.lamp ≠ .lit ∨ s.lmc.output = 0 → t.lmc.openMs = 0)
          ∧ (a = false → s.lmc.lamp = .lit → 0 < s.lmc.output → t.lmc.openMs = s.lmc.openMs))
    ∧ (∀ s : State, Powered s → s.lmc.lamp = .lit → 0 < s.lmc.output → s.pins.lcur = false →
        ∃ t, exec .lampOpenDetect s = .next t ∧ t.lmc.lamp = .fault ∧ t.lmc.output = 0 ∧ t.lmc.coolDone = false
          ∧ t.lmc.coolLeft = s.lmc.cfg.minCool ∧ t.lmc.coolRunning = true ∧ t.lmc.restrike = false
          ∧ t.lmc.deferred = false ∧ t.lmc.guardCap = false ∧ t.lmc.guardElapsed = 0
          ∧ t.pnp.faults = s.pnp.faults.set .lampOpen ∧ t.pnp.pend.fault = true
          ∧ (s.pnp.power ≠ .resetHeld → t.shc.causes.lamp = true)
          ∧ t.pnp.hoursWaiting = (if s.pnp.memPresent = true then some s.lmc.hours else s.pnp.hoursWaiting)
          ∧ t.tru = s.tru ∧ t.mem = s.mem ∧ t.rmi = s.rmi ∧ t.lkc = s.lkc)
    ∧ (∀ s : State, Powered s → s.lmc.lamp ≠ .lit ∨ s.lmc.output = 0 ∨ s.pins.lcur = true →
        exec .lampOpenDetect s = .next (finish s))

/-- The level of a ramp and the output (04 R69, R78). -/
def Obligations.RampLevelAndOutput : Prop :=
  (∀ r : Ramp, r.duration = 0 → r.level = r.target)
    ∧ (∀ r : Ramp, 0 < r.duration → r.start ≤ r.target →
        r.level = r.start + (r.target - r.start) * r.elapsed / r.duration)
    ∧ (∀ r : Ramp, 0 < r.duration → r.target < r.start →
        r.level = r.start - (r.start - r.target) * r.elapsed / r.duration)
    ∧ (∀ r : Ramp, 0 < r.duration → r.elapsed = 0 → r.level = r.start)
    ∧ (∀ r : Ramp, 0 < r.duration → r.elapsed = r.duration → r.level = r.target)
    ∧ (∀ l : Lmc, l.claim = .hold → l.output = 0)
    ∧ (∀ l : Lmc, l.claim ≠ .hold → l.lamp = .preheat → l.output = 24)
    ∧ (∀ l : Lmc, l.claim ≠ .hold → l.lamp = .lit → l.derate = false → l.guardCap = false →
        l.output = l.ramp.level)
    ∧ (∀ l : Lmc, l.claim ≠ .hold → l.lamp = .lit → l.derate = true → l.guardCap = false →
        l.output = min l.ramp.level 160)
    ∧ (∀ l : Lmc, l.claim ≠ .hold → l.lamp = .lit → l.guardCap = true → l.output = min l.ramp.level 128)
    ∧ (∀ l : Lmc, l.lamp = .off ∨ l.lamp = .cooling ∨ l.lamp = .fault → l.output = 0)

/-- SET_LEVEL, LAMP_RAMP_TICK and HEAT_GUARD_EXPIRY (04 R79, R78, R80, R81, R85; 02 R25, R31): a ramp's last tick ends
a DIM blanking and completes a reveal, whose end may start a pending change (03 R59). That SET_LEVEL's ramp starts from
the output with the heat guard cap still counted is the model's choice (log 13), and so is that a LAMP_RAMP_TICK or a
HEAT_GUARD_EXPIRY whose timer does not run has no effect (log 3). -/
def Obligations.ShowLevelAndHeatGuard : Prop :=
  (∀ (s : State) (l f : Byte), Awake s → classOk .panel .lamp s = true → f.toNat ≤ 99 ∨ f = 0xFF →
      s.lmc.lamp = .lit → s.lmc.claim = .none → RevealStartsNothing s →
      ∃ t, exec (.setLevel l f) s = .next t ∧ t.pnp.resp = some ⟨.ok, []⟩ ∧ t.lmc.showLevel = l.toNat
        ∧ t.lmc.ramp = ⟨s.lmc.output, l.toNat, if f = 0xFF then s.sar.cfg.fade else f.toNat, 0, 0⟩
        ∧ (l.toNat ≤ 200 → t.lmc.guardCap = false ∧ t.lmc.guardElapsed = 0)
        ∧ (200 < l.toNat → t.lmc.guardCap = s.lmc.guardCap)
        ∧ t.lmc.lamp = .lit ∧ t.tru = s.tru ∧ t.mem = s.mem ∧ t.dkc = s.dkc ∧ t.rmi = s.rmi ∧ t.lkc = s.lkc
        ∧ t.lmc.owed = false ∧ (s.lmc.owed = false → t.csq = s.csq)
        ∧ (s.lmc.owed = true → s.csq.state = .revealing → s.csq.shutDone = true → t.csq.state = .idle
            ∧ t.csq.flight = none)
        ∧ (s.lmc.owed = true → s.csq.state = .revealing → s.csq.shutDone = false →
            t.csq = { s.csq with lampDone := true }))
    ∧ (∀ (s : State) (l f : Byte) (w : Waiting) (q : Nat), Awake s → classOk .panel .lamp s = true →
        f.toNat ≤ 99 ∨ f = 0xFF → s.lmc.lamp = .lit → s.lmc.claim = .none → s.lmc.owed = true →
        s.csq.state = .revealing → s.csq.shutDone = true → s.sar.waiting = some w → LetIn s.csq.ownerNow s w →
        startCheck w s = .ok q →
        ∃ t, exec (.setLevel l f) s = .next t ∧ t.pnp.resp = some ⟨.ok, []⟩ ∧ t.lmc.showLevel = l.toNat
          ∧ StartedPending w q s t ∧ t.tru = s.tru)
    ∧ (∀ (s : State) (l f : Byte), Awake s → classOk .panel .lamp s = true → f.toNat ≤ 99 ∨ f = 0xFF →
        s.lmc.lamp ≠ .lit ∨ s.lmc.claim ≠ .none → 200 < l.toNat →
        exec (.setLevel l f) s = .next (finish (answered .ok [] { s with
          lmc := { s.lmc with showLevel := l.toNat } })))
    ∧ (∀ (s : State) (l f : Byte), Awake s → classOk .panel .lamp s = true → f.toNat ≤ 99 ∨ f = 0xFF →
        s.lmc.lamp ≠ .lit ∨ s.lmc.claim ≠ .none → l.toNat ≤ 200 →
        exec (.setLevel l f) s = .next (finish (answered .ok [] { s with
          lmc := { s.lmc with showLevel := l.toNat, guardCap := false, guardElapsed := 0, guardMs := 0 } })))
    ∧ (∀ (s : State) (l f : Byte), Awake s → classOk .panel .lamp s = true → 99 < f.toNat → f ≠ 0xFF →
        exec (.setLevel l f) s = .next (finish (answered .badArg [] s)))
    ∧ (∀ (s : State) (l f : Byte), Awake s → classOk .panel .lamp s = false →
        exec (.setLevel l f) s = .next (finish (answered .disabled [] s)))
    ∧ (∀ s : State, Powered s → s.lmc.lamp = .lit → s.lmc.ramp.elapsed < s.lmc.ramp.duration →
        ∃ t, exec .lampRampTick s = .next t
          ∧ (RevealStartsNothing s →
              t.lmc.ramp = { s.lmc.ramp with elapsed := s.lmc.ramp.elapsed + 1, ms := 0 })
          ∧ (s.lmc.claim ≠ .fade → s.lmc.owed = false → t.csq = s.csq ∧ t.lmc.claim = s.lmc.claim)
          ∧ (s.lmc.claim ≠ .fade → s.lmc.ramp.elapsed + 1 < s.lmc.ramp.duration → t.csq = s.csq)
          ∧ t.lmc.lamp = .lit ∧ t.lmc.showLevel = s.lmc.showLevel ∧ t.mem = s.mem ∧ t.dkc = s.dkc)
    ∧ (∀ (s : State) (f : Flight), Powered s → s.lmc.lamp = .lit → s.lmc.ramp.elapsed + 1 = s.lmc.ramp.duration →
        s.lmc.ramp.target = 0 → s.lmc.claim = .fade → s.csq.state = .blanking → s.csq.flight = some f →
        s.lmc.owed = false →
        ∃ t, exec .lampRampTick s = .next t ∧ t.lmc.claim = .hold ∧ t.lmc.output = 0 ∧ t.csq.shutMs = none
          ∧ t.csq.flight = some f ∧ t.csq.gate = s.csq.gate
          ∧ (s.csq.gate ≠ .empty → t.csq.state = .lifting ∧ t.csq.drive = .lift)
          ∧ (s.csq.gate = .empty → s.tru.position = some f.target → t.csq.state = .dropping ∧ t.csq.drive = .drop)
          ∧ (s.csq.gate = .empty → s.tru.position ≠ some f.target → t.csq.state = .indexing)
          ∧ t.sar = s.sar ∧ t.tru = s.tru)
    ∧ (∀ (s : State) (f : Flight), Powered s → s.lmc.lamp = .lit → s.lmc.ramp.elapsed + 1 = s.lmc.ramp.duration →
        s.lmc.claim = .none → s.lmc.owed = true → s.csq.state = .revealing → s.csq.shutDone = true →
        s.csq.flight = some f → StartsNothing f.owner s →
        ∃ t, exec .lampRampTick s = .next t ∧ t.lmc.owed = false ∧ t.lmc.dim = false ∧ t.csq.state = .idle
          ∧ t.csq.flight = none ∧ Ended f (if f.halt then .halted else .done) (finalNow s) s t)
    ∧ (∀ (s : State) (f : Flight) (w : Waiting) (q : Nat), Powered s → s.lmc.lamp = .lit →
        s.lmc.ramp.elapsed + 1 = s.lmc.ramp.duration → s.lmc.claim = .none → s.lmc.owed = true →
        s.csq.state = .revealing → s.csq.shutDone = true → s.csq.flight = some f → s.sar.waiting = some w →
        LetIn f.owner s w → startCheck w s = .ok q →
        ∃ t, exec .lampRampTick s = .next t ∧ t.lmc.owed = false ∧ StartedPending w q s t)
    ∧ (∀ s : State, Powered s → s.lmc.lamp = .lit → s.lmc.ramp.elapsed + 1 = s.lmc.ramp.duration →
        s.lmc.claim = .none → s.lmc.owed = true → s.csq.state = .revealing → s.csq.shutDone = false →
        ∃ t, exec .lampRampTick s = .next t ∧ t.lmc.owed = false ∧ t.csq = { s.csq with lampDone := true }
          ∧ t.sar = s.sar)
    ∧ (∀ s : State, Powered s → s.lmc.lamp ≠ .lit ∨ s.lmc.ramp.duration ≤ s.lmc.ramp.elapsed →
        exec .lampRampTick s = .next (finish s))
    ∧ (∀ s : State, Powered s → s.csq.gate = .seated → s.lmc.lamp = .lit → 200 < s.lmc.output →
        s.lmc.cfg.heat ≠ 0 → s.lmc.guardCap = false →
        exec .heatGuardExpiry s = .next (finish { s with
          lmc := { s.lmc with guardCap := true } }))
    ∧ (∀ s : State, Powered s → s.csq.gate ≠ .seated ∨ s.lmc.lamp ≠ .lit ∨ s.lmc.output ≤ 200
          ∨ s.lmc.cfg.heat = 0 ∨ s.lmc.guardCap = true →
        exec .heatGuardExpiry s = .next (finish s))

/-- LAMP_REPLACED, CLEAR_FAULT_TRIP, SET_LAMP and READ_LAMP (04 R77, R83, R89, R90). -/
def Obligations.LampServiceCommands : Prop :=
  (∀ s : State, Awake s → (s.lmc.lamp = .fault ∧ s.lmc.coolDone = true) ∨ s.lmc.lamp = .off →
      ∃ t, exec .lampReplaced s = .next t ∧ t.pnp.resp = some ⟨.ok, []⟩ ∧ t.lmc.lamp = .off ∧ t.lmc.hours = 0
        ∧ t.lmc.part = 0 ∧ (s.lmc.lamp = .fault → t.lmc.coolDone = false) ∧ t.lmc.trip = s.lmc.trip
        ∧ t.pnp.hoursWaiting = (if s.pnp.memPresent = true then some 0 else s.pnp.hoursWaiting)
        ∧ t.pnp.faults = s.pnp.faults ∧ t = { s with lmc := t.lmc, pnp := t.pnp, psdo := [0xFF] })
    ∧ (∀ s : State, Awake s → s.lmc.lamp = .fault → s.lmc.coolDone = false →
        exec .lampReplaced s = .next (finish (answered .hot [] s)))
    ∧ (∀ s : State, Awake s → s.lmc.lamp = .preheat ∨ s.lmc.lamp = .lit ∨ s.lmc.lamp = .cooling →
        exec .lampReplaced s = .next (finish (answered .busy [] s)))
    ∧ (∀ s : State, Awake s → s.lmc.trip = false → exec .clearFaultTrip s = .next (answered .ok [] s))
    ∧ (∀ s : State, Awake s → s.lmc.trip = true → 60 ≤ s.lmc.temp.getD 60 →
        exec .clearFaultTrip s = .next (answered .hot [] s))
    ∧ (∀ s : State, Awake s → s.lmc.trip = true → s.lmc.temp.getD 60 < 60 → s.lmc.fanStall = true →
        exec .clearFaultTrip s = .next (answered .tripped [] s))
    ∧ (∀ s : State, Awake s → s.lmc.trip = true → s.lmc.temp.getD 60 < 60 → s.lmc.fanStall = false →
        exec .clearFaultTrip s = .next (answered .ok [] { s with lmc := { s.lmc with trip := false } }))
    ∧ (∀ (s : State) (b : LampBytes), Awake s → 50 ≤ b.warn.toNat → b.warn.toNat ≤ 150 →
        b.warn.toNat + 5 ≤ b.trip.toNat → b.trip.toNat ≤ 180 → b.minCool.toNat ≤ 600 →
        ∃ t, exec (.setLamp b) s = .next t ∧ t.pnp.resp = some ⟨.ok, []⟩
          ∧ t.lmc.cfg = ⟨b.warn.toNat, b.trip.toNat, b.minCool.toNat, b.heat.toNat, b.initShow.toNat⟩
          ∧ t.lmc.derate = decide (∃ v ∈ s.lmc.temp, b.warn.toNat ≤ v)
          ∧ (b.heat = 0 → t.lmc.guardCap = false ∧ t.lmc.guardElapsed = 0)
          ∧ t.lmc.showLevel = s.lmc.showLevel ∧ t.lmc.lamp = s.lmc.lamp ∧ t.lmc.coolLeft = s.lmc.coolLeft
          ∧ t = { s with lmc := t.lmc, pnp := t.pnp, psdo := [0xFF] })
    ∧ (∀ (s : State) (b : LampBytes), Awake s → b.warn.toNat < 50 ∨ 150 < b.warn.toNat
          ∨ b.trip.toNat < b.warn.toNat + 5 ∨ 180 < b.trip.toNat ∨ 600 < b.minCool.toNat →
        exec (.setLamp b) s = .next (finish (answered .badArg [] s)))
    ∧ (∀ s : State, Awake s → exec .readLamp s = .next (answered .ok
        [match s.lmc.lamp with
            | .off => (0 : Byte)
            | .preheat => 1
            | .lit => 2
            | .cooling => 3
            | .fault => 4,
         b8 s.lmc.output, b8 s.lmc.showLevel, b8 s.lmc.ramp.target, b8 (s.lmc.ramp.duration - s.lmc.ramp.elapsed),
         b8 (bit s.lmc.restrike 0 + bit s.lmc.deferred 1 + bit s.lmc.trip 2 + bit s.lmc.derate 3
           + bit s.lmc.guardCap 4 + bit s.lmc.dim 5 + bit s.lmc.coolDone 6 + bit s.lmc.fanStall 7),
         match s.lmc.claim with
            | .none => 0
            | .fade => 1
            | .hold => 2,
         optByte 0xFF s.lmc.temp,
         match s.lmc.fan with
            | .off => 0
            | .low => 1
            | .high => 2,
         b8 (if s.lmc.lamp = .cooling ∨ (s.lmc.lamp = .fault ∧ s.lmc.coolDone = false) then s.lmc.coolLeft else 0),
         b8 ((if s.lmc.lamp = .cooling ∨ (s.lmc.lamp = .fault ∧ s.lmc.coolDone = false) then s.lmc.coolLeft else 0)
           / 256),
         b8 s.lmc.guardElapsed, b8 s.lmc.hours, b8 (s.lmc.hours / 256), b8 s.lmc.cfg.warn, b8 s.lmc.cfg.trip] s))

/-- TEMPERATURE_SAMPLE, the first one included, FAN_TACH_PULSE, FAN_STALL_EXPIRY and LAMP_HOURS_TICK (04 R70, R73, R75,
R82, R83, R84, R87, R88, R91, R92). That FAN_STALL_EXPIRY with the fan OFF and LAMP_HOURS_TICK outside LIT have no
effect is the model's choice (log 3); that a trip in STANDBY sets the trip mark alone, and that a sample there starts
no restrike and no residual cooling, is its deduction (log 16). -/
def Obligations.SamplesStallsAndHours : Prop :=
  (∀ (s : State) (v : Option Nat), Powered s →
      ∃ t, exec (.temperatureSample v) s = .next t ∧ t.lmc.temp = some (min (v.getD 200) 200)
        ∧ t.lmc.derate = decide (s.lmc.cfg.warn ≤ min (v.getD 200) 200) ∧ t.lmc.cfg = s.lmc.cfg
        ∧ t.tru = s.tru ∧ t.mem = s.mem ∧ t.rmi = s.rmi ∧ t.lkc = s.lkc ∧ t.psdo = s.psdo)
    ∧ (∀ (s : State) (v : Option Nat), Powered s → s.lmc.cfg.trip ≤ min (v.getD 200) 200 → s.lmc.trip = false →
        s.lmc.lamp = .preheat ∨ s.lmc.lamp = .lit → s.pnp.power ≠ .standby →
        ∃ t, exec (.temperatureSample v) s = .next t ∧ t.lmc.trip = true ∧ t.lmc.lamp = .cooling
          ∧ t.lmc.output = 0 ∧ t.lmc.coolLeft = s.lmc.cfg.minCool ∧ t.lmc.restrike = false
          ∧ t.lmc.deferred = false ∧ t.pnp.faults = s.pnp.faults.set .overtempTrip ∧ t.pnp.pend.fault = true
          ∧ (s.pnp.power ≠ .resetHeld → t.shc.causes.lamp = true)
          ∧ (s.lmc.lamp = .lit → s.pnp.memPresent = true → t.pnp.hoursWaiting = some s.lmc.hours))
    ∧ (∀ (s : State) (v : Option Nat), Powered s → s.lmc.cfg.trip ≤ min (v.getD 200) 200 → s.lmc.trip = false →
        s.lmc.lamp = .off ∨ s.lmc.lamp = .cooling ∨ s.lmc.lamp = .fault → s.pnp.power ≠ .standby →
        s.lmc.temp ≠ none →
        ∃ t, exec (.temperatureSample v) s = .next t ∧ t.lmc.trip = true ∧ t.shc = s.shc
          ∧ t.pnp.faults = s.pnp.faults.set .overtempTrip ∧ t.pnp.pend.fault = true)
    ∧ (∀ (s : State) (v : Nat), Powered s → v < 60 → v < s.lmc.cfg.trip → s.lmc.restrike = true →
        s.lmc.lamp = .off ∨ s.lmc.lamp = .cooling → s.lmc.dim = true → s.pnp.power ≠ .standby →
        s.lmc.owed = false →
        ∃ t, exec (.temperatureSample (some v)) s = .next t ∧ t.lmc.restrike = false ∧ t.lmc.deferred = true
          ∧ t.lmc.dim = true ∧ (s.lmc.lamp = .off → s.lmc.temp ≠ none → t.lmc.lamp = .off)
          ∧ (s.lmc.lamp = .cooling → s.lmc.coolRunning = true → t.lmc.lamp = .cooling))
    ∧ (∀ (s : State) (v : Option Nat), Powered s → s.lmc.temp = none → s.lmc.lamp = .off →
        s.pnp.power ≠ .standby → 45 ≤ min (v.getD 200) 200 →
        min (v.getD 200) 200 < s.lmc.cfg.trip ∨ s.lmc.trip = true →
        s.lmc.restrike = false ∨ 60 ≤ min (v.getD 200) 200 → s.lmc.owed = false ∨ s.lmc.deferred = false →
        ∃ t, exec (.temperatureSample v) s = .next t ∧ t.lmc.lamp = .cooling ∧ t.lmc.coolLeft = 0
          ∧ t.lmc.coolRunning = false ∧ t.lmc.trip = s.lmc.trip ∧ t.shc = s.shc ∧ t.pnp.faults = s.pnp.faults)
    ∧ (∀ (s : State) (v : Nat), Powered s → s.lmc.temp = none → s.lmc.lamp = .off → v < 45 → v < s.lmc.cfg.trip →
        s.lmc.restrike = false → s.lmc.deferred = false →
        ∃ t, exec (.temperatureSample (some v)) s = .next t ∧ t.lmc.lamp = .off ∧ t.shc = s.shc)
    ∧ (∀ (s : State) (v : Option Nat), Powered s → s.lmc.temp = none → s.lmc.lamp = .off →
        s.pnp.power ≠ .standby → s.lmc.cfg.trip ≤ min (v.getD 200) 200 → s.lmc.trip = false →
        ∃ t, exec (.temperatureSample v) s = .next t ∧ t.lmc.trip = true ∧ t.lmc.restrike = false
          ∧ (45 ≤ s.lmc.cfg.trip → t.lmc.lamp = .cooling ∧ t.lmc.coolLeft = 0)
          ∧ t.pnp.faults = s.pnp.faults.set .overtempTrip ∧ t.pnp.pend.fault = true
          ∧ (s.pnp.power ≠ .resetHeld → t.shc.causes.lamp = true))
    ∧ (∀ (s : State) (v : Option Nat), Powered s → s.pnp.power = .standby → s.lmc.lamp = .off →
        s.lmc.owed = false → s.lmc.cfg.trip ≤ min (v.getD 200) 200 → s.lmc.trip = false →
        ∃ t, exec (.temperatureSample v) s = .next t ∧ t.lmc.trip = true ∧ t.lmc.lamp = .off
          ∧ t.lmc.restrike = s.lmc.restrike ∧ t.lmc.deferred = s.lmc.deferred ∧ t.pnp.faults = s.pnp.faults
          ∧ t.shc = s.shc)
    ∧ (∀ (s : State) (v : Nat), Powered s → v < 60 → v < s.lmc.cfg.trip → s.lmc.restrike = true →
        s.lmc.lamp = .off ∨ s.lmc.lamp = .cooling → s.lmc.dim = false → s.pnp.power ≠ .standby →
        RevealStartsNothing s →
        ∃ t, exec (.temperatureSample (some v)) s = .next t ∧ t.lmc.lamp = .preheat ∧ t.lmc.restrike = false
          ∧ t.lmc.deferred = false)
    ∧ (∀ (s : State) (v : Nat), Powered s → v < 45 → v < s.lmc.cfg.trip → s.lmc.restrike = false →
        s.lmc.lamp = .cooling → s.lmc.coolRunning = false → s.lmc.deferred = false →
        ∃ t, exec (.temperatureSample (some v)) s = .next t ∧ t.lmc.lamp = .off ∧ t.lmc.ramp = ⟨0, 0, 0, 0, 0⟩)
    ∧ (∀ s : State, Powered s → s.lmc.fan ≠ .off →
      exec .fanTachPulse s = .next (finish { s with lmc := { s.lmc with stallMs := 0, fanStall := false } }))
    ∧ (∀ s : State, Powered s → s.lmc.fan = .off → exec .fanTachPulse s = .next (finish s))
    ∧ (∀ s : State, Powered s → s.lmc.fan ≠ .off → s.lmc.fanStall = false →
        s.lmc.lamp ≠ .preheat → s.lmc.lamp ≠ .lit →
        exec .fanStallExpiry s = .next (finish { s with
          lmc := { s.lmc with fanStall := true, stallMs := 2000 }
          pnp := { s.pnp with faults := { s.pnp.faults with fanStall := true },
                              pend := { s.pnp.pend with fault := true } } }))
    ∧ (∀ s : State, Powered s → s.lmc.fan ≠ .off → s.lmc.fanStall = false → s.lmc.temp ≠ none →
        s.pnp.power ≠ .standby → s.lmc.lamp = .preheat ∨ s.lmc.lamp = .lit →
        ∃ t, exec .fanStallExpiry s = .next t ∧ t.lmc.fanStall = true ∧ t.lmc.fan = .high
          ∧ t.lmc.lamp = .cooling ∧ t.lmc.trip = true ∧ t.lmc.output = 0 ∧ t.lmc.restrike = false
          ∧ t.lmc.deferred = false ∧ t.pnp.faults = s.pnp.faults.set .fanStall ∧ t.pnp.pend.fault = true
          ∧ (s.pnp.power ≠ .resetHeld → t.shc.causes.lamp = true))
    ∧ (∀ s : State, Powered s → s.lmc.fan = .off ∨ s.lmc.fanStall = true →
        exec .fanStallExpiry s = .next (finish s))
    ∧ (∀ s : State, Powered s → s.lmc.lamp = .lit → s.pnp.power ≠ .standby →
        exec .lampHoursTick s = .next { s with
          lmc := { s.lmc with hours := if s.lmc.hours < 65535 then s.lmc.hours + 1 else 65535,
                              part := 0, partMs := 0 } })
    ∧ (∀ s : State, Powered s → s.lmc.lamp ≠ .lit → exec .lampHoursTick s = .next s)

/-! ## Tape deck and sound (05) -/

/-- DECK_PLAY by 05 Table 5.3, with the STARTING that a standing RUNNING ends at once, DECK_PAUSE, DECK_STOP and
STOP_PULSE_END (05 R93, R94, R95, R97, R98). -/
def Obligations.DeckClaims : Prop :=
  (∀ s : State, Awake s → s.shc.phase = .held → exec .deckPlay s = .next (finish (answered .held [] s)))
    ∧ (∀ s : State, Awake s → s.shc.phase ≠ .held → s.dkc.deck = .starting ∨ s.dkc.deck = .playing →
        exec .deckPlay s = .next (finish (answered .ok [] s)))
    ∧ (∀ s : State, Awake s → s.shc.phase ≠ .held → s.dkc.deck = .ended → s.pins.tapeEnd = true →
        exec .deckPlay s = .next (finish (answered .deckEnd [] s)))
    ∧ (∀ s : State, Awake s → s.shc.phase ≠ .held → s.dkc.deck ≠ .starting → s.dkc.deck ≠ .playing →
        s.dkc.deck ≠ .fault → (s.dkc.deck = .ended → s.pins.tapeEnd = false) → s.pins.running = false →
        exec .deckPlay s = .next (finish (answered .ok [] { s with
          dkc := { s.dkc with deck := .starting, timerMs := 0, stall := none, stopPulse := none } })))
    ∧ (∀ s : State, Awake s → s.shc.phase ≠ .held → s.dkc.deck ≠ .starting → s.dkc.deck ≠ .playing →
        s.dkc.deck ≠ .fault → s.pins.tapeEnd = false → s.pins.running = true →
        exec .deckPlay s = .next (finish (answered .ok [] { s with
          dkc := { s.dkc with deck := .playing, timerMs := 0, stall := none, stopPulse := none } })))
    ∧ (∀ s : State, Awake s → s.shc.phase ≠ .held → s.dkc.deck = .fault → s.pins.running = false →
        exec .deckPlay s = .next (finish (answered .ok [] { s with
          dkc := { s.dkc with deck := .starting, timerMs := 0, stall := none, stopPulse := none }
          shc := { s.shc with causes := { s.shc.causes with deck := false } } })))
    ∧ (∀ s : State, s.dkc.deck = .fault → s.shc.phase ≠ .held → playClaim false s = (s, .busy))
    ∧ (∀ s : State, Awake s → s.dkc.deck = .playing ∨ s.dkc.deck = .starting →
      exec .deckPause s = .next (answered .ok [] { s with
        dkc := { s.dkc with deck := if s.pins.running then .pausing else .paused, timerMs := 0, stall := none } }))
    ∧ (∀ s : State, Awake s → s.dkc.deck = .pausing ∨ s.dkc.deck = .paused →
        exec .deckPause s = .next (answered .ok [] s))
    ∧ (∀ s : State, Awake s → s.dkc.deck = .stopped ∨ s.dkc.deck = .ended ∨ s.dkc.deck = .fault →
        exec .deckPause s = .next (answered .busy [] s))
    ∧ (∀ s : State, Awake s → s.dkc.deck ≠ .fault →
        exec .deckStop s = .next (finish (answered .ok [] { s with
          dkc := { s.dkc with deck := .stopped, stopPulse := some (s.dkc.stopPulse.getD 0), timerMs := 0,
                              stall := none } })))
    ∧ (∀ s : State, Awake s → s.dkc.deck = .fault → s.shc.autoResume = false →
        exec .deckStop s = .next (finish (answered .ok [] { s with
          dkc := { s.dkc with deck := .stopped, stopPulse := some (s.dkc.stopPulse.getD 0), timerMs := 0,
                              stall := none }
          shc := { s.shc with causes := { s.shc.causes with deck := false } } })))
    ∧ (∀ s : State, Powered s → exec .stopPulseEnd s = .next { s with dkc := { s.dkc with stopPulse := none } })

/-- RUNNING_RISE, RUNNING_FALL, END_RISE, START_TIMEOUT, STALL_TIMEOUT and PAUSE_TIMEOUT (05 R95, R96, R97, R99, R100).
The level of END as an operand is the model's deduction (log 10); that the time limits have no effect outside their
states is the model's choice (log 3). -/
def Obligations.DeckFollowsItsLinesAndLimits : Prop :=
  (∀ (s : State) (e : Bool), Awake s → s.dkc.deck = .starting → s.pins.running = false → e = false →
      exec (.runningRise e) s = .next (finish { s with
        pins := { s.pins with running := true, tapeEnd := e }, dkc := { s.dkc with deck := .playing } }))
    ∧ (∀ (s : State) (e : Bool), Awake s → s.dkc.deck = .starting → s.pins.running = false → e = true →
        s.shc.phase ≠ .running →
        exec (.runningRise e) s = .next (finish { s with
          pins := { s.pins with running := true, tapeEnd := e }, dkc := { s.dkc with deck := .ended } }))
    ∧ (∀ s : State, Awake s → s.dkc.deck = .playing → s.pins.running = false → s.pins.tapeEnd = false →
        exec (.runningRise false) s = .next (finish { s with
          pins := { s.pins with running := true }, dkc := { s.dkc with stall := none } }))
    ∧ (∀ s : State, Awake s → s.dkc.deck = .stopped → s.pins.running = false → s.dkc.stopPulse = none →
        s.shc.phase ≠ .held → s.dkc.cfg.external = false →
        exec (.runningRise false) s = .next (finish { s with
          pins := { s.pins with running := true, tapeEnd := false }, dkc := { s.dkc with deck := .playing } }))
    ∧ (∀ s : State, Powered s → s.pnp.power = .run → s.dkc.deck = .stopped → s.pins.running = false →
        s.dkc.stopPulse = none → s.shc.phase = .stopped → s.shc.causes = Causes.empty → s.dkc.cfg.external = true →
        ∃ t, exec (.runningRise false) s = .next t ∧ t.dkc.deck = .playing ∧ t.dkc.clock = 0
          ∧ t.shc.phase = .running ∧ t.crn.queue = [] ∧ t.crn.current = 0 ∧ t.pnp.pend.showChg = true)
    ∧ (∀ s : State, Awake s → s.dkc.deck = .stopped → s.pins.running = false →
        s.dkc.stopPulse ≠ none ∨ s.shc.phase = .held →
        exec (.runningRise false) s = .next (finish { s with
          pins := { s.pins with running := true, tapeEnd := false } }))
    ∧ (∀ s : State, Awake s → s.dkc.deck = .playing → s.pins.running = true →
        exec (.runningFall false) s = .next (finish { s with
          pins := { s.pins with running := false, tapeEnd := false }, dkc := { s.dkc with stall := some 0 } }))
    ∧ (∀ (s : State) (e : Bool), Awake s → s.dkc.deck = .pausing → s.pins.running = true →
        exec (.runningFall e) s = .next (finish { s with
          pins := { s.pins with running := false, tapeEnd := e }
          dkc := { s.dkc with deck := .paused, timerMs := 0 } }))
    ∧ (∀ s : State, Awake s → s.dkc.deck = .playing → s.pins.tapeEnd = false → s.shc.phase ≠ .running →
        exec .endRise s = .next (finish { s with
          pins := { s.pins with tapeEnd := true }, dkc := { s.dkc with deck := .ended, stall := none } }))
    ∧ (∀ s : State, Awake s → s.dkc.deck = .playing → s.pins.tapeEnd = false → s.shc.phase = .running →
        s.crn.queue ≠ [] →
        ∃ t, exec .endRise s = .next t ∧ t.dkc = { s.dkc with deck := .ended, stall := none }
          ∧ t.shc = { s.shc with phase := .ending } ∧ t.pnp.pend.showChg = true ∧ t.crn = s.crn)
    ∧ (∀ s : State, Awake s → s.dkc.deck ≠ .playing →
        exec .endRise s = .next (finish { s with pins := { s.pins with tapeEnd := true } }))
    ∧ (∀ s : State, Powered s → s.pnp.power ≠ .resetHeld → s.dkc.deck = .starting →
      ∃ t, exec .startTimeout s = .next t ∧ t.dkc.deck = .fault ∧ t.dkc.stopPulse = some (s.dkc.stopPulse.getD 0)
        ∧ t.dkc.timerMs = 0 ∧ t.dkc.stall = none ∧ t.pnp.faults = s.pnp.faults.set .deckNoStart
        ∧ t.pnp.pend.fault = true ∧ t.shc.causes = { s.shc.causes with deck := true }
        ∧ (s.shc.phase = .running ∨ s.shc.phase = .ending → t.shc.phase = .held) ∧ t.mute = true
        ∧ t.tru = s.tru ∧ t.csq = s.csq ∧ t.crn = s.crn ∧ t.mem = s.mem)
    ∧ (∀ s : State, Powered s → s.pnp.power ≠ .resetHeld → s.dkc.deck = .playing → s.dkc.stall ≠ none →
        ∃ t, exec .stallTimeout s = .next t ∧ t.dkc.deck = .fault
          ∧ t.dkc.stopPulse = some (s.dkc.stopPulse.getD 0) ∧ t.dkc.timerMs = 0 ∧ t.dkc.stall = none
          ∧ t.pnp.faults = s.pnp.faults.set .deckStall ∧ t.pnp.pend.fault = true
          ∧ t.shc.causes = { s.shc.causes with deck := true } ∧ t.mute = true
          ∧ (s.shc.phase = .running ∨ s.shc.phase = .ending → t.shc.phase = .held))
    ∧ (∀ s : State, Powered s → s.pnp.power ≠ .resetHeld → s.dkc.deck = .pausing →
        ∃ t, exec .pauseTimeout s = .next t ∧ t.dkc.deck = .fault
          ∧ t.dkc.stopPulse = some (s.dkc.stopPulse.getD 0) ∧ t.dkc.timerMs = 0 ∧ t.dkc.stall = none
          ∧ t.pnp.faults = s.pnp.faults.set .deckNoPause ∧ t.pnp.pend.fault = true
          ∧ t.shc.causes = { s.shc.causes with deck := true } ∧ t.mute = true)
    ∧ (∀ s : State, Powered s → s.dkc.deck ≠ .starting → exec .startTimeout s = .next (finish s))
    ∧ (∀ s : State, Powered s → s.dkc.deck ≠ .playing → exec .stallTimeout s = .next (finish s))
    ∧ (∀ s : State, Powered s → s.dkc.deck ≠ .pausing → exec .pauseTimeout s = .next (finish s))

/-- SET_AUDIO, AUDIO_RAMP_TICK, SHOW_CLOCK_TICK, SET_DECK and READ_DECK (05 R101, R102, R104), and the lines PLAY,
PAUSE and STOP by the deck's state and its pulse (05 Table 5.2, R93). -/
def Obligations.AudioClockAndDeckSettings : Prop :=
  (∀ (s : State) (l f : Byte), Awake s → l.toNat ≤ 63 → f.toNat ≤ 99 →
      exec (.setAudio l f) s = .next (answered .ok [] { s with
        dkc := { s.dkc with audio := ⟨s.dkc.audio.level, l.toNat, f.toNat, 0, 0⟩ } }))
    ∧ (∀ (s : State) (l f : Byte), Awake s → 63 < l.toNat ∨ 99 < f.toNat →
        exec (.setAudio l f) s = .next (answered .badArg [] s))
    ∧ (∀ s : State, Awake s → s.dkc.audio.elapsed < s.dkc.audio.duration →
        exec .audioRampTick s = .next { s with
          dkc := { s.dkc with audio := { s.dkc.audio with elapsed := s.dkc.audio.elapsed + 1, ms := 0 } } })
    ∧ (∀ s : State, Awake s → s.dkc.deck = .playing →
        exec .showClockTick s = .next { s with
          dkc := { s.dkc with clock := (s.dkc.clock + 1) % 65536, clockMs := 0 } })
    ∧ (∀ s : State, Powered s → s.dkc.deck ≠ .playing → exec .showClockTick s = .next s)
    ∧ (∀ s : State, Powered s → s.pnp.power = .standby ∨ s.pnp.power = .resetHeld →
        exec .audioRampTick s = .next s)
    ∧ (∀ (s : State) (x h a : Byte) (e k : Bool), Awake s → onOff x = some e → onOff h = some k → a.toNat ≤ 63 →
        exec (.setDeck x h a) s = .next (answered .ok [] { s with
          dkc := { s.dkc with cfg := ⟨e, k, a.toNat⟩ } }))
    ∧ (∀ (s : State) (x h a : Byte), Awake s → 1 < x.toNat ∨ 1 < h.toNat ∨ 63 < a.toNat →
        exec (.setDeck x h a) s = .next (answered .badArg [] s))
    ∧ (∀ s : State, Awake s → exec .readDeck s = .next (answered .ok
        [match s.dkc.deck with
            | .stopped => (0 : Byte)
            | .starting => 1
            | .playing => 2
            | .pausing => 3
            | .paused => 4
            | .ended => 5
            | .fault => 6,
         b8 (bit s.outputs.play 0 + bit s.outputs.pause 1 + bit s.outputs.stop 2 + bit s.pins.running 3
           + bit s.pins.tapeEnd 4 + bit s.outputs.mute 5),
         b8 s.dkc.clock, b8 (s.dkc.clock / 256), b8 s.dkc.audio.level, b8 s.dkc.audio.target,
         b8 (s.dkc.audio.duration - s.dkc.audio.elapsed),
         b8 (bit s.dkc.cfg.external 0 + bit s.dkc.cfg.holdMute 1), b8 s.dkc.cfg.initAudio] s))
    ∧ (∀ s : State, Powered s → s.dkc.deck = .stopped ∨ s.dkc.deck = .ended ∨ s.dkc.deck = .fault →
        s.outputs.play = false ∧ s.outputs.pause = false)
    ∧ (∀ s : State, Powered s → s.dkc.deck = .starting ∨ s.dkc.deck = .playing →
        s.outputs.play = true ∧ s.outputs.pause = false)
    ∧ (∀ s : State, Powered s → s.dkc.deck = .pausing ∨ s.dkc.deck = .paused →
        s.outputs.play = true ∧ s.outputs.pause = true)
    ∧ (∀ s : State, Powered s → (s.outputs.stop = true ↔ s.dkc.stopPulse ≠ none))

/-- MUTE (05 R103). -/
def Obligations.MuteStandsOnThreeConditions : Prop :=
  ∀ s : State, Powered s →
    (s.outputs.mute = true ↔ ((s.shc.phase = .held ∧ s.dkc.cfg.holdMute = true) ∨ s.dkc.deck = .fault
      ∨ s.pnp.power = .standby ∨ s.pnp.power = .resetHeld))
    ∧ s.outputs.aud = s.dkc.audio.level

/-! ## The cue decoder (06) -/

/-- PERIOD_JUDGMENT and CUEIN_FALLING_EDGE (06 R106, R107, R109, R111, Tables 6.3 and 6.4): the period from two
half-periods, the run of four judgments, and what a change of the class ends and begins. -/
def Obligations.ToneClassFollowsThePeriods : Prop :=
  (∀ us : Nat, judge us = if 800 ≤ us ∧ us ≤ 1250 then .a else if 400 ≤ us ∧ us ≤ 625 then .b else .out)
    ∧ (∀ (s : State) (h : Nat), Awake s → exec (.cueinFallingEdge h) s = .next { s with
        cdc := { s.cdc with highUs := h, watchMs := 0 } })
    ∧ (∀ (s : State) (n : Nat), Powered s → s.pnp.power = .standby ∨ s.pnp.power = .resetHeld →
        exec (.cueinFallingEdge n) s = .next s ∧ exec (.periodJudgment n) s = .next s
          ∧ exec .edgeWatchExpiry s = .next s)
    ∧ (∀ (s : State) (n : Nat), Awake s → s.cdc.risen = false →
        exec (.periodJudgment n) s = .next { s with
          cdc := { s.cdc with watchMs := 0, risen := true, highUs := 0 } })
    ∧ (∀ (s : State) (n : Nat), Awake s → s.cdc.risen = true →
        (judge (s.cdc.highUs + n)).tone = s.cdc.tone →
        exec (.periodJudgment n) s = .next { s with
          cdc := { s.cdc with watchMs := 0, risen := true, highUs := 0, count := 0,
                              waitQuiet := s.cdc.waitQuiet && s.cdc.tone ≠ .none } })
    ∧ (∀ (s : State) (n : Nat), Awake s → s.cdc.risen = true →
        (judge (s.cdc.highUs + n)).tone ≠ s.cdc.tone →
        s.cdc.candidate ≠ judge (s.cdc.highUs + n) ∨ s.cdc.count < 3 →
        exec (.periodJudgment n) s = .next { s with
          cdc := { s.cdc with watchMs := 0, risen := true, highUs := 0, candidate := judge (s.cdc.highUs + n),
                              count := if s.cdc.candidate = judge (s.cdc.highUs + n) then s.cdc.count + 1 else 1 } })
    ∧ (∀ (s : State) (n : Nat), Awake s → s.cdc.risen = true → judge (s.cdc.highUs + n) = .a →
        s.cdc.tone = .none → s.cdc.candidate = .a → 3 ≤ s.cdc.count →
        exec (.periodJudgment n) s = .next { s with
          cdc := { s.cdc with watchMs := 0, risen := true, highUs := 0, count := 0, tone := .toneA,
                              pulse := if s.cdc.cfg.mode ≠ .off ∧ s.cdc.word = .idle ∧ s.cdc.waitQuiet = false
                                  ∧ s.cdc.cfg.pulseOn = true then
                                .measuring 0 s.cdc.cfg.pulseMin s.cdc.cfg.pulseMax s.cdc.cfg.holdMin
                              else s.cdc.pulse } })
    ∧ (∀ (s : State) (n : Nat), Awake s → s.cdc.risen = true → judge (s.cdc.highUs + n) = .b →
        s.cdc.tone = .none → s.cdc.candidate = .b → 3 ≤ s.cdc.count → s.cdc.cfg.mode ≠ .off →
        s.cdc.word = .idle → s.cdc.waitQuiet = false → s.cdc.cfg.wordOn = true →
        exec (.periodJudgment n) s = .next { s with
          cdc := { s.cdc with watchMs := 0, risen := true, highUs := 0, count := 0, tone := .toneB,
                              word := .startCheck, element := 0, bits := [], wordMs := 0,
                              elementMs := s.cdc.cfg.element, wordParity := s.cdc.cfg.parity } })
    ∧ (∀ (s : State) (n : Nat), Awake s → s.cdc.risen = true → judge (s.cdc.highUs + n) = .a →
        s.cdc.tone = .toneB → s.cdc.candidate = .a → 3 ≤ s.cdc.count →
        exec (.periodJudgment n) s = .next { s with
          cdc := { s.cdc with watchMs := 0, risen := true, highUs := 0, count := 0, tone := .toneA } })
    ∧ (∀ (s : State) (n : Nat), Awake s → s.cdc.risen = true → judge (s.cdc.highUs + n) = .out →
        s.cdc.tone = .toneB → s.cdc.candidate = .out → 3 ≤ s.cdc.count →
        exec (.periodJudgment n) s = .next { s with
          cdc := { s.cdc with watchMs := 0, risen := true, highUs := 0, count := 0, tone := .none,
                              waitQuiet := false } })
    ∧ (∀ (s : State) (n : Nat), Awake s → s.cdc.risen = true → judge (s.cdc.highUs + n) = .out →
        s.cdc.tone = .toneA → s.cdc.candidate = .out → 3 ≤ s.cdc.count →
        exec (.periodJudgment n) s = .next (pulseEnded { s with
          cdc := { s.cdc with watchMs := 0, risen := true, highUs := 0, count := 0, tone := .none,
                              waitQuiet := false } }))
    ∧ (∀ (s : State) (n : Nat), Awake s → s.cdc.risen = true → judge (s.cdc.highUs + n) = .b →
        s.cdc.tone = .toneA → s.cdc.candidate = .b → 3 ≤ s.cdc.count →
        exec (.periodJudgment n) s = .next (pulseEnded { s with
          cdc := if s.cdc.cfg.mode ≠ .off ∧ s.cdc.word = .idle ∧ s.cdc.waitQuiet = false ∧ s.cdc.cfg.wordOn = true then
              { s.cdc with watchMs := 0, risen := true, highUs := 0, count := 0, tone := .toneB,
                           word := .startCheck, element := 0, bits := [], wordMs := 0,
                           elementMs := s.cdc.cfg.element, wordParity := s.cdc.cfg.parity }
            else { s.cdc with watchMs := 0, risen := true, highUs := 0, count := 0, tone := .toneB } }))

/-- EDGE_WATCH_EXPIRY, HOLD_MIN_REACHED, WORD_START_CHECK, WORD_ELEMENT_SAMPLE and WORD_CUE (06 R107, R109 to R114,
Table 6.4). That HOLD_MIN_REACHED has no effect with no pulse run and WORD_START_CHECK none outside START_CHECK is the
model's choice (log 3); that the edge watch stands at 3 ms after its expiry is the model's deduction (log 9). -/
def Obligations.PulsesAndWordsBecomeCues : Prop :=
  (∀ s : State, Awake s → s.cdc.tone ≠ .toneA → exec .edgeWatchExpiry s = .next { s with
      cdc := { s.cdc with tone := .none, waitQuiet := false, count := 0, risen := false, watchMs := 3 } })
    ∧ (∀ (s : State) (ms lo hi hold : Nat), Awake s → s.cdc.tone = .toneA →
        s.cdc.pulse = .measuring ms lo hi hold → ms < hold → ms < lo ∨ hi < ms →
        exec .edgeWatchExpiry s = .next { s with
          cdc := { s.cdc with tone := .none, waitQuiet := false, count := 0, risen := false, watchMs := 3,
                              pulse := .none,
                              flags := { s.cdc.flags with noise := s.cdc.flags.noise || decide (ms < lo),
                                                          long := s.cdc.flags.long || decide (lo ≤ ms) } } })
    ∧ (∀ (s : State) (ms lo hi hold : Nat), Awake s → s.cdc.tone = .toneA →
        s.cdc.pulse = .measuring ms lo hi hold → ms < hold → lo ≤ ms → ms ≤ hi →
        exec .edgeWatchExpiry s = .next { s with
          cdc := { s.cdc with tone := .none, waitQuiet := false, count := 0, risen := false, watchMs := 3,
                              pulse := .none, last := .next,
                              flags := { s.cdc.flags with overrun := s.cdc.flags.overrun
                                || (s.shc.phase ≠ .stopped && decide (8 ≤ s.crn.queue.length)) } }
          crn := if s.shc.phase ≠ .stopped ∧ s.crn.queue.length < 8 then
              { s.crn with queue := s.crn.queue ++ [⟨.tape, .next, s.dkc.clock⟩] }
            else s.crn })
    ∧ (∀ (s : State) (ms lo hi hold : Nat), Awake s → s.cdc.tone = .toneA →
        s.cdc.pulse = .measuring ms lo hi hold → hold ≤ ms → s.shc.phase = .stopped →
        exec .edgeWatchExpiry s = .next { s with
          cdc := { s.cdc with tone := .none, waitQuiet := false, count := 0, risen := false, watchMs := 3,
                              pulse := .none, last := .hold, flags := { s.cdc.flags with holdSeen := true } } })
    ∧ (∀ (s : State) (ms lo hi hold : Nat), Awake s → s.cdc.tone = .toneA →
        s.cdc.pulse = .measuring ms lo hi hold → hold ≤ ms → s.shc.phase = .running ∨ s.shc.phase = .ending →
        ∃ t, exec .edgeWatchExpiry s = .next t
          ∧ t.cdc = { s.cdc with tone := .none, waitQuiet := false, count := 0, risen := false, watchMs := 3,
                                 pulse := .none, last := .hold, flags := { s.cdc.flags with holdSeen := true } }
          ∧ t.shc = { s.shc with phase := .held, causes := { s.shc.causes with cueHold := true },
                                 ended := decide (s.shc.phase = .ending) }
          ∧ t.crn = s.crn ∧ t.csq = s.csq)
    ∧ (∀ (s : State) (ms lo hi hold : Nat), Powered s → s.cdc.pulse = .measuring ms lo hi hold →
        s.shc.phase = .stopped →
        exec .holdMinReached s = .next (finish { s with
          cdc := { s.cdc with pulse := .spent, last := .hold, flags := { s.cdc.flags with holdSeen := true } } }))
    ∧ (∀ (s : State) (ms lo hi hold : Nat), Awake s → s.cdc.pulse = .measuring ms lo hi hold →
        s.shc.phase = .running ∨ s.shc.phase = .ending →
        ∃ t, exec .holdMinReached s = .next t
          ∧ t.cdc = { s.cdc with pulse := .spent, last := .hold, flags := { s.cdc.flags with holdSeen := true } }
          ∧ t.shc = { s.shc with phase := .held, causes := { s.shc.causes with cueHold := true },
                                 ended := decide (s.shc.phase = .ending) }
          ∧ t.dkc = (if s.dkc.deck = .playing ∨ s.dkc.deck = .starting then
              { s.dkc with deck := if s.pins.running then .pausing else .paused, timerMs := 0, stall := none }
            else s.dkc)
          ∧ t.pnp.pend.showChg = true ∧ t.tru = s.tru ∧ t.csq = s.csq ∧ t.sar = s.sar ∧ t.crn = s.crn)
    ∧ (∀ (s : State), Powered s → s.cdc.pulse = .none ∨ s.cdc.pulse = .spent →
        exec .holdMinReached s = .next (finish s))
    ∧ (∀ s : State, Powered s → s.cdc.word = .startCheck → s.cdc.tone = .toneB →
      exec .wordStartCheck s = .next { s with cdc := { s.cdc with word := .data, element := 0 } })
    ∧ (∀ s : State, Powered s → s.cdc.word = .startCheck → s.cdc.tone ≠ .toneB →
        exec .wordStartCheck s = .next { s with
          cdc := { s.cdc with word := .idle, flags := { s.cdc.flags with noise := true } } })
    ∧ (∀ s : State, Powered s → s.cdc.word ≠ .startCheck → exec .wordStartCheck s = .next s)
    ∧ (∀ s : State, Powered s → s.cdc.word = .data → s.cdc.tone ≠ .none →
        exec .wordElementSample s = .next { s with
          cdc := { s.cdc with
            bits := s.cdc.bits ++ [decide (s.cdc.tone = .toneA)]
            element := if s.cdc.element < 7 then s.cdc.element + 1 else s.cdc.element
            word := if s.cdc.element < 7 then .data else if s.cdc.wordParity = .none then .stop else .parity } })
    ∧ (∀ s : State, Powered s → s.cdc.word = .data ∨ s.cdc.word = .parity → s.cdc.tone = .none →
        exec .wordElementSample s = .next { s with
          cdc := { s.cdc with word := .idle, waitQuiet := true, flags := { s.cdc.flags with framing := true } } })
    ∧ (∀ s : State, Powered s → s.cdc.word = .parity → s.cdc.tone ≠ .none → s.cdc.wordParity ≠ .none →
        exec .wordElementSample s = .next { s with
          cdc := if ((s.cdc.bits ++ [decide (s.cdc.tone = .toneA)]).count true % 2 = 0) = (s.cdc.wordParity = .even)
            then { s.cdc with word := .stop }
            else { s.cdc with word := .idle, waitQuiet := true, flags := { s.cdc.flags with parity := true } } })
    ∧ (∀ s : State, Powered s → s.cdc.word = .stop → s.cdc.tone ≠ .toneA →
        exec .wordCue s = .next { s with
          cdc := { s.cdc with word := .idle, waitQuiet := true, flags := { s.cdc.flags with framing := true } } })
    ∧ (∀ s : State, Powered s → s.cdc.word = .stop → s.cdc.tone = .toneA →
        bitsValue s.cdc.bits = 0 ∨ 254 < bitsValue s.cdc.bits →
        exec .wordCue s = .next { s with
          cdc := { s.cdc with word := .idle, flags := { s.cdc.flags with value := true } } })
    ∧ (∀ s : State, Powered s → s.cdc.word = .stop → s.cdc.tone = .toneA →
        1 ≤ bitsValue s.cdc.bits → bitsValue s.cdc.bits ≤ 254 →
        exec .wordCue s = .next { s with
          cdc := { s.cdc with word := .idle, last := .step (bitsValue s.cdc.bits),
                              flags := { s.cdc.flags with overrun := s.cdc.flags.overrun
                                || (s.shc.phase ≠ .stopped && decide (8 ≤ s.crn.queue.length)) } }
          crn := if s.shc.phase ≠ .stopped ∧ s.crn.queue.length < 8 then
              { s.crn with queue := s.crn.queue ++ [⟨.tape, .step (bitsValue s.cdc.bits), s.dkc.clock⟩] }
            else s.crn })
    ∧ (∀ (b : Bool) (bs : List Bool), bitsValue (b :: bs) = (if b then 1 else 0) + 2 * bitsValue bs)

/-- SET_DECODER and READ_DECODER (06 R118, R115, R117). -/
def Obligations.DecoderSettingsAndRead : Prop :=
  (∀ (s : State) (b : DecoderBytes) (v : DecoderSettings), Awake s → DecoderSettings.parse b = some v →
      v.mode = s.cdc.cfg.mode →
      exec (.setDecoder b) s = .next (answered .ok [] { s with
        cdc := { s.cdc with cfg := v, pulse := if v.pulseOn then s.cdc.pulse else .none
                            word := if v.wordOn then s.cdc.word else .idle } }))
    ∧ (∀ (s : State) (b : DecoderBytes) (v : DecoderSettings), Awake s → DecoderSettings.parse b = some v →
        v.mode ≠ s.cdc.cfg.mode →
        exec (.setDecoder b) s = .next (answered .ok [] { s with
          cdc := { s.cdc with cfg := v, pulse := .none, word := .idle, waitQuiet := true }
          crn := { s.crn with queue := [], dwell := none, dwellMs := 0 } }))
    ∧ (∀ (b : DecoderBytes) (v : DecoderSettings), DecoderSettings.parse b = some v ↔
        (b.mode.toNat = v.mode.code ∧ b.parity.toNat = v.parity.code ∧ b.cues.getLsbD 0 = v.pulseOn
          ∧ b.cues.getLsbD 1 = v.wordOn ∧ b.element.toNat = v.element ∧ b.pulseMin.toNat = v.pulseMin
          ∧ b.pulseMax.toNat = v.pulseMax ∧ b.holdMin.toNat = v.holdMin ∧ 10 ≤ v.element ∧ v.element ≤ 50
          ∧ 50 ≤ v.pulseMin ∧ v.pulseMin ≤ 1000 ∧ v.pulseMin < v.pulseMax ∧ v.pulseMax ≤ 2500
          ∧ v.pulseMax < v.holdMin ∧ v.holdMin ≤ 10000))
    ∧ (∀ (s : State) (b : DecoderBytes), Awake s → DecoderSettings.parse b = none →
        exec (.setDecoder b) s = .next (answered .badArg [] s))
    ∧ (∀ s : State, Awake s → exec .readDecoder s = .next (answered .ok
        [b8 (bit s.cdc.flags.noise 0 + bit s.cdc.flags.long 1 + bit s.cdc.flags.parity 2 + bit s.cdc.flags.framing 3
           + bit s.cdc.flags.value 4 + bit s.cdc.flags.overrun 5 + bit s.cdc.flags.holdSeen 6),
         match s.cdc.tone with
            | .none => 0
            | .toneA => 1
            | .toneB => 2,
         b8 ((match s.cdc.word with
              | .idle => 0
              | .startCheck => 1
              | .data => 2
              | .parity => 3
              | .stop => 4)
           + 16 * (match s.cdc.pulse with
              | .none => 0
              | .measuring _ _ _ _ => 1
              | .spent => 2)
           + bit s.cdc.waitQuiet 7),
         match s.cdc.last with
            | .none => 0
            | .next => 1
            | .step _ => 2
            | .hold => 3,
         match s.cdc.last with
            | .step v => b8 v
            | _ => 0,
         match s.cdc.cfg.mode with
            | .off => 0
            | .direct => 1
            | .program => 2,
         b8 (bit s.cdc.cfg.pulseOn 0 + bit s.cdc.cfg.wordOn 1), b8 s.cdc.cfg.element,
         match s.cdc.cfg.parity with
            | .none => 0
            | .even => 1
            | .odd => 2,
         b8 s.cdc.cfg.pulseMin, b8 (s.cdc.cfg.pulseMin / 256), b8 s.cdc.cfg.pulseMax, b8 (s.cdc.cfg.pulseMax / 256),
         b8 s.cdc.cfg.holdMin, b8 (s.cdc.cfg.holdMin / 256)]
        { s with cdc := { s.cdc with flags := .clear } }))

/-! ## The cue program (07) -/

/-- WRITE_STEP, READ_STEP, ERASE_STEPS, RUN_STEP, FLUSH_CUES, READ_CUES and DWELL_EXPIRY (07 R122, R123, R125, R126,
R133, R134, R136), with what WRITE_STEP refuses, what it makes an empty step, and each field that it stores. That
DWELL_EXPIRY has no effect where the timer does not run is the model's choice (log 3); that bits 5 and 4 of the link
destination, and its number with ALL, are taken as any value and stored as 0 is its deduction (log 25). -/
def Obligations.CueTableAndQueueCommands : Prop :=
  (∀ (s : State) (n : Byte) (bs : List Byte) (r : Option StepRec), Awake s → 1 ≤ n.toNat → n.toNat ≤ 200 →
      StepRec.parse bs = some r →
      ∃ m, exec (.writeStep n bs) s = .next (answered .ok [] { s with crn := { s.crn with table := m } })
        ∧ m.length = s.crn.table.length
        ∧ ∀ (p : Nat) (x : Option StepRec), s.crn.table[p]? = some x →
            m[p]? = some (if p + 1 = n.toNat then r else x))
    ∧ (∀ (s : State) (n : Byte) (bs : List Byte), Awake s →
        n.toNat = 0 ∨ 200 < n.toNat ∨ StepRec.parse bs = none →
        exec (.writeStep n bs) s = .next (answered .badArg [] s))
    ∧ (∀ (s : State) (n : Byte), Awake s → 1 ≤ n.toNat → n.toNat ≤ 200 →
        exec (.readStep n) s = .next (answered .ok (n :: stepBytes (s.crn.step n.toNat)) s))
    ∧ (∀ (s : State) (n : Byte), Awake s → n.toNat = 0 ∨ 200 < n.toNat →
        exec (.readStep n) s = .next (answered .badArg [] s))
    ∧ (∀ (s : State) (a b : Byte), Awake s → 1 ≤ a.toNat → a.toNat ≤ b.toNat → b.toNat ≤ 200 →
      ∃ m, exec (.eraseSteps a b) s = .next (answered .ok [] { s with crn := { s.crn with table := m } })
        ∧ m.length = s.crn.table.length
        ∧ ∀ (p : Nat) (x : Option StepRec), s.crn.table[p]? = some x →
            m[p]? = some (if a.toNat ≤ p + 1 ∧ p + 1 ≤ b.toNat then none else x))
    ∧ (∀ (s : State) (a b : Byte), Awake s → a.toNat = 0 ∨ 200 < b.toNat ∨ b.toNat < a.toNat →
        exec (.eraseSteps a b) s = .next (answered .badArg [] s))
    ∧ (stepBytes none = List.replicate 16 0)
    ∧ (∀ bs : List Byte, bs.length ≠ 16 → StepRec.parse bs = none)
    ∧ (∀ bs : List Byte, bs.length = 16 → (bs.getD 0 0).getLsbD 0 = false → StepRec.parse bs = some none)
    ∧ (∀ bs : List Byte, bs.length = 16 → (bs.getD 0 0).getLsbD 0 = true →
        (StepRec.parse bs = none ↔ StepRefused (fun i => bs.getD i 0)) ∧ StepRec.parse bs ≠ some none)
    ∧ (∀ (bs : List Byte) (r : StepRec) (b : Nat → Byte), (b = fun i => bs.getD i 0) →
        StepRec.parse bs = some (some r) →
        r.action = (match (b 1).toNat with
            | 1 => .next
            | 2 => .prev
            | 3 => .slot (b 2).toNat
            | 4 => .home
            | _ => .none)
        ∧ r.fade = (b 3).toNat ∧ r.level = (if (b 0).getLsbD 1 then some (b 4).toNat else none)
        ∧ r.audio = (if (b 0).getLsbD 2 then some ((b 5).toNat, (b 6).toNat) else none)
        ∧ r.deck = (match (b 7).toNat with
            | 1 => .play
            | 2 => .stop
            | _ => .none)
        ∧ r.dwell = (b 8).toNat + 256 * (b 9).toNat
        ∧ r.next = (if (b 0).getLsbD 3 then some (b 10).toNat else none)
        ∧ r.link = (if (b 0).getLsbD 4 then some
            { dest := match (b 11).toNat / 64 with
                | 0 => .node ((b 11).toNat % 16)
                | 1 => .group ((b 11).toNat % 16)
                | _ => .all
              kind := match (b 12).toNat with
                | 0 => .change
                | 1 => .level
                | 2 => .lamp
                | 3 => .step
                | 4 => .hold
                | _ => .resume
              arg1 := (b 13).toNat, arg2 := (b 14).toNat } else none)
        ∧ stepBytes (some r) = [b 0 &&& 0x1F, b 1, if b 1 = 3 then b 2 else 0, b 3,
            if (b 0).getLsbD 1 then b 4 else 0, if (b 0).getLsbD 2 then b 5 else 0,
            if (b 0).getLsbD 2 then b 6 else 0, b 7, b 8, b 9, if (b 0).getLsbD 3 then b 10 else 0,
            if (b 0).getLsbD 4 then (if 128 ≤ (b 11).toNat then 0x80 else b 11 &&& 0xCF) else 0,
            if (b 0).getLsbD 4 then b 12 else 0, if (b 0).getLsbD 4 then b 13 else 0,
            if (b 0).getLsbD 4 then b 14 else 0, 0])
    ∧ (∀ (s : State) (n : Byte), Awake s → classOk .panel .shows s = true → 1 ≤ n.toNat → n.toNat ≤ 254 →
      s.shc.phase ≠ .stopped → s.crn.queue.length < 8 →
      exec (.runStep n) s = .next (answered .ok [] { s with
        crn := { s.crn with queue := s.crn.queue ++ [⟨.panel, .step n.toNat, s.dkc.clock⟩] } }))
    ∧ (∀ (s : State) (n : Byte), Awake s → classOk .panel .shows s = true → 1 ≤ n.toNat → n.toNat ≤ 254 →
        s.shc.phase = .stopped ∨ 8 ≤ s.crn.queue.length →
        exec (.runStep n) s = .next (answered .busy [] s))
    ∧ (∀ (s : State) (n : Byte), Awake s → classOk .panel .shows s = true → n.toNat = 0 ∨ n.toNat = 255 →
        exec (.runStep n) s = .next (answered .badArg [] s))
    ∧ (∀ (s : State) (n : Byte), Awake s → classOk .panel .shows s = false →
        exec (.runStep n) s = .next (answered .disabled [] s))
    ∧ (∀ s : State, Awake s →
        exec .flushCues s = .next (answered .ok [] { s with crn := { s.crn with queue := [] } }))
    ∧ (∀ s : State, Awake s → exec .readCues s = .next (answered .ok
        ([b8 s.crn.current,
          b8 (bit (s.crn.progress ≠ none) 0 + bit (s.crn.dwell ≠ none && s.shc.phase ≠ .held) 1
            + bit (s.crn.dwell ≠ none && s.shc.phase = .held) 2 + bit s.crn.stepEmpty 3 + bit s.crn.stepFault 4
            + bit s.crn.cueLost 5),
          b8 (s.crn.dwell.getD 0), b8 (s.crn.dwell.getD 0 / 256), b8 s.crn.faultStep,
          match s.crn.faultStatus with
            | some st => b8 st.code
            | none => 0,
          b8 s.crn.queue.length,
          if s.crn.queue = [] then 0
          else if s.shc.phase ≠ .running ∧ s.shc.phase ≠ .ending then 1
          else if s.crn.progress ≠ none then 2
          else if s.csq.flight ≠ none ∨ (s.sar.holder ≠ none ∧ s.sar.holder ≠ some .program) then 3
          else if s.sar.waiting ≠ none then 4 else 0]
        ++ (s.crn.queue.map (fun r =>
          [match r.origin with
            | .tape => (0 : Byte)
            | .link => 1
            | .panel => 2
            | .remote => 3
            | .dwell => 4,
           match r.kind with
            | .next => 0
            | .step _ => 1,
           match r.kind with
            | .next => 0
            | .step n => b8 n,
           b8 r.stamp, b8 (r.stamp / 256)])).flatten)
        { s with
          crn := { s.crn with stepEmpty := false, stepFault := false, cueLost := false, faultStep := 0,
                              faultStatus := none } }))
    ∧ [Status.ok, .busy, .disabled, .outOfWindow, .notHomed, .trayAbsent, .gateOrphan, .slotRetired, .noSlide, .range,
        .jammed, .hot, .tripped, .held, .deckEnd, .locked, .standby, .resetHeld, .showActive, .badArg,
        .unknownCommand].map Status.code = List.range 21
    ∧ (∀ (s : State), Powered s → s.pnp.power = .run → s.crn.dwell ≠ none →
        s.shc.phase = .running ∨ s.shc.phase = .ending →
        exec .dwellExpiry s = .next { s with
          crn := { s.crn with
            dwell := none, dwellMs := 0
            queue := if s.crn.queue = [] ∧ s.cdc.cfg.mode ≠ .direct then [⟨.dwell, .next, s.dkc.clock⟩] else s.crn.queue } })
    ∧ (∀ (s : State), Powered s → s.crn.dwell = none ∨ s.shc.phase = .stopped ∨ s.shc.phase = .held →
        exec .dwellExpiry s = .next s)

/-- CUE_TAKE (07 R127, R128, R131, R133, R135): nothing while a condition fails; a record that names no written step; a
step without actions; a step's first actions; DIRECT mode, which starts no dwell. That a refused NEXT in DIRECT mode
gives the fault detail number 0 is the model's deduction (log 19). -/
def Obligations.CueTakeStartsTheNamedStep : Prop :=
  (∀ s : State, Powered s → s.crn.queue = [] ∨ s.takeWait ≠ 0 → exec .cueTake s = .next (finish s))
    ∧ (∀ s : State, s.crn.queue ≠ [] → (s.takeWait = 0 ↔
        ((s.shc.phase = .running ∨ s.shc.phase = .ending) ∧ s.crn.progress = none ∧ s.csq.flight = none
          ∧ (s.sar.holder = none ∨ s.sar.holder = some .program) ∧ s.sar.waiting = none)))
    ∧ (∀ (s : State) (k : CueRec) (rest : List CueRec), Powered s → s.crn.queue = k :: rest → s.takeWait = 0 →
        s.cdc.cfg.mode ≠ .direct → s.crn.step (namedStep s.crn k.kind) = none →
        exec .cueTake s = .next (finish { s with
          crn := { s.crn with queue := rest, dwell := none, dwellMs := 0, stepEmpty := true,
                              faultStep := namedStep s.crn k.kind, faultStatus := none } }))
    ∧ (∀ c : Crn, (∀ n, namedStep c (.step n) = n) ∧ (c.current = 0 → namedStep c .next = 1)
        ∧ (∀ r, c.current ≠ 0 → c.step c.current = some r → namedStep c .next = r.next.getD (c.current + 1))
        ∧ (c.current ≠ 0 → c.step c.current = none → namedStep c .next = c.current + 1))
    ∧ (∀ (s : State) (k : CueRec) (rest : List CueRec) (r : StepRec), Powered s → s.crn.queue = k :: rest →
        s.takeWait = 0 → s.cdc.cfg.mode ≠ .direct → s.crn.step (namedStep s.crn k.kind) = some r →
        r.action = .none → r.level = none → r.audio = none → r.deck = .none → r.link = none →
        exec .cueTake s = .next (finish { s with
          crn := { s.crn with queue := rest, current := namedStep s.crn k.kind, latched := some r, progress := none,
                              awaited := .none, dwell := if r.dwell = 0 then none else some r.dwell,
                              dwellMs := 0 } }))
    ∧ (∀ (s : State) (k : CueRec) (rest : List CueRec) (r : StepRec), Powered s → s.crn.queue = k :: rest →
        s.takeWait = 0 → s.cdc.cfg.mode ≠ .direct → s.crn.step (namedStep s.crn k.kind) = some r →
        ∃ t, exec .cueTake s = .next t ∧ t.crn.queue = rest ∧ t.crn.current = namedStep s.crn k.kind
          ∧ t.crn.latched = some r ∧ t.crn.table = s.crn.table
          ∧ (∀ l ∈ r.level, classOk .program .lamp s = true → t.lmc.showLevel = l)
          ∧ (∀ a ∈ r.audio, t.dkc.audio = ⟨s.dkc.audio.level, a.1, a.2, 0, 0⟩)
          ∧ (r.deck = .stop → t.dkc.deck = .stopped ∧ t.dkc.stopPulse ≠ none)
          ∧ (∀ l ∈ r.link, s.lkc.canTake = false → t.lkc.overflow = true)
          ∧ (r.action ≠ .none → classOk .program .transport s = false →
              t.crn.stepFault = true ∧ t.crn.faultStep = namedStep s.crn k.kind
                ∧ t.crn.faultStatus = some .disabled ∧ t.csq.flight = none))
    ∧ (∀ (s : State) (o : CueOrigin) (n x : Nat) (rest : List CueRec), Powered s →
        s.crn.queue = ⟨o, .step n, x⟩ :: rest → s.takeWait = 0 → s.cdc.cfg.mode = .direct → n = 0 ∨ 99 < n →
        exec .cueTake s = .next (finish { s with
          crn := { s.crn with queue := rest, dwell := none, dwellMs := 0, stepFault := true, faultStep := n,
                              faultStatus := some .range } }))
    ∧ (∀ (s : State) (k : CueRec) (rest : List CueRec), Powered s → s.crn.queue = k :: rest → s.takeWait = 0 →
        s.cdc.cfg.mode = .direct → classOk .program .transport s = false → k.kind = .next →
        exec .cueTake s = .next (finish { s with
          crn := { s.crn with queue := rest, dwell := none, dwellMs := 0, progress := none, awaited := .none,
                              stepFault := true, faultStep := 0, faultStatus := some .disabled } }))
    ∧ (∀ (s : State) (o : CueOrigin) (n x : Nat) (rest : List CueRec), Powered s →
        s.crn.queue = ⟨o, .step n, x⟩ :: rest → s.takeWait = 0 → s.cdc.cfg.mode = .direct → 1 ≤ n → n ≤ 99 →
        s.pnp.power = .run → s.csq.state = .idle → classOk .program .transport s = true →
        s.sar.sources.program.route = .here → s.tru.present = true → s.tru.position ≠ none →
        s.csq.orphaned = false → (s.tru.slot n).retired = false → s.sar.sources.program.base ≤ n →
        n ≤ s.sar.sources.program.limit →
        ∃ t, exec .cueTake s = .next t ∧ t.crn.queue = rest ∧ t.crn.dwell = none
          ∧ t.crn.progress = some ⟨true, n⟩ ∧ t.crn.awaited = .started ∧ t.csq.state.active = true
          ∧ t.csq.flight.map (fun f => (f.kind, f.owner, f.target, f.fade))
            = some (.seek, .program, n, s.sar.cfg.fade) ∧ t.sar.holder = none ∧ t.tru = s.tru)
    ∧ (∀ (s : State) (p : Progress) (r : StepRec), s.crn.progress = some p → s.crn.latched = some r →
        stepComplete s = { s with
          crn := { s.crn with
            progress := none, awaited := .none
            dwell := if p.direct = true ∨ s.cdc.cfg.mode = .direct ∨ r.dwell = 0 then s.crn.dwell else some r.dwell
            dwellMs := if p.direct = true ∨ s.cdc.cfg.mode = .direct ∨ r.dwell = 0 then s.crn.dwellMs else 0 } })

/-! ## Show state and holds (08) -/

/-- SHOW_START by 08 Table 8.4 and SHOW_STOP (08 R144, R145). With the show clock the part of a tenth becomes 0 by the
model's choice (log 41). Where SHOW_STOP takes the deck out of FAULT, DECK goes with it by 05 R98 and R99; that R145 keeps it is read of what
SHC itself drops, which is the model's deduction (log 40). -/
def Obligations.ShowStartAndStop : Prop :=
  (∀ s : State, Awake s → classOk .panel .shows s = false →
      exec .showStart s = .next (finish (answered .disabled [] s))
        ∧ exec .showStop s = .next (finish (answered .disabled [] s)))
    ∧ (∀ s : State, Awake s → classOk .panel .shows s = true → s.shc.phase ≠ .stopped →
        exec .showStart s = .next (finish (answered .busy [] s)))
    ∧ (∀ s : State, Awake s → classOk .panel .shows s = true → s.shc.phase = .stopped →
        s.shc.causes ≠ Causes.empty → exec .showStart s = .next (finish (answered .held [] s)))
    ∧ (∀ s : State, Awake s → classOk .panel .shows s = true → s.shc.phase = .stopped →
        s.shc.causes = Causes.empty → s.pnp.power = .standbyPending →
        exec .showStart s = .next (finish (answered .standby [] s)))
    ∧ (∀ s : State, Awake s → classOk .panel .shows s = true → s.shc.phase = .stopped →
        s.shc.causes = Causes.empty → s.pnp.power = .run → s.dkc.deck = .fault →
        exec .showStart s = .next (finish (answered .busy [] s)))
    ∧ (∀ s : State, Awake s → classOk .panel .shows s = true → s.shc.phase = .stopped →
        s.shc.causes = Causes.empty → s.pnp.power = .run → s.dkc.deck = .ended → s.pins.tapeEnd = true →
        exec .showStart s = .next (finish (answered .deckEnd [] s)))
    ∧ (∀ s : State, Awake s → classOk .panel .shows s = true → s.shc.phase = .stopped →
        s.shc.causes = Causes.empty → s.pnp.power = .run → s.dkc.deck ≠ .fault →
        (s.dkc.deck = .ended → s.pins.tapeEnd = false) →
        ∃ t, exec .showStart s = .next t ∧ t.pnp.resp = some ⟨.ok, []⟩
          ∧ t.shc = { s.shc with phase := .running, ended := false }
          ∧ t.crn = { s.crn with queue := [], current := 0 } ∧ t.dkc.clock = 0
          ∧ (s.dkc.deck = .starting ∨ s.dkc.deck = .playing → t.dkc = { s.dkc with clock := 0, clockMs := 0 })
          ∧ (s.dkc.deck ≠ .starting → s.dkc.deck ≠ .playing → s.pins.running = false →
              t.dkc = { s.dkc with deck := .starting, timerMs := 0, stall := none, stopPulse := none, clock := 0,
                                   clockMs := 0 })
          ∧ t.pnp.pend = { s.pnp.pend with showChg := true } ∧ t.tru = s.tru ∧ t.csq = s.csq ∧ t.sar = s.sar)
    ∧ (∀ s : State, Awake s → classOk .panel .shows s = true →
        (∀ w ∈ s.sar.waiting, w.source ≠ .program) →
        ∃ t, exec .showStop s = .next t ∧ t.pnp.resp = some ⟨.ok, []⟩
          ∧ t.shc = { s.shc with phase := .stopped, ended := false,
                                 causes := { s.shc.causes with
                                   operator := false, cueHold := false, link := false,
                                   deck := s.shc.causes.deck && s.dkc.deck ≠ .fault } }
          ∧ t.crn = { s.crn with
              queue := [], progress := none, dwell := none, dwellMs := 0
              awaited := if s.crn.progress = none then s.crn.awaited else .none
              latched := if s.crn.progress = none then s.crn.latched else none }
          ∧ t.dkc = { s.dkc with deck := .stopped, stopPulse := some (s.dkc.stopPulse.getD 0), timerMs := 0,
                                 stall := none }
          ∧ t.pnp.pend = { s.pnp.pend with showChg := s.pnp.pend.showChg || s.shc.phase ≠ .stopped }
          ∧ t.tru = s.tru ∧ t.csq = s.csq ∧ t.sar = s.sar)
    ∧ (∀ (s : State) (w : Waiting), Awake s → classOk .panel .shows s = true → s.sar.waiting = some w →
        w.source = .program →
        ∃ t, exec .showStop s = .next t ∧ t.pnp.resp = some ⟨.ok, []⟩ ∧ t.shc.phase = .stopped
          ∧ t.sar.waiting = none ∧ t.crn.queue = []
          ∧ t.sar.last.program = ⟨some w.kind, some w.target, .flushed, .none, s.sar.last.program.refusals⟩)

/-- HOLD, RESUME, SET_SHOW, READ_SHOW and ENDING_SHOW_END (08 R140, R142, R143, R146, R147, R148). -/
def Obligations.HoldsAndTheirEnd : Prop :=
  (∀ s : State, Awake s → classOk .panel .shows s = true → s.shc.phase = .stopped ∨ s.shc.phase = .held →
      exec .hold s = .next (finish (answered .ok [] { s with
        shc := { s.shc with causes := { s.shc.causes with operator := true } } })))
    ∧ (∀ s : State, Awake s → classOk .panel .shows s = true → s.shc.phase = .running ∨ s.shc.phase = .ending →
        exec .hold s = .next (finish (answered .ok [] { s with
          shc := { s.shc with phase := .held, ended := decide (s.shc.phase = .ending),
                              causes := { s.shc.causes with operator := true } }
          dkc := if s.dkc.deck = .playing ∨ s.dkc.deck = .starting then
              { s.dkc with deck := if s.pins.running then .pausing else .paused, timerMs := 0, stall := none }
            else s.dkc
          pnp := { s.pnp with pend := { s.pnp.pend with showChg := true } } })))
    ∧ (∀ s : State, Awake s → classOk .panel .shows s = false →
        exec .hold s = .next (finish (answered .disabled [] s))
          ∧ exec .resume s = .next (finish (answered .disabled [] s)))
    ∧ (∀ s : State, Awake s → classOk .panel .shows s = true →
        s.shc.phase ≠ .held ∨ s.shc.causes.transport = true ∨ s.shc.causes.lamp = true ∨ s.shc.causes.deck = true →
        exec .resume s = .next (finish (answered .ok [] { s with
          shc := { s.shc with causes := { s.shc.causes with operator := false, cueHold := false, link := false } } })))
    ∧ (∀ s : State, Awake s → classOk .panel .shows s = true → s.shc.phase = .held →
        s.shc.causes.transport = false → s.shc.causes.lamp = false → s.shc.causes.deck = false →
        s.shc.ended = false → s.dkc.deck ≠ .ended → s.dkc.deck = .paused → s.pins.tapeEnd = false →
        s.pins.running = false →
        exec .resume s = .next (finish (answered .ok [] { s with
          shc := { s.shc with phase := .running, causes := Causes.empty }
          dkc := { s.dkc with deck := .starting, timerMs := 0, stall := none, stopPulse := none }
          pnp := { s.pnp with pend := { s.pnp.pend with showChg := true } } })))
    ∧ (∀ s : State, Awake s → classOk .panel .shows s = true → s.shc.phase = .held →
        s.shc.causes.transport = false → s.shc.causes.lamp = false → s.shc.causes.deck = false →
        s.shc.ended = true → s.dkc.deck ≠ .paused → s.dkc.deck ≠ .pausing → s.crn.queue ≠ [] →
        exec .resume s = .next (finish (answered .ok [] { s with
          shc := { s.shc with phase := .ending, causes := Causes.empty, ended := false }
          pnp := { s.pnp with pend := { s.pnp.pend with showChg := true } } })))
    ∧ (∀ (s : State) (a : Byte) (v : Bool), Awake s → onOff a = some v →
        v = false ∨ s.shc.phase ≠ .held ∨ s.shc.causes ≠ Causes.empty →
        exec (.setShow a) s = .next (finish (answered .ok [] { s with shc := { s.shc with autoResume := v } })))
    ∧ (∀ (s : State) (a : Byte), Awake s → a.toNat = 1 → s.shc.phase = .held → s.shc.causes = Causes.empty →
        s.shc.ended = false → s.dkc.deck = .stopped →
        exec (.setShow a) s = .next (finish (answered .ok [] { s with
          shc := { s.shc with phase := .running, autoResume := true }
          pnp := { s.pnp with pend := { s.pnp.pend with showChg := true } } })))
    ∧ (∀ (s : State) (a : Byte), Awake s → 1 < a.toNat →
        exec (.setShow a) s = .next (finish (answered .badArg [] s)))
    ∧ (∀ s : State, Awake s → exec .readShow s = .next (answered .ok
        [b8 (match s.shc.phase with
            | .stopped => 0
            | .running => 1
            | .held => 2
            | .ending => 3),
         b8 (bit s.shc.causes.operator 0 + bit s.shc.causes.cueHold 1 + bit s.shc.causes.transport 2
           + bit s.shc.causes.lamp 3 + bit s.shc.causes.deck 4 + bit s.shc.causes.link 5),
         b8 (bit s.shc.ended 0 + bit s.shc.autoResume 1)]
        { s with pnp := { s.pnp with pend := { s.pnp.pend with showChg := false } } }))
    ∧ (∀ s : State, Powered s → s.shc.phase = .ending → s.crn.queue = [] → s.crn.progress = none →
        s.crn.dwell = none →
        exec .endingShowEnd s = .next (finish { s with
          shc := { s.shc with phase := .stopped,
                              causes := { s.shc.causes with deck := s.shc.causes.deck && s.dkc.deck ≠ .fault } }
          dkc := { s.dkc with deck := .stopped, stopPulse := some (s.dkc.stopPulse.getD 0), timerMs := 0,
                              stall := none }
          crn := { s.crn with dwellMs := 0 }
          pnp := { s.pnp with pend := { s.pnp.pend with showChg := true } } }))
    ∧ (∀ s : State, Powered s → s.shc.phase ≠ .ending ∨ s.crn.queue ≠ [] ∨ s.crn.progress ≠ none
          ∨ s.crn.dwell ≠ none → exec .endingShowEnd s = .next (finish s))
    ∧ (∀ (s : State) (c : Cause), s.shc.phase = .held → s.pnp.power ≠ .resetHeld → s.shc.autoResume = false →
        removeCause c s = { s with shc := { s.shc with causes := s.shc.causes.set c false } })

/-! ## Remote control (09) -/

/-- WIRED_LINE_CHANGE, KEY_REPEAT_EXPIRY, DIGIT_TIMEOUT, FOCUS_END_STOP, FOCUS_TIMED_END and FOCUS_RUN_LIMIT (09 R151,
R156 to R159, R162 to R164), with the request that each action of Table 9.5 makes and what it does where it is taken.
By the model's choice the first reading of a line after a reset is its 20 ms or an event within them (log 12), and an
expiry whose timer does not run has no effect (log 3); the levels that FOCUS_END_STOP carries are the model's deduction
(log 11). -/
def Obligations.LinesKeysDigitsAndFocusEnds : Prop :=
  (∀ (s : State) (l : Line) (v : Bool), Powered s → s.pnp.power = .resetHeld ∨ s.rmi.test = true →
      exec (.wiredLineChange l v) s = .next (finish { s with pins := s.pins.setLine l v }))
    ∧ (∀ (s : State) (l : Line) (v : Bool), Powered s → s.pnp.power ≠ .resetHeld → s.rmi.test = false →
        (∀ n, (s.rmi.line l).reading ≠ .first n) → (s.rmi.line l).pressed = v →
        exec (.wiredLineChange l v) s = .next (finish { s with
          pins := s.pins.setLine l v
          rmi := s.rmi.setLine l { s.rmi.line l with reading := .watched } }))
    ∧ (∀ (s : State) (l : Line) (v : Bool) (n : Nat), Powered s → s.pnp.power ≠ .resetHeld → s.rmi.test = false →
        (s.rmi.line l).reading = .first n →
        exec (.wiredLineChange l v) s = .next (finish { s with
          pins := s.pins.setLine l v
          rmi := s.rmi.setLine l { s.rmi.line l with
            pressed := v, reading := .watched
            press := if v then some ⟨(s.rmi.entry (lineCode l)).action, (s.rmi.entry (lineCode l)).mode, 0, true⟩
              else none } }))
    ∧ (∀ n, (LineRead.first n).due = decide (20 ≤ n) ∧ (LineRead.resumed n).due = decide (20 ≤ n)
        ∧ LineRead.watched.due = false)
    ∧ (∀ (s : State) (l : Line) (m : RepeatMode), Awake s → s.rmi.test = false → (s.rmi.line l).pressed = false →
        (∀ n, (s.rmi.line l).reading ≠ .first n) → s.rmi.entry (lineCode l) = ⟨.report, m⟩ →
        exec (.wiredLineChange l true) s = .next (finish { s with
          pins := s.pins.setLine l true
          rmi := { s.rmi.setLine l ⟨true, true, (s.rmi.line l).releasedChg, some ⟨.report, m, 0, false⟩, .watched⟩ with
            lastKey := some (lineCode l), unread := true } }))
    ∧ (∀ (s : State) (l : Line) (m : RepeatMode), Powered s → s.pnp.power = .standby → s.rmi.test = false →
        (s.rmi.line l).pressed = false → (∀ n, (s.rmi.line l).reading ≠ .first n) →
        s.rmi.entry (lineCode l) = ⟨.report, m⟩ → s.rmi.cfg.wakeAny = false →
        exec (.wiredLineChange l true) s = .next (finish { s with
          pins := s.pins.setLine l true
          rmi := s.rmi.setLine l ⟨true, true, (s.rmi.line l).releasedChg, some ⟨.report, m, 0, true⟩, .watched⟩ }))
    ∧ (∀ (s : State) (l : Line), Powered s → s.pnp.power ≠ .resetHeld → s.rmi.test = false →
        (s.rmi.line l).pressed = true → (∀ n, (s.rmi.line l).reading ≠ .first n) →
        exec (.wiredLineChange l false) s = .next (finish { s with
          pins := s.pins.setLine l false
          rmi := { s.rmi.setLine l ⟨false, (s.rmi.line l).pressedChg, true, none, .watched⟩ with
            focus := if s.rmi.focus.drivenBy (lineCode l) then .stopped else s.rmi.focus } }))
    ∧ (∀ (s : State) (l : Line) (m : RepeatMode), Awake s → s.rmi.test = false → (s.rmi.line l).pressed = false →
        (∀ n, (s.rmi.line l).reading ≠ .first n) →
        s.rmi.entry (lineCode l) = ⟨.advance, m⟩ ∨ s.rmi.entry (lineCode l) = ⟨.home, m⟩ →
        classOk .remote .transport s = false →
        ∃ t, exec (.wiredLineChange l true) s = .next t
          ∧ t.sar.last.remote = { s.sar.last.remote with refusals := min 255 (s.sar.last.remote.refusals + 1) }
          ∧ (t.rmi.line l).pressedChg = true ∧ (t.rmi.line l).pressed = true ∧ t.csq = s.csq ∧ t.tru = s.tru)
    ∧ (∀ (s : State) (k : Nat) (p : Press), Powered s → pressOf k s = some p → p.spent = false → p.mode ≠ .once →
        p.mode ≠ .whileHeld → p.action = .report →
        ∃ t, exec (.keyRepeatExpiry k) s = .next t ∧ pressOf k t = some { p with repeatMs := 0 }
          ∧ t.rmi.lastKey = some k ∧ t.rmi.unread = true ∧ t.csq = s.csq ∧ t.sar = s.sar ∧ t.tru = s.tru)
    ∧ (∀ (s : State) (k : Nat) (p : Press), Powered s → pressOf k s = some p →
        p.spent = true ∨ p.mode = .once ∨ p.mode = .whileHeld →
        exec (.keyRepeatExpiry k) s = .next (finish s))
    ∧ (∀ (s : State) (k : Nat), Powered s → pressOf k s = none →
        exec (.keyRepeatExpiry k) s = .next (finish s))
    ∧ (∀ (s : State) (l : Line) (a : KeyAction) (m : RepeatMode), Awake s → Pressing l a m s →
        exec (.wiredLineChange l true) s = .next (finish (fireKey a m (lineCode l) (pressedLine l a m s))))
    ∧ (∀ (s : State) (m : RepeatMode) (k : Nat),
        fireKey .none m k s = s
          ∧ fireKey .advance m k s = (changeRequest .remote .advance 1 0xFF s).1
          ∧ fireKey .reverse m k s = (changeRequest .remote .reverse 1 0xFF s).1
          ∧ fireKey .home m k s = (changeRequest .remote .home 0 0xFF s).1)
    ∧ (∀ (s : State) (a : KeyAction) (m : RepeatMode) (k : Nat) (c : ReqClass),
        (a, c) ∈ [(KeyAction.advance, ReqClass.transport), (.reverse, .transport), (.home, .transport),
          (.clearJam, .transport), (.lampOn, .lamp), (.lampOff, .lamp), (.hold, .shows), (.resume, .shows),
          (.showStart, .shows), (.showStop, .shows), (.nextStep, .shows), (.standby, .power)] →
        classOk .remote c s = false →
        fireKey a m k s = { s with sar := { s.sar with last := { s.sar.last with
          remote := { s.sar.last.remote with refusals := min 255 (s.sar.last.remote.refusals + 1) } } } })
    ∧ (∀ (s : State) (l : Line) (d : Bool) (m : RepeatMode), Awake s →
        Pressing l (if d then .focusIn else .focusOut) m s → (if d then s.pins.fsi else s.pins.fso) = false →
        ∃ t, exec (.wiredLineChange l true) s = .next t
          ∧ t.rmi.focus = .run d (if m = .whileHeld then .key (lineCode l) else .timed 100) 0
          ∧ t.outputs.fci = d ∧ t.outputs.fco = !d ∧ t.csq = s.csq ∧ t.sar = s.sar)
    ∧ (∀ (s : State) (l : Line) (d : Bool) (m : RepeatMode), Awake s →
        Pressing l (if d then .focusIn else .focusOut) m s → (if d then s.pins.fsi else s.pins.fso) = true →
        ∃ t, exec (.wiredLineChange l true) s = .next t
          ∧ t.rmi.focus = (if s.rmi.focus.runs d then .stopped else s.rmi.focus))
    ∧ (∀ (s : State) (l : Line) (m : RepeatMode), Powered s → s.pnp.power = .run → Pressing l .lampOn m s →
        classOk .remote .lamp s = true → s.lmc.lamp = .off ∨ s.lmc.lamp = .cooling → s.lmc.trip = false →
        s.lmc.temp.getD 60 < 60 → s.lmc.dim = false →
        ∃ t, exec (.wiredLineChange l true) s = .next t ∧ t.lmc.lamp = .preheat ∧ t.csq = s.csq)
    ∧ (∀ (s : State) (l : Line) (m : RepeatMode), Awake s → Pressing l .lampOff m s →
        classOk .remote .lamp s = true → s.lmc.lamp = .preheat ∨ s.lmc.lamp = .lit →
        ∃ t, exec (.wiredLineChange l true) s = .next t ∧ t.lmc.lamp = .cooling ∧ t.lmc.output = 0)
    ∧ (∀ (s : State) (l : Line) (m : RepeatMode), Awake s → Pressing l .hold m s → classOk .remote .shows s = true →
        ∃ t, exec (.wiredLineChange l true) s = .next t
          ∧ t.shc.causes = { s.shc.causes with operator := true }
          ∧ (s.shc.phase = .running ∨ s.shc.phase = .ending → t.shc.phase = .held)
          ∧ (s.shc.phase = .stopped ∨ s.shc.phase = .held → t.shc.phase = s.shc.phase))
    ∧ (∀ (s : State) (l : Line) (m : RepeatMode), Awake s → Pressing l .resume m s → classOk .remote .shows s = true →
        ∃ t, exec (.wiredLineChange l true) s = .next t
          ∧ t.shc.causes = { s.shc.causes with operator := false, cueHold := false, link := false }
          ∧ (s.shc.phase = .held → s.shc.causes.transport = false → s.shc.causes.lamp = false →
              s.shc.causes.deck = false → t.shc.phase ≠ .held)
          ∧ (s.shc.phase ≠ .held → t.shc.phase = s.shc.phase))
    ∧ (∀ (s : State) (l : Line) (m : RepeatMode), Powered s → s.pnp.power = .run → Pressing l .showStart m s →
        classOk .remote .shows s = true → s.shc.phase = .stopped → s.shc.causes = Causes.empty →
        s.dkc.deck = .stopped ∨ s.dkc.deck = .playing →
        ∃ t, exec (.wiredLineChange l true) s = .next t ∧ t.shc.phase = .running ∧ t.crn.queue = []
          ∧ t.dkc.clock = 0 ∧ (s.dkc.deck = .stopped → s.pins.running = false → t.dkc.deck = .starting))
    ∧ (∀ (s : State) (l : Line) (m : RepeatMode), Awake s → Pressing l .showStop m s →
        classOk .remote .shows s = true →
        ∃ t, exec (.wiredLineChange l true) s = .next t ∧ t.shc.phase = .stopped ∧ t.crn.queue = []
          ∧ t.dkc.deck = .stopped ∧ t.shc.causes.operator = false)
    ∧ (∀ (s : State) (l : Line) (m : RepeatMode), Awake s → Pressing l .nextStep m s →
        classOk .remote .shows s = true → s.shc.phase ≠ .stopped → s.crn.queue.length < 8 →
        ∃ t, exec (.wiredLineChange l true) s = .next t
          ∧ t.crn = { s.crn with queue := s.crn.queue ++ [⟨.remote, .next, s.dkc.clock⟩] })
    ∧ (∀ (s : State) (l : Line) (m : RepeatMode), Awake s → Pressing l .standby m s →
        classOk .remote .power s = true → s.shc.phase = .stopped →
        ∃ t, exec (.wiredLineChange l true) s = .next t ∧ t.pnp.power = .standbyPending)
    ∧ (∀ (s : State) (l : Line) (m : RepeatMode), Awake s → Pressing l .clearJam m s →
        classOk .remote .transport s = true → s.csq.state = .jammed → s.pins.sensed = .clear →
        ∃ t, exec (.wiredLineChange l true) s = .next t ∧ t.csq.state ≠ .jammed ∧ t.csq.gate = .empty
          ∧ t.shc.causes.transport = false)
    ∧ (∀ (s : State) (l : Line) (m : RepeatMode), Powered s → Pressing l .wake m s →
        s.pnp.power = .standby ∨ s.pnp.power = .standbyPending →
        ∃ t, exec (.wiredLineChange l true) s = .next t ∧ t.pnp.power = .run ∧ t.pnp.event = .woken
          ∧ t.pnp.pend.power = true)
    ∧ (∀ (s : State) (l : Line) (a : KeyAction) (m : RepeatMode), Powered s → Pressing l a m s →
        s.pnp.power = .standby → a ≠ .wake → a ≠ .lampOn →
        ∃ t, exec (.wiredLineChange l true) s = .next t ∧ (t.rmi.line l).pressedChg = true
          ∧ t.pnp.power = (if s.rmi.cfg.wakeAny then .run else .standby))
    ∧ (∀ (s : State) (l : Line) (m : RepeatMode), Powered s → Pressing l .lampOn m s → s.pnp.power = .standby →
        ∃ t, exec (.wiredLineChange l true) s = .next t
          ∧ t.pnp.power = (if classOk .remote .lamp s then .run else .standby)
          ∧ t.sar.last.remote.refusals ≤ s.sar.last.remote.refusals + 1)
    ∧ (∀ (s : State) (l : Line) (m : RepeatMode) (q : Nat), Powered s → s.pnp.power = .run → Pressing l .advance m s →
        classOk .remote .transport s = true → s.sar.sources.remote.route = .here → s.tru.present = true →
        s.tru.position ≠ none → s.csq.orphaned = false →
        s.tru.resolve .advance 1 ((expected s).getD 0) = .ok q → s.sar.sources.remote.base ≤ q →
        q ≤ s.sar.sources.remote.limit → s.csq.state = .idle → s.sar.holder = none → s.sar.waiting = none →
        ∃ t, exec (.wiredLineChange l true) s = .next t ∧ t.csq.state.active = true
          ∧ t.csq.flight.map (fun f => (f.kind, f.owner, f.target, f.fade))
            = some (.advance, .remote, q, s.sar.cfg.fade))
    ∧ (∀ (s : State) (k n : Nat) (p : Press), Powered s → pressOf k s = some p → p.spent = false →
        p.mode = .auto n →
        exec (.keyRepeatExpiry k) s
          = .next (finish (fireKey p.action p.mode k (setPress k (some { p with repeatMs := 0 }) s))))
    ∧ (∀ (s : State) (k n c q r : Nat) (p : Press) (f : Flight) (u : Nat), Awake s → pressOf k s = some p →
        p.spent = false → p.mode = .auto n → p.action = .advance → classOk .remote .transport s = true →
        s.sar.sources.remote.route = .here → s.tru.present = true → s.tru.position ≠ none →
        s.csq.orphaned = false → s.csq.flight = some f → s.csq.state.active = true →
        s.sar.waiting = some ⟨.remote, .advance, c, u, s.sar.cfg.fade⟩ → c < 15 →
        s.tru.resolve .advance 1 f.target = .ok q → s.tru.resolve .advance (c + 1) f.target = .ok r →
        s.sar.sources.remote.base ≤ q → q ≤ s.sar.sources.remote.limit →
        s.sar.sources.remote.base ≤ r → r ≤ s.sar.sources.remote.limit →
        ∃ t, exec (.keyRepeatExpiry k) s = .next t ∧ t.csq = s.csq
          ∧ t.sar.waiting = some ⟨.remote, .advance, c + 1, r, s.sar.cfg.fade⟩)
    ∧ (∀ s : State, Powered s → exec .digitTimeout s = .next { s with
        rmi := { s.rmi with digit := none, digitMs := 0 } })
    ∧ (∀ (s : State) (d k : Nat) (m : RepeatMode), s.rmi.digit = none →
        fireKey (.digit d) m k s = { s with rmi := { s.rmi with digit := some d, digitMs := 0 } }
          ∧ fireKey .enter m k s = s)
    ∧ (∀ (s : State) (d e k : Nat) (m : RepeatMode), s.rmi.digit = some e →
        fireKey (.digit d) m k s
            = (changeRequest .remote .seek (10 * e + d) 0xFF { s with
                rmi := { s.rmi with digit := none, digitMs := 0 } }).1
          ∧ fireKey .enter m k s
            = (changeRequest .remote .seek e 0xFF { s with
                rmi := { s.rmi with digit := none, digitMs := 0 } }).1)
    ∧ (∀ (s : State) (a b : Bool), Powered s →
      exec (.focusEndStop a b) s = .next (finish { s with
        pins := { s.pins with fsi := a, fso := b }
        rmi := { s.rmi with focus := if (a = true ∧ s.outputs.fci = true) ∨ (b = true ∧ s.outputs.fco = true) then
          .stopped else s.rmi.focus } }))
    ∧ (∀ (s : State) (d : Bool) (t n : Nat), Powered s → s.rmi.focus = .run d (.timed t) n →
        exec .focusTimedEnd s = .next { s with rmi := { s.rmi with focus := .stopped } })
    ∧ (∀ (s : State) (d : Bool) (k n : Nat), Powered s → s.rmi.focus = .run d (.key k) n →
        exec .focusTimedEnd s = .next s)
    ∧ (∀ s : State, Powered s → exec .focusRunLimit s = .next { s with rmi := { s.rmi with focus := .stopped } })
    ∧ (∀ (s : State) (d : Bool) (e : FocusEnd) (n : Nat), Powered s → s.rmi.focus = .run d e n →
        s.outputs.fci = d ∧ s.outputs.fco = !d)
    ∧ (∀ s : State, s.rmi.focus = .stopped → s.outputs.fci = false ∧ s.outputs.fco = false)

/-- IR_FRAME, IR_REPEAT, IR_FRAME_DROP and IR_RELEASE_TIMEOUT (09 R153, R154). That IR_RELEASE_TIMEOUT has no effect
with no key held is the model's choice (log 3). -/
def Obligations.InfraRedFramesPressTheirKey : Prop :=
  (∀ c k : Nat, c < 16 → k < 64 → ∀ ch : Option Nat,
      irKey ch (irCode c k) = if k < 60 ∧ (ch = none ∨ ch = some c) then some k else none)
    ∧ (∀ (s : State) (qs : List IrPulse), Powered s → s.pnp.power = .resetHeld ∨ s.rmi.test = true →
        exec (.irFrame qs) s = .next (finish s) ∧ exec (.irRepeat qs) s = .next (finish s)
          ∧ exec (.irFrameDrop qs) s = .next (finish s))
    ∧ (∀ (s : State) (bits : List Bool) (ps : List IrPulse) (k : Nat) (m : RepeatMode), Awake s →
        s.rmi.test = false → s.rmi.irRx = .waitLeader → irSpells bits ps = true → bits.length = 16 →
        irKey s.rmi.cfg.channel bits = some k → s.rmi.irHeld = none → s.rmi.entry k = ⟨.report, m⟩ →
        exec (.irFrame ps) s = .next (finish { s with
          rmi := { s.rmi with irHeld := some k, irReleaseMs := 0, irPress := some ⟨.report, m, 0, false⟩,
                              lastKey := some k, unread := true } }))
    ∧ (∀ (s : State) (bits : List Bool) (ps : List IrPulse) (k : Nat), Powered s → s.pnp.power ≠ .resetHeld →
        s.rmi.test = false → s.rmi.irRx = .waitLeader → irSpells bits ps = true → bits.length = 16 →
        irKey s.rmi.cfg.channel bits = some k → s.rmi.irHeld = some k →
        exec (.irFrame ps) s = .next (finish { s with rmi := { s.rmi with irReleaseMs := 0 } }))
    ∧ (∀ (s : State) (bits : List Bool) (ps : List IrPulse), Powered s → s.pnp.power ≠ .resetHeld →
        s.rmi.test = false → s.rmi.irRx = .waitLeader → irSpells bits ps = true → bits.length = 16 →
        irKey s.rmi.cfg.channel bits = none →
        exec (.irFrameDrop ps) s = .next (finish { s with
          rmi := { s.rmi with irDrops := min 255 (s.rmi.irDrops + 1) } }))
    ∧ (∀ (s : State) (a g t : Nat), Powered s → s.pnp.power ≠ .resetHeld → s.rmi.test = false →
        s.rmi.irRx = .waitLeader → 1800 ≤ a → a ≤ 3000 → 1800 ≤ g → g ≤ 3000 → 300 ≤ t → t ≤ 500 →
        exec (.irRepeat [.mark a, .space g, .mark t]) s = .next (finish { s with
          rmi := { s.rmi with irReleaseMs := if s.rmi.irHeld = none then s.rmi.irReleaseMs else 0 } }))
    ∧ (∀ (s : State) (a g : Nat), Powered s → s.pnp.power ≠ .resetHeld → s.rmi.test = false →
        s.rmi.irRx = .waitLeader → 1800 ≤ a → a ≤ 3000 → g < 900 ∨ (1500 < g ∧ g < 1800) ∨ 3000 < g →
        exec (.irFrameDrop [.mark a, .space g]) s = .next (finish { s with
          rmi := { s.rmi with irDrops := min 255 (s.rmi.irDrops + 1) } }))
    ∧ (∀ (s : State) (k : Nat), Powered s → s.rmi.irHeld = some k → k < 60 → s.rmi.injected = false →
        exec .irReleaseTimeout s = .next (finish { s with
          rmi := { s.rmi with irHeld := none, irReleaseMs := 0, irPress := none,
                              focus := if s.rmi.focus.drivenBy k then .stopped else s.rmi.focus } }))
    ∧ (∀ (s : State), Powered s → s.rmi.irHeld = none ∨ s.rmi.injected = true →
        exec .irReleaseTimeout s = .next (finish s))

/-- FOCUS and FOCUS_STOP (09 R160): the refusals, and the runs of R159. -/
def Obligations.FocusCommandStartsATimedRun : Prop :=
  (∀ (s : State) (d n : Byte), Awake s → 2 < d.toNat ∨ (d.toNat ≠ 0 ∧ (n.toNat = 0 ∨ 80 < n.toNat)) →
      exec (.focus d n) s = .next (answered .badArg [] s))
    ∧ (∀ (s : State) (n : Byte), Awake s →
        exec (.focus 0 n) s = .next (answered .ok [] { s with rmi := { s.rmi with focus := .stopped } })
          ∧ exec .focusStop s = .next (answered .ok [] { s with rmi := { s.rmi with focus := .stopped } }))
    ∧ (∀ (s : State) (d n : Byte), Awake s → d.toNat = 1 ∨ d.toNat = 2 → 1 ≤ n.toNat → n.toNat ≤ 80 →
        (if d.toNat = 1 then s.pins.fsi else s.pins.fso) = false →
        exec (.focus d n) s = .next (answered .ok [] { s with
          rmi := { s.rmi with focus := .run (d.toNat = 1) (.timed (100 * n.toNat)) 0 } }))
    ∧ (∀ (s : State) (d n : Byte), Awake s → d.toNat = 1 ∨ d.toNat = 2 → 1 ≤ n.toNat → n.toNat ≤ 80 →
        (if d.toNat = 1 then s.pins.fsi else s.pins.fso) = true →
        exec (.focus d n) s = .next (answered .ok [] { s with
          rmi := { s.rmi with focus := if s.rmi.focus.runs (d.toNat = 1) then .stopped else s.rmi.focus } }))
    ∧ (∀ s : State, Awake s →
        ∃ t, ∃ r : Response, exec .readRemote s = .next t ∧ t.pnp.resp = some r ∧ r.payload[6]? = some (match s.rmi.focus with
          | .stopped => (0 : Byte)
          | .run true _ _ => 1
          | .run false _ _ => 2))

/-- CLEAR_REMOTE, SET_KEY, READ_KEYS, SET_REMOTE, READ_REMOTE and the five functions of REMOTE TEST (09 R151, R152,
R155, R161, R162), with what SET_KEY refuses and stores, and the marks and presses that Set lines causes. By the
model's choice the 20 ms after a Leave are counted line by line (log 12), BUSY stands before BAD_ARG for Press key
while test mode is OFF (log 14), and bits 4 to 7 of Set lines are ignored (log 43). -/
def Obligations.RemoteCommands : Prop :=
  (∀ (s : State) (m v : Byte), Awake s →
      ∃ t, exec (.clearRemote m v) s = .next t ∧ t = answered .ok [] { s with rmi := t.rmi }
        ∧ t.rmi = { s.rmi with fwd := t.rmi.fwd, rev := t.rmi.rev, fin := t.rmi.fin, fout := t.rmi.fout }
        ∧ t.rmi.fwd = { s.rmi.fwd with
            pressedChg := if m.getLsbD 0 then v.getLsbD 0 else s.rmi.fwd.pressedChg
            releasedChg := if m.getLsbD 4 then v.getLsbD 4 else s.rmi.fwd.releasedChg }
        ∧ t.rmi.rev = { s.rmi.rev with
            pressedChg := if m.getLsbD 1 then v.getLsbD 1 else s.rmi.rev.pressedChg
            releasedChg := if m.getLsbD 5 then v.getLsbD 5 else s.rmi.rev.releasedChg }
        ∧ t.rmi.fin = { s.rmi.fin with
            pressedChg := if m.getLsbD 2 then v.getLsbD 2 else s.rmi.fin.pressedChg
            releasedChg := if m.getLsbD 6 then v.getLsbD 6 else s.rmi.fin.releasedChg }
        ∧ t.rmi.fout = { s.rmi.fout with
            pressedChg := if m.getLsbD 3 then v.getLsbD 3 else s.rmi.fout.pressedChg
            releasedChg := if m.getLsbD 7 then v.getLsbD 7 else s.rmi.fout.releasedChg })
    ∧ (∀ (s : State) (c a m : Byte) (e : KeyEntry), Awake s → c.toNat ≤ 63 → KeyEntry.parse a m = some e →
      ∃ ks, exec (.setKey c a m) s = .next (answered .ok [] { s with rmi := { s.rmi with keys := ks } })
        ∧ ks.length = s.rmi.keys.length
        ∧ ∀ (p : Nat) (x : KeyEntry), s.rmi.keys[p]? = some x → ks[p]? = some (if p = c.toNat then e else x))
    ∧ (∀ (s : State) (c a m : Byte), Awake s → 63 < c.toNat ∨ KeyEntry.parse a m = none →
        exec (.setKey c a m) s = .next (answered .badArg [] s))
    ∧ (∀ a m : Byte, KeyEntry.parse a m = none ↔
        ((17 < a.toNat ∧ a.toNat < 32) ∨ 41 < a.toNat ∨ m.toNat / 64 = 3
          ∨ (m.toNat / 64 = 2 ∧ (m.toNat % 32 < 2 ∨ 20 < m.toNat % 32))
          ∨ (m.toNat / 64 = 1 ∧ a ≠ 3 ∧ a ≠ 4)))
    ∧ (∀ (a m : Byte) (e : KeyEntry), KeyEntry.parse a m = some e →
        e.action.byte = a
          ∧ e.mode = (if m.toNat / 64 = 0 then .once else if m.toNat / 64 = 1 then .whileHeld
              else .auto (m.toNat % 32))
          ∧ e.mode.byte = (if m.toNat / 64 = 0 then 0 else if m.toNat / 64 = 1 then 0x40 else m &&& 0x9F))
    ∧ [KeyAction.none, .advance, .reverse, .focusIn, .focusOut, .hold, .resume, .showStart, .showStop, .lampOn, .lampOff,
        .home, .enter, .clearJam, .nextStep, .standby, .wake, .report].map KeyAction.byte
        = (List.range 18).map (BitVec.ofNat 8)
    ∧ (∀ d, KeyAction.byte (.digit d) = BitVec.ofNat 8 (32 + d))
    ∧ (∀ (s : State) (a n : Byte), Awake s → a.toNat ≤ 63 → 1 ≤ n.toNat → n.toNat ≤ 32 → s.rmi.keys.length = 64 →
      ∃ pl, exec (.readKeys a n) s = .next (answered .ok pl s)
        ∧ pl.length = 2 * min n.toNat (64 - a.toNat)
        ∧ ∀ (i : Nat) (k : KeyEntry), i < n.toNat → s.rmi.keys[a.toNat + i]? = some k →
            pl[2 * i]? = some k.action.byte ∧ pl[2 * i + 1]? = some k.mode.byte)
    ∧ (∀ (s : State) (a n : Byte), Awake s → 63 < a.toNat ∨ n.toNat = 0 ∨ 32 < n.toNat →
        exec (.readKeys a n) s = .next (answered .badArg [] s))
    ∧ (∀ (s : State) (c e w : Byte) (v u : Bool), Awake s → c.toNat ≤ 16 → onOff e = some v → onOff w = some u →
        exec (.setRemote c e w) s = .next (answered .ok [] { s with
          rmi := { s.rmi with cfg := ⟨if c.toNat = 16 then none else some c.toNat, v, u⟩ } }))
    ∧ (∀ (s : State) (c e w : Byte), Awake s → 16 < c.toNat ∨ 1 < e.toNat ∨ 1 < w.toNat →
        exec (.setRemote c e w) s = .next (answered .badArg [] s))
    ∧ (∀ s : State, Awake s → exec .readRemote s = .next (answered .ok
        [b8 (bit s.rmi.fwd.pressed 0 + bit s.rmi.rev.pressed 1 + bit s.rmi.fin.pressed 2 + bit s.rmi.fout.pressed 3),
         b8 (bit s.rmi.fwd.pressedChg 0 + bit s.rmi.rev.pressedChg 1 + bit s.rmi.fin.pressedChg 2
           + bit s.rmi.fout.pressedChg 3 + bit s.rmi.fwd.releasedChg 4 + bit s.rmi.rev.releasedChg 5
           + bit s.rmi.fin.releasedChg 6 + bit s.rmi.fout.releasedChg 7),
         optByte 0xFF s.rmi.irHeld, optByte 0xFF s.rmi.lastKey,
         b8 (bit s.rmi.unread 0 + bit s.rmi.test 1 + bit s.rmi.cfg.changeEnable 2 + bit s.rmi.cfg.wakeAny 3),
         optByte 0xFF s.rmi.digit, b8 (bit s.outputs.fci 0 + bit s.outputs.fco 1), b8 s.rmi.irDrops,
         optByte 16 s.rmi.cfg.channel]
        { s with rmi := { s.rmi with unread := false, irDrops := 0 } }))
    ∧ (∀ s : State, Awake s → s.rmi.test = true → exec .remoteTestEnter s = .next (finish (answered .ok [] s)))
    ∧ (∀ s : State, Awake s → s.rmi.test = false →
        ∃ t, exec .remoteTestEnter s = .next t ∧ t.pnp.resp = some ⟨.ok, []⟩ ∧ t.rmi.test = true
          ∧ t.rmi.irHeld = none ∧ t.rmi.irRx = .waitLeader
          ∧ (∀ l ∈ [Line.fwd, .rev, .fin, .fout], (t.rmi.line l).pressed = false
              ∧ (t.rmi.line l).releasedChg = ((s.rmi.line l).releasedChg || (s.rmi.line l).pressed)
              ∧ (t.rmi.line l).pressedChg = (s.rmi.line l).pressedChg ∧ (t.rmi.line l).reading = .watched)
          ∧ t.csq = s.csq ∧ t.sar = s.sar ∧ t.shc = s.shc ∧ t.pins = s.pins)
    ∧ (∀ s : State, Awake s → s.rmi.test = false → exec .remoteTestLeave s = .next (finish (answered .ok [] s)))
    ∧ (∀ s : State, Awake s → s.rmi.test = true →
        ∃ t, exec .remoteTestLeave s = .next t ∧ t.pnp.resp = some ⟨.ok, []⟩ ∧ t.rmi.test = false
          ∧ t.rmi.irHeld = none ∧ t.rmi.irRx = .waitLeader ∧ t.pins = s.pins
          ∧ (∀ l ∈ [Line.fwd, .rev, .fin, .fout], (t.rmi.line l).pressed = false
              ∧ (t.rmi.line l).releasedChg = ((s.rmi.line l).releasedChg || (s.rmi.line l).pressed)
              ∧ (t.rmi.line l).pressedChg = (s.rmi.line l).pressedChg ∧ (t.rmi.line l).reading = .resumed 0)
          ∧ t.csq = s.csq ∧ t.sar = s.sar ∧ t.shc = s.shc)
    ∧ (∀ (s : State) (b : Byte), Awake s → s.rmi.test = false →
        exec (.remoteTestSetLines b) s = .next (finish (answered .busy [] s))
          ∧ exec (.remoteTestPressKey b) s = .next (finish (answered .busy [] s))
          ∧ exec .remoteTestReleaseKey s = .next (finish (answered .busy [] s)))
    ∧ (∀ (s : State) (b : Byte), Awake s → s.rmi.test = true →
        ∃ t, exec (.remoteTestSetLines b) s = .next t ∧ t.pnp.resp = some ⟨.ok, []⟩
          ∧ t.rmi.fwd.pressed = b.getLsbD 0 ∧ t.rmi.rev.pressed = b.getLsbD 1 ∧ t.rmi.fin.pressed = b.getLsbD 2
          ∧ t.rmi.fout.pressed = b.getLsbD 3 ∧ t.pins = s.pins ∧ t.rmi.test = true
          ∧ (∀ p ∈ [(Line.fwd, b.getLsbD 0), (.rev, b.getLsbD 1), (.fin, b.getLsbD 2), (.fout, b.getLsbD 3)],
              (t.rmi.line p.1).pressedChg = ((s.rmi.line p.1).pressedChg || (p.2 && !(s.rmi.line p.1).pressed))
              ∧ (t.rmi.line p.1).releasedChg = ((s.rmi.line p.1).releasedChg || (!p.2 && (s.rmi.line p.1).pressed))
              ∧ (t.rmi.line p.1).press = (if (s.rmi.line p.1).pressed = p.2 then (s.rmi.line p.1).press
                  else if p.2 then some ⟨(s.rmi.entry (lineCode p.1)).action, (s.rmi.entry (lineCode p.1)).mode, 0,
                    false⟩
                  else none)))
    ∧ (∀ (s : State) (b : Byte), Awake s → s.rmi.test = true →
        b.getLsbD 0 = s.rmi.fwd.pressed → b.getLsbD 1 = s.rmi.rev.pressed → b.getLsbD 2 = s.rmi.fin.pressed →
        b.getLsbD 3 = s.rmi.fout.pressed →
        exec (.remoteTestSetLines b) s = .next (finish (answered .ok [] s)))
    ∧ (∀ (s : State) (b : Byte) (a : KeyAction) (m : RepeatMode), Awake s → s.rmi.test = true →
        s.rmi.fwd.pressed = false → b.getLsbD 0 = true → b.getLsbD 1 = s.rmi.rev.pressed →
        b.getLsbD 2 = s.rmi.fin.pressed → b.getLsbD 3 = s.rmi.fout.pressed → s.rmi.entry 60 = ⟨a, m⟩ →
        exec (.remoteTestSetLines b) s = .next (finish (answered .ok [] (fireKey a m 60 { s with
          rmi := { s.rmi with fwd := ⟨true, true, s.rmi.fwd.releasedChg, some ⟨a, m, 0, false⟩,
            s.rmi.fwd.reading⟩ } }))))
    ∧ (∀ (s : State) (b : Byte), Awake s → s.rmi.test = true → b.toNat ≤ 59 →
        ∃ t, exec (.remoteTestPressKey b) s = .next t ∧ t.pnp.resp = some ⟨.ok, []⟩
          ∧ t.rmi.irHeld = some b.toNat ∧ t.rmi.injected = true ∧ t.rmi.irReleaseMs = 0 ∧ t.pins = s.pins)
    ∧ (∀ (s : State) (b : Byte), Awake s → s.rmi.test = true → 59 < b.toNat →
        exec (.remoteTestPressKey b) s = .next (finish (answered .badArg [] s)))
    ∧ (∀ (s : State) (k : Nat), Awake s → s.rmi.test = true → s.rmi.irHeld = some k → k < 60 →
        exec .remoteTestReleaseKey s = .next (finish (answered .ok [] { s with
          rmi := { s.rmi with irHeld := none, irReleaseMs := 0, injected := false, irPress := none,
                              focus := if s.rmi.focus.drivenBy k then .stopped else s.rmi.focus } })))
    ∧ (∀ s : State, Awake s → s.rmi.test = true → s.rmi.irHeld = none →
        exec .remoteTestReleaseKey s = .next (finish (answered .ok [] s)))

/-! ## The link controller (10) -/

/-- LINE_BUSY, LINE_IDLE, BAD_FRAME, FRAME_NOT_ACCEPTED, OWN_ADDRESS_FRAME and LINK_STATE_OR_DATA_FRAME (10 R165, R166,
R168, R170, R174, R176): the receiver's states character by character, and the frames that rows bring whole. By the
model's choice LINE_BUSY carries the character that its start bit begins, and a row's frame is heard in WAIT_LEAD and
IN_FRAME and leaves the line BUSY for two characters (log 23); the looped frame is log 24; and after a frame that LINE_IDLE
breaks off the receiver waits for a lead (log 51). The bytes of a frame are judged by Tables 10.3 and 10.4: which
destination, kind, length and payload values are sound, and that a lead, a length, a source or a check that R166 finds
bad gives no frame; bits 5-4 of the destination and the number of ALL are not examined by the model's deduction (log
25). -/
def Obligations.TheReceiverJudgesFrames : Prop :=
  (∀ (d k : Byte) (p : List Byte), frameOk d k p = true ↔
      ((d.toNat / 64 = 0 ∧ d.toNat % 16 ≤ 14) ∨ (d.toNat / 64 = 1 ∧ 1 ≤ d.toNat % 16 ∧ d.toNat % 16 ≤ 8)
        ∨ d.toNat / 64 = 2)
      ∧ ((k = 1 ∧ ∃ a b c, p = [a, b, c] ∧ 1 ≤ a.toNat ∧ a.toNat ≤ 4)
        ∨ (k = 2 ∧ p.length = 2)
        ∨ (k = 3 ∧ (p = [0] ∨ p = [1]))
        ∨ ((k = 4 ∨ k = 5 ∨ k = 7 ∨ k = 10 ∨ k = 11) ∧ p = [])
        ∨ (k = 6 ∧ ∃ a, p = [a] ∧ 1 ≤ a.toNat ∧ a.toNat ≤ 254)
        ∨ (k = 8 ∧ p.length = 5)
        ∨ (k = 9 ∧ p.length ≤ 8)))
    ∧ (∀ (bs : List Byte) (f : LinkFrame), LinkFrame.parse bs = some f ↔
        ∃ head check : Byte, bs = [0x7E, head, f.dest, f.kind, b8 f.payload.length] ++ f.payload ++ [check]
          ∧ bs.sum = 0 ∧ f.payload.length ≤ 8 ∧ f.level = head.toNat / 16 ∧ f.src = head.toNat % 16 ∧ f.src ≠ 15
          ∧ frameOk f.dest f.kind f.payload = true)
    ∧ (∀ bs : List Byte, bs.sum ≠ 0 → LinkFrame.parse bs = none)
    ∧ (∀ bs : List Byte, bs.length ≠ 6 + (bs.getD 4 0).toNat → LinkFrame.parse bs = none)
    ∧ (∀ (bs : List Byte) (lead : Byte), lead ≠ 0x7E → LinkFrame.parse (lead :: bs) = none)
    ∧ (∀ l : Lkc, l.busy 3 = { l with
      lineIdle := false, idleInUs := 3 * l.charUs, idleForUs := 0
      access := if l.access = .waitSlots then .waitIdle else l.access })
    ∧ (∀ (s : State) (c : Byte) (b : Bool), Hearing s → s.lkc.rx = .waitIdle →
        exec (.lineBusy c b) s = .next (finish { s with lkc := s.lkc.busy 3 }))
    ∧ (∀ s : State, Hearing s → s.lkc.rx = .waitLead →
        exec (.lineBusy 0x7E true) s = .next (finish { s with lkc := { s.lkc.busy 3 with rx := .inFrame [0x7E] } }))
    ∧ (∀ (s : State) (c : Byte) (b : Bool), Hearing s → s.lkc.rx = .waitLead → c ≠ 0x7E ∨ b = false →
        exec (.lineBusy c b) s = .next (finish { s with
          lkc := { s.lkc.busy 3 with rx := .waitIdle, rxError := true } }))
    ∧ (∀ (s : State) (c : Byte) (got : List Byte), Hearing s → s.lkc.rx = .inFrame got →
        exec (.lineBusy c false) s = .next (finish { s with
          lkc := { s.lkc.busy 3 with rx := .waitIdle, rxError := true } }))
    ∧ (∀ (s : State) (c : Byte) (got : List Byte), Hearing s → s.lkc.rx = .inFrame got →
        got.length < 4 ∨ ((got ++ [c]).getD 4 0).toNat ≤ 8 ∧ got.length < 5 + ((got ++ [c]).getD 4 0).toNat →
        exec (.lineBusy c true) s = .next (finish { s with
          lkc := { s.lkc.busy 3 with rx := .inFrame (got ++ [c]) } }))
    ∧ (∀ (s : State) (c : Byte) (got : List Byte), Hearing s → s.lkc.rx = .inFrame got → 4 ≤ got.length →
        8 < ((got ++ [c]).getD 4 0).toNat →
        exec (.lineBusy c true) s = .next (finish { s with
          lkc := { s.lkc.busy 3 with rx := .waitIdle, rxError := true } }))
    ∧ (∀ (s : State) (c : Byte) (got : List Byte), Hearing s → s.lkc.rx = .inFrame got → 5 ≤ got.length →
        ((got ++ [c]).getD 4 0).toNat ≤ 8 → got.length = 5 + ((got ++ [c]).getD 4 0).toNat →
        LinkFrame.parse (got ++ [c]) = none →
        exec (.lineBusy c true) s = .next (finish { s with
          lkc := { s.lkc.busy 3 with rx := .waitIdle, rxError := true } }))
    ∧ (∀ (s : State) (c : Byte) (got : List Byte) (f : LinkFrame), Hearing s → s.lkc.rx = .inFrame got →
        5 ≤ got.length → got.length = 5 + f.payload.length → LinkFrame.parse (got ++ [c]) = some f →
        exec (.lineBusy c true) s = .next (finish { takeFrame f s with lkc := (takeFrame f s).lkc.busy 3 }))
    ∧ (∀ s : State, Powered s → s.lkc.enable = true → s.pnp.power ≠ .resetHeld → s.lkc.access ≠ .sending →
        s.lkc.lineIdle = false → exec .lineIdle s = .next { s with
          lkc := { s.lkc with
            lineIdle := true, idleInUs := 0, idleForUs := 0, rx := .waitLead
            rxError := s.lkc.rxError || decide (s.lkc.rx ≠ .waitIdle ∧ s.lkc.rx ≠ .waitLead)
            access := if s.lkc.access = .waitIdle then .waitSlots else s.lkc.access } })
    ∧ (∀ l : Lkc, l.frameTaken = { l with
        lineIdle := false, idleInUs := 2 * l.charUs, idleForUs := 0, rx := .waitIdle
        access := if l.access = .waitSlots then .waitIdle else l.access })
    ∧ (∀ s : State, Hearing s → s.lkc.rx ≠ .waitIdle → exec .badFrame s = .next { s with
        lkc := { s.lkc.frameTaken with rxError := true } })
    ∧ (∀ s : State, Hearing s → s.lkc.rx = .waitIdle → exec .badFrame s = .next { s with lkc := s.lkc.frameTaken })
    ∧ (∀ (s : State) (h : FrameHead), Hearing s → h.src ≤ 14 → LinkDest.ofByte h.dest ≠ none →
        s.lkc.accepts h.dest = false →
        exec (.frameNotAccepted h) s = .next { s with lkc := s.lkc.frameTaken })
    ∧ (∀ (l : Lkc) (n g : Nat), n ≤ 14 → 1 ≤ g → g ≤ 8 →
        (l.accepts (b8 n) = true ↔ n = l.node) ∧ l.accepts 0x80 = true
          ∧ (l.accepts (b8 (0x40 + g)) = true ↔ (l.groups.getLsbD (g - 1) = true ∧ l.node ≠ 15)))
    ∧ (∀ (s : State) (h : FrameHead) (k : Byte) (p : List Byte), Reaches h s → k.toNat = 8 ∨ k.toNat = 9 →
        frameOk h.dest k p = true → s.pnp.power ≠ .standby → s.lkc.rxbuf.length < 4 →
        exec (.linkStateOrDataFrame h k p) s = .next { s with
          lkc := { s.lkc.frameTaken with rxbuf := s.lkc.rxbuf ++ [⟨h.src, h.dest, k, p⟩] } })
    ∧ (∀ (s : State) (h : FrameHead) (k : Byte) (p : List Byte), Reaches h s → k.toNat = 8 ∨ k.toNat = 9 →
        frameOk h.dest k p = true → s.pnp.power ≠ .standby → 4 ≤ s.lkc.rxbuf.length →
        exec (.linkStateOrDataFrame h k p) s = .next { s with
          lkc := { s.lkc.frameTaken with rxOverflow := true } })
    ∧ (∀ (s : State) (h : FrameHead) (k : Byte) (p : List Byte), Reaches h s → k.toNat = 8 ∨ k.toNat = 9 →
        frameOk h.dest k p = true → s.pnp.power = .standby →
        exec (.linkStateOrDataFrame h k p) s = .next { s with lkc := s.lkc.frameTaken })
    ∧ (∀ (s : State) (d k : Byte) (p : List Byte), Hearing s → s.lkc.rx ≠ .waitIdle → s.lkc.node ≤ 14 →
        s.lkc.cfg.level ≤ 15 → s.lkc.accepts d = true → frameOk d k p = true → s.lkc.rxbuf.length < 4 →
        exec (.ownAddressFrame d k p) s = .next { s with
          lkc := { s.lkc.frameTaken with rxbuf := s.lkc.rxbuf ++ [⟨s.lkc.node, d, k, p⟩] } })
    ∧ (∀ (s : State) (d k : Byte) (p : List Byte) (f : LinkFrame), Powered s → s.lkc.enable = true →
        s.pnp.power ≠ .resetHeld → s.lkc.cfg.loopback = true → s.lkc.looped = some f → s.lkc.accepts d = true →
        s.lkc.rxbuf.length < 4 →
        exec (.ownAddressFrame d k p) s = .next { s with
          lkc := { s.lkc with looped := none, rx := .waitIdle,
                              rxbuf := s.lkc.rxbuf ++ [⟨s.lkc.node, d, k, p⟩] } })

/-- The eight request frames and LINK_ASK_FRAME (10 R166, R172, R173, R179; 08 R143, R146), each the frame that the
receiver takes whole, and ignored in WAIT_IDLE; the WAKE frame's return to RUN starts the pending change that nothing
bars (03 R59, R67). That a row brings its frame whole to a receiver in WAIT_LEAD or IN_FRAME is the model's choice (log
23). -/
def Obligations.LinkFramesBecomeRequests : Prop :=
  (∀ (s : State) (h : FrameHead) (k : ChangeKind) (a f : Byte), Reaches h s → s.pnp.power ≠ .standby →
      exec (.linkChangeFrame h (b8 k.code) a f) s
        = .next (finish (changeRequest .link k (if k = .home then 0 else a.toNat) f
            { s with lkc := s.lkc.frameTaken }).1))
    ∧ (∀ (s : State) (h : FrameHead) (a f : Byte), Reaches h s → s.pnp.power = .run →
        classOk .link .transport s = true → s.sar.sources.link.route = .here → a.toNat ≤ 99 →
        f.toNat ≤ 99 → s.tru.present = true → s.tru.position ≠ none → s.csq.orphaned = false →
        (s.tru.slot a.toNat).retired = false → s.sar.sources.link.base ≤ a.toNat →
        a.toNat ≤ s.sar.sources.link.limit → s.csq.state = .idle → s.sar.holder = none → s.sar.waiting = none →
        ∃ t, exec (.linkChangeFrame h 3 a f) s = .next t ∧ t.lkc = s.lkc.frameTaken ∧ t.csq.state.active = true
          ∧ t.csq.flight.map (fun x => (x.kind, x.owner, x.target, x.fade))
            = some (.seek, .link, a.toNat, f.toNat) ∧ t.tru = s.tru)
    ∧ (∀ (s : State) (h : FrameHead) (k a f : Byte), Reaches h s → 1 ≤ k.toNat → k.toNat ≤ 4 →
        s.pnp.power ≠ .standby → classOk .link .transport s = false →
        ∃ t, exec (.linkChangeFrame h k a f) s = .next t ∧ t.csq = s.csq ∧ t.lkc = s.lkc.frameTaken
          ∧ t.sar.last.link = { s.sar.last.link with refusals := min 255 (s.sar.last.link.refusals + 1) })
    ∧ (∀ (s : State) (h : FrameHead) (l f : Byte), Reaches h s → s.pnp.power ≠ .standby →
        classOk .link .lamp s = true → f.toNat ≤ 99 ∨ f = 0xFF → s.lmc.lamp ≠ .lit → 200 < l.toNat →
        exec (.linkLevelFrame h l f) s = .next (finish { s with
          lkc := s.lkc.frameTaken, lmc := { s.lmc with showLevel := l.toNat }
          pnp := { s.pnp with idleElapsed := 0, idleMs := 0 } }))
    ∧ (∀ (s : State) (h : FrameHead), Reaches h s → s.pnp.power = .run → classOk .link .lamp s = true →
        s.lmc.lamp = .off → s.lmc.trip = false → s.lmc.temp.getD 60 < 60 → s.lmc.dim = false →
        ∃ t, exec (.linkLampFrame h 1) s = .next t ∧ t.lmc.lamp = .preheat ∧ t.lkc = s.lkc.frameTaken
          ∧ t.csq = s.csq ∧ t.shc = s.shc)
    ∧ (∀ (s : State) (h : FrameHead), Reaches h s → s.pnp.power ≠ .standby → classOk .link .lamp s = true →
        s.lmc.lamp = .preheat ∨ s.lmc.lamp = .lit →
        ∃ t, exec (.linkLampFrame h 0) s = .next t ∧ t.lmc.lamp = .cooling ∧ t.lkc = s.lkc.frameTaken
          ∧ t.shc = s.shc ∧ t.tru = s.tru)
    ∧ (∀ (s : State) (h : FrameHead), Reaches h s → s.pnp.power ≠ .standby → classOk .link .shows s = true →
        s.shc.phase = .running ∨ s.shc.phase = .ending →
        ∃ t, exec (.linkHoldFrame h) s = .next t ∧ t.lkc = s.lkc.frameTaken
          ∧ t.shc = { s.shc with phase := .held, ended := decide (s.shc.phase = .ending),
                                 causes := { s.shc.causes with link := true } }
          ∧ t.pnp.pend.showChg = true ∧ t.crn = s.crn ∧ t.csq = s.csq)
    ∧ (∀ (s : State) (h : FrameHead), Reaches h s → s.pnp.power ≠ .standby → classOk .link .shows s = true →
        s.shc.phase ≠ .held →
        exec (.linkResumeFrame h) s = .next (finish { s with
          lkc := s.lkc.frameTaken
          shc := { s.shc with causes := { s.shc.causes with operator := false, cueHold := false, link := false } }
          pnp := { s.pnp with idleElapsed := 0, idleMs := 0 } }))
    ∧ (∀ (s : State) (h : FrameHead), Reaches h s → s.pnp.power ≠ .standby → classOk .link .shows s = true →
        s.shc.phase = .stopped ∨ s.shc.phase = .held →
        exec (.linkHoldFrame h) s = .next (finish { s with
          lkc := s.lkc.frameTaken
          shc := { s.shc with causes := { s.shc.causes with link := true } }
          pnp := { s.pnp with idleElapsed := 0, idleMs := 0 } }))
    ∧ (∀ (s : State) (h : FrameHead), Reaches h s → s.pnp.power ≠ .standby → classOk .link .shows s = true →
        s.shc.phase = .held → s.shc.causes.transport = true ∨ s.shc.causes.lamp = true ∨ s.shc.causes.deck = true →
        exec (.linkResumeFrame h) s = .next (finish { s with
          lkc := s.lkc.frameTaken
          shc := { s.shc with causes := { s.shc.causes with operator := false, cueHold := false, link := false } }
          pnp := { s.pnp with idleElapsed := 0, idleMs := 0 } }))
    ∧ (∀ (s : State) (h : FrameHead), Reaches h s → s.pnp.power ≠ .standby → classOk .link .shows s = true →
        s.shc.phase = .held → s.shc.causes.transport = false → s.shc.causes.lamp = false →
        s.shc.causes.deck = false → s.shc.ended = false → s.dkc.deck = .paused → s.pins.tapeEnd = false →
        s.pins.running = false →
        exec (.linkResumeFrame h) s = .next (finish { s with
          lkc := s.lkc.frameTaken
          shc := { s.shc with phase := .running, causes := Causes.empty }
          dkc := { s.dkc with deck := .starting, timerMs := 0, stall := none, stopPulse := none }
          pnp := { s.pnp with idleElapsed := 0, idleMs := 0, pend := { s.pnp.pend with showChg := true } } }))
    ∧ (∀ (s : State) (h : FrameHead), Reaches h s → s.pnp.power ≠ .standby → classOk .link .shows s = true →
        s.shc.phase = .held → s.shc.causes.transport = false → s.shc.causes.lamp = false →
        s.shc.causes.deck = false → s.shc.ended = true → s.dkc.deck ≠ .paused → s.dkc.deck ≠ .pausing →
        s.crn.queue ≠ [] →
        exec (.linkResumeFrame h) s = .next (finish { s with
          lkc := s.lkc.frameTaken
          shc := { s.shc with phase := .ending, causes := Causes.empty, ended := false }
          pnp := { s.pnp with idleElapsed := 0, idleMs := 0, pend := { s.pnp.pend with showChg := true } } }))
    ∧ (∀ (s : State) (h : FrameHead) (n : Byte), Reaches h s → s.pnp.power ≠ .standby →
        classOk .link .shows s = true → 1 ≤ n.toNat → n.toNat ≤ 254 → s.shc.phase ≠ .stopped →
        s.crn.queue.length < 8 →
        exec (.linkStepFrame h n) s = .next (finish { s with
          lkc := s.lkc.frameTaken
          crn := { s.crn with queue := s.crn.queue ++ [⟨.link, .step n.toNat, s.dkc.clock⟩] }
          pnp := { s.pnp with idleElapsed := 0, idleMs := 0 } }))
    ∧ (∀ (s : State) (h : FrameHead) (n : Byte), Reaches h s → s.pnp.power ≠ .standby →
        classOk .link .shows s = true → 1 ≤ n.toNat → n.toNat ≤ 254 → s.shc.phase ≠ .stopped →
        8 ≤ s.crn.queue.length →
        ∃ t, exec (.linkStepFrame h n) s = .next t ∧ t.crn = { s.crn with cueLost := true }
          ∧ t.sar.last.link.refusals = min 255 (s.sar.last.link.refusals + 1))
    ∧ (∀ (s : State) (h : FrameHead), Reaches h s → s.pnp.power = .run → classOk .link .power s = true →
        s.shc.phase = .stopped → s.lmc.lamp = .off ∨ s.lmc.lamp = .cooling ∨ s.lmc.lamp = .fault →
        s.lmc.owed = false → s.lmc.claim ≠ .fade →
        ∃ t, exec (.linkStandbyFrame h) s = .next t ∧ t.pnp.power = .standbyPending ∧ t.lkc = s.lkc.frameTaken
          ∧ t.lmc.restrike = false ∧ t.lmc.deferred = false ∧ t.csq = s.csq ∧ t.dkc = s.dkc)
    ∧ (∀ (s : State) (h : FrameHead), Reaches h s → s.pnp.power = .standby ∨ s.pnp.power = .standbyPending →
        ∃ t, exec (.linkWakeFrame h) s = .next t ∧ t.pnp.power = .run ∧ t.pnp.event = .woken
          ∧ t.pnp.pend.power = true ∧ t.lkc = s.lkc.frameTaken
          ∧ (NoneDue s → t.csq = s.csq ∧ t.sar = s.sar)
          ∧ (∀ w q, s.sar.waiting = some w → DueAtRun s w → startCheck w s = .ok q → StartedPending w q s t))
    ∧ (∀ (s : State) (h : FrameHead), Reaches h s → s.lkc.node ≤ 14 → s.lkc.txq.length < 4 →
        ∃ t, exec (.linkAskFrame h) s = .next t ∧ t = { s with lkc := t.lkc } ∧ t.lkc.rxbuf = s.lkc.rxbuf
          ∧ t.lkc.txq = s.lkc.txq ++ [⟨s.lkc.cfg.level, s.lkc.node, b8 h.src, 8,
              [optByte 0xFF s.tru.position,
               match s.csq.gate with
                 | .empty => 0
                 | .seated => 1
                 | .partway => 2,
               match s.lmc.lamp with
                 | .off => 0
                 | .preheat => 1
                 | .lit => 2
                 | .cooling => 3
                 | .fault => 4,
               match s.shc.phase with
                 | .stopped => 0
                 | .running => 1
                 | .held => 2
                 | .ending => 3,
               b8 s.crn.current]⟩])
    ∧ (∀ (s : State) (h : FrameHead), Reaches h s → s.lkc.node = 15 ∨ 4 ≤ s.lkc.txq.length →
        exec (.linkAskFrame h) s = .next { s with lkc := { s.lkc.frameTaken with replyLost := true } })
    ∧ (∀ (s : State) (h : FrameHead) (a b c : Byte), Reaches h s → s.pnp.power = .standby →
        1 ≤ a.toNat → a.toNat ≤ 4 →
        exec (.linkChangeFrame h a b c) s = .next (finish { s with lkc := s.lkc.frameTaken })
          ∧ exec (.linkLevelFrame h b c) s = .next (finish { s with lkc := s.lkc.frameTaken })
          ∧ exec (.linkLampFrame h 1) s = .next (finish { s with lkc := s.lkc.frameTaken })
          ∧ exec (.linkHoldFrame h) s = .next (finish { s with lkc := s.lkc.frameTaken })
          ∧ exec (.linkResumeFrame h) s = .next (finish { s with lkc := s.lkc.frameTaken })
          ∧ exec (.linkStepFrame h 5) s = .next (finish { s with lkc := s.lkc.frameTaken })
          ∧ exec (.linkStandbyFrame h) s = .next (finish { s with lkc := s.lkc.frameTaken }))
    ∧ (∀ (s : State) (h : FrameHead) (k a f : Byte), Hearing s → s.lkc.rx = .waitIdle →
        exec (.linkChangeFrame h k a f) s = .next (finish { s with lkc := s.lkc.frameTaken })
          ∧ exec (.linkLevelFrame h a f) s = .next (finish { s with lkc := s.lkc.frameTaken })
          ∧ exec (.linkLampFrame h k) s = .next (finish { s with lkc := s.lkc.frameTaken })
          ∧ exec (.linkHoldFrame h) s = .next (finish { s with lkc := s.lkc.frameTaken })
          ∧ exec (.linkResumeFrame h) s = .next (finish { s with lkc := s.lkc.frameTaken })
          ∧ exec (.linkStepFrame h k) s = .next (finish { s with lkc := s.lkc.frameTaken })
          ∧ exec (.linkStandbyFrame h) s = .next (finish { s with lkc := s.lkc.frameTaken })
          ∧ exec (.linkWakeFrame h) s = .next (finish { s with lkc := s.lkc.frameTaken })
          ∧ exec (.linkAskFrame h) s = .next { s with lkc := s.lkc.frameTaken })
    ∧ (∀ (s : State) (h : FrameHead) (k a f : Byte), Powered s →
        exec (.linkChangeFrame h k a f) s = .next (finish (takeFrame ⟨h.level, h.src, h.dest, 1, [k, a, f]⟩ s))
          ∧ exec (.linkLevelFrame h a f) s = .next (finish (takeFrame ⟨h.level, h.src, h.dest, 2, [a, f]⟩ s))
          ∧ exec (.linkLampFrame h k) s = .next (finish (takeFrame ⟨h.level, h.src, h.dest, 3, [k]⟩ s))
          ∧ exec (.linkHoldFrame h) s = .next (finish (takeFrame ⟨h.level, h.src, h.dest, 4, []⟩ s))
          ∧ exec (.linkResumeFrame h) s = .next (finish (takeFrame ⟨h.level, h.src, h.dest, 5, []⟩ s))
          ∧ exec (.linkStepFrame h k) s = .next (finish (takeFrame ⟨h.level, h.src, h.dest, 6, [k]⟩ s))
          ∧ exec (.linkAskFrame h) s = .next (takeFrame ⟨h.level, h.src, h.dest, 7, []⟩ s)
          ∧ exec (.linkStandbyFrame h) s = .next (finish (takeFrame ⟨h.level, h.src, h.dest, 10, []⟩ s))
          ∧ exec (.linkWakeFrame h) s = .next (finish (takeFrame ⟨h.level, h.src, h.dest, 11, []⟩ s)))
    ∧ (∀ (s : State) (h : FrameHead) (k : Byte) (p : List Byte), Powered s → k.toNat = 8 ∨ k.toNat = 9 →
        exec (.linkStateOrDataFrame h k p) s = .next (takeFrame ⟨h.level, h.src, h.dest, k, p⟩ s))

/-- SEND_LINK, FRAME_SEND_START, FRAME_SENT, COLLISION, SET_NODE, SET_GROUPS, ENABLE_LINK, SET_LINK and READ_LINK (10
R167 to R171, R175, R176, R177). By the model's choice FRAME_SENT and COLLISION have no effect outside SENDING (log 3),
a frame sent in loopback is kept until it is heard (log 24), and two refusals of SET_NODE or SET_LINK stand in the
order given (log 14). Bytes 10 to 12 of READ_LINK with an empty buffer are 00h (log 48) and the line watch of a
disabled link is BUSY (log 49), by its choice too. -/
def Obligations.FramesAreSentAndLinkSettings : Prop :=
  (∀ (s : State) (d k n : Byte) (p : List Byte), Awake s →
      n.toNat = p.length → frameOk d k p = true → s.lkc.enable = true → s.lkc.node ≠ 15 → s.lkc.txq.length < 4 →
      exec (.sendLink d k n p) s = .next (answered .ok [] { s with
        lkc := { s.lkc with
          txq := s.lkc.txq ++ [⟨s.lkc.cfg.level, s.lkc.node, d, k, p⟩]
          access := if s.lkc.access = .none then (if s.lkc.lineIdle then .waitSlots else .waitIdle)
            else s.lkc.access } }))
    ∧ (∀ (s : State) (d k n : Byte) (p : List Byte), Awake s → n.toNat ≠ p.length ∨ frameOk d k p = false →
        exec (.sendLink d k n p) s = .next (answered .badArg [] s))
    ∧ (∀ (s : State) (d k n : Byte) (p : List Byte), Awake s → n.toNat = p.length → frameOk d k p = true →
        s.lkc.enable = false ∨ s.lkc.node = 15 → exec (.sendLink d k n p) s = .next (answered .disabled [] s))
    ∧ (∀ (s : State) (d k n : Byte) (p : List Byte), Awake s → n.toNat = p.length → frameOk d k p = true →
        s.lkc.enable = true → s.lkc.node ≠ 15 → 4 ≤ s.lkc.txq.length →
        exec (.sendLink d k n p) s = .next (answered .busy [] s))
    ∧ (∀ (s : State) (f : LinkFrame), Powered s → s.lkc.enable = true → s.pnp.power ≠ .resetHeld →
        s.lkc.access = .waitSlots → s.lkc.lineIdle = true → s.lkc.txq.head? = some f →
        ∃ t, exec .frameSendStart s = .next t ∧ t = { s with lkc := t.lkc } ∧ t.lkc.access = .sending
          ∧ t.lkc.txq = { f with src := s.lkc.node } :: s.lkc.txq.drop 1 ∧ t.lkc.rx = .waitIdle
          ∧ t.lkc.lineIdle = false ∧ t.lkc.retry = s.lkc.retry ∧ t.outputs.lde = !s.lkc.cfg.loopback)
    ∧ (∀ s : State, Powered s → s.lkc.access = .sending → s.lkc.txq.length ≤ 1 →
        exec .frameSent s = .next { s with
          lkc := { s.lkc with
            txq := [], retry := 0, sendUs := 0, access := .none, lineIdle := false, idleForUs := 0, rx := .waitIdle
            idleInUs := 2 * s.lkc.charUs
            looped := if s.lkc.cfg.loopback then s.lkc.txq.head? else s.lkc.looped } })
    ∧ (∀ s : State, Powered s → s.lkc.access = .sending → 1 < s.lkc.txq.length →
        exec .frameSent s = .next { s with
          lkc := { s.lkc with
            txq := s.lkc.txq.drop 1, retry := 0, sendUs := 0, access := .waitIdle, lineIdle := false
            idleForUs := 0, rx := .waitIdle, idleInUs := 2 * s.lkc.charUs
            looped := if s.lkc.cfg.loopback then s.lkc.txq.head? else s.lkc.looped } })
    ∧ (∀ s : State, Powered s → s.lkc.access = .sending → s.lkc.cfg.loopback = false →
        s.lkc.retry < s.lkc.cfg.retryLimit →
        exec .collision s = .next { s with
          lkc := { s.lkc with retry := s.lkc.retry + 1, access := .waitIdle, rx := .waitIdle, sendUs := 0,
                              lineIdle := false, idleForUs := 0, idleInUs := 2 * s.lkc.charUs } })
    ∧ (∀ s : State, Powered s → s.lkc.access = .sending → s.lkc.cfg.loopback = false →
        s.lkc.cfg.retryLimit ≤ s.lkc.retry →
        exec .collision s = .next { s with
          lkc := { s.lkc with
            txq := s.lkc.txq.drop 1, retry := 0, giveup := true, rx := .waitIdle, sendUs := 0, lineIdle := false
            idleForUs := 0, idleInUs := 2 * s.lkc.charUs
            access := if s.lkc.txq.length ≤ 1 then .none else .waitIdle } })
    ∧ (∀ s : State, Powered s → s.lkc.access ≠ .sending →
        exec .frameSent s = .next s ∧ exec .collision s = .next s)
    ∧ (∀ (s : State) (a : Byte), Awake s → a.toNat ≤ 14 → s.lkc.lock = false →
      exec (.setNode a) s = .next (answered .ok [] { s with lkc := { s.lkc with node := a.toNat, lock := true } }))
    ∧ (∀ (s : State) (a : Byte), Awake s → a.toNat ≤ 14 → s.lkc.lock = true →
        exec (.setNode a) s = .next (answered .locked [] s))
    ∧ (∀ (s : State) (a : Byte), Awake s → 14 < a.toNat →
        exec (.setNode a) s = .next (answered .badArg [] s))
    ∧ (∀ (s : State) (g : Byte), Awake s →
        exec (.setGroups g) s = .next (answered .ok [] { s with lkc := { s.lkc with groups := g } }))
    ∧ (∀ (s : State) (a : Byte) (v : Bool), Awake s → onOff a = some v → v = s.lkc.enable →
        exec (.enableLink a) s = .next (finish (answered .ok [] s)))
    ∧ (∀ (s : State) (a : Byte), Awake s → a.toNat = 1 → s.lkc.enable = false →
        exec (.enableLink a) s = .next (finish (answered .ok [] { s with
          lkc := { s.lkc with enable := true, lineIdle := false, rx := .waitIdle, idleInUs := 2 * s.lkc.charUs,
                              idleForUs := 0 } })))
    ∧ (∀ (s : State) (a : Byte), Awake s → a.toNat = 0 → s.lkc.enable = true →
        exec (.enableLink a) s = .next (finish (answered .ok [] { s with
          lkc := { s.lkc with enable := false, lineIdle := false, rx := .waitIdle, idleInUs := 0, idleForUs := 0,
                              txq := [], retry := 0, access := .none, sendUs := 0, looped := none } })))
    ∧ (∀ (s : State) (a : Byte), Awake s → 1 < a.toNat →
        exec (.enableLink a) s = .next (finish (answered .badArg [] s)))
    ∧ (∀ (s : State) (r l n b : Byte), Awake s → s.lkc.enable = true →
        exec (.setLink r l n b) s = .next (answered .busy [] s))
    ∧ (∀ (s : State) (r l n b : Byte) (v : Bool), Awake s → s.lkc.enable = false → r.toNat ≤ 3 → l.toNat ≤ 15 →
        n.toNat = 1 ∨ n.toNat = 3 ∨ n.toNat = 7 ∨ n.toNat = 15 → onOff b = some v →
        exec (.setLink r l n b) s = .next (answered .ok [] { s with
          lkc := { s.lkc with cfg := ⟨r.toNat, l.toNat, n.toNat, v⟩ } }))
    ∧ (∀ (s : State) (r l n b : Byte), Awake s → s.lkc.enable = false →
        3 < r.toNat ∨ 15 < l.toNat ∨ (n.toNat ≠ 1 ∧ n.toNat ≠ 3 ∧ n.toNat ≠ 7 ∧ n.toNat ≠ 15) ∨ 1 < b.toNat →
        exec (.setLink r l n b) s = .next (answered .badArg [] s))
    ∧ (∀ s : State, Awake s → exec .readLink s = .next (answered .ok (linkPayload s.lkc) { s with
        lkc := { s.lkc with rxbuf := s.lkc.rxbuf.drop 1, giveup := false, overflow := false, rxOverflow := false,
                            rxError := false, replyLost := false } }))
    ∧ (∀ l : Lkc, (linkPayload l).take 6 = [b8 l.node,
        b8 (bit l.lock 0 + bit l.enable 1 + bit l.cfg.loopback 2 + bit l.lineIdle 3), l.groups, b8 l.cfg.rate,
        b8 (16 * l.cfg.level + l.cfg.retryLimit),
        b8 (bit l.giveup 0 + bit l.overflow 1 + bit l.rxOverflow 2 + bit l.rxError 3 + bit l.replyLost 4)]
      ∧ ((linkPayload l).drop 6).take 2 = [b8 (l.txq.length + 16 * (match l.access with
            | .none => 0
            | .waitIdle => 1
            | .waitSlots => 2
            | .sending => 3)), b8 l.retry]
      ∧ (∀ e, l.rxbuf.head? = some e →
          (linkPayload l).drop 8 = [b8 l.rxbuf.length, b8 e.src, e.dest, e.kind, b8 e.payload.length] ++ e.payload)
      ∧ (l.rxbuf = [] → (linkPayload l).drop 8 = [0, 0xFF, 0, 0, 0]))

/-! ## Panel port, attention and power (11) -/

/-- PANEL_READ, UNKNOWN_COMMAND and READ_ID (11 R180, R181, R191). That UNKNOWN_COMMAND carries its frame and answers by
the first check that fails is the model's deduction (log 36); what PSDO and the read position keep is its choice (log
28). -/
def Obligations.ThePanelPortAnswers : Prop :=
  (∀ (s : State) (n : Nat), Powered s → s.pnp.resp = none → exec (.panelRead n) s = .next { s with
      psdo := [0xFF, (0 : Byte)].take n })
    ∧ (∀ (s : State) (n : Nat) (r : Response), Powered s → s.pnp.resp = some r → r.payload.length + 2 ≤ n →
        exec (.panelRead n) s = .next { s with
          psdo := b8 r.status.code :: b8 r.payload.length :: r.payload
          pnp := { s.pnp with resp := none, readPos := 0 } })
    ∧ (∀ (s : State) (n : Nat) (r : Response), Powered s → s.pnp.resp = some r → n < r.payload.length + 2 →
        exec (.panelRead n) s = .next { s with
          psdo := (b8 r.status.code :: b8 r.payload.length :: r.payload).take n
          pnp := { s.pnp with readPos := n } })
    ∧ (∀ (s : State) (c : Byte) (bs : List Byte), Powered s → c ≠ 0 → codeKnown c = false →
        exec (.unknownCommand (c :: bs)) s = .next (turnedAway .unknownCommand s))
    ∧ (∀ (s : State) (c : Byte) (bs : List Byte), Awake s → c ≠ 0 → codeKnown c = true →
        frameBody (c :: bs) = none → exec (.unknownCommand (c :: bs)) s = .next (turnedAway .badArg s))
    ∧ (∀ (s : State) (c : Byte) (bs : List Byte), Powered s → s.pnp.power = .standby → codeKnown c = true →
        c ∉ [0x01, 0x02, 0x03, 0x08, 0x09, 0x30] → c ≠ 0 →
        exec (.unknownCommand (c :: bs)) s = .next (turnedAway .standby s))
    ∧ (∀ (s : State) (c : Byte) (bs : List Byte), Powered s → s.pnp.power = .resetHeld → codeKnown c = true →
        c ∉ [0x01, 0x02, 0x0A] → c ≠ 0 →
        exec (.unknownCommand (c :: bs)) s = .next (turnedAway .resetHeld s))
    ∧ (∀ s : State, Powered s → exec .readId s = .next (answered .ok [0x2C, 0x60, 0x24, 0x01] s))
    ∧ (∀ s : State, Powered s → (s.outputs.rdy = true ↔ s.pnp.resp ≠ none))

/-- READ_STATUS, READ_ATTENTION, READ_FAULTS, SET_ATTENTION and SET_POWER, with ATTN (11 R183, R184, R189, R191). That
READ_STATUS gives the idle timer's elapsed time before it becomes 0 is the model's deduction (log 15). The codes of
READ_STATUS are those of 11 Tables 11.8 and 11.9. -/
def Obligations.AttentionIsRankedAndMasked : Prop :=
  (∀ s : State, Powered s → (s.outputs.attn = true ↔
      (s.pendingSet &&& s.pnp.cfg.enable ≠ 0 ∧ s.pnp.cfg.off = false)))
    ∧ (∀ s : State, (s.pendingSet.getLsbD 0 = s.pnp.pend.fault) ∧ (s.pendingSet.getLsbD 1 = s.pnp.pend.jam)
        ∧ (s.pendingSet.getLsbD 2 = s.pnp.pend.showChg)
        ∧ (s.pendingSet.getLsbD 3 = (s.cdc.flags.parity || s.cdc.flags.framing || s.cdc.flags.value
            || s.cdc.flags.overrun || s.crn.stepEmpty || s.crn.stepFault || s.crn.cueLost))
        ∧ (s.pendingSet.getLsbD 4 = s.pnp.pend.change)
        ∧ (s.pendingSet.getLsbD 5 = (decide (s.lkc.rxbuf ≠ []) || s.lkc.giveup || s.lkc.overflow || s.lkc.rxOverflow))
        ∧ (s.pendingSet.getLsbD 6 = (s.rmi.unread || (s.rmi.cfg.changeEnable
            && (s.rmi.fwd.pressedChg || s.rmi.fwd.releasedChg || s.rmi.rev.pressedChg || s.rmi.rev.releasedChg
              || s.rmi.fin.pressedChg || s.rmi.fin.releasedChg || s.rmi.fout.pressedChg
              || s.rmi.fout.releasedChg))))
        ∧ (s.pendingSet.getLsbD 7 = s.pnp.pend.power))
    ∧ (∀ s : State, (s.topCause = 0 ↔ s.pendingSet &&& s.pnp.cfg.enable = 0)
        ∧ (s.topCause ≠ 0 → (s.pendingSet &&& s.pnp.cfg.enable).getLsbD (s.topCause - 1) = true
          ∧ ∀ i < s.topCause - 1, (s.pendingSet &&& s.pnp.cfg.enable).getLsbD i = false))
    ∧ (∀ s : State, Powered s → s.pnp.power ≠ .resetHeld → exec .readAttention s = .next (answered .ok
        [b8 s.topCause, s.pendingSet, s.pnp.cfg.enable, if s.pnp.cfg.off then 1 else 0] s))
    ∧ (∀ s : State, Powered s → exec .readStatus s = .next (answered .ok
        [match s.pnp.power with
           | .run => 0
           | .standbyPending => 1
           | .standby => 2
           | .resetHeld => 3,
         match s.pnp.event with
           | .none => 0
           | .standbyEntered => 1
           | .woken => 2
           | .resetDone => 3
           | .storeDone => 4
           | .storeFailed => 5
           | .loadDone => 6
           | .loadFailed => 7
           | .loadAbandoned => 8,
         b8 (bit s.pnp.defaulted 0 + bit s.pnp.memPresent 1 + bit s.pnp.store.isSome 2 + bit s.pnp.load 3
           + bit s.pnp.hoursWaiting.isSome 4 + bit (s.pnp.faults ≠ Faults.clear) 5 + bit s.tru.present 6),
         b8 s.pnp.idleSetting, b8 s.pnp.idleElapsed, b8 (s.pnp.idleElapsed / 256), b8 s.topCause]
        { s with pnp := { s.pnp with pend := { s.pnp.pend with power := false } } }))
    ∧ (∀ s : State, Awake s → exec .readFaults s = .next (answered .ok
        [b8 (bit s.pnp.faults.lampOpen 0 + bit s.pnp.faults.overtempTrip 1 + bit s.pnp.faults.fanStall 2
           + bit s.pnp.faults.trayStall 3 + bit s.pnp.faults.traySlip 4 + bit s.pnp.faults.shutter 5
           + bit s.pnp.faults.deckNoStart 6 + bit s.pnp.faults.deckStall 7),
         b8 (bit s.pnp.faults.deckNoPause 0 + bit s.pnp.faults.settings 1)]
        { s with pnp := { s.pnp with faults := Faults.clear, pend := { s.pnp.pend with fault := false } } }))
    ∧ (∀ (s : State) (e d : Byte) (v : Bool), Awake s → onOff d = some v →
        exec (.setAttention e d) s = .next (answered .ok [] { s with pnp := { s.pnp with cfg := ⟨e, v⟩ } }))
    ∧ (∀ (s : State) (e d : Byte), Awake s → 1 < d.toNat →
        exec (.setAttention e d) s = .next (answered .badArg [] s))
    ∧ (∀ (s : State) (m : Byte), Awake s → m.toNat ≤ 240 →
        exec (.setPower m) s = .next (finish (answered .ok [] { s with
          pnp := { s.pnp with idleSetting := m.toNat } })))
    ∧ (∀ (s : State) (m : Byte), Awake s → 240 < m.toNat →
        exec (.setPower m) s = .next (finish (answered .badArg [] s)))

/-- STANDBY, STANDBY_ENTRY, WAKE and IDLE_TIMER_EXPIRY (11 R188, R189); the return to RUN starts the pending change that
nothing bars, or ends it REFUSED_AT_START (03 R59, R67). That STANDBY_ENTRY and IDLE_TIMER_EXPIRY
have no effect where a condition fails is the model's choice (log 3). -/
def Obligations.StandbyAndWake : Prop :=
  (∀ s : State, Awake s → classOk .panel .power s = false →
      exec .standby s = .next (finish (answered .disabled [] s)))
    ∧ (∀ s : State, Awake s → classOk .panel .power s = true → s.pnp.power = .run → s.shc.phase ≠ .stopped →
        exec .standby s = .next (finish (answered .showActive [] s)))
    ∧ (∀ s : State, Awake s → classOk .panel .power s = true → s.pnp.power = .standbyPending →
        exec .standby s = .next (finish (answered .ok [] s)))
    ∧ (∀ s : State, Awake s → classOk .panel .power s = true → s.pnp.power = .run → s.shc.phase = .stopped →
        ∃ t, exec .standby s = .next t ∧ t.pnp.resp = some ⟨.ok, []⟩ ∧ t.pnp.power = .standbyPending
          ∧ t.lmc.restrike = false ∧ t.lmc.deferred = false ∧ t.lmc.output = 0
          ∧ (s.lmc.lamp = .preheat ∨ s.lmc.lamp = .lit → t.lmc.lamp = .cooling
            ∧ t.lmc.coolLeft = s.lmc.cfg.minCool)
          ∧ (s.lmc.lamp ≠ .preheat → s.lmc.lamp ≠ .lit → t.lmc.lamp = s.lmc.lamp)
          ∧ t.shc = s.shc ∧ t.dkc = s.dkc ∧ t.tru = s.tru ∧ t.mem = s.mem ∧ t.rmi = s.rmi ∧ t.lkc = s.lkc)
    ∧ (∀ s : State, Powered s → s.pnp.power = .standbyPending → s.csq.state = .idle → s.lmc.lamp = .off →
        s.lkc.txq = [] →
        ∃ t, exec .standbyEntry s = .next t ∧ t.pnp.power = .standby ∧ t.pnp.event = .standbyEntered
          ∧ t.pnp.pend.power = true ∧ t.dkc.deck = .stopped ∧ t.dkc.stopPulse = some (s.dkc.stopPulse.getD 0)
          ∧ t.lmc.fan = .off ∧ t.outputs.mute = true ∧ t.rmi.focus = .stopped ∧ t.rmi.digit = none
          ∧ PressesSpent t.rmi ∧ t.cdc.tone = .none ∧ t.cdc.word = .idle ∧ t.cdc.pulse = .none
          ∧ t.sar = s.sar ∧ t.tru = s.tru ∧ t.csq = s.csq ∧ t.lkc = s.lkc ∧ t.mem = s.mem)
    ∧ (∀ s : State, Powered s → s.pnp.power ≠ .standbyPending ∨ s.csq.state ≠ .idle ∨ s.lmc.lamp ≠ .off
          ∨ s.lkc.txq ≠ [] → exec .standbyEntry s = .next (finish s))
    ∧ (∀ s : State, Powered s → s.pnp.power = .run → exec .wake s = .next (finish (answered .ok [] s)))
    ∧ (∀ s : State, Powered s → s.pnp.power = .standbyPending → NoneDue s →
        exec .wake s = .next (finish (answered .ok [] { s with
          pnp := { s.pnp with power := .run, event := .woken, pend := { s.pnp.pend with power := true } } })))
    ∧ (∀ s : State, Powered s → s.pnp.power = .standby →
        ∃ t, exec .wake s = .next t ∧ t.pnp.resp = some ⟨.ok, []⟩ ∧ t.pnp.power = .run ∧ t.pnp.event = .woken
          ∧ t.pnp.pend.power = true ∧ t.cdc.waitQuiet = true ∧ t.cdc.cfg = s.cdc.cfg
          ∧ t.tru = s.tru ∧ t.rmi = s.rmi ∧ t.lkc = s.lkc ∧ t.mem = s.mem
          ∧ (NoneDue s → t.pnp.pend = { s.pnp.pend with power := true } ∧ t.sar = s.sar ∧ t.csq = s.csq
              ∧ t.shc = s.shc ∧ t.dkc = s.dkc ∧ t.crn = s.crn))
    ∧ (∀ (s : State) (w : Waiting) (q : Nat), Powered s → s.pnp.power = .standby ∨ s.pnp.power = .standbyPending →
        s.sar.waiting = some w → DueAtRun s w → startCheck w s = .ok q →
        ∃ t, exec .wake s = .next t ∧ t.pnp.resp = some ⟨.ok, []⟩ ∧ t.pnp.power = .run ∧ t.pnp.event = .woken
          ∧ StartedPending w q s t ∧ t.tru = s.tru ∧ t.sar.last = s.sar.last)
    ∧ (∀ (s : State) (w : Waiting) (st : Status), Powered s → s.pnp.power = .standby ∨ s.pnp.power = .standbyPending →
        s.sar.waiting = some w → DueAtRun s w → s.csq.flight = none → startCheck w s = .error st →
        ∃ t, exec .wake s = .next t ∧ t.pnp.resp = some ⟨.ok, []⟩ ∧ t.pnp.power = .run ∧ t.pnp.event = .woken
          ∧ RefusedPending w s t ∧ t.sar.holder = s.sar.holder ∧ t.csq = s.csq ∧ t.tru = s.tru)
    ∧ (∀ s : State, Powered s → s.pnp.power = .run → s.pnp.idleSetting ≠ 0 → s.lmc.lamp = .off →
        s.shc.phase = .stopped → s.csq.state = .idle →
        ∃ t, exec .idleTimerExpiry s = .next t ∧ t.pnp.power = .standbyPending ∧ t.pnp.idleElapsed = 0
          ∧ t.lmc.restrike = false ∧ t.lmc.deferred = false ∧ t.sar = s.sar ∧ t.shc = s.shc ∧ t.tru = s.tru)
    ∧ (∀ s : State, Powered s → s.pnp.power ≠ .run ∨ s.pnp.idleSetting = 0 ∨ s.lmc.lamp ≠ .off
          ∨ s.shc.phase ≠ .stopped ∨ s.csq.state ≠ .idle →
        exec .idleTimerExpiry s = .next (finish s))

/-- RESET_CONTROL, RESET_HOLD, RELEASE and POWER_ON_RESET (11 R190, R191 with 01 1.6, R43, R68, R91, R92, R105, R119,
R137, R149, R163, R178; 04 R87): what a reset keeps, what it clears and where the settings come from. The memory's
answer as an operand is the model's choice (log 7), and so is that a line stands released until its first reading (log
12); values at reset that the spec does not give are the model's (logs 8, 20, 22, 24, 27, 28, 35, 37). -/
def Obligations.ResetsRestoreTheBlocks : Prop :=
  (∀ (s : State) (k : Bool), Powered s → s.pnp.power ≠ .resetHeld →
      ∃ t, exec (.resetControl k) s = .next t ∧ t.pnp.resp = some ⟨.ok, []⟩ ∧ t.pnp.power = .run
        ∧ t.pnp.event = .resetDone ∧ t.pnp.pend = { Pend.clear with jam := s.pins.sensed = .partway, power := true }
        ∧ t.pnp.faults = s.pnp.faults ∧ t.pnp.memPresent = k ∧ t.pnp.store = none ∧ t.pnp.load = false
        ∧ t.pnp.hoursWrite = none ∧ t.pnp.defaulted = decide (imageRead k t.mem = none)
        ∧ t.settings = { (imageRead k t.mem).getD .builtIn with node := s.lkc.node, hours := s.lmc.hours }
        ∧ t.mem = (if s.pnp.store = none then s.mem else s.mem.writes [(0, 0), (1, 0)])
        ∧ t.tru.present = s.tru.present ∧ t.tru.map = s.tru.map
        ∧ t.tru.position = (if s.csq.state = .indexing then none else s.tru.position)
        ∧ t.csq.flight = none ∧ t.csq.drive = .none ∧ t.csq.shutClosed = false
        ∧ t.csq.state = (if s.pins.sensed = .partway then .jammed else .idle)
        ∧ t.csq.origin = (if s.pins.sensed = .seated ∧ s.csq.state = .idle ∧ s.csq.gate = .seated then s.csq.origin
            else none)
        ∧ t.sar.waiting = none ∧ t.sar.holder = none ∧ t.sar.last = Sar.reset.last
        ∧ t.lmc.lamp = (if s.lmc.lamp = .preheat ∨ s.lmc.lamp = .lit then .cooling else s.lmc.lamp)
        ∧ t.lmc.trip = s.lmc.trip ∧ t.lmc.temp = s.lmc.temp ∧ t.lmc.part = s.lmc.part ∧ t.lmc.fanStall = false
        ∧ (s.lmc.fanStall = true → t.lmc.stallMs = 0)
        ∧ t.dkc.deck = .stopped ∧ t.dkc.stopPulse = some (s.dkc.stopPulse.getD 0) ∧ t.dkc.clock = s.dkc.clock
        ∧ t.cdc.flags = CdcFlags.clear ∧ t.cdc.last = .none ∧ t.cdc.waitQuiet = true
        ∧ t.crn = { Crn.reset with table := t.crn.table }
        ∧ t.shc.phase = .stopped ∧ t.shc.ended = false
        ∧ t.shc.causes = { Causes.empty with transport := s.pins.sensed = .partway,
                                             lamp := s.lmc.lamp = .fault || s.lmc.trip }
        ∧ t.rmi = { Rmi.reset with keys := t.settings.keys, cfg := t.settings.remote }
        ∧ t.lkc.lock = s.lkc.lock ∧ t.lkc.txq = [] ∧ t.lkc.rxbuf = [] ∧ t.lkc.access = .none ∧ t.pins = s.pins)
    ∧ (∀ (s : State) (k : Bool), Powered s → s.pnp.power ≠ .resetHeld →
        ∃ t u, exec (.resetControl k) s = .next t ∧ exec (.resetHold k) s = .next u ∧ u.pnp.power = .resetHeld
          ∧ u.pnp.event = s.pnp.event ∧ u.pnp.pend.power = false ∧ u.pnp.resp = some ⟨.ok, []⟩
          ∧ u.settings = t.settings ∧ u.csq = t.csq ∧ u.tru = t.tru ∧ u.sar = t.sar ∧ u.dkc = t.dkc
          ∧ u.cdc = t.cdc ∧ u.crn = t.crn ∧ u.shc = t.shc ∧ u.rmi = t.rmi ∧ u.lkc = t.lkc ∧ u.mem = t.mem)
    ∧ (∀ (s : State) (k : Bool), Powered s → s.pnp.power = .run ∨ s.pnp.power = .standbyPending →
        exec (.release k) s = .next (finish (answered .ok [] s)))
    ∧ (∀ (s : State) (k : Bool), Powered s → s.pnp.power = .resetHeld →
        exec (.release k) s = exec (.resetControl k) { s with pnp := { s.pnp with power := .run } })
    ∧ (∀ (s : State) (k : Bool), ∃ t, exec (.powerOnReset k) s = .next t ∧ t.pending = s.pending
        ∧ t.pins = { s.pins with porstLow := false }
        ∧ t.mem = (if s.pnp.store = none then s.mem else s.mem.writes [(0, 0), (1, 0)])
        ∧ t.settings = (imageRead k t.mem).getD .builtIn
        ∧ t.pnp = { Pnp.reset with
            pend := { Pend.clear with jam := s.pins.sensed = .partway }, cfg := t.settings.attn
            idleSetting := t.settings.idle, memPresent := k, defaulted := decide (imageRead k t.mem = none) }
        ∧ t.tru = { Tru.reset with cfg := t.settings.tray }
        ∧ t.sar = { Sar.reset with sources := t.settings.sources, cfg := t.settings.arb }
        ∧ t.lmc = { Lmc.reset with
            cfg := t.settings.lamp, showLevel := t.settings.lamp.initShow, hours := t.settings.hours }
        ∧ t.crn = { Crn.reset with table := t.settings.steps }
        ∧ t.cdc = { Cdc.reset with cfg := t.settings.decoder }
        ∧ t.dkc = { Dkc.reset with
            cfg := t.settings.deck, audio := ⟨t.settings.deck.initAudio, t.settings.deck.initAudio, 0, 0, 0⟩ }
        ∧ t.shc = ⟨.stopped, { Causes.empty with transport := s.pins.sensed = .partway }, false,
            t.settings.autoResume⟩
        ∧ t.csq = { Csq.reset with
            cfg := t.settings.seq
            state := if s.pins.sensed = .partway then .jammed else .idle
            stop := if s.pins.sensed = .partway then .partialAtReset else .none
            gate := (match s.pins.sensed with
              | .clear => .empty
              | .seated => .seated
              | .partway => .partway) }
        ∧ t.lkc.node = t.settings.node ∧ t.lkc.lock = decide (t.settings.node ≠ 15) ∧ t.lkc.txq = []
        ∧ t.lkc.rxbuf = [] ∧ t.rmi = { Rmi.reset with keys := t.settings.keys, cfg := t.settings.remote })
    ∧ (∀ l ∈ [Line.fwd, .rev, .fin, .fout], Rmi.reset.line l = ⟨false, false, false, none, .first 0⟩)
    ∧ Rmi.reset.test = false ∧ Rmi.reset.irHeld = none ∧ Rmi.reset.focus = .stopped ∧ Rmi.reset.digit = none
    ∧ Rmi.reset.lastKey = none ∧ Rmi.reset.unread = false ∧ Rmi.reset.irDrops = 0 ∧ Rmi.reset.irRx = .waitLeader

/-- STORE_SETTINGS, STORE_COMPLETE, LOAD_SETTINGS, LOAD_COMPLETE, HOURS_WRITE_START and HOURS_WRITE_COMPLETE
(11 R185, R186, R187). The memory's answer as an operand, and the memory present mark after LOAD's read, are the model's
choice (log 7); what a failed STORE leaves of its writes is its deduction (log 21); that a completion with nothing in
flight has no effect is its choice (log 3). -/
def Obligations.TheMemoryOperations : Prop :=
  (∀ s : State, Awake s → s.pnp.store = none → s.pnp.load = false →
      exec .storeSettings s = .next (answered .ok [] { s with pnp := { s.pnp with store := some s.settings } }))
    ∧ (∀ s : State, Awake s → s.pnp.store ≠ none ∨ s.pnp.load = true →
        exec .storeSettings s = .next (answered .busy [] s) ∧ exec .loadSettings s = .next (answered .busy [] s))
    ∧ (∀ (s : State) (v : Settings) (n : Nat), Powered s → s.pnp.store = some v → s.pnp.hoursWrite = none →
        3526 ≤ n →
        exec (.storeComplete n) s = .next { s with
          mem := s.mem.writes ([(0, 0), (1, 0)] ++ placed 8 (v.checked ++ hoursBytes v.hours)
            ++ placed 0 (imageHeader v.checked))
          pnp := { s.pnp with store := none, defaulted := false, event := .storeDone,
                              pend := { s.pnp.pend with power := true } } })
    ∧ (∀ (s : State) (v : Settings) (n : Nat), Powered s → s.pnp.store = some v → s.pnp.hoursWrite = none →
        n < 3526 →
        exec (.storeComplete n) s = .next { s with
          mem := s.mem.writes (([(0, 0), (1, 0)] ++ placed 8 (v.checked ++ hoursBytes v.hours)).take n)
          pnp := { s.pnp with store := none, event := .storeFailed,
                              faults := { s.pnp.faults with settings := true },
                              pend := { s.pnp.pend with fault := true, power := true } } })
    ∧ (∀ (s : State) (v : Settings) (n : Nat), Powered s → s.pnp.store = some v → s.pnp.hoursWrite = none →
        s.mem.wf → 2 ≤ n → n < 3526 →
        ∃ t, exec (.storeComplete n) s = .next t ∧ t.mem.read 0 = 0 ∧ t.mem.read 1 = 0)
    ∧ (∀ (s : State) (n : Nat), Powered s → s.pnp.store = none ∨ s.pnp.hoursWrite ≠ none →
        exec (.storeComplete n) s = .next s)
    ∧ (∀ s : State, Awake s → s.pnp.store = none → s.pnp.load = false → s.csq.state = .idle →
        s.sar.waiting = none → s.shc.phase = .stopped → s.lkc.txq = [] →
        exec .loadSettings s = .next (answered .ok [] { s with pnp := { s.pnp with load := true } }))
    ∧ (∀ s : State, Awake s → s.csq.state ≠ .idle ∨ s.sar.waiting ≠ none ∨ s.shc.phase ≠ .stopped
          ∨ s.lkc.txq ≠ [] → exec .loadSettings s = .next (answered .busy [] s))
    ∧ (∀ (s : State) (k : Bool), Powered s → s.pnp.load = true → s.pnp.hoursWrite = none →
        imageRead k s.mem = none →
        exec (.loadComplete k) s = .next (finish { s with
          pnp := { s.pnp with load := false, memPresent := k, event := .loadFailed,
                              faults := { s.pnp.faults with settings := true },
                              pend := { s.pnp.pend with fault := true, power := true } } }))
    ∧ (∀ (s : State) (k : Bool) (v : Settings), Powered s → s.pnp.load = true → s.pnp.hoursWrite = none →
        imageRead k s.mem = some v →
        s.csq.state ≠ .idle ∨ s.sar.waiting ≠ none ∨ s.shc.phase ≠ .stopped ∨ s.lkc.txq ≠ [] →
        exec (.loadComplete k) s = .next (finish { s with
          pnp := { s.pnp with load := false, memPresent := k, event := .loadAbandoned,
                              pend := { s.pnp.pend with power := true } } }))
    ∧ (∀ (s : State) (k : Bool) (v : Settings), Powered s → s.pnp.load = true → s.pnp.hoursWrite = none →
        imageRead k s.mem = some v → s.csq.state = .idle → s.sar.waiting = none → s.shc.phase = .stopped →
        s.lkc.txq = [] →
        ∃ t, exec (.loadComplete k) s = .next t ∧ t.pnp.load = false ∧ t.pnp.event = .loadDone
          ∧ t.pnp.pend.power = true ∧ t.pnp.defaulted = false
          ∧ t.settings = { v with node := s.lkc.node, hours := s.lmc.hours }
          ∧ t.lmc.showLevel = s.lmc.showLevel ∧ t.dkc = { s.dkc with cfg := v.deck } ∧ t.lkc.rxbuf = s.lkc.rxbuf
          ∧ t.lkc.lineIdle = false ∧ t.lkc.rx = .waitIdle ∧ t.lkc.lock = s.lkc.lock ∧ t.mem = s.mem
          ∧ (v.decoder.mode ≠ s.cdc.cfg.mode → t.crn.queue = [] ∧ t.crn.dwell = none))
    ∧ (∀ (s : State) (k : Bool), Powered s → s.pnp.load = false ∨ s.pnp.hoursWrite ≠ none →
        exec (.loadComplete k) s = .next (finish s))
    ∧ (∀ (s : State) (h : Nat), Powered s → s.pnp.hoursWaiting = some h → s.pnp.store = none →
        s.pnp.load = false → s.pnp.hoursWrite = none →
        exec .hoursWriteStart s = .next { s with
          pnp := { s.pnp with hoursWrite := some h, hoursWaiting := none } })
    ∧ (∀ s : State, Powered s → s.pnp.hoursWaiting = none ∨ s.pnp.store ≠ none ∨ s.pnp.load = true
          ∨ s.pnp.hoursWrite ≠ none → exec .hoursWriteStart s = .next s)
    ∧ (∀ (s : State) (h n : Nat), Powered s → s.pnp.hoursWrite = some h → 4 ≤ n →
        exec (.hoursWriteComplete n) s = .next { s with
          mem := s.mem.writes [(3520, b8 h), (3521, b8 (h / 256)), (3522, b8 (65535 - h)),
            (3523, b8 ((65535 - h) / 256))]
          pnp := { s.pnp with hoursWrite := none } })
    ∧ (∀ (s : State) (h n : Nat), Powered s → s.pnp.hoursWrite = some h → n < 4 →
        exec (.hoursWriteComplete n) s = .next { s with
          mem := s.mem.writes ([(3520, b8 h), (3521, b8 (h / 256)), (3522, b8 (65535 - h)),
            (3523, b8 ((65535 - h) / 256))].take n)
          pnp := { s.pnp with hoursWrite := none, faults := { s.pnp.faults with settings := true },
                              pend := { s.pnp.pend with fault := true } } })
    ∧ (∀ (s : State) (n : Nat), Powered s → s.pnp.hoursWrite = none →
        exec (.hoursWriteComplete n) s = .next s)
end

