-- ==== Sys2Proof/Laws/State.lean ====
section
/-! SUPPORT. What each named update does to each block of the state: one equation per block, all true by rfl and all
simp rules, so that no proof unfolds an update. -/

namespace Sys2Proof.Machine

@[simp] theorem setPosition_fields (p : Option Nat) (s : State) :
    (setPosition p s).pending = s.pending ∧ (setPosition p s).pins = s.pins ∧ (setPosition p s).psdo = s.psdo ∧
    (setPosition p s).mem = s.mem ∧ (setPosition p s).tru = { s.tru with position := p } ∧
    (setPosition p s).csq = s.csq ∧ (setPosition p s).sar = s.sar ∧ (setPosition p s).lmc = s.lmc ∧
    (setPosition p s).dkc = s.dkc ∧ (setPosition p s).cdc = s.cdc ∧ (setPosition p s).crn = s.crn ∧
    (setPosition p s).shc = s.shc ∧ (setPosition p s).rmi = s.rmi ∧ (setPosition p s).lkc = s.lkc ∧
    (setPosition p s).pnp = s.pnp :=
  ⟨rfl, rfl, rfl, rfl, rfl, rfl, rfl, rfl, rfl, rfl, rfl, rfl, rfl, rfl, rfl⟩

@[simp] theorem setCsq_fields (f : Csq → Csq) (s : State) :
    (setCsq f s).pending = s.pending ∧ (setCsq f s).pins = s.pins ∧ (setCsq f s).psdo = s.psdo ∧
    (setCsq f s).mem = s.mem ∧ (setCsq f s).tru = s.tru ∧ (setCsq f s).csq = f s.csq ∧ (setCsq f s).sar = s.sar ∧
    (setCsq f s).lmc = s.lmc ∧ (setCsq f s).dkc = s.dkc ∧ (setCsq f s).cdc = s.cdc ∧ (setCsq f s).crn = s.crn ∧
    (setCsq f s).shc = s.shc ∧ (setCsq f s).rmi = s.rmi ∧ (setCsq f s).lkc = s.lkc ∧ (setCsq f s).pnp = s.pnp :=
  ⟨rfl, rfl, rfl, rfl, rfl, rfl, rfl, rfl, rfl, rfl, rfl, rfl, rfl, rfl, rfl⟩

@[simp] theorem setGate_fields (g : GateState) (o : Option Nat) (s : State) :
    (setGate g o s).pending = s.pending ∧ (setGate g o s).pins = s.pins ∧ (setGate g o s).psdo = s.psdo ∧
    (setGate g o s).mem = s.mem ∧ (setGate g o s).tru = s.tru ∧
    (setGate g o s).csq = { s.csq with gate := g, origin := o } ∧ (setGate g o s).sar = s.sar ∧
    (setGate g o s).lmc = s.lmc ∧ (setGate g o s).dkc = s.dkc ∧ (setGate g o s).cdc = s.cdc ∧
    (setGate g o s).crn = s.crn ∧ (setGate g o s).shc = s.shc ∧ (setGate g o s).rmi = s.rmi ∧
    (setGate g o s).lkc = s.lkc ∧ (setGate g o s).pnp = s.pnp :=
  ⟨rfl, rfl, rfl, rfl, rfl, rfl, rfl, rfl, rfl, rfl, rfl, rfl, rfl, rfl, rfl⟩

@[simp] theorem setWaiting_fields (w : Option Waiting) (s : State) :
    (setWaiting w s).pending = s.pending ∧ (setWaiting w s).pins = s.pins ∧ (setWaiting w s).psdo = s.psdo ∧
    (setWaiting w s).mem = s.mem ∧ (setWaiting w s).tru = s.tru ∧ (setWaiting w s).csq = s.csq ∧
    (setWaiting w s).sar = { s.sar with waiting := w } ∧ (setWaiting w s).lmc = s.lmc ∧
    (setWaiting w s).dkc = s.dkc ∧ (setWaiting w s).cdc = s.cdc ∧ (setWaiting w s).crn = s.crn ∧
    (setWaiting w s).shc = s.shc ∧ (setWaiting w s).rmi = s.rmi ∧ (setWaiting w s).lkc = s.lkc ∧
    (setWaiting w s).pnp = s.pnp :=
  ⟨rfl, rfl, rfl, rfl, rfl, rfl, rfl, rfl, rfl, rfl, rfl, rfl, rfl, rfl, rfl⟩

@[simp] theorem startTenure_fields (src : Source) (s : State) :
    (startTenure src s).pending = s.pending ∧ (startTenure src s).pins = s.pins ∧
    (startTenure src s).psdo = s.psdo ∧ (startTenure src s).mem = s.mem ∧ (startTenure src s).tru = s.tru ∧
    (startTenure src s).csq = s.csq ∧
    (startTenure src s).sar = { s.sar with holder := if (s.sar.sources.get src).tenure = 0 then none else some src, tenureLeft := (s.sar.sources.get src).tenure, tenureMs := 0 } ∧
    (startTenure src s).lmc = s.lmc ∧ (startTenure src s).dkc = s.dkc ∧ (startTenure src s).cdc = s.cdc ∧
    (startTenure src s).crn = s.crn ∧ (startTenure src s).shc = s.shc ∧ (startTenure src s).rmi = s.rmi ∧
    (startTenure src s).lkc = s.lkc ∧ (startTenure src s).pnp = s.pnp :=
  ⟨rfl, rfl, rfl, rfl, rfl, rfl, rfl, rfl, rfl, rfl, rfl, rfl, rfl, rfl, rfl⟩

@[simp] theorem endTenure_fields (s : State) :
    (endTenure s).pending = s.pending ∧ (endTenure s).pins = s.pins ∧ (endTenure s).psdo = s.psdo ∧
    (endTenure s).mem = s.mem ∧ (endTenure s).tru = s.tru ∧ (endTenure s).csq = s.csq ∧
    (endTenure s).sar = { s.sar with holder := none, tenureLeft := 0, tenureMs := 0 } ∧ (endTenure s).lmc = s.lmc ∧
    (endTenure s).dkc = s.dkc ∧ (endTenure s).cdc = s.cdc ∧ (endTenure s).crn = s.crn ∧ (endTenure s).shc = s.shc ∧
    (endTenure s).rmi = s.rmi ∧ (endTenure s).lkc = s.lkc ∧ (endTenure s).pnp = s.pnp :=
  ⟨rfl, rfl, rfl, rfl, rfl, rfl, rfl, rfl, rfl, rfl, rfl, rfl, rfl, rfl, rfl⟩

@[simp] theorem setLmc_fields (f : Lmc → Lmc) (s : State) :
    (setLmc f s).pending = s.pending ∧ (setLmc f s).pins = s.pins ∧ (setLmc f s).psdo = s.psdo ∧
    (setLmc f s).mem = s.mem ∧ (setLmc f s).tru = s.tru ∧ (setLmc f s).csq = s.csq ∧ (setLmc f s).sar = s.sar ∧
    (setLmc f s).lmc = f s.lmc ∧ (setLmc f s).dkc = s.dkc ∧ (setLmc f s).cdc = s.cdc ∧ (setLmc f s).crn = s.crn ∧
    (setLmc f s).shc = s.shc ∧ (setLmc f s).rmi = s.rmi ∧ (setLmc f s).lkc = s.lkc ∧ (setLmc f s).pnp = s.pnp :=
  ⟨rfl, rfl, rfl, rfl, rfl, rfl, rfl, rfl, rfl, rfl, rfl, rfl, rfl, rfl, rfl⟩

@[simp] theorem refreshOpen_fields (s : State) :
    (refreshOpen s).pending = s.pending ∧ (refreshOpen s).pins = s.pins ∧ (refreshOpen s).psdo = s.psdo ∧
    (refreshOpen s).mem = s.mem ∧ (refreshOpen s).tru = s.tru ∧ (refreshOpen s).csq = s.csq ∧
    (refreshOpen s).sar = s.sar ∧
    (refreshOpen s).lmc = { s.lmc with openMs := if s.openRuns then s.lmc.openMs else 0 } ∧
    (refreshOpen s).dkc = s.dkc ∧ (refreshOpen s).cdc = s.cdc ∧ (refreshOpen s).crn = s.crn ∧
    (refreshOpen s).shc = s.shc ∧ (refreshOpen s).rmi = s.rmi ∧ (refreshOpen s).lkc = s.lkc ∧
    (refreshOpen s).pnp = s.pnp :=
  ⟨rfl, rfl, rfl, rfl, rfl, rfl, rfl, rfl, rfl, rfl, rfl, rfl, rfl, rfl, rfl⟩

@[simp] theorem refreshFan_fields (s : State) :
    (refreshFan s).pending = s.pending ∧ (refreshFan s).pins = s.pins ∧ (refreshFan s).psdo = s.psdo ∧
    (refreshFan s).mem = s.mem ∧ (refreshFan s).tru = s.tru ∧ (refreshFan s).csq = s.csq ∧
    (refreshFan s).sar = s.sar ∧
    (refreshFan s).lmc = { s.lmc with fan := fanCommand s.pnp.power s.lmc, stallMs := if s.lmc.fan = .off ∨ fanCommand s.pnp.power s.lmc = .off then 0 else s.lmc.stallMs, fanStall := s.lmc.fanStall && fanCommand s.pnp.power s.lmc ≠ .off } ∧
    (refreshFan s).dkc = s.dkc ∧ (refreshFan s).cdc = s.cdc ∧ (refreshFan s).crn = s.crn ∧
    (refreshFan s).shc = s.shc ∧ (refreshFan s).rmi = s.rmi ∧ (refreshFan s).lkc = s.lkc ∧
    (refreshFan s).pnp = s.pnp :=
  ⟨rfl, rfl, rfl, rfl, rfl, rfl, rfl, rfl, rfl, rfl, rfl, rfl, rfl, rfl, rfl⟩

@[simp] theorem setDeck_fields (d : Deck) (s : State) :
    (setDeck d s).pending = s.pending ∧ (setDeck d s).pins = s.pins ∧ (setDeck d s).psdo = s.psdo ∧
    (setDeck d s).mem = s.mem ∧ (setDeck d s).tru = s.tru ∧ (setDeck d s).csq = s.csq ∧ (setDeck d s).sar = s.sar ∧
    (setDeck d s).lmc = s.lmc ∧ (setDeck d s).dkc = { s.dkc with deck := d } ∧ (setDeck d s).cdc = s.cdc ∧
    (setDeck d s).crn = s.crn ∧ (setDeck d s).shc = s.shc ∧ (setDeck d s).rmi = s.rmi ∧ (setDeck d s).lkc = s.lkc ∧
    (setDeck d s).pnp = s.pnp :=
  ⟨rfl, rfl, rfl, rfl, rfl, rfl, rfl, rfl, rfl, rfl, rfl, rfl, rfl, rfl, rfl⟩

@[simp] theorem deckPause_fields (s : State) :
    (deckPause s).pending = s.pending ∧ (deckPause s).pins = s.pins ∧ (deckPause s).psdo = s.psdo ∧
    (deckPause s).mem = s.mem ∧ (deckPause s).tru = s.tru ∧ (deckPause s).csq = s.csq ∧ (deckPause s).sar = s.sar ∧
    (deckPause s).lmc = s.lmc ∧
    (deckPause s).dkc = { s.dkc with deck := if s.pins.running then .pausing else .paused, timerMs := 0, stall := none } ∧
    (deckPause s).cdc = s.cdc ∧ (deckPause s).crn = s.crn ∧ (deckPause s).shc = s.shc ∧ (deckPause s).rmi = s.rmi ∧
    (deckPause s).lkc = s.lkc ∧ (deckPause s).pnp = s.pnp :=
  ⟨rfl, rfl, rfl, rfl, rfl, rfl, rfl, rfl, rfl, rfl, rfl, rfl, rfl, rfl, rfl⟩

@[simp] theorem deckHalt_fields (s : State) :
    (deckHalt s).pending = s.pending ∧ (deckHalt s).pins = s.pins ∧ (deckHalt s).psdo = s.psdo ∧
    (deckHalt s).mem = s.mem ∧ (deckHalt s).tru = s.tru ∧ (deckHalt s).csq = s.csq ∧ (deckHalt s).sar = s.sar ∧
    (deckHalt s).lmc = s.lmc ∧
    (deckHalt s).dkc = { s.dkc with deck := .stopped, stopPulse := startPulse s.dkc.stopPulse, timerMs := 0, stall := none } ∧
    (deckHalt s).cdc = s.cdc ∧ (deckHalt s).crn = s.crn ∧ (deckHalt s).shc = s.shc ∧ (deckHalt s).rmi = s.rmi ∧
    (deckHalt s).lkc = s.lkc ∧ (deckHalt s).pnp = s.pnp :=
  ⟨rfl, rfl, rfl, rfl, rfl, rfl, rfl, rfl, rfl, rfl, rfl, rfl, rfl, rfl, rfl⟩

@[simp] theorem startAudio_fields (l f : Nat) (s : State) :
    (startAudio l f s).pending = s.pending ∧ (startAudio l f s).pins = s.pins ∧ (startAudio l f s).psdo = s.psdo ∧
    (startAudio l f s).mem = s.mem ∧ (startAudio l f s).tru = s.tru ∧ (startAudio l f s).csq = s.csq ∧
    (startAudio l f s).sar = s.sar ∧ (startAudio l f s).lmc = s.lmc ∧
    (startAudio l f s).dkc = { s.dkc with audio := .from s.dkc.audio.level l f } ∧ (startAudio l f s).cdc = s.cdc ∧
    (startAudio l f s).crn = s.crn ∧ (startAudio l f s).shc = s.shc ∧ (startAudio l f s).rmi = s.rmi ∧
    (startAudio l f s).lkc = s.lkc ∧ (startAudio l f s).pnp = s.pnp :=
  ⟨rfl, rfl, rfl, rfl, rfl, rfl, rfl, rfl, rfl, rfl, rfl, rfl, rfl, rfl, rfl⟩

@[simp] theorem setCdc_fields (f : Cdc → Cdc) (s : State) :
    (setCdc f s).pending = s.pending ∧ (setCdc f s).pins = s.pins ∧ (setCdc f s).psdo = s.psdo ∧
    (setCdc f s).mem = s.mem ∧ (setCdc f s).tru = s.tru ∧ (setCdc f s).csq = s.csq ∧ (setCdc f s).sar = s.sar ∧
    (setCdc f s).lmc = s.lmc ∧ (setCdc f s).dkc = s.dkc ∧ (setCdc f s).cdc = f s.cdc ∧ (setCdc f s).crn = s.crn ∧
    (setCdc f s).shc = s.shc ∧ (setCdc f s).rmi = s.rmi ∧ (setCdc f s).lkc = s.lkc ∧ (setCdc f s).pnp = s.pnp :=
  ⟨rfl, rfl, rfl, rfl, rfl, rfl, rfl, rfl, rfl, rfl, rfl, rfl, rfl, rfl, rfl⟩

@[simp] theorem setFlags_fields (f : CdcFlags → CdcFlags) (s : State) :
    (setFlags f s).pending = s.pending ∧ (setFlags f s).pins = s.pins ∧ (setFlags f s).psdo = s.psdo ∧
    (setFlags f s).mem = s.mem ∧ (setFlags f s).tru = s.tru ∧ (setFlags f s).csq = s.csq ∧
    (setFlags f s).sar = s.sar ∧ (setFlags f s).lmc = s.lmc ∧ (setFlags f s).dkc = s.dkc ∧
    (setFlags f s).cdc = { s.cdc with flags := f s.cdc.flags } ∧ (setFlags f s).crn = s.crn ∧
    (setFlags f s).shc = s.shc ∧ (setFlags f s).rmi = s.rmi ∧ (setFlags f s).lkc = s.lkc ∧
    (setFlags f s).pnp = s.pnp :=
  ⟨rfl, rfl, rfl, rfl, rfl, rfl, rfl, rfl, rfl, rfl, rfl, rfl, rfl, rfl, rfl⟩

@[simp] theorem setCrn_fields (f : Crn → Crn) (s : State) :
    (setCrn f s).pending = s.pending ∧ (setCrn f s).pins = s.pins ∧ (setCrn f s).psdo = s.psdo ∧
    (setCrn f s).mem = s.mem ∧ (setCrn f s).tru = s.tru ∧ (setCrn f s).csq = s.csq ∧ (setCrn f s).sar = s.sar ∧
    (setCrn f s).lmc = s.lmc ∧ (setCrn f s).dkc = s.dkc ∧ (setCrn f s).cdc = s.cdc ∧ (setCrn f s).crn = f s.crn ∧
    (setCrn f s).shc = s.shc ∧ (setCrn f s).rmi = s.rmi ∧ (setCrn f s).lkc = s.lkc ∧ (setCrn f s).pnp = s.pnp :=
  ⟨rfl, rfl, rfl, rfl, rfl, rfl, rfl, rfl, rfl, rfl, rfl, rfl, rfl, rfl, rfl⟩

@[simp] theorem stopDwell_fields (s : State) :
    (stopDwell s).pending = s.pending ∧ (stopDwell s).pins = s.pins ∧ (stopDwell s).psdo = s.psdo ∧
    (stopDwell s).mem = s.mem ∧ (stopDwell s).tru = s.tru ∧ (stopDwell s).csq = s.csq ∧ (stopDwell s).sar = s.sar ∧
    (stopDwell s).lmc = s.lmc ∧ (stopDwell s).dkc = s.dkc ∧ (stopDwell s).cdc = s.cdc ∧
    (stopDwell s).crn = { s.crn with dwell := none, dwellMs := 0 } ∧ (stopDwell s).shc = s.shc ∧
    (stopDwell s).rmi = s.rmi ∧ (stopDwell s).lkc = s.lkc ∧ (stopDwell s).pnp = s.pnp :=
  ⟨rfl, rfl, rfl, rfl, rfl, rfl, rfl, rfl, rfl, rfl, rfl, rfl, rfl, rfl, rfl⟩

@[simp] theorem flushQueue_fields (s : State) :
    (flushQueue s).pending = s.pending ∧ (flushQueue s).pins = s.pins ∧ (flushQueue s).psdo = s.psdo ∧
    (flushQueue s).mem = s.mem ∧ (flushQueue s).tru = s.tru ∧ (flushQueue s).csq = s.csq ∧
    (flushQueue s).sar = s.sar ∧ (flushQueue s).lmc = s.lmc ∧ (flushQueue s).dkc = s.dkc ∧
    (flushQueue s).cdc = s.cdc ∧ (flushQueue s).crn = { s.crn with queue := [] } ∧ (flushQueue s).shc = s.shc ∧
    (flushQueue s).rmi = s.rmi ∧ (flushQueue s).lkc = s.lkc ∧ (flushQueue s).pnp = s.pnp :=
  ⟨rfl, rfl, rfl, rfl, rfl, rfl, rfl, rfl, rfl, rfl, rfl, rfl, rfl, rfl, rfl⟩

@[simp] theorem pushCue_fields (o : CueOrigin) (k : CueKind) (s : State) :
    (pushCue o k s).pending = s.pending ∧ (pushCue o k s).pins = s.pins ∧ (pushCue o k s).psdo = s.psdo ∧
    (pushCue o k s).mem = s.mem ∧ (pushCue o k s).tru = s.tru ∧ (pushCue o k s).csq = s.csq ∧
    (pushCue o k s).sar = s.sar ∧ (pushCue o k s).lmc = s.lmc ∧ (pushCue o k s).dkc = s.dkc ∧
    (pushCue o k s).cdc = s.cdc ∧
    (pushCue o k s).crn = { s.crn with queue := s.crn.queue ++ [⟨o, k, s.dkc.clock⟩] } ∧
    (pushCue o k s).shc = s.shc ∧ (pushCue o k s).rmi = s.rmi ∧ (pushCue o k s).lkc = s.lkc ∧
    (pushCue o k s).pnp = s.pnp :=
  ⟨rfl, rfl, rfl, rfl, rfl, rfl, rfl, rfl, rfl, rfl, rfl, rfl, rfl, rfl, rfl⟩

@[simp] theorem setStepFault_fields (n : Nat) (st : Status) (s : State) :
    (setStepFault n st s).pending = s.pending ∧ (setStepFault n st s).pins = s.pins ∧
    (setStepFault n st s).psdo = s.psdo ∧ (setStepFault n st s).mem = s.mem ∧ (setStepFault n st s).tru = s.tru ∧
    (setStepFault n st s).csq = s.csq ∧ (setStepFault n st s).sar = s.sar ∧ (setStepFault n st s).lmc = s.lmc ∧
    (setStepFault n st s).dkc = s.dkc ∧ (setStepFault n st s).cdc = s.cdc ∧
    (setStepFault n st s).crn = { s.crn with stepFault := true, faultStep := n, faultStatus := some st } ∧
    (setStepFault n st s).shc = s.shc ∧ (setStepFault n st s).rmi = s.rmi ∧ (setStepFault n st s).lkc = s.lkc ∧
    (setStepFault n st s).pnp = s.pnp :=
  ⟨rfl, rfl, rfl, rfl, rfl, rfl, rfl, rfl, rfl, rfl, rfl, rfl, rfl, rfl, rfl⟩

@[simp] theorem setStepEmpty_fields (n : Nat) (s : State) :
    (setStepEmpty n s).pending = s.pending ∧ (setStepEmpty n s).pins = s.pins ∧ (setStepEmpty n s).psdo = s.psdo ∧
    (setStepEmpty n s).mem = s.mem ∧ (setStepEmpty n s).tru = s.tru ∧ (setStepEmpty n s).csq = s.csq ∧
    (setStepEmpty n s).sar = s.sar ∧ (setStepEmpty n s).lmc = s.lmc ∧ (setStepEmpty n s).dkc = s.dkc ∧
    (setStepEmpty n s).cdc = s.cdc ∧
    (setStepEmpty n s).crn = { s.crn with stepEmpty := true, faultStep := n, faultStatus := none } ∧
    (setStepEmpty n s).shc = s.shc ∧ (setStepEmpty n s).rmi = s.rmi ∧ (setStepEmpty n s).lkc = s.lkc ∧
    (setStepEmpty n s).pnp = s.pnp :=
  ⟨rfl, rfl, rfl, rfl, rfl, rfl, rfl, rfl, rfl, rfl, rfl, rfl, rfl, rfl, rfl⟩

@[simp] theorem abandonStep_fields (s : State) :
    (abandonStep s).pending = s.pending ∧ (abandonStep s).pins = s.pins ∧ (abandonStep s).psdo = s.psdo ∧
    (abandonStep s).mem = s.mem ∧ (abandonStep s).tru = s.tru ∧ (abandonStep s).csq = s.csq ∧
    (abandonStep s).sar = s.sar ∧ (abandonStep s).lmc = s.lmc ∧ (abandonStep s).dkc = s.dkc ∧
    (abandonStep s).cdc = s.cdc ∧
    (abandonStep s).crn = { s.crn with
      progress := none
      awaited := if s.crn.progress = none then s.crn.awaited else .none
      latched := if s.crn.progress = none then s.crn.latched else none } ∧
    (abandonStep s).shc = s.shc ∧ (abandonStep s).rmi = s.rmi ∧ (abandonStep s).lkc = s.lkc ∧
    (abandonStep s).pnp = s.pnp :=
  ⟨rfl, rfl, rfl, rfl, rfl, rfl, rfl, rfl, rfl, rfl, rfl, rfl, rfl, rfl, rfl⟩

@[simp] theorem setCause_fields (c : Cause) (v : Bool) (s : State) :
    (setCause c v s).pending = s.pending ∧ (setCause c v s).pins = s.pins ∧ (setCause c v s).psdo = s.psdo ∧
    (setCause c v s).mem = s.mem ∧ (setCause c v s).tru = s.tru ∧ (setCause c v s).csq = s.csq ∧
    (setCause c v s).sar = s.sar ∧ (setCause c v s).lmc = s.lmc ∧ (setCause c v s).dkc = s.dkc ∧
    (setCause c v s).cdc = s.cdc ∧ (setCause c v s).crn = s.crn ∧
    (setCause c v s).shc = { s.shc with causes := s.shc.causes.set c v } ∧ (setCause c v s).rmi = s.rmi ∧
    (setCause c v s).lkc = s.lkc ∧ (setCause c v s).pnp = s.pnp :=
  ⟨rfl, rfl, rfl, rfl, rfl, rfl, rfl, rfl, rfl, rfl, rfl, rfl, rfl, rfl, rfl⟩

@[simp] theorem setEnded_fields (v : Bool) (s : State) :
    (setEnded v s).pending = s.pending ∧ (setEnded v s).pins = s.pins ∧ (setEnded v s).psdo = s.psdo ∧
    (setEnded v s).mem = s.mem ∧ (setEnded v s).tru = s.tru ∧ (setEnded v s).csq = s.csq ∧
    (setEnded v s).sar = s.sar ∧ (setEnded v s).lmc = s.lmc ∧ (setEnded v s).dkc = s.dkc ∧
    (setEnded v s).cdc = s.cdc ∧ (setEnded v s).crn = s.crn ∧ (setEnded v s).shc = { s.shc with ended := v } ∧
    (setEnded v s).rmi = s.rmi ∧ (setEnded v s).lkc = s.lkc ∧ (setEnded v s).pnp = s.pnp :=
  ⟨rfl, rfl, rfl, rfl, rfl, rfl, rfl, rfl, rfl, rfl, rfl, rfl, rfl, rfl, rfl⟩

@[simp] theorem setRmi_fields (f : Rmi → Rmi) (s : State) :
    (setRmi f s).pending = s.pending ∧ (setRmi f s).pins = s.pins ∧ (setRmi f s).psdo = s.psdo ∧
    (setRmi f s).mem = s.mem ∧ (setRmi f s).tru = s.tru ∧ (setRmi f s).csq = s.csq ∧ (setRmi f s).sar = s.sar ∧
    (setRmi f s).lmc = s.lmc ∧ (setRmi f s).dkc = s.dkc ∧ (setRmi f s).cdc = s.cdc ∧ (setRmi f s).crn = s.crn ∧
    (setRmi f s).shc = s.shc ∧ (setRmi f s).rmi = f s.rmi ∧ (setRmi f s).lkc = s.lkc ∧ (setRmi f s).pnp = s.pnp :=
  ⟨rfl, rfl, rfl, rfl, rfl, rfl, rfl, rfl, rfl, rfl, rfl, rfl, rfl, rfl, rfl⟩

@[simp] theorem stopFocus_fields (s : State) :
    (stopFocus s).pending = s.pending ∧ (stopFocus s).pins = s.pins ∧ (stopFocus s).psdo = s.psdo ∧
    (stopFocus s).mem = s.mem ∧ (stopFocus s).tru = s.tru ∧ (stopFocus s).csq = s.csq ∧ (stopFocus s).sar = s.sar ∧
    (stopFocus s).lmc = s.lmc ∧ (stopFocus s).dkc = s.dkc ∧ (stopFocus s).cdc = s.cdc ∧ (stopFocus s).crn = s.crn ∧
    (stopFocus s).shc = s.shc ∧ (stopFocus s).rmi = { s.rmi with focus := .stopped } ∧ (stopFocus s).lkc = s.lkc ∧
    (stopFocus s).pnp = s.pnp :=
  ⟨rfl, rfl, rfl, rfl, rfl, rfl, rfl, rfl, rfl, rfl, rfl, rfl, rfl, rfl, rfl⟩

@[simp] theorem setDigit_fields (d : Option Nat) (s : State) :
    (setDigit d s).pending = s.pending ∧ (setDigit d s).pins = s.pins ∧ (setDigit d s).psdo = s.psdo ∧
    (setDigit d s).mem = s.mem ∧ (setDigit d s).tru = s.tru ∧ (setDigit d s).csq = s.csq ∧
    (setDigit d s).sar = s.sar ∧ (setDigit d s).lmc = s.lmc ∧ (setDigit d s).dkc = s.dkc ∧
    (setDigit d s).cdc = s.cdc ∧ (setDigit d s).crn = s.crn ∧ (setDigit d s).shc = s.shc ∧
    (setDigit d s).rmi = { s.rmi with digit := d, digitMs := 0 } ∧ (setDigit d s).lkc = s.lkc ∧
    (setDigit d s).pnp = s.pnp :=
  ⟨rfl, rfl, rfl, rfl, rfl, rfl, rfl, rfl, rfl, rfl, rfl, rfl, rfl, rfl, rfl⟩

@[simp] theorem irDrop_fields (s : State) :
    (irDrop s).pending = s.pending ∧ (irDrop s).pins = s.pins ∧ (irDrop s).psdo = s.psdo ∧ (irDrop s).mem = s.mem ∧
    (irDrop s).tru = s.tru ∧ (irDrop s).csq = s.csq ∧ (irDrop s).sar = s.sar ∧ (irDrop s).lmc = s.lmc ∧
    (irDrop s).dkc = s.dkc ∧ (irDrop s).cdc = s.cdc ∧ (irDrop s).crn = s.crn ∧ (irDrop s).shc = s.shc ∧
    (irDrop s).rmi = { s.rmi with irDrops := satInc 255 s.rmi.irDrops } ∧ (irDrop s).lkc = s.lkc ∧
    (irDrop s).pnp = s.pnp :=
  ⟨rfl, rfl, rfl, rfl, rfl, rfl, rfl, rfl, rfl, rfl, rfl, rfl, rfl, rfl, rfl⟩

@[simp] theorem setLkc_fields (f : Lkc → Lkc) (s : State) :
    (setLkc f s).pending = s.pending ∧ (setLkc f s).pins = s.pins ∧ (setLkc f s).psdo = s.psdo ∧
    (setLkc f s).mem = s.mem ∧ (setLkc f s).tru = s.tru ∧ (setLkc f s).csq = s.csq ∧ (setLkc f s).sar = s.sar ∧
    (setLkc f s).lmc = s.lmc ∧ (setLkc f s).dkc = s.dkc ∧ (setLkc f s).cdc = s.cdc ∧ (setLkc f s).crn = s.crn ∧
    (setLkc f s).shc = s.shc ∧ (setLkc f s).rmi = s.rmi ∧ (setLkc f s).lkc = f s.lkc ∧ (setLkc f s).pnp = s.pnp :=
  ⟨rfl, rfl, rfl, rfl, rfl, rfl, rfl, rfl, rfl, rfl, rfl, rfl, rfl, rfl, rfl⟩

@[simp] theorem raiseFault_fields (f : FaultFlag) (s : State) :
    (raiseFault f s).pending = s.pending ∧ (raiseFault f s).pins = s.pins ∧ (raiseFault f s).psdo = s.psdo ∧
    (raiseFault f s).mem = s.mem ∧ (raiseFault f s).tru = s.tru ∧ (raiseFault f s).csq = s.csq ∧
    (raiseFault f s).sar = s.sar ∧ (raiseFault f s).lmc = s.lmc ∧ (raiseFault f s).dkc = s.dkc ∧
    (raiseFault f s).cdc = s.cdc ∧ (raiseFault f s).crn = s.crn ∧ (raiseFault f s).shc = s.shc ∧
    (raiseFault f s).rmi = s.rmi ∧ (raiseFault f s).lkc = s.lkc ∧
    (raiseFault f s).pnp = { s.pnp with faults := s.pnp.faults.set f, pend := { s.pnp.pend with fault := true } } :=
  ⟨rfl, rfl, rfl, rfl, rfl, rfl, rfl, rfl, rfl, rfl, rfl, rfl, rfl, rfl, rfl⟩

@[simp] theorem raiseJam_fields (s : State) :
    (raiseJam s).pending = s.pending ∧ (raiseJam s).pins = s.pins ∧ (raiseJam s).psdo = s.psdo ∧
    (raiseJam s).mem = s.mem ∧ (raiseJam s).tru = s.tru ∧ (raiseJam s).csq = s.csq ∧ (raiseJam s).sar = s.sar ∧
    (raiseJam s).lmc = s.lmc ∧ (raiseJam s).dkc = s.dkc ∧ (raiseJam s).cdc = s.cdc ∧ (raiseJam s).crn = s.crn ∧
    (raiseJam s).shc = s.shc ∧ (raiseJam s).rmi = s.rmi ∧ (raiseJam s).lkc = s.lkc ∧
    (raiseJam s).pnp = { s.pnp with pend := { s.pnp.pend with jam := true } } :=
  ⟨rfl, rfl, rfl, rfl, rfl, rfl, rfl, rfl, rfl, rfl, rfl, rfl, rfl, rfl, rfl⟩

@[simp] theorem raiseShow_fields (s : State) :
    (raiseShow s).pending = s.pending ∧ (raiseShow s).pins = s.pins ∧ (raiseShow s).psdo = s.psdo ∧
    (raiseShow s).mem = s.mem ∧ (raiseShow s).tru = s.tru ∧ (raiseShow s).csq = s.csq ∧ (raiseShow s).sar = s.sar ∧
    (raiseShow s).lmc = s.lmc ∧ (raiseShow s).dkc = s.dkc ∧ (raiseShow s).cdc = s.cdc ∧ (raiseShow s).crn = s.crn ∧
    (raiseShow s).shc = s.shc ∧ (raiseShow s).rmi = s.rmi ∧ (raiseShow s).lkc = s.lkc ∧
    (raiseShow s).pnp = { s.pnp with pend := { s.pnp.pend with showChg := true } } :=
  ⟨rfl, rfl, rfl, rfl, rfl, rfl, rfl, rfl, rfl, rfl, rfl, rfl, rfl, rfl, rfl⟩

@[simp] theorem raiseChange_fields (s : State) :
    (raiseChange s).pending = s.pending ∧ (raiseChange s).pins = s.pins ∧ (raiseChange s).psdo = s.psdo ∧
    (raiseChange s).mem = s.mem ∧ (raiseChange s).tru = s.tru ∧ (raiseChange s).csq = s.csq ∧
    (raiseChange s).sar = s.sar ∧ (raiseChange s).lmc = s.lmc ∧ (raiseChange s).dkc = s.dkc ∧
    (raiseChange s).cdc = s.cdc ∧ (raiseChange s).crn = s.crn ∧ (raiseChange s).shc = s.shc ∧
    (raiseChange s).rmi = s.rmi ∧ (raiseChange s).lkc = s.lkc ∧
    (raiseChange s).pnp = { s.pnp with pend := { s.pnp.pend with change := true } } :=
  ⟨rfl, rfl, rfl, rfl, rfl, rfl, rfl, rfl, rfl, rfl, rfl, rfl, rfl, rfl, rfl⟩

@[simp] theorem powerEvent_fields (e : PowerEvent) (s : State) :
    (powerEvent e s).pending = s.pending ∧ (powerEvent e s).pins = s.pins ∧ (powerEvent e s).psdo = s.psdo ∧
    (powerEvent e s).mem = s.mem ∧ (powerEvent e s).tru = s.tru ∧ (powerEvent e s).csq = s.csq ∧
    (powerEvent e s).sar = s.sar ∧ (powerEvent e s).lmc = s.lmc ∧ (powerEvent e s).dkc = s.dkc ∧
    (powerEvent e s).cdc = s.cdc ∧ (powerEvent e s).crn = s.crn ∧ (powerEvent e s).shc = s.shc ∧
    (powerEvent e s).rmi = s.rmi ∧ (powerEvent e s).lkc = s.lkc ∧
    (powerEvent e s).pnp = { s.pnp with event := e, pend := { s.pnp.pend with power := true } } :=
  ⟨rfl, rfl, rfl, rfl, rfl, rfl, rfl, rfl, rfl, rfl, rfl, rfl, rfl, rfl, rfl⟩

@[simp] theorem idleZero_fields (s : State) :
    (idleZero s).pending = s.pending ∧ (idleZero s).pins = s.pins ∧ (idleZero s).psdo = s.psdo ∧
    (idleZero s).mem = s.mem ∧ (idleZero s).tru = s.tru ∧ (idleZero s).csq = s.csq ∧ (idleZero s).sar = s.sar ∧
    (idleZero s).lmc = s.lmc ∧ (idleZero s).dkc = s.dkc ∧ (idleZero s).cdc = s.cdc ∧ (idleZero s).crn = s.crn ∧
    (idleZero s).shc = s.shc ∧ (idleZero s).rmi = s.rmi ∧ (idleZero s).lkc = s.lkc ∧
    (idleZero s).pnp = { s.pnp with idleElapsed := 0, idleMs := 0 } :=
  ⟨rfl, rfl, rfl, rfl, rfl, rfl, rfl, rfl, rfl, rfl, rfl, rfl, rfl, rfl, rfl⟩

@[simp] theorem setPower_fields (p : Power) (s : State) :
    (setPower p s).pending = s.pending ∧ (setPower p s).pins = s.pins ∧ (setPower p s).psdo = s.psdo ∧
    (setPower p s).mem = s.mem ∧ (setPower p s).tru = s.tru ∧ (setPower p s).csq = s.csq ∧
    (setPower p s).sar = s.sar ∧ (setPower p s).lmc = s.lmc ∧ (setPower p s).dkc = s.dkc ∧
    (setPower p s).cdc = s.cdc ∧ (setPower p s).crn = s.crn ∧ (setPower p s).shc = s.shc ∧
    (setPower p s).rmi = s.rmi ∧ (setPower p s).lkc = s.lkc ∧ (setPower p s).pnp = { s.pnp with power := p } :=
  ⟨rfl, rfl, rfl, rfl, rfl, rfl, rfl, rfl, rfl, rfl, rfl, rfl, rfl, rfl, rfl⟩

@[simp] theorem writeResponse_fields (r : Response) (s : State) :
    (writeResponse r s).pending = s.pending ∧ (writeResponse r s).pins = s.pins ∧
    (writeResponse r s).psdo = [0xFF] ∧ (writeResponse r s).mem = s.mem ∧ (writeResponse r s).tru = s.tru ∧
    (writeResponse r s).csq = s.csq ∧ (writeResponse r s).sar = s.sar ∧ (writeResponse r s).lmc = s.lmc ∧
    (writeResponse r s).dkc = s.dkc ∧ (writeResponse r s).cdc = s.cdc ∧ (writeResponse r s).crn = s.crn ∧
    (writeResponse r s).shc = s.shc ∧ (writeResponse r s).rmi = s.rmi ∧ (writeResponse r s).lkc = s.lkc ∧
    (writeResponse r s).pnp = { s.pnp with resp := some r, readPos := 0 } :=
  ⟨rfl, rfl, rfl, rfl, rfl, rfl, rfl, rfl, rfl, rfl, rfl, rfl, rfl, rfl, rfl⟩

@[simp] theorem setGatePins_fields (a b c : Bool) (s : State) :
    (setGatePins a b c s).pending = s.pending ∧
    (setGatePins a b c s).pins = { s.pins with seat := a, clear := b, liftUp := c } ∧
    (setGatePins a b c s).psdo = s.psdo ∧ (setGatePins a b c s).mem = s.mem ∧ (setGatePins a b c s).tru = s.tru ∧
    (setGatePins a b c s).csq = s.csq ∧ (setGatePins a b c s).sar = s.sar ∧ (setGatePins a b c s).lmc = s.lmc ∧
    (setGatePins a b c s).dkc = s.dkc ∧ (setGatePins a b c s).cdc = s.cdc ∧ (setGatePins a b c s).crn = s.crn ∧
    (setGatePins a b c s).shc = s.shc ∧ (setGatePins a b c s).rmi = s.rmi ∧ (setGatePins a b c s).lkc = s.lkc ∧
    (setGatePins a b c s).pnp = s.pnp :=
  ⟨rfl, rfl, rfl, rfl, rfl, rfl, rfl, rfl, rfl, rfl, rfl, rfl, rfl, rfl, rfl⟩

@[simp] theorem setShcl_fields (v : Bool) (s : State) :
    (setShcl v s).pending = s.pending ∧ (setShcl v s).pins = { s.pins with shcl := v } ∧
    (setShcl v s).psdo = s.psdo ∧ (setShcl v s).mem = s.mem ∧ (setShcl v s).tru = s.tru ∧
    (setShcl v s).csq = s.csq ∧ (setShcl v s).sar = s.sar ∧ (setShcl v s).lmc = s.lmc ∧ (setShcl v s).dkc = s.dkc ∧
    (setShcl v s).cdc = s.cdc ∧ (setShcl v s).crn = s.crn ∧ (setShcl v s).shc = s.shc ∧ (setShcl v s).rmi = s.rmi ∧
    (setShcl v s).lkc = s.lkc ∧ (setShcl v s).pnp = s.pnp :=
  ⟨rfl, rfl, rfl, rfl, rfl, rfl, rfl, rfl, rfl, rfl, rfl, rfl, rfl, rfl, rfl⟩

@[simp] theorem setLcur_fields (v : Bool) (s : State) :
    (setLcur v s).pending = s.pending ∧ (setLcur v s).pins = { s.pins with lcur := v } ∧
    (setLcur v s).psdo = s.psdo ∧ (setLcur v s).mem = s.mem ∧ (setLcur v s).tru = s.tru ∧
    (setLcur v s).csq = s.csq ∧ (setLcur v s).sar = s.sar ∧ (setLcur v s).lmc = s.lmc ∧ (setLcur v s).dkc = s.dkc ∧
    (setLcur v s).cdc = s.cdc ∧ (setLcur v s).crn = s.crn ∧ (setLcur v s).shc = s.shc ∧ (setLcur v s).rmi = s.rmi ∧
    (setLcur v s).lkc = s.lkc ∧ (setLcur v s).pnp = s.pnp :=
  ⟨rfl, rfl, rfl, rfl, rfl, rfl, rfl, rfl, rfl, rfl, rfl, rfl, rfl, rfl, rfl⟩

@[simp] theorem setDeckPins_fields (a b : Bool) (s : State) :
    (setDeckPins a b s).pending = s.pending ∧
    (setDeckPins a b s).pins = { s.pins with running := a, tapeEnd := b } ∧ (setDeckPins a b s).psdo = s.psdo ∧
    (setDeckPins a b s).mem = s.mem ∧ (setDeckPins a b s).tru = s.tru ∧ (setDeckPins a b s).csq = s.csq ∧
    (setDeckPins a b s).sar = s.sar ∧ (setDeckPins a b s).lmc = s.lmc ∧ (setDeckPins a b s).dkc = s.dkc ∧
    (setDeckPins a b s).cdc = s.cdc ∧ (setDeckPins a b s).crn = s.crn ∧ (setDeckPins a b s).shc = s.shc ∧
    (setDeckPins a b s).rmi = s.rmi ∧ (setDeckPins a b s).lkc = s.lkc ∧ (setDeckPins a b s).pnp = s.pnp :=
  ⟨rfl, rfl, rfl, rfl, rfl, rfl, rfl, rfl, rfl, rfl, rfl, rfl, rfl, rfl, rfl⟩

@[simp] theorem setStopPins_fields (a b : Bool) (s : State) :
    (setStopPins a b s).pending = s.pending ∧ (setStopPins a b s).pins = { s.pins with fsi := a, fso := b } ∧
    (setStopPins a b s).psdo = s.psdo ∧ (setStopPins a b s).mem = s.mem ∧ (setStopPins a b s).tru = s.tru ∧
    (setStopPins a b s).csq = s.csq ∧ (setStopPins a b s).sar = s.sar ∧ (setStopPins a b s).lmc = s.lmc ∧
    (setStopPins a b s).dkc = s.dkc ∧ (setStopPins a b s).cdc = s.cdc ∧ (setStopPins a b s).crn = s.crn ∧
    (setStopPins a b s).shc = s.shc ∧ (setStopPins a b s).rmi = s.rmi ∧ (setStopPins a b s).lkc = s.lkc ∧
    (setStopPins a b s).pnp = s.pnp :=
  ⟨rfl, rfl, rfl, rfl, rfl, rfl, rfl, rfl, rfl, rfl, rfl, rfl, rfl, rfl, rfl⟩

@[simp] theorem setLinePin_fields (l : Line) (v : Bool) (s : State) :
    (setLinePin l v s).pending = s.pending ∧ (setLinePin l v s).pins = s.pins.setLine l v ∧
    (setLinePin l v s).psdo = s.psdo ∧ (setLinePin l v s).mem = s.mem ∧ (setLinePin l v s).tru = s.tru ∧
    (setLinePin l v s).csq = s.csq ∧ (setLinePin l v s).sar = s.sar ∧ (setLinePin l v s).lmc = s.lmc ∧
    (setLinePin l v s).dkc = s.dkc ∧ (setLinePin l v s).cdc = s.cdc ∧ (setLinePin l v s).crn = s.crn ∧
    (setLinePin l v s).shc = s.shc ∧ (setLinePin l v s).rmi = s.rmi ∧ (setLinePin l v s).lkc = s.lkc ∧
    (setLinePin l v s).pnp = s.pnp :=
  ⟨rfl, rfl, rfl, rfl, rfl, rfl, rfl, rfl, rfl, rfl, rfl, rfl, rfl, rfl, rfl⟩

@[simp] theorem setTprs_fields (v : Bool) (s : State) :
    (setTprs v s).pending = s.pending ∧ (setTprs v s).pins = { s.pins with tprs := v } ∧
    (setTprs v s).psdo = s.psdo ∧ (setTprs v s).mem = s.mem ∧
    (setTprs v s).tru = { s.tru with readingMs := if v then Config.trayStableMs else 0 } ∧
    (setTprs v s).csq = s.csq ∧ (setTprs v s).sar = s.sar ∧ (setTprs v s).lmc = s.lmc ∧ (setTprs v s).dkc = s.dkc ∧
    (setTprs v s).cdc = s.cdc ∧ (setTprs v s).crn = s.crn ∧ (setTprs v s).shc = s.shc ∧ (setTprs v s).rmi = s.rmi ∧
    (setTprs v s).lkc = s.lkc ∧ (setTprs v s).pnp = s.pnp :=
  ⟨rfl, rfl, rfl, rfl, rfl, rfl, rfl, rfl, rfl, rfl, rfl, rfl, rfl, rfl, rfl⟩

end Sys2Proof.Machine
end

