-- ==== Sys2Proof/Laws/Blocks.lean ====
section
/-! SUPPORT. Frame laws of LMC's and LKC's block operations: the fields that each one leaves as they stand. -/

namespace Sys2Proof.Machine

@[simp] theorem Lmc.clearGuard_frame (l : Lmc) :
    (l.clearGuard).lamp = l.lamp ∧ (l.clearGuard).ramp = l.ramp ∧ (l.clearGuard).showLevel = l.showLevel ∧
    (l.clearGuard).claim = l.claim ∧ (l.clearGuard).dim = l.dim ∧ (l.clearGuard).owed = l.owed ∧
    (l.clearGuard).restrike = l.restrike ∧ (l.clearGuard).deferred = l.deferred ∧ (l.clearGuard).trip = l.trip ∧
    (l.clearGuard).derate = l.derate ∧ (l.clearGuard).preheatMs = l.preheatMs ∧
    (l.clearGuard).coolLeft = l.coolLeft ∧ (l.clearGuard).coolMs = l.coolMs ∧
    (l.clearGuard).coolRunning = l.coolRunning ∧ (l.clearGuard).coolDone = l.coolDone ∧
    (l.clearGuard).openMs = l.openMs ∧ (l.clearGuard).temp = l.temp ∧ (l.clearGuard).sampleMs = l.sampleMs ∧
    (l.clearGuard).answered = l.answered ∧ (l.clearGuard).fan = l.fan ∧ (l.clearGuard).fanStall = l.fanStall ∧
    (l.clearGuard).stallMs = l.stallMs ∧ (l.clearGuard).hours = l.hours ∧ (l.clearGuard).part = l.part ∧
    (l.clearGuard).partMs = l.partMs ∧ (l.clearGuard).cfg = l.cfg := by
  first | (simp [Lmc.clearGuard]; done) | (unfold Lmc.clearGuard; (try dsimp only); (repeat' split) <;> simp_all)

@[simp] theorem Lmc.darken_frame (st : Lamp) (l : Lmc) :
    (l.darken st).showLevel = l.showLevel ∧ (l.darken st).claim = l.claim ∧ (l.darken st).dim = l.dim ∧
    (l.darken st).owed = l.owed ∧ (l.darken st).restrike = l.restrike ∧ (l.darken st).deferred = l.deferred ∧
    (l.darken st).trip = l.trip ∧ (l.darken st).derate = l.derate ∧ (l.darken st).coolLeft = l.coolLeft ∧
    (l.darken st).coolMs = l.coolMs ∧ (l.darken st).coolRunning = l.coolRunning ∧
    (l.darken st).coolDone = l.coolDone ∧ (l.darken st).temp = l.temp ∧ (l.darken st).sampleMs = l.sampleMs ∧
    (l.darken st).answered = l.answered ∧ (l.darken st).fan = l.fan ∧ (l.darken st).fanStall = l.fanStall ∧
    (l.darken st).stallMs = l.stallMs ∧ (l.darken st).hours = l.hours ∧ (l.darken st).part = l.part ∧
    (l.darken st).partMs = l.partMs ∧ (l.darken st).cfg = l.cfg := by
  first | (simp [Lmc.darken]; done) | (unfold Lmc.darken; (try dsimp only); (repeat' split) <;> simp_all)

@[simp] theorem Lmc.startCooling_frame (l : Lmc) :
    (l.startCooling).lamp = l.lamp ∧ (l.startCooling).ramp = l.ramp ∧ (l.startCooling).showLevel = l.showLevel ∧
    (l.startCooling).claim = l.claim ∧ (l.startCooling).dim = l.dim ∧ (l.startCooling).owed = l.owed ∧
    (l.startCooling).restrike = l.restrike ∧ (l.startCooling).deferred = l.deferred ∧
    (l.startCooling).trip = l.trip ∧ (l.startCooling).derate = l.derate ∧ (l.startCooling).guardCap = l.guardCap ∧
    (l.startCooling).guardElapsed = l.guardElapsed ∧ (l.startCooling).guardMs = l.guardMs ∧
    (l.startCooling).preheatMs = l.preheatMs ∧ (l.startCooling).coolDone = l.coolDone ∧
    (l.startCooling).openMs = l.openMs ∧ (l.startCooling).temp = l.temp ∧ (l.startCooling).sampleMs = l.sampleMs ∧
    (l.startCooling).answered = l.answered ∧ (l.startCooling).fan = l.fan ∧
    (l.startCooling).fanStall = l.fanStall ∧ (l.startCooling).stallMs = l.stallMs ∧
    (l.startCooling).hours = l.hours ∧ (l.startCooling).part = l.part ∧ (l.startCooling).partMs = l.partMs ∧
    (l.startCooling).cfg = l.cfg := by
  first | (simp [Lmc.startCooling]; done) | (unfold Lmc.startCooling; (try dsimp only); (repeat' split) <;> simp_all)

@[simp] theorem Lmc.stopCooling_frame (l : Lmc) :
    (l.stopCooling).lamp = l.lamp ∧ (l.stopCooling).ramp = l.ramp ∧ (l.stopCooling).showLevel = l.showLevel ∧
    (l.stopCooling).claim = l.claim ∧ (l.stopCooling).dim = l.dim ∧ (l.stopCooling).owed = l.owed ∧
    (l.stopCooling).restrike = l.restrike ∧ (l.stopCooling).deferred = l.deferred ∧ (l.stopCooling).trip = l.trip ∧
    (l.stopCooling).derate = l.derate ∧ (l.stopCooling).guardCap = l.guardCap ∧
    (l.stopCooling).guardElapsed = l.guardElapsed ∧ (l.stopCooling).guardMs = l.guardMs ∧
    (l.stopCooling).preheatMs = l.preheatMs ∧ (l.stopCooling).coolDone = l.coolDone ∧
    (l.stopCooling).openMs = l.openMs ∧ (l.stopCooling).temp = l.temp ∧ (l.stopCooling).sampleMs = l.sampleMs ∧
    (l.stopCooling).answered = l.answered ∧ (l.stopCooling).fan = l.fan ∧ (l.stopCooling).fanStall = l.fanStall ∧
    (l.stopCooling).stallMs = l.stallMs ∧ (l.stopCooling).hours = l.hours ∧ (l.stopCooling).part = l.part ∧
    (l.stopCooling).partMs = l.partMs ∧ (l.stopCooling).cfg = l.cfg := by
  first | (simp [Lmc.stopCooling]; done) | (unfold Lmc.stopCooling; (try dsimp only); (repeat' split) <;> simp_all)

@[simp] theorem Lmc.clearMarks_frame (l : Lmc) :
    (l.clearMarks).lamp = l.lamp ∧ (l.clearMarks).ramp = l.ramp ∧ (l.clearMarks).showLevel = l.showLevel ∧
    (l.clearMarks).claim = l.claim ∧ (l.clearMarks).dim = l.dim ∧ (l.clearMarks).owed = l.owed ∧
    (l.clearMarks).trip = l.trip ∧ (l.clearMarks).derate = l.derate ∧ (l.clearMarks).guardCap = l.guardCap ∧
    (l.clearMarks).guardElapsed = l.guardElapsed ∧ (l.clearMarks).guardMs = l.guardMs ∧
    (l.clearMarks).preheatMs = l.preheatMs ∧ (l.clearMarks).coolLeft = l.coolLeft ∧
    (l.clearMarks).coolMs = l.coolMs ∧ (l.clearMarks).coolRunning = l.coolRunning ∧
    (l.clearMarks).coolDone = l.coolDone ∧ (l.clearMarks).openMs = l.openMs ∧ (l.clearMarks).temp = l.temp ∧
    (l.clearMarks).sampleMs = l.sampleMs ∧ (l.clearMarks).answered = l.answered ∧ (l.clearMarks).fan = l.fan ∧
    (l.clearMarks).fanStall = l.fanStall ∧ (l.clearMarks).stallMs = l.stallMs ∧ (l.clearMarks).hours = l.hours ∧
    (l.clearMarks).part = l.part ∧ (l.clearMarks).partMs = l.partMs ∧ (l.clearMarks).cfg = l.cfg := by
  first | (simp [Lmc.clearMarks]; done) | (unfold Lmc.clearMarks; (try dsimp only); (repeat' split) <;> simp_all)

@[simp] theorem Lmc.rederate_frame (l : Lmc) :
    (l.rederate).lamp = l.lamp ∧ (l.rederate).ramp = l.ramp ∧ (l.rederate).showLevel = l.showLevel ∧
    (l.rederate).claim = l.claim ∧ (l.rederate).dim = l.dim ∧ (l.rederate).owed = l.owed ∧
    (l.rederate).restrike = l.restrike ∧ (l.rederate).deferred = l.deferred ∧ (l.rederate).trip = l.trip ∧
    (l.rederate).guardCap = l.guardCap ∧ (l.rederate).guardElapsed = l.guardElapsed ∧
    (l.rederate).guardMs = l.guardMs ∧ (l.rederate).preheatMs = l.preheatMs ∧ (l.rederate).coolLeft = l.coolLeft ∧
    (l.rederate).coolMs = l.coolMs ∧ (l.rederate).coolRunning = l.coolRunning ∧
    (l.rederate).coolDone = l.coolDone ∧ (l.rederate).openMs = l.openMs ∧ (l.rederate).temp = l.temp ∧
    (l.rederate).sampleMs = l.sampleMs ∧ (l.rederate).answered = l.answered ∧ (l.rederate).fan = l.fan ∧
    (l.rederate).fanStall = l.fanStall ∧ (l.rederate).stallMs = l.stallMs ∧ (l.rederate).hours = l.hours ∧
    (l.rederate).part = l.part ∧ (l.rederate).partMs = l.partMs ∧ (l.rederate).cfg = l.cfg := by
  first | (simp [Lmc.rederate]; done) | (unfold Lmc.rederate; (try dsimp only); (repeat' split) <;> simp_all)

@[simp] theorem Lmc.markDim_frame (l : Lmc) :
    (l.markDim).showLevel = l.showLevel ∧ (l.markDim).claim = l.claim ∧ (l.markDim).owed = l.owed ∧
    (l.markDim).restrike = l.restrike ∧ (l.markDim).trip = l.trip ∧ (l.markDim).derate = l.derate ∧
    (l.markDim).coolLeft = l.coolLeft ∧ (l.markDim).coolMs = l.coolMs ∧ (l.markDim).coolRunning = l.coolRunning ∧
    (l.markDim).coolDone = l.coolDone ∧ (l.markDim).temp = l.temp ∧ (l.markDim).sampleMs = l.sampleMs ∧
    (l.markDim).answered = l.answered ∧ (l.markDim).fan = l.fan ∧ (l.markDim).fanStall = l.fanStall ∧
    (l.markDim).stallMs = l.stallMs ∧ (l.markDim).hours = l.hours ∧ (l.markDim).part = l.part ∧
    (l.markDim).partMs = l.partMs ∧ (l.markDim).cfg = l.cfg := by
  first | (simp [Lmc.markDim]; done) | (unfold Lmc.markDim; (try dsimp only); (repeat' split) <;> simp_all)

@[simp] theorem Lmc.fadeClaim_frame (f : Nat) (l : Lmc) :
    (l.fadeClaim f).lamp = l.lamp ∧ (l.fadeClaim f).showLevel = l.showLevel ∧ (l.fadeClaim f).dim = l.dim ∧
    (l.fadeClaim f).owed = l.owed ∧ (l.fadeClaim f).restrike = l.restrike ∧ (l.fadeClaim f).deferred = l.deferred ∧
    (l.fadeClaim f).trip = l.trip ∧ (l.fadeClaim f).derate = l.derate ∧ (l.fadeClaim f).guardCap = l.guardCap ∧
    (l.fadeClaim f).guardElapsed = l.guardElapsed ∧ (l.fadeClaim f).guardMs = l.guardMs ∧
    (l.fadeClaim f).preheatMs = l.preheatMs ∧ (l.fadeClaim f).coolLeft = l.coolLeft ∧
    (l.fadeClaim f).coolMs = l.coolMs ∧ (l.fadeClaim f).coolRunning = l.coolRunning ∧
    (l.fadeClaim f).coolDone = l.coolDone ∧ (l.fadeClaim f).openMs = l.openMs ∧ (l.fadeClaim f).temp = l.temp ∧
    (l.fadeClaim f).sampleMs = l.sampleMs ∧ (l.fadeClaim f).answered = l.answered ∧ (l.fadeClaim f).fan = l.fan ∧
    (l.fadeClaim f).fanStall = l.fanStall ∧ (l.fadeClaim f).stallMs = l.stallMs ∧ (l.fadeClaim f).hours = l.hours ∧
    (l.fadeClaim f).part = l.part ∧ (l.fadeClaim f).partMs = l.partMs ∧ (l.fadeClaim f).cfg = l.cfg := by
  first | (simp [Lmc.fadeClaim]; done) | (unfold Lmc.fadeClaim; (try dsimp only); (repeat' split) <;> simp_all)

@[simp] theorem Lmc.holdClaim_frame (l : Lmc) :
    (l.holdClaim).lamp = l.lamp ∧ (l.holdClaim).ramp = l.ramp ∧ (l.holdClaim).showLevel = l.showLevel ∧
    (l.holdClaim).dim = l.dim ∧ (l.holdClaim).owed = l.owed ∧ (l.holdClaim).restrike = l.restrike ∧
    (l.holdClaim).deferred = l.deferred ∧ (l.holdClaim).trip = l.trip ∧ (l.holdClaim).derate = l.derate ∧
    (l.holdClaim).guardCap = l.guardCap ∧ (l.holdClaim).guardElapsed = l.guardElapsed ∧
    (l.holdClaim).guardMs = l.guardMs ∧ (l.holdClaim).preheatMs = l.preheatMs ∧
    (l.holdClaim).coolLeft = l.coolLeft ∧ (l.holdClaim).coolMs = l.coolMs ∧
    (l.holdClaim).coolRunning = l.coolRunning ∧ (l.holdClaim).coolDone = l.coolDone ∧
    (l.holdClaim).openMs = l.openMs ∧ (l.holdClaim).temp = l.temp ∧ (l.holdClaim).sampleMs = l.sampleMs ∧
    (l.holdClaim).answered = l.answered ∧ (l.holdClaim).fan = l.fan ∧ (l.holdClaim).fanStall = l.fanStall ∧
    (l.holdClaim).stallMs = l.stallMs ∧ (l.holdClaim).hours = l.hours ∧ (l.holdClaim).part = l.part ∧
    (l.holdClaim).partMs = l.partMs ∧ (l.holdClaim).cfg = l.cfg := by
  first | (simp [Lmc.holdClaim]; done) | (unfold Lmc.holdClaim; (try dsimp only); (repeat' split) <;> simp_all)

@[simp] theorem Lmc.reveal_frame (f : Nat) (l : Lmc) :
    (l.reveal f).lamp = l.lamp ∧ (l.reveal f).showLevel = l.showLevel ∧ (l.reveal f).dim = l.dim ∧
    (l.reveal f).owed = l.owed ∧ (l.reveal f).restrike = l.restrike ∧ (l.reveal f).deferred = l.deferred ∧
    (l.reveal f).trip = l.trip ∧ (l.reveal f).derate = l.derate ∧ (l.reveal f).guardCap = l.guardCap ∧
    (l.reveal f).guardElapsed = l.guardElapsed ∧ (l.reveal f).guardMs = l.guardMs ∧
    (l.reveal f).preheatMs = l.preheatMs ∧ (l.reveal f).coolLeft = l.coolLeft ∧ (l.reveal f).coolMs = l.coolMs ∧
    (l.reveal f).coolRunning = l.coolRunning ∧ (l.reveal f).coolDone = l.coolDone ∧
    (l.reveal f).openMs = l.openMs ∧ (l.reveal f).temp = l.temp ∧ (l.reveal f).sampleMs = l.sampleMs ∧
    (l.reveal f).answered = l.answered ∧ (l.reveal f).fan = l.fan ∧ (l.reveal f).fanStall = l.fanStall ∧
    (l.reveal f).stallMs = l.stallMs ∧ (l.reveal f).hours = l.hours ∧ (l.reveal f).part = l.part ∧
    (l.reveal f).partMs = l.partMs ∧ (l.reveal f).cfg = l.cfg := by
  first | (simp [Lmc.reveal]; done) | (unfold Lmc.reveal; (try dsimp only); (repeat' split) <;> simp_all)

@[simp] theorem Lmc.applySettings_frame (v : LampSettings) (l : Lmc) :
    (l.applySettings v).lamp = l.lamp ∧ (l.applySettings v).ramp = l.ramp ∧
    (l.applySettings v).showLevel = l.showLevel ∧ (l.applySettings v).claim = l.claim ∧
    (l.applySettings v).dim = l.dim ∧ (l.applySettings v).owed = l.owed ∧
    (l.applySettings v).restrike = l.restrike ∧ (l.applySettings v).deferred = l.deferred ∧
    (l.applySettings v).trip = l.trip ∧ (l.applySettings v).preheatMs = l.preheatMs ∧
    (l.applySettings v).coolLeft = l.coolLeft ∧ (l.applySettings v).coolMs = l.coolMs ∧
    (l.applySettings v).coolRunning = l.coolRunning ∧ (l.applySettings v).coolDone = l.coolDone ∧
    (l.applySettings v).openMs = l.openMs ∧ (l.applySettings v).temp = l.temp ∧
    (l.applySettings v).sampleMs = l.sampleMs ∧ (l.applySettings v).answered = l.answered ∧
    (l.applySettings v).fan = l.fan ∧ (l.applySettings v).fanStall = l.fanStall ∧
    (l.applySettings v).stallMs = l.stallMs ∧ (l.applySettings v).hours = l.hours ∧
    (l.applySettings v).part = l.part ∧ (l.applySettings v).partMs = l.partMs := by
  first | (simp [Lmc.applySettings]; done) | (unfold Lmc.applySettings; (try dsimp only); (repeat' split) <;> simp_all)

@[simp] theorem Lkc.busy_frame (n : Nat) (l : Lkc) :
    (l.busy n).node = l.node ∧ (l.busy n).lock = l.lock ∧ (l.busy n).groups = l.groups ∧
    (l.busy n).enable = l.enable ∧ (l.busy n).cfg = l.cfg ∧ (l.busy n).rx = l.rx ∧ (l.busy n).txq = l.txq ∧
    (l.busy n).retry = l.retry ∧ (l.busy n).rxbuf = l.rxbuf ∧ (l.busy n).giveup = l.giveup ∧
    (l.busy n).overflow = l.overflow ∧ (l.busy n).rxOverflow = l.rxOverflow ∧ (l.busy n).rxError = l.rxError ∧
    (l.busy n).replyLost = l.replyLost ∧ (l.busy n).sendUs = l.sendUs ∧ (l.busy n).looped = l.looped := by
  first | (simp [Lkc.busy]; done) | (unfold Lkc.busy; (try dsimp only); (repeat' split) <;> simp_all)

@[simp] theorem Lkc.listen_frame (l : Lkc) :
    (l.listen).node = l.node ∧ (l.listen).lock = l.lock ∧ (l.listen).groups = l.groups ∧
    (l.listen).enable = l.enable ∧ (l.listen).cfg = l.cfg ∧ (l.listen).txq = l.txq ∧ (l.listen).access = l.access ∧
    (l.listen).retry = l.retry ∧ (l.listen).rxbuf = l.rxbuf ∧ (l.listen).giveup = l.giveup ∧
    (l.listen).overflow = l.overflow ∧ (l.listen).rxOverflow = l.rxOverflow ∧ (l.listen).rxError = l.rxError ∧
    (l.listen).replyLost = l.replyLost ∧ (l.listen).sendUs = l.sendUs ∧ (l.listen).looped = l.looped := by
  first | (simp [Lkc.listen]; done) | (unfold Lkc.listen; (try dsimp only); (repeat' split) <;> simp_all)

@[simp] theorem Lkc.seek_frame (l : Lkc) :
    (l.seek).node = l.node ∧ (l.seek).lock = l.lock ∧ (l.seek).groups = l.groups ∧ (l.seek).enable = l.enable ∧
    (l.seek).cfg = l.cfg ∧ (l.seek).lineIdle = l.lineIdle ∧ (l.seek).rx = l.rx ∧ (l.seek).txq = l.txq ∧
    (l.seek).retry = l.retry ∧ (l.seek).rxbuf = l.rxbuf ∧ (l.seek).giveup = l.giveup ∧
    (l.seek).overflow = l.overflow ∧ (l.seek).rxOverflow = l.rxOverflow ∧ (l.seek).rxError = l.rxError ∧
    (l.seek).replyLost = l.replyLost ∧ (l.seek).idleInUs = l.idleInUs ∧ (l.seek).idleForUs = l.idleForUs ∧
    (l.seek).sendUs = l.sendUs ∧ (l.seek).looped = l.looped := by
  first | (simp [Lkc.seek]; done) | (unfold Lkc.seek; (try dsimp only); (repeat' split) <;> simp_all)

@[simp] theorem Lkc.enqueue_frame (d : Byte) (k : Byte) (p : List Byte) (l : Lkc) :
    (l.enqueue d k p).node = l.node ∧ (l.enqueue d k p).lock = l.lock ∧ (l.enqueue d k p).groups = l.groups ∧
    (l.enqueue d k p).enable = l.enable ∧ (l.enqueue d k p).cfg = l.cfg ∧ (l.enqueue d k p).lineIdle = l.lineIdle ∧
    (l.enqueue d k p).rx = l.rx ∧ (l.enqueue d k p).retry = l.retry ∧ (l.enqueue d k p).rxbuf = l.rxbuf ∧
    (l.enqueue d k p).giveup = l.giveup ∧ (l.enqueue d k p).overflow = l.overflow ∧
    (l.enqueue d k p).rxOverflow = l.rxOverflow ∧ (l.enqueue d k p).rxError = l.rxError ∧
    (l.enqueue d k p).replyLost = l.replyLost ∧ (l.enqueue d k p).idleInUs = l.idleInUs ∧
    (l.enqueue d k p).idleForUs = l.idleForUs ∧ (l.enqueue d k p).sendUs = l.sendUs ∧
    (l.enqueue d k p).looped = l.looped := by
  first | (simp [Lkc.enqueue]; done) | (unfold Lkc.enqueue; (try dsimp only); (repeat' split) <;> simp_all)

@[simp] theorem Lkc.nextFrame_frame (l : Lkc) :
    (l.nextFrame).node = l.node ∧ (l.nextFrame).lock = l.lock ∧ (l.nextFrame).groups = l.groups ∧
    (l.nextFrame).enable = l.enable ∧ (l.nextFrame).cfg = l.cfg ∧ (l.nextFrame).lineIdle = l.lineIdle ∧
    (l.nextFrame).rx = l.rx ∧ (l.nextFrame).rxbuf = l.rxbuf ∧ (l.nextFrame).giveup = l.giveup ∧
    (l.nextFrame).overflow = l.overflow ∧ (l.nextFrame).rxOverflow = l.rxOverflow ∧
    (l.nextFrame).rxError = l.rxError ∧ (l.nextFrame).replyLost = l.replyLost ∧
    (l.nextFrame).idleInUs = l.idleInUs ∧ (l.nextFrame).idleForUs = l.idleForUs ∧
    (l.nextFrame).looped = l.looped := by
  first | (simp [Lkc.nextFrame]; done) | (unfold Lkc.nextFrame; (try dsimp only); (repeat' split) <;> simp_all)

@[simp] theorem Lkc.flush_frame (l : Lkc) :
    (l.flush).node = l.node ∧ (l.flush).lock = l.lock ∧ (l.flush).groups = l.groups ∧ (l.flush).enable = l.enable ∧
    (l.flush).cfg = l.cfg ∧ (l.flush).lineIdle = l.lineIdle ∧ (l.flush).rx = l.rx ∧ (l.flush).rxbuf = l.rxbuf ∧
    (l.flush).giveup = l.giveup ∧ (l.flush).overflow = l.overflow ∧ (l.flush).rxOverflow = l.rxOverflow ∧
    (l.flush).rxError = l.rxError ∧ (l.flush).replyLost = l.replyLost ∧ (l.flush).idleInUs = l.idleInUs ∧
    (l.flush).idleForUs = l.idleForUs := by
  first | (simp [Lkc.flush]; done) | (unfold Lkc.flush; (try dsimp only); (repeat' split) <;> simp_all)

@[simp] theorem Lkc.store_frame (e : RxEntry) (l : Lkc) :
    (l.store e).node = l.node ∧ (l.store e).lock = l.lock ∧ (l.store e).groups = l.groups ∧
    (l.store e).enable = l.enable ∧ (l.store e).cfg = l.cfg ∧ (l.store e).lineIdle = l.lineIdle ∧
    (l.store e).rx = l.rx ∧ (l.store e).txq = l.txq ∧ (l.store e).access = l.access ∧ (l.store e).retry = l.retry ∧
    (l.store e).giveup = l.giveup ∧ (l.store e).overflow = l.overflow ∧ (l.store e).rxError = l.rxError ∧
    (l.store e).replyLost = l.replyLost ∧ (l.store e).idleInUs = l.idleInUs ∧ (l.store e).idleForUs = l.idleForUs ∧
    (l.store e).sendUs = l.sendUs ∧ (l.store e).looped = l.looped := by
  first | (simp [Lkc.store]; done) | (unfold Lkc.store; (try dsimp only); (repeat' split) <;> simp_all)

@[simp] theorem Lkc.badFrame_frame (l : Lkc) :
    (l.badFrame).node = l.node ∧ (l.badFrame).lock = l.lock ∧ (l.badFrame).groups = l.groups ∧
    (l.badFrame).enable = l.enable ∧ (l.badFrame).cfg = l.cfg ∧ (l.badFrame).lineIdle = l.lineIdle ∧
    (l.badFrame).txq = l.txq ∧ (l.badFrame).access = l.access ∧ (l.badFrame).retry = l.retry ∧
    (l.badFrame).rxbuf = l.rxbuf ∧ (l.badFrame).giveup = l.giveup ∧ (l.badFrame).overflow = l.overflow ∧
    (l.badFrame).rxOverflow = l.rxOverflow ∧ (l.badFrame).replyLost = l.replyLost ∧
    (l.badFrame).idleInUs = l.idleInUs ∧ (l.badFrame).idleForUs = l.idleForUs ∧ (l.badFrame).sendUs = l.sendUs ∧
    (l.badFrame).looped = l.looped := by
  first | (simp [Lkc.badFrame]; done) | (unfold Lkc.badFrame; (try dsimp only); (repeat' split) <;> simp_all)

@[simp] theorem Lkc.frameTaken_frame (l : Lkc) :
    (l.frameTaken).node = l.node ∧ (l.frameTaken).lock = l.lock ∧ (l.frameTaken).groups = l.groups ∧
    (l.frameTaken).enable = l.enable ∧ (l.frameTaken).cfg = l.cfg ∧ (l.frameTaken).txq = l.txq ∧
    (l.frameTaken).retry = l.retry ∧ (l.frameTaken).rxbuf = l.rxbuf ∧ (l.frameTaken).giveup = l.giveup ∧
    (l.frameTaken).overflow = l.overflow ∧ (l.frameTaken).rxOverflow = l.rxOverflow ∧
    (l.frameTaken).rxError = l.rxError ∧ (l.frameTaken).replyLost = l.replyLost ∧
    (l.frameTaken).sendUs = l.sendUs ∧ (l.frameTaken).looped = l.looped := by
  first | (simp [Lkc.frameTaken]; done) | (unfold Lkc.frameTaken; (try dsimp only); (repeat' split) <;> simp_all)

@[simp] theorem Lkc.hearBad_frame (l : Lkc) :
    (l.hearBad).node = l.node ∧ (l.hearBad).lock = l.lock ∧ (l.hearBad).groups = l.groups ∧
    (l.hearBad).enable = l.enable ∧ (l.hearBad).cfg = l.cfg ∧ (l.hearBad).txq = l.txq ∧
    (l.hearBad).retry = l.retry ∧ (l.hearBad).rxbuf = l.rxbuf ∧ (l.hearBad).giveup = l.giveup ∧
    (l.hearBad).overflow = l.overflow ∧ (l.hearBad).rxOverflow = l.rxOverflow ∧
    (l.hearBad).replyLost = l.replyLost ∧ (l.hearBad).sendUs = l.sendUs ∧ (l.hearBad).looped = l.looped := by
  (unfold Lkc.hearBad; split <;> simp)

@[simp] theorem Lkc.becomeIdle_frame (l : Lkc) :
    (l.becomeIdle).node = l.node ∧ (l.becomeIdle).lock = l.lock ∧ (l.becomeIdle).groups = l.groups ∧
    (l.becomeIdle).enable = l.enable ∧ (l.becomeIdle).cfg = l.cfg ∧ (l.becomeIdle).txq = l.txq ∧
    (l.becomeIdle).retry = l.retry ∧ (l.becomeIdle).rxbuf = l.rxbuf ∧ (l.becomeIdle).giveup = l.giveup ∧
    (l.becomeIdle).overflow = l.overflow ∧ (l.becomeIdle).rxOverflow = l.rxOverflow ∧
    (l.becomeIdle).replyLost = l.replyLost ∧ (l.becomeIdle).sendUs = l.sendUs ∧
    (l.becomeIdle).looped = l.looped := by
  first | (simp [Lkc.becomeIdle]; done) | (unfold Lkc.becomeIdle; (try dsimp only); (repeat' split) <;> simp_all)

@[simp] theorem Lkc.takeLooped_frame (l : Lkc) :
    (l.takeLooped).node = l.node ∧ (l.takeLooped).lock = l.lock ∧ (l.takeLooped).groups = l.groups ∧
    (l.takeLooped).enable = l.enable ∧ (l.takeLooped).cfg = l.cfg ∧ (l.takeLooped).lineIdle = l.lineIdle ∧
    (l.takeLooped).txq = l.txq ∧ (l.takeLooped).access = l.access ∧ (l.takeLooped).retry = l.retry ∧
    (l.takeLooped).rxbuf = l.rxbuf ∧ (l.takeLooped).giveup = l.giveup ∧ (l.takeLooped).overflow = l.overflow ∧
    (l.takeLooped).rxOverflow = l.rxOverflow ∧ (l.takeLooped).rxError = l.rxError ∧
    (l.takeLooped).replyLost = l.replyLost ∧ (l.takeLooped).idleInUs = l.idleInUs ∧
    (l.takeLooped).idleForUs = l.idleForUs ∧ (l.takeLooped).sendUs = l.sendUs := by
  first | (simp [Lkc.takeLooped]; done) | (unfold Lkc.takeLooped; (try dsimp only); (repeat' split) <;> simp_all)

@[simp] theorem Lkc.startSend_frame (l : Lkc) :
    (l.startSend).node = l.node ∧ (l.startSend).lock = l.lock ∧ (l.startSend).groups = l.groups ∧
    (l.startSend).enable = l.enable ∧ (l.startSend).cfg = l.cfg ∧ (l.startSend).retry = l.retry ∧
    (l.startSend).rxbuf = l.rxbuf ∧ (l.startSend).giveup = l.giveup ∧ (l.startSend).overflow = l.overflow ∧
    (l.startSend).rxOverflow = l.rxOverflow ∧ (l.startSend).rxError = l.rxError ∧
    (l.startSend).replyLost = l.replyLost ∧ (l.startSend).looped = l.looped := by
  first | (simp [Lkc.startSend]; done) | (unfold Lkc.startSend; (try dsimp only); (repeat' split) <;> simp_all)

@[simp] theorem Lkc.sent_frame (l : Lkc) :
    (l.sent).node = l.node ∧ (l.sent).lock = l.lock ∧ (l.sent).groups = l.groups ∧ (l.sent).enable = l.enable ∧
    (l.sent).cfg = l.cfg ∧ (l.sent).rxbuf = l.rxbuf ∧ (l.sent).giveup = l.giveup ∧ (l.sent).overflow = l.overflow ∧
    (l.sent).rxOverflow = l.rxOverflow ∧ (l.sent).rxError = l.rxError ∧ (l.sent).replyLost = l.replyLost := by
  first | (simp [Lkc.sent]; done) | (unfold Lkc.sent; (try dsimp only); (repeat' split) <;> simp_all)

@[simp] theorem Lkc.collide_frame (l : Lkc) :
    (l.collide).node = l.node ∧ (l.collide).lock = l.lock ∧ (l.collide).groups = l.groups ∧
    (l.collide).enable = l.enable ∧ (l.collide).cfg = l.cfg ∧ (l.collide).rxbuf = l.rxbuf ∧
    (l.collide).overflow = l.overflow ∧ (l.collide).rxOverflow = l.rxOverflow ∧ (l.collide).rxError = l.rxError ∧
    (l.collide).replyLost = l.replyLost ∧ (l.collide).looped = l.looped := by
  first | (simp [Lkc.collide]; done) | (unfold Lkc.collide; (try dsimp only); (repeat' split) <;> simp_all)

@[simp] theorem Lkc.setEnable_frame (v : Bool) (l : Lkc) :
    (l.setEnable v).node = l.node ∧ (l.setEnable v).lock = l.lock ∧ (l.setEnable v).groups = l.groups ∧
    (l.setEnable v).cfg = l.cfg ∧ (l.setEnable v).rxbuf = l.rxbuf ∧ (l.setEnable v).giveup = l.giveup ∧
    (l.setEnable v).overflow = l.overflow ∧ (l.setEnable v).rxOverflow = l.rxOverflow ∧
    (l.setEnable v).rxError = l.rxError ∧ (l.setEnable v).replyLost = l.replyLost := by
  first | (simp [Lkc.setEnable]; done) | (unfold Lkc.setEnable; (try dsimp only); (repeat' split) <;> simp_all)

@[simp] theorem Lkc.atReset_frame (v : Settings) (l : Lkc) :
    (l.atReset v).node = l.node ∧ (l.atReset v).lock = l.lock := by
  first | (simp [Lkc.atReset]; done) | (unfold Lkc.atReset; (try dsimp only); (repeat' split) <;> simp_all)

end Sys2Proof.Machine
end

