-- ==== Sys2Proof/Laws/ShowFrames.lean ====
section
/-! SUPPORT. Frame laws (show operations): what each shared operation leaves as it stands. -/

namespace Sys2Proof.Machine

@[simp] theorem reportContent_frame (c : Content) (s : State) :
    (reportContent c s).pending = s.pending ∧ (reportContent c s).pins = s.pins ∧
    (reportContent c s).psdo = s.psdo ∧ (reportContent c s).mem = s.mem ∧ (reportContent c s).csq = s.csq ∧
    (reportContent c s).sar = s.sar ∧ (reportContent c s).lmc = s.lmc ∧ (reportContent c s).dkc = s.dkc ∧
    (reportContent c s).cdc = s.cdc ∧ (reportContent c s).crn = s.crn ∧ (reportContent c s).shc = s.shc ∧
    (reportContent c s).rmi = s.rmi ∧ (reportContent c s).lkc = s.lkc ∧ (reportContent c s).pnp = s.pnp ∧
    (reportContent c s).tru.position = s.tru.position ∧ (reportContent c s).tru.present = s.tru.present ∧
    (reportContent c s).tru.cfg = s.tru.cfg := by
  (unfold reportContent; (try dsimp only); (repeat' split) <;> simp_all)

@[simp] theorem jamReport_frame (s : State) :
    (jamReport s).pending = s.pending ∧ (jamReport s).pins = s.pins ∧ (jamReport s).psdo = s.psdo ∧
    (jamReport s).mem = s.mem ∧ (jamReport s).csq = s.csq ∧ (jamReport s).sar = s.sar ∧ (jamReport s).lmc = s.lmc ∧
    (jamReport s).dkc = s.dkc ∧ (jamReport s).cdc = s.cdc ∧ (jamReport s).crn = s.crn ∧ (jamReport s).shc = s.shc ∧
    (jamReport s).rmi = s.rmi ∧ (jamReport s).lkc = s.lkc ∧ (jamReport s).pnp = s.pnp ∧
    (jamReport s).tru.position = s.tru.position ∧ (jamReport s).tru.present = s.tru.present ∧
    (jamReport s).tru.cfg = s.tru.cfg := by
  (unfold jamReport; (try dsimp only); (repeat' split) <;> simp_all)

@[simp] theorem deckSettle_frame (s : State) :
    (deckSettle s).pending = s.pending ∧ (deckSettle s).pins = s.pins ∧ (deckSettle s).psdo = s.psdo ∧
    (deckSettle s).mem = s.mem ∧ (deckSettle s).tru = s.tru ∧ (deckSettle s).csq = s.csq ∧
    (deckSettle s).sar = s.sar ∧ (deckSettle s).lmc = s.lmc ∧ (deckSettle s).cdc = s.cdc ∧
    (deckSettle s).crn = s.crn ∧ (deckSettle s).shc = s.shc ∧ (deckSettle s).rmi = s.rmi ∧
    (deckSettle s).lkc = s.lkc ∧ (deckSettle s).pnp = s.pnp ∧ (deckSettle s).dkc.clock = s.dkc.clock ∧
    (deckSettle s).dkc.audio = s.dkc.audio ∧ (deckSettle s).dkc.cfg = s.dkc.cfg := by
  (unfold deckSettle; (try dsimp only); (repeat' split) <;> simp_all)

@[simp] theorem deckStart_frame (s : State) :
    (deckStart s).pending = s.pending ∧ (deckStart s).pins = s.pins ∧ (deckStart s).psdo = s.psdo ∧
    (deckStart s).mem = s.mem ∧ (deckStart s).tru = s.tru ∧ (deckStart s).csq = s.csq ∧ (deckStart s).sar = s.sar ∧
    (deckStart s).lmc = s.lmc ∧ (deckStart s).cdc = s.cdc ∧ (deckStart s).crn = s.crn ∧ (deckStart s).shc = s.shc ∧
    (deckStart s).rmi = s.rmi ∧ (deckStart s).lkc = s.lkc ∧ (deckStart s).pnp = s.pnp ∧
    (deckStart s).dkc.clock = s.dkc.clock ∧ (deckStart s).dkc.audio = s.dkc.audio ∧
    (deckStart s).dkc.cfg = s.dkc.cfg := by
  (unfold deckStart; (try dsimp only); (repeat' split) <;> simp_all)

@[simp] theorem playClaim_frame (b : Bool) (s : State) :
    ((playClaim b s).1).pending = s.pending ∧ ((playClaim b s).1).pins = s.pins ∧
    ((playClaim b s).1).psdo = s.psdo ∧ ((playClaim b s).1).mem = s.mem ∧ ((playClaim b s).1).tru = s.tru ∧
    ((playClaim b s).1).csq = s.csq ∧ ((playClaim b s).1).sar = s.sar ∧ ((playClaim b s).1).lmc = s.lmc ∧
    ((playClaim b s).1).cdc = s.cdc ∧ ((playClaim b s).1).crn = s.crn ∧ ((playClaim b s).1).shc = s.shc ∧
    ((playClaim b s).1).rmi = s.rmi ∧ ((playClaim b s).1).lkc = s.lkc ∧ ((playClaim b s).1).pnp = s.pnp ∧
    ((playClaim b s).1).dkc.clock = s.dkc.clock ∧ ((playClaim b s).1).dkc.audio = s.dkc.audio ∧
    ((playClaim b s).1).dkc.cfg = s.dkc.cfg := by
  (unfold playClaim; (try dsimp only); (repeat' split) <;> simp_all)

@[simp] theorem pauseClaim_frame (s : State) :
    ((pauseClaim s).1).pending = s.pending ∧ ((pauseClaim s).1).pins = s.pins ∧ ((pauseClaim s).1).psdo = s.psdo ∧
    ((pauseClaim s).1).mem = s.mem ∧ ((pauseClaim s).1).tru = s.tru ∧ ((pauseClaim s).1).csq = s.csq ∧
    ((pauseClaim s).1).sar = s.sar ∧ ((pauseClaim s).1).lmc = s.lmc ∧ ((pauseClaim s).1).cdc = s.cdc ∧
    ((pauseClaim s).1).crn = s.crn ∧ ((pauseClaim s).1).shc = s.shc ∧ ((pauseClaim s).1).rmi = s.rmi ∧
    ((pauseClaim s).1).lkc = s.lkc ∧ ((pauseClaim s).1).pnp = s.pnp ∧ ((pauseClaim s).1).dkc.clock = s.dkc.clock ∧
    ((pauseClaim s).1).dkc.audio = s.dkc.audio ∧ ((pauseClaim s).1).dkc.cfg = s.dkc.cfg := by
  (unfold pauseClaim; (try dsimp only); (repeat' split) <;> simp_all)

@[simp] theorem setPhase_frame (p : Show) (s : State) :
    (setPhase p s).pending = s.pending ∧ (setPhase p s).pins = s.pins ∧ (setPhase p s).psdo = s.psdo ∧
    (setPhase p s).mem = s.mem ∧ (setPhase p s).tru = s.tru ∧ (setPhase p s).csq = s.csq ∧
    (setPhase p s).sar = s.sar ∧ (setPhase p s).lmc = s.lmc ∧ (setPhase p s).dkc = s.dkc ∧
    (setPhase p s).cdc = s.cdc ∧ (setPhase p s).crn = s.crn ∧ (setPhase p s).rmi = s.rmi ∧
    (setPhase p s).lkc = s.lkc ∧ (setPhase p s).shc.causes = s.shc.causes ∧
    (setPhase p s).shc.autoResume = s.shc.autoResume ∧ (setPhase p s).pnp.power = s.pnp.power ∧
    (setPhase p s).pnp.resp = s.pnp.resp ∧ (setPhase p s).pnp.cfg = s.pnp.cfg ∧
    (setPhase p s).pnp.store = s.pnp.store ∧ (setPhase p s).pnp.load = s.pnp.load ∧
    (setPhase p s).pnp.hoursWrite = s.pnp.hoursWrite ∧ (setPhase p s).pnp.hoursWaiting = s.pnp.hoursWaiting ∧
    (setPhase p s).pnp.memPresent = s.pnp.memPresent ∧ (setPhase p s).pnp.idleSetting = s.pnp.idleSetting ∧
    (setPhase p s).pnp.event = s.pnp.event := by
  (unfold setPhase; (try dsimp only); (repeat' split) <;> simp_all)

@[simp] theorem stopClaimPlain_frame (s : State) :
    (stopClaimPlain s).pending = s.pending ∧ (stopClaimPlain s).pins = s.pins ∧ (stopClaimPlain s).psdo = s.psdo ∧
    (stopClaimPlain s).mem = s.mem ∧ (stopClaimPlain s).tru = s.tru ∧ (stopClaimPlain s).csq = s.csq ∧
    (stopClaimPlain s).sar = s.sar ∧ (stopClaimPlain s).lmc = s.lmc ∧ (stopClaimPlain s).cdc = s.cdc ∧
    (stopClaimPlain s).crn = s.crn ∧ (stopClaimPlain s).rmi = s.rmi ∧ (stopClaimPlain s).lkc = s.lkc ∧
    (stopClaimPlain s).pnp = s.pnp ∧ (stopClaimPlain s).dkc.clock = s.dkc.clock ∧
    (stopClaimPlain s).dkc.audio = s.dkc.audio ∧ (stopClaimPlain s).dkc.cfg = s.dkc.cfg ∧
    (stopClaimPlain s).shc.phase = s.shc.phase ∧ (stopClaimPlain s).shc.autoResume = s.shc.autoResume := by
  (unfold stopClaimPlain; (try dsimp only); (repeat' split) <;> simp_all)

/-- What a STOP claim of SHC does: the deck halted, and DECK out of the set where the deck was in FAULT. -/
theorem stopClaimPlain_eq (s : State) :
    stopClaimPlain s = deckHalt (setCause .deck (s.shc.causes.deck && s.dkc.deck ≠ .fault) s) := by
  unfold stopClaimPlain
  by_cases h : s.dkc.deck = .fault <;> simp [h, setCause, Causes.set]

@[simp] theorem endShow_frame (s : State) :
    (endShow s).pending = s.pending ∧ (endShow s).pins = s.pins ∧ (endShow s).psdo = s.psdo ∧
    (endShow s).mem = s.mem ∧ (endShow s).tru = s.tru ∧ (endShow s).csq = s.csq ∧ (endShow s).sar = s.sar ∧
    (endShow s).lmc = s.lmc ∧ (endShow s).cdc = s.cdc ∧ (endShow s).rmi = s.rmi ∧ (endShow s).lkc = s.lkc ∧
    (endShow s).dkc.clock = s.dkc.clock ∧ (endShow s).dkc.audio = s.dkc.audio ∧ (endShow s).dkc.cfg = s.dkc.cfg ∧
    (endShow s).crn.table = s.crn.table ∧ (endShow s).crn.queue = s.crn.queue ∧
    (endShow s).crn.progress = s.crn.progress ∧ (endShow s).crn.current = s.crn.current ∧
    (endShow s).shc.autoResume = s.shc.autoResume ∧ (endShow s).pnp.power = s.pnp.power ∧
    (endShow s).pnp.resp = s.pnp.resp ∧ (endShow s).pnp.cfg = s.pnp.cfg ∧ (endShow s).pnp.store = s.pnp.store ∧
    (endShow s).pnp.load = s.pnp.load ∧ (endShow s).pnp.hoursWrite = s.pnp.hoursWrite ∧
    (endShow s).pnp.hoursWaiting = s.pnp.hoursWaiting ∧ (endShow s).pnp.memPresent = s.pnp.memPresent ∧
    (endShow s).pnp.idleSetting = s.pnp.idleSetting ∧ (endShow s).pnp.event = s.pnp.event := by
  (unfold endShow; (try dsimp only); (repeat' split) <;> simp_all)

@[simp] theorem endCheck_frame (s : State) :
    (endCheck s).pending = s.pending ∧ (endCheck s).pins = s.pins ∧ (endCheck s).psdo = s.psdo ∧
    (endCheck s).mem = s.mem ∧ (endCheck s).tru = s.tru ∧ (endCheck s).csq = s.csq ∧ (endCheck s).sar = s.sar ∧
    (endCheck s).lmc = s.lmc ∧ (endCheck s).cdc = s.cdc ∧ (endCheck s).rmi = s.rmi ∧ (endCheck s).lkc = s.lkc ∧
    (endCheck s).dkc.clock = s.dkc.clock ∧ (endCheck s).dkc.audio = s.dkc.audio ∧
    (endCheck s).dkc.cfg = s.dkc.cfg ∧ (endCheck s).crn.table = s.crn.table ∧
    (endCheck s).crn.queue = s.crn.queue ∧ (endCheck s).crn.progress = s.crn.progress ∧
    (endCheck s).crn.current = s.crn.current ∧ (endCheck s).shc.autoResume = s.shc.autoResume ∧
    (endCheck s).pnp.power = s.pnp.power ∧ (endCheck s).pnp.resp = s.pnp.resp ∧ (endCheck s).pnp.cfg = s.pnp.cfg ∧
    (endCheck s).pnp.store = s.pnp.store ∧ (endCheck s).pnp.load = s.pnp.load ∧
    (endCheck s).pnp.hoursWrite = s.pnp.hoursWrite ∧ (endCheck s).pnp.hoursWaiting = s.pnp.hoursWaiting ∧
    (endCheck s).pnp.memPresent = s.pnp.memPresent ∧ (endCheck s).pnp.idleSetting = s.pnp.idleSetting ∧
    (endCheck s).pnp.event = s.pnp.event := by
  (unfold endCheck; (try dsimp only); (repeat' split) <;> simp_all)

@[simp] theorem enterHeld_frame (s : State) :
    (enterHeld s).pending = s.pending ∧ (enterHeld s).pins = s.pins ∧ (enterHeld s).psdo = s.psdo ∧
    (enterHeld s).mem = s.mem ∧ (enterHeld s).tru = s.tru ∧ (enterHeld s).csq = s.csq ∧ (enterHeld s).sar = s.sar ∧
    (enterHeld s).lmc = s.lmc ∧ (enterHeld s).cdc = s.cdc ∧ (enterHeld s).crn = s.crn ∧ (enterHeld s).rmi = s.rmi ∧
    (enterHeld s).lkc = s.lkc ∧ (enterHeld s).dkc.clock = s.dkc.clock ∧ (enterHeld s).dkc.audio = s.dkc.audio ∧
    (enterHeld s).dkc.cfg = s.dkc.cfg ∧ (enterHeld s).shc.causes = s.shc.causes ∧
    (enterHeld s).shc.autoResume = s.shc.autoResume ∧ (enterHeld s).pnp.power = s.pnp.power ∧
    (enterHeld s).pnp.resp = s.pnp.resp ∧ (enterHeld s).pnp.cfg = s.pnp.cfg ∧
    (enterHeld s).pnp.store = s.pnp.store ∧ (enterHeld s).pnp.load = s.pnp.load ∧
    (enterHeld s).pnp.hoursWrite = s.pnp.hoursWrite ∧ (enterHeld s).pnp.hoursWaiting = s.pnp.hoursWaiting ∧
    (enterHeld s).pnp.memPresent = s.pnp.memPresent ∧ (enterHeld s).pnp.idleSetting = s.pnp.idleSetting ∧
    (enterHeld s).pnp.event = s.pnp.event := by
  (unfold enterHeld; (try dsimp only); (repeat' split) <;> simp_all)

@[simp] theorem leaveHeld_frame (s : State) :
    (leaveHeld s).pending = s.pending ∧ (leaveHeld s).pins = s.pins ∧ (leaveHeld s).psdo = s.psdo ∧
    (leaveHeld s).mem = s.mem ∧ (leaveHeld s).tru = s.tru ∧ (leaveHeld s).csq = s.csq ∧ (leaveHeld s).sar = s.sar ∧
    (leaveHeld s).lmc = s.lmc ∧ (leaveHeld s).cdc = s.cdc ∧ (leaveHeld s).rmi = s.rmi ∧ (leaveHeld s).lkc = s.lkc ∧
    (leaveHeld s).dkc.clock = s.dkc.clock ∧ (leaveHeld s).dkc.audio = s.dkc.audio ∧
    (leaveHeld s).dkc.cfg = s.dkc.cfg ∧ (leaveHeld s).crn.table = s.crn.table ∧
    (leaveHeld s).crn.queue = s.crn.queue ∧ (leaveHeld s).crn.progress = s.crn.progress ∧
    (leaveHeld s).crn.current = s.crn.current ∧ (leaveHeld s).shc.autoResume = s.shc.autoResume ∧
    (leaveHeld s).pnp.power = s.pnp.power ∧ (leaveHeld s).pnp.resp = s.pnp.resp ∧
    (leaveHeld s).pnp.cfg = s.pnp.cfg ∧ (leaveHeld s).pnp.store = s.pnp.store ∧
    (leaveHeld s).pnp.load = s.pnp.load ∧ (leaveHeld s).pnp.hoursWrite = s.pnp.hoursWrite ∧
    (leaveHeld s).pnp.hoursWaiting = s.pnp.hoursWaiting ∧ (leaveHeld s).pnp.memPresent = s.pnp.memPresent ∧
    (leaveHeld s).pnp.idleSetting = s.pnp.idleSetting ∧ (leaveHeld s).pnp.event = s.pnp.event := by
  (unfold leaveHeld; (try dsimp only); (repeat' split) <;> simp_all)

@[simp] theorem addCause_frame (c : Cause) (s : State) :
    (addCause c s).pending = s.pending ∧ (addCause c s).pins = s.pins ∧ (addCause c s).psdo = s.psdo ∧
    (addCause c s).mem = s.mem ∧ (addCause c s).tru = s.tru ∧ (addCause c s).csq = s.csq ∧
    (addCause c s).sar = s.sar ∧ (addCause c s).lmc = s.lmc ∧ (addCause c s).cdc = s.cdc ∧
    (addCause c s).crn = s.crn ∧ (addCause c s).rmi = s.rmi ∧ (addCause c s).lkc = s.lkc ∧
    (addCause c s).dkc.clock = s.dkc.clock ∧ (addCause c s).dkc.audio = s.dkc.audio ∧
    (addCause c s).dkc.cfg = s.dkc.cfg ∧ (addCause c s).shc.autoResume = s.shc.autoResume ∧
    (addCause c s).pnp.power = s.pnp.power ∧ (addCause c s).pnp.resp = s.pnp.resp ∧
    (addCause c s).pnp.cfg = s.pnp.cfg ∧ (addCause c s).pnp.store = s.pnp.store ∧
    (addCause c s).pnp.load = s.pnp.load ∧ (addCause c s).pnp.hoursWrite = s.pnp.hoursWrite ∧
    (addCause c s).pnp.hoursWaiting = s.pnp.hoursWaiting ∧ (addCause c s).pnp.memPresent = s.pnp.memPresent ∧
    (addCause c s).pnp.idleSetting = s.pnp.idleSetting ∧ (addCause c s).pnp.event = s.pnp.event := by
  (unfold addCause; (try dsimp only); (repeat' split) <;> simp_all)

@[simp] theorem removeCause_frame (c : Cause) (s : State) :
    (removeCause c s).pending = s.pending ∧ (removeCause c s).pins = s.pins ∧ (removeCause c s).psdo = s.psdo ∧
    (removeCause c s).mem = s.mem ∧ (removeCause c s).tru = s.tru ∧ (removeCause c s).csq = s.csq ∧
    (removeCause c s).sar = s.sar ∧ (removeCause c s).lmc = s.lmc ∧ (removeCause c s).cdc = s.cdc ∧
    (removeCause c s).rmi = s.rmi ∧ (removeCause c s).lkc = s.lkc ∧ (removeCause c s).dkc.clock = s.dkc.clock ∧
    (removeCause c s).dkc.audio = s.dkc.audio ∧ (removeCause c s).dkc.cfg = s.dkc.cfg ∧
    (removeCause c s).crn.table = s.crn.table ∧ (removeCause c s).crn.queue = s.crn.queue ∧
    (removeCause c s).crn.progress = s.crn.progress ∧ (removeCause c s).crn.current = s.crn.current ∧
    (removeCause c s).shc.autoResume = s.shc.autoResume ∧ (removeCause c s).pnp.power = s.pnp.power ∧
    (removeCause c s).pnp.resp = s.pnp.resp ∧ (removeCause c s).pnp.cfg = s.pnp.cfg ∧
    (removeCause c s).pnp.store = s.pnp.store ∧ (removeCause c s).pnp.load = s.pnp.load ∧
    (removeCause c s).pnp.hoursWrite = s.pnp.hoursWrite ∧ (removeCause c s).pnp.hoursWaiting = s.pnp.hoursWaiting ∧
    (removeCause c s).pnp.memPresent = s.pnp.memPresent ∧ (removeCause c s).pnp.idleSetting = s.pnp.idleSetting ∧
    (removeCause c s).pnp.event = s.pnp.event := by
  (unfold removeCause; (try dsimp only); (repeat' split) <;> simp_all)

@[simp] theorem resumeShow_frame (s : State) :
    (resumeShow s).pending = s.pending ∧ (resumeShow s).pins = s.pins ∧ (resumeShow s).psdo = s.psdo ∧
    (resumeShow s).mem = s.mem ∧ (resumeShow s).tru = s.tru ∧ (resumeShow s).csq = s.csq ∧
    (resumeShow s).sar = s.sar ∧ (resumeShow s).lmc = s.lmc ∧ (resumeShow s).cdc = s.cdc ∧
    (resumeShow s).rmi = s.rmi ∧ (resumeShow s).lkc = s.lkc ∧ (resumeShow s).dkc.clock = s.dkc.clock ∧
    (resumeShow s).dkc.audio = s.dkc.audio ∧ (resumeShow s).dkc.cfg = s.dkc.cfg ∧
    (resumeShow s).crn.table = s.crn.table ∧ (resumeShow s).crn.queue = s.crn.queue ∧
    (resumeShow s).crn.progress = s.crn.progress ∧ (resumeShow s).crn.current = s.crn.current ∧
    (resumeShow s).shc.autoResume = s.shc.autoResume ∧ (resumeShow s).pnp.power = s.pnp.power ∧
    (resumeShow s).pnp.resp = s.pnp.resp ∧ (resumeShow s).pnp.cfg = s.pnp.cfg ∧
    (resumeShow s).pnp.store = s.pnp.store ∧ (resumeShow s).pnp.load = s.pnp.load ∧
    (resumeShow s).pnp.hoursWrite = s.pnp.hoursWrite ∧ (resumeShow s).pnp.hoursWaiting = s.pnp.hoursWaiting ∧
    (resumeShow s).pnp.memPresent = s.pnp.memPresent ∧ (resumeShow s).pnp.idleSetting = s.pnp.idleSetting ∧
    (resumeShow s).pnp.event = s.pnp.event := by
  (unfold resumeShow; (try dsimp only); (repeat' split) <;> simp_all)

@[simp] theorem deckEnded_frame (s : State) :
    (deckEnded s).pending = s.pending ∧ (deckEnded s).pins = s.pins ∧ (deckEnded s).psdo = s.psdo ∧
    (deckEnded s).mem = s.mem ∧ (deckEnded s).tru = s.tru ∧ (deckEnded s).csq = s.csq ∧ (deckEnded s).sar = s.sar ∧
    (deckEnded s).lmc = s.lmc ∧ (deckEnded s).cdc = s.cdc ∧ (deckEnded s).rmi = s.rmi ∧ (deckEnded s).lkc = s.lkc ∧
    (deckEnded s).dkc.clock = s.dkc.clock ∧ (deckEnded s).dkc.audio = s.dkc.audio ∧
    (deckEnded s).dkc.cfg = s.dkc.cfg ∧ (deckEnded s).crn.table = s.crn.table ∧
    (deckEnded s).crn.queue = s.crn.queue ∧ (deckEnded s).crn.progress = s.crn.progress ∧
    (deckEnded s).crn.current = s.crn.current ∧ (deckEnded s).shc.autoResume = s.shc.autoResume ∧
    (deckEnded s).pnp.power = s.pnp.power ∧ (deckEnded s).pnp.resp = s.pnp.resp ∧
    (deckEnded s).pnp.cfg = s.pnp.cfg ∧ (deckEnded s).pnp.store = s.pnp.store ∧
    (deckEnded s).pnp.load = s.pnp.load ∧ (deckEnded s).pnp.hoursWrite = s.pnp.hoursWrite ∧
    (deckEnded s).pnp.hoursWaiting = s.pnp.hoursWaiting ∧ (deckEnded s).pnp.memPresent = s.pnp.memPresent ∧
    (deckEnded s).pnp.idleSetting = s.pnp.idleSetting ∧ (deckEnded s).pnp.event = s.pnp.event := by
  (unfold deckEnded; (try dsimp only); (repeat' split) <;> simp_all)

@[simp] theorem reportDeck_frame (d : Deck) (s : State) :
    (reportDeck d s).pending = s.pending ∧ (reportDeck d s).pins = s.pins ∧ (reportDeck d s).psdo = s.psdo ∧
    (reportDeck d s).mem = s.mem ∧ (reportDeck d s).tru = s.tru ∧ (reportDeck d s).csq = s.csq ∧
    (reportDeck d s).sar = s.sar ∧ (reportDeck d s).lmc = s.lmc ∧ (reportDeck d s).cdc = s.cdc ∧
    (reportDeck d s).rmi = s.rmi ∧ (reportDeck d s).lkc = s.lkc ∧ (reportDeck d s).dkc.clock = s.dkc.clock ∧
    (reportDeck d s).dkc.audio = s.dkc.audio ∧ (reportDeck d s).dkc.cfg = s.dkc.cfg ∧
    (reportDeck d s).crn.table = s.crn.table ∧ (reportDeck d s).crn.queue = s.crn.queue ∧
    (reportDeck d s).crn.progress = s.crn.progress ∧ (reportDeck d s).crn.current = s.crn.current ∧
    (reportDeck d s).shc.autoResume = s.shc.autoResume ∧ (reportDeck d s).pnp.power = s.pnp.power ∧
    (reportDeck d s).pnp.resp = s.pnp.resp ∧ (reportDeck d s).pnp.cfg = s.pnp.cfg ∧
    (reportDeck d s).pnp.store = s.pnp.store ∧ (reportDeck d s).pnp.load = s.pnp.load ∧
    (reportDeck d s).pnp.hoursWrite = s.pnp.hoursWrite ∧ (reportDeck d s).pnp.hoursWaiting = s.pnp.hoursWaiting ∧
    (reportDeck d s).pnp.memPresent = s.pnp.memPresent ∧ (reportDeck d s).pnp.idleSetting = s.pnp.idleSetting ∧
    (reportDeck d s).pnp.event = s.pnp.event := by
  (unfold reportDeck; (try dsimp only); (repeat' split) <;> simp_all)

@[simp] theorem deckPlayFrom_frame (b : Bool) (s : State) :
    ((deckPlayFrom b s).1).pending = s.pending ∧ ((deckPlayFrom b s).1).pins = s.pins ∧
    ((deckPlayFrom b s).1).psdo = s.psdo ∧ ((deckPlayFrom b s).1).mem = s.mem ∧
    ((deckPlayFrom b s).1).tru = s.tru ∧ ((deckPlayFrom b s).1).csq = s.csq ∧ ((deckPlayFrom b s).1).sar = s.sar ∧
    ((deckPlayFrom b s).1).lmc = s.lmc ∧ ((deckPlayFrom b s).1).cdc = s.cdc ∧ ((deckPlayFrom b s).1).rmi = s.rmi ∧
    ((deckPlayFrom b s).1).lkc = s.lkc ∧ ((deckPlayFrom b s).1).dkc.clock = s.dkc.clock ∧
    ((deckPlayFrom b s).1).dkc.audio = s.dkc.audio ∧ ((deckPlayFrom b s).1).dkc.cfg = s.dkc.cfg ∧
    ((deckPlayFrom b s).1).crn.table = s.crn.table ∧ ((deckPlayFrom b s).1).crn.queue = s.crn.queue ∧
    ((deckPlayFrom b s).1).crn.progress = s.crn.progress ∧ ((deckPlayFrom b s).1).crn.current = s.crn.current ∧
    ((deckPlayFrom b s).1).shc.autoResume = s.shc.autoResume ∧ ((deckPlayFrom b s).1).pnp.power = s.pnp.power ∧
    ((deckPlayFrom b s).1).pnp.resp = s.pnp.resp ∧ ((deckPlayFrom b s).1).pnp.cfg = s.pnp.cfg ∧
    ((deckPlayFrom b s).1).pnp.store = s.pnp.store ∧ ((deckPlayFrom b s).1).pnp.load = s.pnp.load ∧
    ((deckPlayFrom b s).1).pnp.hoursWrite = s.pnp.hoursWrite ∧
    ((deckPlayFrom b s).1).pnp.hoursWaiting = s.pnp.hoursWaiting ∧
    ((deckPlayFrom b s).1).pnp.memPresent = s.pnp.memPresent ∧
    ((deckPlayFrom b s).1).pnp.idleSetting = s.pnp.idleSetting ∧
    ((deckPlayFrom b s).1).pnp.event = s.pnp.event := by
  (unfold deckPlayFrom; (try dsimp only); (repeat' split) <;> simp_all)

@[simp] theorem deckStopAll_frame (s : State) :
    (deckStopAll s).pending = s.pending ∧ (deckStopAll s).pins = s.pins ∧ (deckStopAll s).psdo = s.psdo ∧
    (deckStopAll s).mem = s.mem ∧ (deckStopAll s).tru = s.tru ∧ (deckStopAll s).csq = s.csq ∧
    (deckStopAll s).sar = s.sar ∧ (deckStopAll s).lmc = s.lmc ∧ (deckStopAll s).cdc = s.cdc ∧
    (deckStopAll s).rmi = s.rmi ∧ (deckStopAll s).lkc = s.lkc ∧ (deckStopAll s).dkc.clock = s.dkc.clock ∧
    (deckStopAll s).dkc.audio = s.dkc.audio ∧ (deckStopAll s).dkc.cfg = s.dkc.cfg ∧
    (deckStopAll s).crn.table = s.crn.table ∧ (deckStopAll s).crn.queue = s.crn.queue ∧
    (deckStopAll s).crn.progress = s.crn.progress ∧ (deckStopAll s).crn.current = s.crn.current ∧
    (deckStopAll s).shc.autoResume = s.shc.autoResume ∧ (deckStopAll s).pnp.power = s.pnp.power ∧
    (deckStopAll s).pnp.resp = s.pnp.resp ∧ (deckStopAll s).pnp.cfg = s.pnp.cfg ∧
    (deckStopAll s).pnp.store = s.pnp.store ∧ (deckStopAll s).pnp.load = s.pnp.load ∧
    (deckStopAll s).pnp.hoursWrite = s.pnp.hoursWrite ∧ (deckStopAll s).pnp.hoursWaiting = s.pnp.hoursWaiting ∧
    (deckStopAll s).pnp.memPresent = s.pnp.memPresent ∧ (deckStopAll s).pnp.idleSetting = s.pnp.idleSetting ∧
    (deckStopAll s).pnp.event = s.pnp.event := by
  (unfold deckStopAll; (try dsimp only); (repeat' split) <;> simp_all)

@[simp] theorem deckFail_frame (f : FaultFlag) (s : State) :
    (deckFail f s).pending = s.pending ∧ (deckFail f s).pins = s.pins ∧ (deckFail f s).psdo = s.psdo ∧
    (deckFail f s).mem = s.mem ∧ (deckFail f s).tru = s.tru ∧ (deckFail f s).csq = s.csq ∧
    (deckFail f s).sar = s.sar ∧ (deckFail f s).lmc = s.lmc ∧ (deckFail f s).cdc = s.cdc ∧
    (deckFail f s).crn = s.crn ∧ (deckFail f s).rmi = s.rmi ∧ (deckFail f s).lkc = s.lkc ∧
    (deckFail f s).dkc.clock = s.dkc.clock ∧ (deckFail f s).dkc.audio = s.dkc.audio ∧
    (deckFail f s).dkc.cfg = s.dkc.cfg ∧ (deckFail f s).shc.autoResume = s.shc.autoResume ∧
    (deckFail f s).pnp.power = s.pnp.power ∧ (deckFail f s).pnp.resp = s.pnp.resp ∧
    (deckFail f s).pnp.cfg = s.pnp.cfg ∧ (deckFail f s).pnp.store = s.pnp.store ∧
    (deckFail f s).pnp.load = s.pnp.load ∧ (deckFail f s).pnp.hoursWrite = s.pnp.hoursWrite ∧
    (deckFail f s).pnp.hoursWaiting = s.pnp.hoursWaiting ∧ (deckFail f s).pnp.memPresent = s.pnp.memPresent ∧
    (deckFail f s).pnp.idleSetting = s.pnp.idleSetting ∧ (deckFail f s).pnp.event = s.pnp.event := by
  (unfold deckFail; (try dsimp only); (repeat' split) <;> simp_all)

@[simp] theorem startShow_frame (s : State) :
    ((startShow s).1).pending = s.pending ∧ ((startShow s).1).pins = s.pins ∧ ((startShow s).1).psdo = s.psdo ∧
    ((startShow s).1).mem = s.mem ∧ ((startShow s).1).tru = s.tru ∧ ((startShow s).1).csq = s.csq ∧
    ((startShow s).1).sar = s.sar ∧ ((startShow s).1).lmc = s.lmc ∧ ((startShow s).1).cdc = s.cdc ∧
    ((startShow s).1).rmi = s.rmi ∧ ((startShow s).1).lkc = s.lkc ∧ ((startShow s).1).dkc.audio = s.dkc.audio ∧
    ((startShow s).1).dkc.cfg = s.dkc.cfg ∧ ((startShow s).1).crn.table = s.crn.table ∧
    ((startShow s).1).crn.progress = s.crn.progress ∧ ((startShow s).1).shc.causes = s.shc.causes ∧
    ((startShow s).1).shc.autoResume = s.shc.autoResume ∧ ((startShow s).1).pnp.power = s.pnp.power ∧
    ((startShow s).1).pnp.resp = s.pnp.resp ∧ ((startShow s).1).pnp.cfg = s.pnp.cfg ∧
    ((startShow s).1).pnp.store = s.pnp.store ∧ ((startShow s).1).pnp.load = s.pnp.load ∧
    ((startShow s).1).pnp.hoursWrite = s.pnp.hoursWrite ∧ ((startShow s).1).pnp.hoursWaiting = s.pnp.hoursWaiting ∧
    ((startShow s).1).pnp.memPresent = s.pnp.memPresent ∧ ((startShow s).1).pnp.idleSetting = s.pnp.idleSetting ∧
    ((startShow s).1).pnp.event = s.pnp.event := by
  (unfold startShow; (try dsimp only); (repeat' split) <;> simp_all)

@[simp] theorem offerCue_frame (o : CueOrigin) (k : CueKind) (s : State) :
    ((offerCue o k s).1).pending = s.pending ∧ ((offerCue o k s).1).pins = s.pins ∧
    ((offerCue o k s).1).psdo = s.psdo ∧ ((offerCue o k s).1).mem = s.mem ∧ ((offerCue o k s).1).tru = s.tru ∧
    ((offerCue o k s).1).csq = s.csq ∧ ((offerCue o k s).1).sar = s.sar ∧ ((offerCue o k s).1).lmc = s.lmc ∧
    ((offerCue o k s).1).dkc = s.dkc ∧ ((offerCue o k s).1).cdc = s.cdc ∧ ((offerCue o k s).1).shc = s.shc ∧
    ((offerCue o k s).1).rmi = s.rmi ∧ ((offerCue o k s).1).lkc = s.lkc ∧ ((offerCue o k s).1).pnp = s.pnp ∧
    ((offerCue o k s).1).crn.table = s.crn.table ∧ ((offerCue o k s).1).crn.progress = s.crn.progress ∧
    ((offerCue o k s).1).crn.current = s.crn.current := by
  (unfold offerCue; (try dsimp only); (repeat' split) <;> simp_all)

@[simp] theorem stepComplete_frame (s : State) :
    (stepComplete s).pending = s.pending ∧ (stepComplete s).pins = s.pins ∧ (stepComplete s).psdo = s.psdo ∧
    (stepComplete s).mem = s.mem ∧ (stepComplete s).tru = s.tru ∧ (stepComplete s).csq = s.csq ∧
    (stepComplete s).sar = s.sar ∧ (stepComplete s).lmc = s.lmc ∧ (stepComplete s).dkc = s.dkc ∧
    (stepComplete s).cdc = s.cdc ∧ (stepComplete s).shc = s.shc ∧ (stepComplete s).rmi = s.rmi ∧
    (stepComplete s).lkc = s.lkc ∧ (stepComplete s).pnp = s.pnp ∧ (stepComplete s).crn.table = s.crn.table ∧
    (stepComplete s).crn.queue = s.crn.queue ∧ (stepComplete s).crn.current = s.crn.current := by
  (unfold stepComplete; (try dsimp only); (repeat' split) <;> simp_all)

end Sys2Proof.Machine
end

