-- ==== Sys2Proof/Laws/LampFrames.lean ====
section
/-! SUPPORT. Frame laws (lamp operations): what each shared operation leaves as it stands. -/

namespace Sys2Proof.Machine

@[simp] theorem holdIdle_frame (s : State) :
    (holdIdle s).pending = s.pending ∧ (holdIdle s).pins = s.pins ∧ (holdIdle s).psdo = s.psdo ∧
    (holdIdle s).mem = s.mem ∧ (holdIdle s).tru = s.tru ∧ (holdIdle s).csq = s.csq ∧ (holdIdle s).sar = s.sar ∧
    (holdIdle s).lmc = s.lmc ∧ (holdIdle s).dkc = s.dkc ∧ (holdIdle s).cdc = s.cdc ∧ (holdIdle s).crn = s.crn ∧
    (holdIdle s).shc = s.shc ∧ (holdIdle s).rmi = s.rmi ∧ (holdIdle s).lkc = s.lkc ∧
    (holdIdle s).pnp.power = s.pnp.power ∧ (holdIdle s).pnp.resp = s.pnp.resp ∧ (holdIdle s).pnp.cfg = s.pnp.cfg ∧
    (holdIdle s).pnp.store = s.pnp.store ∧ (holdIdle s).pnp.load = s.pnp.load ∧
    (holdIdle s).pnp.hoursWrite = s.pnp.hoursWrite ∧ (holdIdle s).pnp.hoursWaiting = s.pnp.hoursWaiting ∧
    (holdIdle s).pnp.memPresent = s.pnp.memPresent ∧ (holdIdle s).pnp.idleSetting = s.pnp.idleSetting ∧
    (holdIdle s).pnp.event = s.pnp.event := by
  (unfold holdIdle; (try dsimp only); (repeat' split) <;> simp_all)

@[simp] theorem finish_frame (s : State) :
    (finish s).pending = s.pending ∧ (finish s).pins = s.pins ∧ (finish s).psdo = s.psdo ∧ (finish s).mem = s.mem ∧
    (finish s).tru = s.tru ∧ (finish s).csq = s.csq ∧ (finish s).sar = s.sar ∧ (finish s).dkc = s.dkc ∧
    (finish s).cdc = s.cdc ∧ (finish s).crn = s.crn ∧ (finish s).shc = s.shc ∧ (finish s).rmi = s.rmi ∧
    (finish s).lkc = s.lkc ∧ (finish s).lmc.lamp = s.lmc.lamp ∧ (finish s).lmc.claim = s.lmc.claim ∧
    (finish s).lmc.hours = s.lmc.hours ∧ (finish s).lmc.cfg = s.lmc.cfg ∧ (finish s).lmc.temp = s.lmc.temp ∧
    (finish s).lmc.dim = s.lmc.dim ∧ (finish s).lmc.trip = s.lmc.trip ∧ (finish s).pnp.power = s.pnp.power ∧
    (finish s).pnp.resp = s.pnp.resp ∧ (finish s).pnp.cfg = s.pnp.cfg ∧ (finish s).pnp.store = s.pnp.store ∧
    (finish s).pnp.load = s.pnp.load ∧ (finish s).pnp.hoursWrite = s.pnp.hoursWrite ∧
    (finish s).pnp.hoursWaiting = s.pnp.hoursWaiting ∧ (finish s).pnp.memPresent = s.pnp.memPresent ∧
    (finish s).pnp.idleSetting = s.pnp.idleSetting ∧ (finish s).pnp.event = s.pnp.event := by
  (unfold finish; (try dsimp only); (repeat' split) <;> simp_all)

@[simp] theorem handHours_frame (s : State) :
    (handHours s).pending = s.pending ∧ (handHours s).pins = s.pins ∧ (handHours s).psdo = s.psdo ∧
    (handHours s).mem = s.mem ∧ (handHours s).tru = s.tru ∧ (handHours s).csq = s.csq ∧ (handHours s).sar = s.sar ∧
    (handHours s).lmc = s.lmc ∧ (handHours s).dkc = s.dkc ∧ (handHours s).cdc = s.cdc ∧ (handHours s).crn = s.crn ∧
    (handHours s).shc = s.shc ∧ (handHours s).rmi = s.rmi ∧ (handHours s).lkc = s.lkc ∧
    (handHours s).pnp.power = s.pnp.power ∧ (handHours s).pnp.resp = s.pnp.resp ∧
    (handHours s).pnp.cfg = s.pnp.cfg ∧ (handHours s).pnp.store = s.pnp.store ∧
    (handHours s).pnp.load = s.pnp.load ∧ (handHours s).pnp.hoursWrite = s.pnp.hoursWrite ∧
    (handHours s).pnp.memPresent = s.pnp.memPresent ∧ (handHours s).pnp.idleSetting = s.pnp.idleSetting ∧
    (handHours s).pnp.event = s.pnp.event := by
  (unfold handHours; (try dsimp only); (repeat' split) <;> simp_all)

@[simp] theorem enterCooling_frame (s : State) :
    (enterCooling s).pending = s.pending ∧ (enterCooling s).pins = s.pins ∧ (enterCooling s).psdo = s.psdo ∧
    (enterCooling s).mem = s.mem ∧ (enterCooling s).tru = s.tru ∧ (enterCooling s).csq = s.csq ∧
    (enterCooling s).sar = s.sar ∧ (enterCooling s).dkc = s.dkc ∧ (enterCooling s).cdc = s.cdc ∧
    (enterCooling s).crn = s.crn ∧ (enterCooling s).shc = s.shc ∧ (enterCooling s).rmi = s.rmi ∧
    (enterCooling s).lkc = s.lkc ∧ (enterCooling s).lmc.claim = s.lmc.claim ∧
    (enterCooling s).lmc.hours = s.lmc.hours ∧ (enterCooling s).lmc.cfg = s.lmc.cfg ∧
    (enterCooling s).lmc.temp = s.lmc.temp ∧ (enterCooling s).lmc.dim = s.lmc.dim ∧
    (enterCooling s).lmc.trip = s.lmc.trip ∧ (enterCooling s).pnp.power = s.pnp.power ∧
    (enterCooling s).pnp.resp = s.pnp.resp ∧ (enterCooling s).pnp.cfg = s.pnp.cfg ∧
    (enterCooling s).pnp.store = s.pnp.store ∧ (enterCooling s).pnp.load = s.pnp.load ∧
    (enterCooling s).pnp.hoursWrite = s.pnp.hoursWrite ∧ (enterCooling s).pnp.memPresent = s.pnp.memPresent ∧
    (enterCooling s).pnp.idleSetting = s.pnp.idleSetting ∧ (enterCooling s).pnp.event = s.pnp.event := by
  (unfold enterCooling; (try dsimp only); (repeat' split) <;> simp_all)

@[simp] theorem enterPreheat_frame (s : State) :
    (enterPreheat s).pending = s.pending ∧ (enterPreheat s).pins = s.pins ∧ (enterPreheat s).psdo = s.psdo ∧
    (enterPreheat s).mem = s.mem ∧ (enterPreheat s).tru = s.tru ∧ (enterPreheat s).csq = s.csq ∧
    (enterPreheat s).sar = s.sar ∧ (enterPreheat s).dkc = s.dkc ∧ (enterPreheat s).cdc = s.cdc ∧
    (enterPreheat s).crn = s.crn ∧ (enterPreheat s).shc = s.shc ∧ (enterPreheat s).rmi = s.rmi ∧
    (enterPreheat s).lkc = s.lkc ∧ (enterPreheat s).pnp = s.pnp ∧ (enterPreheat s).lmc.claim = s.lmc.claim ∧
    (enterPreheat s).lmc.hours = s.lmc.hours ∧ (enterPreheat s).lmc.cfg = s.lmc.cfg ∧
    (enterPreheat s).lmc.temp = s.lmc.temp ∧ (enterPreheat s).lmc.dim = s.lmc.dim ∧
    (enterPreheat s).lmc.trip = s.lmc.trip := by
  (unfold enterPreheat; (try dsimp only); (repeat' split) <;> simp_all)

@[simp] theorem enterLit_frame (s : State) :
    (enterLit s).pending = s.pending ∧ (enterLit s).pins = s.pins ∧ (enterLit s).psdo = s.psdo ∧
    (enterLit s).mem = s.mem ∧ (enterLit s).tru = s.tru ∧ (enterLit s).csq = s.csq ∧ (enterLit s).sar = s.sar ∧
    (enterLit s).cdc = s.cdc ∧ (enterLit s).rmi = s.rmi ∧ (enterLit s).lkc = s.lkc ∧
    (enterLit s).lmc.claim = s.lmc.claim ∧ (enterLit s).lmc.hours = s.lmc.hours ∧
    (enterLit s).lmc.cfg = s.lmc.cfg ∧ (enterLit s).lmc.temp = s.lmc.temp ∧ (enterLit s).lmc.dim = s.lmc.dim ∧
    (enterLit s).lmc.trip = s.lmc.trip ∧ (enterLit s).dkc.clock = s.dkc.clock ∧
    (enterLit s).dkc.audio = s.dkc.audio ∧ (enterLit s).dkc.cfg = s.dkc.cfg ∧
    (enterLit s).crn.table = s.crn.table ∧ (enterLit s).crn.queue = s.crn.queue ∧
    (enterLit s).crn.progress = s.crn.progress ∧ (enterLit s).crn.current = s.crn.current ∧
    (enterLit s).shc.autoResume = s.shc.autoResume ∧ (enterLit s).pnp.power = s.pnp.power ∧
    (enterLit s).pnp.resp = s.pnp.resp ∧ (enterLit s).pnp.cfg = s.pnp.cfg ∧ (enterLit s).pnp.store = s.pnp.store ∧
    (enterLit s).pnp.load = s.pnp.load ∧ (enterLit s).pnp.hoursWrite = s.pnp.hoursWrite ∧
    (enterLit s).pnp.hoursWaiting = s.pnp.hoursWaiting ∧ (enterLit s).pnp.memPresent = s.pnp.memPresent ∧
    (enterLit s).pnp.idleSetting = s.pnp.idleSetting ∧ (enterLit s).pnp.event = s.pnp.event := by
  (unfold enterLit; (try dsimp only); (repeat' split) <;> simp_all)

@[simp] theorem endCooling_frame (s : State) :
    (endCooling s).pending = s.pending ∧ (endCooling s).pins = s.pins ∧ (endCooling s).psdo = s.psdo ∧
    (endCooling s).mem = s.mem ∧ (endCooling s).tru = s.tru ∧ (endCooling s).csq = s.csq ∧
    (endCooling s).sar = s.sar ∧ (endCooling s).dkc = s.dkc ∧ (endCooling s).cdc = s.cdc ∧
    (endCooling s).crn = s.crn ∧ (endCooling s).shc = s.shc ∧ (endCooling s).rmi = s.rmi ∧
    (endCooling s).lkc = s.lkc ∧ (endCooling s).pnp = s.pnp := by
  (unfold endCooling; (try dsimp only); (repeat' split) <;> simp_all)

@[simp] theorem lampOut_frame (s : State) :
    (lampOut s).pending = s.pending ∧ (lampOut s).pins = s.pins ∧ (lampOut s).psdo = s.psdo ∧
    (lampOut s).mem = s.mem ∧ (lampOut s).tru = s.tru ∧ (lampOut s).csq = s.csq ∧ (lampOut s).sar = s.sar ∧
    (lampOut s).dkc = s.dkc ∧ (lampOut s).cdc = s.cdc ∧ (lampOut s).crn = s.crn ∧ (lampOut s).shc = s.shc ∧
    (lampOut s).rmi = s.rmi ∧ (lampOut s).lkc = s.lkc ∧ (lampOut s).lmc.claim = s.lmc.claim ∧
    (lampOut s).lmc.hours = s.lmc.hours ∧ (lampOut s).lmc.cfg = s.lmc.cfg ∧ (lampOut s).lmc.temp = s.lmc.temp ∧
    (lampOut s).lmc.dim = s.lmc.dim ∧ (lampOut s).lmc.trip = s.lmc.trip ∧ (lampOut s).pnp.power = s.pnp.power ∧
    (lampOut s).pnp.resp = s.pnp.resp ∧ (lampOut s).pnp.cfg = s.pnp.cfg ∧ (lampOut s).pnp.store = s.pnp.store ∧
    (lampOut s).pnp.load = s.pnp.load ∧ (lampOut s).pnp.hoursWrite = s.pnp.hoursWrite ∧
    (lampOut s).pnp.memPresent = s.pnp.memPresent ∧ (lampOut s).pnp.idleSetting = s.pnp.idleSetting ∧
    (lampOut s).pnp.event = s.pnp.event := by
  (unfold lampOut; (try dsimp only); (repeat' split) <;> simp_all)

@[simp] theorem takeTrip_frame (f : FaultFlag) (b : Bool) (s : State) :
    (takeTrip f b s).pending = s.pending ∧ (takeTrip f b s).pins = s.pins ∧ (takeTrip f b s).psdo = s.psdo ∧
    (takeTrip f b s).mem = s.mem ∧ (takeTrip f b s).tru = s.tru ∧ (takeTrip f b s).csq = s.csq ∧
    (takeTrip f b s).sar = s.sar ∧ (takeTrip f b s).cdc = s.cdc ∧ (takeTrip f b s).crn = s.crn ∧
    (takeTrip f b s).rmi = s.rmi ∧ (takeTrip f b s).lkc = s.lkc ∧ (takeTrip f b s).lmc.claim = s.lmc.claim ∧
    (takeTrip f b s).lmc.hours = s.lmc.hours ∧ (takeTrip f b s).lmc.cfg = s.lmc.cfg ∧
    (takeTrip f b s).lmc.temp = s.lmc.temp ∧ (takeTrip f b s).lmc.dim = s.lmc.dim ∧
    (takeTrip f b s).dkc.clock = s.dkc.clock ∧ (takeTrip f b s).dkc.audio = s.dkc.audio ∧
    (takeTrip f b s).dkc.cfg = s.dkc.cfg ∧ (takeTrip f b s).shc.autoResume = s.shc.autoResume ∧
    (takeTrip f b s).pnp.power = s.pnp.power ∧ (takeTrip f b s).pnp.resp = s.pnp.resp ∧
    (takeTrip f b s).pnp.cfg = s.pnp.cfg ∧ (takeTrip f b s).pnp.store = s.pnp.store ∧
    (takeTrip f b s).pnp.load = s.pnp.load ∧ (takeTrip f b s).pnp.hoursWrite = s.pnp.hoursWrite ∧
    (takeTrip f b s).pnp.memPresent = s.pnp.memPresent ∧ (takeTrip f b s).pnp.idleSetting = s.pnp.idleSetting ∧
    (takeTrip f b s).pnp.event = s.pnp.event := by
  (unfold takeTrip; (try dsimp only); (repeat' split) <;> simp_all)

@[simp] theorem lampFails_frame (s : State) :
    (lampFails s).pending = s.pending ∧ (lampFails s).pins = s.pins ∧ (lampFails s).psdo = s.psdo ∧
    (lampFails s).mem = s.mem ∧ (lampFails s).tru = s.tru ∧ (lampFails s).csq = s.csq ∧ (lampFails s).sar = s.sar ∧
    (lampFails s).cdc = s.cdc ∧ (lampFails s).crn = s.crn ∧ (lampFails s).rmi = s.rmi ∧ (lampFails s).lkc = s.lkc ∧
    (lampFails s).lmc.claim = s.lmc.claim ∧ (lampFails s).lmc.hours = s.lmc.hours ∧
    (lampFails s).lmc.cfg = s.lmc.cfg ∧ (lampFails s).lmc.temp = s.lmc.temp ∧ (lampFails s).lmc.dim = s.lmc.dim ∧
    (lampFails s).lmc.trip = s.lmc.trip ∧ (lampFails s).dkc.clock = s.dkc.clock ∧
    (lampFails s).dkc.audio = s.dkc.audio ∧ (lampFails s).dkc.cfg = s.dkc.cfg ∧
    (lampFails s).shc.autoResume = s.shc.autoResume ∧ (lampFails s).pnp.power = s.pnp.power ∧
    (lampFails s).pnp.resp = s.pnp.resp ∧ (lampFails s).pnp.cfg = s.pnp.cfg ∧
    (lampFails s).pnp.store = s.pnp.store ∧ (lampFails s).pnp.load = s.pnp.load ∧
    (lampFails s).pnp.hoursWrite = s.pnp.hoursWrite ∧ (lampFails s).pnp.memPresent = s.pnp.memPresent ∧
    (lampFails s).pnp.idleSetting = s.pnp.idleSetting ∧ (lampFails s).pnp.event = s.pnp.event := by
  (unfold lampFails; (try dsimp only); (repeat' split) <;> simp_all)

@[simp] theorem resetHours_frame (s : State) :
    (resetHours s).pending = s.pending ∧ (resetHours s).pins = s.pins ∧ (resetHours s).psdo = s.psdo ∧
    (resetHours s).mem = s.mem ∧ (resetHours s).tru = s.tru ∧ (resetHours s).csq = s.csq ∧
    (resetHours s).sar = s.sar ∧ (resetHours s).dkc = s.dkc ∧ (resetHours s).cdc = s.cdc ∧
    (resetHours s).crn = s.crn ∧ (resetHours s).shc = s.shc ∧ (resetHours s).rmi = s.rmi ∧
    (resetHours s).lkc = s.lkc ∧ (resetHours s).lmc.lamp = s.lmc.lamp ∧ (resetHours s).lmc.claim = s.lmc.claim ∧
    (resetHours s).lmc.cfg = s.lmc.cfg ∧ (resetHours s).lmc.temp = s.lmc.temp ∧
    (resetHours s).lmc.dim = s.lmc.dim ∧ (resetHours s).lmc.trip = s.lmc.trip ∧
    (resetHours s).pnp.power = s.pnp.power ∧ (resetHours s).pnp.resp = s.pnp.resp ∧
    (resetHours s).pnp.cfg = s.pnp.cfg ∧ (resetHours s).pnp.store = s.pnp.store ∧
    (resetHours s).pnp.load = s.pnp.load ∧ (resetHours s).pnp.hoursWrite = s.pnp.hoursWrite ∧
    (resetHours s).pnp.memPresent = s.pnp.memPresent ∧ (resetHours s).pnp.idleSetting = s.pnp.idleSetting ∧
    (resetHours s).pnp.event = s.pnp.event := by
  (unfold resetHours; (try dsimp only); (repeat' split) <;> simp_all)

@[simp] theorem endOfReveal_frame (s : State) :
    (endOfReveal s).pending = s.pending ∧ (endOfReveal s).pins = s.pins ∧ (endOfReveal s).psdo = s.psdo ∧
    (endOfReveal s).mem = s.mem ∧ (endOfReveal s).tru = s.tru ∧ (endOfReveal s).csq = s.csq ∧
    (endOfReveal s).sar = s.sar ∧ (endOfReveal s).dkc = s.dkc ∧ (endOfReveal s).cdc = s.cdc ∧
    (endOfReveal s).crn = s.crn ∧ (endOfReveal s).shc = s.shc ∧ (endOfReveal s).rmi = s.rmi ∧
    (endOfReveal s).lkc = s.lkc ∧ (endOfReveal s).pnp = s.pnp ∧ (endOfReveal s).lmc.claim = s.lmc.claim ∧
    (endOfReveal s).lmc.hours = s.lmc.hours ∧ (endOfReveal s).lmc.cfg = s.lmc.cfg ∧
    (endOfReveal s).lmc.temp = s.lmc.temp ∧ (endOfReveal s).lmc.trip = s.lmc.trip := by
  (unfold endOfReveal; (try dsimp only); (repeat' split) <;> simp_all)

@[simp] theorem writeRecord_frame (src : Source) (k : ChangeKind) (t : Nat) (o : ChangeOutcome) (p : FinalPos) (s : State) :
    (writeRecord src k t o p s).pending = s.pending ∧ (writeRecord src k t o p s).pins = s.pins ∧
    (writeRecord src k t o p s).psdo = s.psdo ∧ (writeRecord src k t o p s).mem = s.mem ∧
    (writeRecord src k t o p s).tru = s.tru ∧ (writeRecord src k t o p s).csq = s.csq ∧
    (writeRecord src k t o p s).lmc = s.lmc ∧ (writeRecord src k t o p s).dkc = s.dkc ∧
    (writeRecord src k t o p s).cdc = s.cdc ∧ (writeRecord src k t o p s).crn = s.crn ∧
    (writeRecord src k t o p s).shc = s.shc ∧ (writeRecord src k t o p s).rmi = s.rmi ∧
    (writeRecord src k t o p s).lkc = s.lkc ∧ (writeRecord src k t o p s).sar.sources = s.sar.sources ∧
    (writeRecord src k t o p s).sar.cfg = s.sar.cfg ∧ (writeRecord src k t o p s).sar.waiting = s.sar.waiting ∧
    (writeRecord src k t o p s).sar.holder = s.sar.holder ∧ (writeRecord src k t o p s).pnp.power = s.pnp.power ∧
    (writeRecord src k t o p s).pnp.resp = s.pnp.resp ∧ (writeRecord src k t o p s).pnp.cfg = s.pnp.cfg ∧
    (writeRecord src k t o p s).pnp.store = s.pnp.store ∧ (writeRecord src k t o p s).pnp.load = s.pnp.load ∧
    (writeRecord src k t o p s).pnp.hoursWrite = s.pnp.hoursWrite ∧
    (writeRecord src k t o p s).pnp.hoursWaiting = s.pnp.hoursWaiting ∧
    (writeRecord src k t o p s).pnp.memPresent = s.pnp.memPresent ∧
    (writeRecord src k t o p s).pnp.idleSetting = s.pnp.idleSetting ∧
    (writeRecord src k t o p s).pnp.event = s.pnp.event := by
  (unfold writeRecord; (try dsimp only); (repeat' split) <;> simp_all)

@[simp] theorem countRefusal_frame (src : Source) (s : State) :
    (countRefusal src s).pending = s.pending ∧ (countRefusal src s).pins = s.pins ∧
    (countRefusal src s).psdo = s.psdo ∧ (countRefusal src s).mem = s.mem ∧ (countRefusal src s).tru = s.tru ∧
    (countRefusal src s).csq = s.csq ∧ (countRefusal src s).lmc = s.lmc ∧ (countRefusal src s).dkc = s.dkc ∧
    (countRefusal src s).cdc = s.cdc ∧ (countRefusal src s).crn = s.crn ∧ (countRefusal src s).shc = s.shc ∧
    (countRefusal src s).rmi = s.rmi ∧ (countRefusal src s).lkc = s.lkc ∧ (countRefusal src s).pnp = s.pnp ∧
    (countRefusal src s).sar.sources = s.sar.sources ∧ (countRefusal src s).sar.cfg = s.sar.cfg ∧
    (countRefusal src s).sar.waiting = s.sar.waiting ∧ (countRefusal src s).sar.holder = s.sar.holder := by
  (unfold countRefusal; (try dsimp only); (repeat' split) <;> simp_all)

@[simp] theorem dropWaiting_frame (o : ChangeOutcome) (s : State) :
    (dropWaiting o s).pending = s.pending ∧ (dropWaiting o s).pins = s.pins ∧ (dropWaiting o s).psdo = s.psdo ∧
    (dropWaiting o s).mem = s.mem ∧ (dropWaiting o s).tru = s.tru ∧ (dropWaiting o s).csq = s.csq ∧
    (dropWaiting o s).lmc = s.lmc ∧ (dropWaiting o s).dkc = s.dkc ∧ (dropWaiting o s).cdc = s.cdc ∧
    (dropWaiting o s).shc = s.shc ∧ (dropWaiting o s).rmi = s.rmi ∧ (dropWaiting o s).lkc = s.lkc ∧
    (dropWaiting o s).sar.sources = s.sar.sources ∧ (dropWaiting o s).sar.cfg = s.sar.cfg ∧
    (dropWaiting o s).sar.holder = s.sar.holder ∧ (dropWaiting o s).crn.table = s.crn.table ∧
    (dropWaiting o s).crn.queue = s.crn.queue ∧ (dropWaiting o s).crn.current = s.crn.current ∧
    (dropWaiting o s).pnp.power = s.pnp.power ∧ (dropWaiting o s).pnp.resp = s.pnp.resp ∧
    (dropWaiting o s).pnp.cfg = s.pnp.cfg ∧ (dropWaiting o s).pnp.store = s.pnp.store ∧
    (dropWaiting o s).pnp.load = s.pnp.load ∧ (dropWaiting o s).pnp.hoursWrite = s.pnp.hoursWrite ∧
    (dropWaiting o s).pnp.hoursWaiting = s.pnp.hoursWaiting ∧ (dropWaiting o s).pnp.memPresent = s.pnp.memPresent ∧
    (dropWaiting o s).pnp.idleSetting = s.pnp.idleSetting ∧ (dropWaiting o s).pnp.event = s.pnp.event := by
  (unfold dropWaiting; (try dsimp only); (repeat' split) <;> simp_all)

@[simp] theorem changeEnd_frame (o : ChangeOutcome) (p : FinalPos) (s : State) :
    (changeEnd o p s).pending = s.pending ∧ (changeEnd o p s).pins = s.pins ∧ (changeEnd o p s).psdo = s.psdo ∧
    (changeEnd o p s).mem = s.mem ∧ (changeEnd o p s).tru = s.tru ∧ (changeEnd o p s).lmc = s.lmc ∧
    (changeEnd o p s).dkc = s.dkc ∧ (changeEnd o p s).cdc = s.cdc ∧ (changeEnd o p s).shc = s.shc ∧
    (changeEnd o p s).rmi = s.rmi ∧ (changeEnd o p s).lkc = s.lkc ∧ (changeEnd o p s).csq.state = s.csq.state ∧
    (changeEnd o p s).csq.gate = s.csq.gate ∧ (changeEnd o p s).csq.origin = s.csq.origin ∧
    (changeEnd o p s).csq.cfg = s.csq.cfg ∧ (changeEnd o p s).csq.shutClosed = s.csq.shutClosed ∧
    (changeEnd o p s).csq.drive = s.csq.drive ∧ (changeEnd o p s).sar.sources = s.sar.sources ∧
    (changeEnd o p s).sar.cfg = s.sar.cfg ∧ (changeEnd o p s).crn.table = s.crn.table ∧
    (changeEnd o p s).crn.queue = s.crn.queue ∧ (changeEnd o p s).crn.current = s.crn.current ∧
    (changeEnd o p s).pnp.power = s.pnp.power ∧ (changeEnd o p s).pnp.resp = s.pnp.resp ∧
    (changeEnd o p s).pnp.cfg = s.pnp.cfg ∧ (changeEnd o p s).pnp.store = s.pnp.store ∧
    (changeEnd o p s).pnp.load = s.pnp.load ∧ (changeEnd o p s).pnp.hoursWrite = s.pnp.hoursWrite ∧
    (changeEnd o p s).pnp.hoursWaiting = s.pnp.hoursWaiting ∧ (changeEnd o p s).pnp.memPresent = s.pnp.memPresent ∧
    (changeEnd o p s).pnp.idleSetting = s.pnp.idleSetting ∧ (changeEnd o p s).pnp.event = s.pnp.event := by
  (unfold changeEnd; (try dsimp only); (repeat' split) <;> simp_all)

end Sys2Proof.Machine
end

