-- ==== Sys2Proof/Laws/StartFrames.lean ====
section
/-! SUPPORT. Frame laws (start of a change): what each shared operation leaves as it stands. -/

namespace Sys2Proof.Machine

@[simp] theorem enterDropping_frame (s : State) :
    (enterDropping s).pending = s.pending ∧ (enterDropping s).pins = s.pins ∧ (enterDropping s).psdo = s.psdo ∧
    (enterDropping s).mem = s.mem ∧ (enterDropping s).tru = s.tru ∧ (enterDropping s).sar = s.sar ∧
    (enterDropping s).lmc = s.lmc ∧ (enterDropping s).dkc = s.dkc ∧ (enterDropping s).cdc = s.cdc ∧
    (enterDropping s).crn = s.crn ∧ (enterDropping s).shc = s.shc ∧ (enterDropping s).rmi = s.rmi ∧
    (enterDropping s).lkc = s.lkc ∧ (enterDropping s).pnp = s.pnp ∧ (enterDropping s).csq.gate = s.csq.gate ∧
    (enterDropping s).csq.origin = s.csq.origin ∧ (enterDropping s).csq.flight = s.csq.flight ∧
    (enterDropping s).csq.cfg = s.csq.cfg ∧ (enterDropping s).csq.shutClosed = s.csq.shutClosed := by
  (unfold enterDropping; (try dsimp only); (repeat' split) <;> simp_all)

@[simp] theorem enterIndexing_frame (s : State) :
    (enterIndexing s).pending = s.pending ∧ (enterIndexing s).pins = s.pins ∧ (enterIndexing s).psdo = s.psdo ∧
    (enterIndexing s).mem = s.mem ∧ (enterIndexing s).tru = s.tru ∧ (enterIndexing s).sar = s.sar ∧
    (enterIndexing s).lmc = s.lmc ∧ (enterIndexing s).dkc = s.dkc ∧ (enterIndexing s).cdc = s.cdc ∧
    (enterIndexing s).crn = s.crn ∧ (enterIndexing s).shc = s.shc ∧ (enterIndexing s).rmi = s.rmi ∧
    (enterIndexing s).lkc = s.lkc ∧ (enterIndexing s).pnp = s.pnp ∧ (enterIndexing s).csq.gate = s.csq.gate ∧
    (enterIndexing s).csq.origin = s.csq.origin ∧ (enterIndexing s).csq.flight = s.csq.flight ∧
    (enterIndexing s).csq.cfg = s.csq.cfg ∧ (enterIndexing s).csq.shutClosed = s.csq.shutClosed := by
  (unfold enterIndexing; (try dsimp only); (repeat' split) <;> simp_all)

@[simp] theorem enterLifting_frame (s : State) :
    (enterLifting s).pending = s.pending ∧ (enterLifting s).pins = s.pins ∧ (enterLifting s).psdo = s.psdo ∧
    (enterLifting s).mem = s.mem ∧ (enterLifting s).tru = s.tru ∧ (enterLifting s).sar = s.sar ∧
    (enterLifting s).lmc = s.lmc ∧ (enterLifting s).dkc = s.dkc ∧ (enterLifting s).cdc = s.cdc ∧
    (enterLifting s).crn = s.crn ∧ (enterLifting s).shc = s.shc ∧ (enterLifting s).rmi = s.rmi ∧
    (enterLifting s).lkc = s.lkc ∧ (enterLifting s).pnp = s.pnp ∧ (enterLifting s).csq.gate = s.csq.gate ∧
    (enterLifting s).csq.origin = s.csq.origin ∧ (enterLifting s).csq.flight = s.csq.flight ∧
    (enterLifting s).csq.cfg = s.csq.cfg ∧ (enterLifting s).csq.shutClosed = s.csq.shutClosed := by
  (unfold enterLifting; (try dsimp only); (repeat' split) <;> simp_all)

@[simp] theorem toTarget_frame (s : State) :
    (toTarget s).pending = s.pending ∧ (toTarget s).pins = s.pins ∧ (toTarget s).psdo = s.psdo ∧
    (toTarget s).mem = s.mem ∧ (toTarget s).tru = s.tru ∧ (toTarget s).sar = s.sar ∧ (toTarget s).lmc = s.lmc ∧
    (toTarget s).dkc = s.dkc ∧ (toTarget s).cdc = s.cdc ∧ (toTarget s).crn = s.crn ∧ (toTarget s).shc = s.shc ∧
    (toTarget s).rmi = s.rmi ∧ (toTarget s).lkc = s.lkc ∧ (toTarget s).pnp = s.pnp ∧
    (toTarget s).csq.gate = s.csq.gate ∧ (toTarget s).csq.origin = s.csq.origin ∧
    (toTarget s).csq.flight = s.csq.flight ∧ (toTarget s).csq.cfg = s.csq.cfg ∧
    (toTarget s).csq.shutClosed = s.csq.shutClosed := by
  (unfold toTarget; (try dsimp only); (repeat' split) <;> simp_all)

@[simp] theorem blankingEnd_frame (s : State) :
    (blankingEnd s).pending = s.pending ∧ (blankingEnd s).pins = s.pins ∧ (blankingEnd s).psdo = s.psdo ∧
    (blankingEnd s).mem = s.mem ∧ (blankingEnd s).tru = s.tru ∧ (blankingEnd s).sar = s.sar ∧
    (blankingEnd s).lmc = s.lmc ∧ (blankingEnd s).dkc = s.dkc ∧ (blankingEnd s).cdc = s.cdc ∧
    (blankingEnd s).crn = s.crn ∧ (blankingEnd s).shc = s.shc ∧ (blankingEnd s).rmi = s.rmi ∧
    (blankingEnd s).lkc = s.lkc ∧ (blankingEnd s).pnp = s.pnp ∧ (blankingEnd s).csq.gate = s.csq.gate ∧
    (blankingEnd s).csq.origin = s.csq.origin ∧ (blankingEnd s).csq.flight = s.csq.flight ∧
    (blankingEnd s).csq.cfg = s.csq.cfg ∧ (blankingEnd s).csq.shutClosed = s.csq.shutClosed := by
  (unfold blankingEnd; (try dsimp only); (repeat' split) <;> simp_all)

@[simp] theorem startBlanking_frame (f : Flight) (s : State) :
    (startBlanking f s).pending = s.pending ∧ (startBlanking f s).pins = s.pins ∧
    (startBlanking f s).psdo = s.psdo ∧ (startBlanking f s).mem = s.mem ∧ (startBlanking f s).tru = s.tru ∧
    (startBlanking f s).sar = s.sar ∧ (startBlanking f s).dkc = s.dkc ∧ (startBlanking f s).cdc = s.cdc ∧
    (startBlanking f s).crn = s.crn ∧ (startBlanking f s).shc = s.shc ∧ (startBlanking f s).rmi = s.rmi ∧
    (startBlanking f s).lkc = s.lkc ∧ (startBlanking f s).pnp = s.pnp ∧ (startBlanking f s).csq.gate = s.csq.gate ∧
    (startBlanking f s).csq.origin = s.csq.origin ∧ (startBlanking f s).csq.flight = s.csq.flight ∧
    (startBlanking f s).csq.cfg = s.csq.cfg ∧ (startBlanking f s).lmc.hours = s.lmc.hours ∧
    (startBlanking f s).lmc.cfg = s.lmc.cfg ∧ (startBlanking f s).lmc.temp = s.lmc.temp ∧
    (startBlanking f s).lmc.trip = s.lmc.trip := by
  (unfold startBlanking; (try dsimp only); (repeat' split) <;> simp_all)

@[simp] theorem startChange_frame (src : Source) (k : ChangeKind) (t fade : Nat) (s : State) :
    (startChange src k t fade s).pending = s.pending ∧ (startChange src k t fade s).pins = s.pins ∧
    (startChange src k t fade s).psdo = s.psdo ∧ (startChange src k t fade s).mem = s.mem ∧
    (startChange src k t fade s).tru = s.tru ∧ (startChange src k t fade s).cdc = s.cdc ∧
    (startChange src k t fade s).rmi = s.rmi ∧ (startChange src k t fade s).lkc = s.lkc ∧
    (startChange src k t fade s).csq.gate = s.csq.gate ∧ (startChange src k t fade s).csq.origin = s.csq.origin ∧
    (startChange src k t fade s).csq.cfg = s.csq.cfg ∧ (startChange src k t fade s).sar.sources = s.sar.sources ∧
    (startChange src k t fade s).sar.cfg = s.sar.cfg ∧ (startChange src k t fade s).sar.waiting = s.sar.waiting ∧
    (startChange src k t fade s).sar.last = s.sar.last ∧ (startChange src k t fade s).lmc.hours = s.lmc.hours ∧
    (startChange src k t fade s).lmc.cfg = s.lmc.cfg ∧ (startChange src k t fade s).lmc.temp = s.lmc.temp ∧
    (startChange src k t fade s).lmc.trip = s.lmc.trip ∧ (startChange src k t fade s).dkc.clock = s.dkc.clock ∧
    (startChange src k t fade s).dkc.audio = s.dkc.audio ∧ (startChange src k t fade s).dkc.cfg = s.dkc.cfg ∧
    (startChange src k t fade s).crn.table = s.crn.table ∧ (startChange src k t fade s).crn.queue = s.crn.queue ∧
    (startChange src k t fade s).crn.progress = s.crn.progress ∧
    (startChange src k t fade s).crn.current = s.crn.current ∧
    (startChange src k t fade s).shc.autoResume = s.shc.autoResume ∧
    (startChange src k t fade s).pnp.power = s.pnp.power ∧ (startChange src k t fade s).pnp.resp = s.pnp.resp ∧
    (startChange src k t fade s).pnp.cfg = s.pnp.cfg ∧ (startChange src k t fade s).pnp.store = s.pnp.store ∧
    (startChange src k t fade s).pnp.load = s.pnp.load ∧
    (startChange src k t fade s).pnp.hoursWrite = s.pnp.hoursWrite ∧
    (startChange src k t fade s).pnp.hoursWaiting = s.pnp.hoursWaiting ∧
    (startChange src k t fade s).pnp.memPresent = s.pnp.memPresent ∧
    (startChange src k t fade s).pnp.idleSetting = s.pnp.idleSetting ∧
    (startChange src k t fade s).pnp.event = s.pnp.event := by
  (unfold startChange; (try dsimp only); (repeat' split) <;> simp_all)

@[simp] theorem refuseStart_frame (w : Waiting) (st : Status) (s : State) :
    (refuseStart w st s).pending = s.pending ∧ (refuseStart w st s).pins = s.pins ∧
    (refuseStart w st s).psdo = s.psdo ∧ (refuseStart w st s).mem = s.mem ∧ (refuseStart w st s).tru = s.tru ∧
    (refuseStart w st s).csq = s.csq ∧ (refuseStart w st s).lmc = s.lmc ∧ (refuseStart w st s).dkc = s.dkc ∧
    (refuseStart w st s).cdc = s.cdc ∧ (refuseStart w st s).shc = s.shc ∧ (refuseStart w st s).rmi = s.rmi ∧
    (refuseStart w st s).lkc = s.lkc ∧ (refuseStart w st s).sar.sources = s.sar.sources ∧
    (refuseStart w st s).sar.cfg = s.sar.cfg ∧ (refuseStart w st s).sar.holder = s.sar.holder ∧
    (refuseStart w st s).crn.table = s.crn.table ∧ (refuseStart w st s).crn.queue = s.crn.queue ∧
    (refuseStart w st s).crn.current = s.crn.current ∧ (refuseStart w st s).pnp.power = s.pnp.power ∧
    (refuseStart w st s).pnp.resp = s.pnp.resp ∧ (refuseStart w st s).pnp.cfg = s.pnp.cfg ∧
    (refuseStart w st s).pnp.store = s.pnp.store ∧ (refuseStart w st s).pnp.load = s.pnp.load ∧
    (refuseStart w st s).pnp.hoursWrite = s.pnp.hoursWrite ∧
    (refuseStart w st s).pnp.hoursWaiting = s.pnp.hoursWaiting ∧
    (refuseStart w st s).pnp.memPresent = s.pnp.memPresent ∧
    (refuseStart w st s).pnp.idleSetting = s.pnp.idleSetting ∧ (refuseStart w st s).pnp.event = s.pnp.event := by
  (unfold refuseStart; (try dsimp only); (repeat' split) <;> simp_all)

@[simp] theorem startPending_frame (s : State) :
    (startPending s).pending = s.pending ∧ (startPending s).pins = s.pins ∧ (startPending s).psdo = s.psdo ∧
    (startPending s).mem = s.mem ∧ (startPending s).tru = s.tru ∧ (startPending s).cdc = s.cdc ∧
    (startPending s).rmi = s.rmi ∧ (startPending s).lkc = s.lkc ∧ (startPending s).csq.gate = s.csq.gate ∧
    (startPending s).csq.origin = s.csq.origin ∧ (startPending s).csq.cfg = s.csq.cfg ∧
    (startPending s).sar.sources = s.sar.sources ∧ (startPending s).sar.cfg = s.sar.cfg ∧
    (startPending s).lmc.hours = s.lmc.hours ∧ (startPending s).lmc.cfg = s.lmc.cfg ∧
    (startPending s).lmc.temp = s.lmc.temp ∧ (startPending s).lmc.trip = s.lmc.trip ∧
    (startPending s).dkc.clock = s.dkc.clock ∧ (startPending s).dkc.audio = s.dkc.audio ∧
    (startPending s).dkc.cfg = s.dkc.cfg ∧ (startPending s).crn.table = s.crn.table ∧
    (startPending s).crn.queue = s.crn.queue ∧ (startPending s).crn.current = s.crn.current ∧
    (startPending s).shc.autoResume = s.shc.autoResume ∧ (startPending s).pnp.power = s.pnp.power ∧
    (startPending s).pnp.resp = s.pnp.resp ∧ (startPending s).pnp.cfg = s.pnp.cfg ∧
    (startPending s).pnp.store = s.pnp.store ∧ (startPending s).pnp.load = s.pnp.load ∧
    (startPending s).pnp.hoursWrite = s.pnp.hoursWrite ∧ (startPending s).pnp.hoursWaiting = s.pnp.hoursWaiting ∧
    (startPending s).pnp.memPresent = s.pnp.memPresent ∧ (startPending s).pnp.idleSetting = s.pnp.idleSetting ∧
    (startPending s).pnp.event = s.pnp.event := by
  (unfold startPending; (try dsimp only); (repeat' split) <;> simp_all)

/-- A start that does not leave STALLED touches neither the deck nor the show. -/
@[simp] theorem startChange_show (src : Source) (k : ChangeKind) (t fade : Nat) (s : State) (h : s.csq.state ≠ .stalled) :
    (startChange src k t fade s).dkc = s.dkc ∧ (startChange src k t fade s).shc = s.shc := by
  unfold startChange; simp [h]

@[simp] theorem startPending_show (s : State) (h : s.csq.state ≠ .stalled) :
    (startPending s).dkc = s.dkc ∧ (startPending s).shc = s.shc := by
  unfold startPending; dsimp only; (repeat' split) <;> simp_all

end Sys2Proof.Machine
end

