-- ==== Sys2Proof/Laws/SequencerFrames.lean ====
section
/-! SUPPORT. Frame laws (sequencer operations): what each shared operation leaves as it stands. -/

namespace Sys2Proof.Machine

@[simp] theorem endReveal_frame (s : State) :
    (endReveal s).pending = s.pending ∧ (endReveal s).pins = s.pins ∧ (endReveal s).psdo = s.psdo ∧
    (endReveal s).mem = s.mem ∧ (endReveal s).tru = s.tru ∧ (endReveal s).dkc = s.dkc ∧ (endReveal s).cdc = s.cdc ∧
    (endReveal s).shc = s.shc ∧ (endReveal s).rmi = s.rmi ∧ (endReveal s).lkc = s.lkc ∧
    (endReveal s).csq.gate = s.csq.gate ∧ (endReveal s).csq.origin = s.csq.origin ∧
    (endReveal s).csq.cfg = s.csq.cfg ∧ (endReveal s).sar.sources = s.sar.sources ∧
    (endReveal s).sar.cfg = s.sar.cfg ∧ (endReveal s).lmc.hours = s.lmc.hours ∧ (endReveal s).lmc.cfg = s.lmc.cfg ∧
    (endReveal s).lmc.temp = s.lmc.temp ∧ (endReveal s).lmc.trip = s.lmc.trip ∧
    (endReveal s).crn.table = s.crn.table ∧ (endReveal s).crn.queue = s.crn.queue ∧
    (endReveal s).crn.current = s.crn.current ∧ (endReveal s).pnp.power = s.pnp.power ∧
    (endReveal s).pnp.resp = s.pnp.resp ∧ (endReveal s).pnp.cfg = s.pnp.cfg ∧
    (endReveal s).pnp.store = s.pnp.store ∧ (endReveal s).pnp.load = s.pnp.load ∧
    (endReveal s).pnp.hoursWrite = s.pnp.hoursWrite ∧ (endReveal s).pnp.hoursWaiting = s.pnp.hoursWaiting ∧
    (endReveal s).pnp.memPresent = s.pnp.memPresent ∧ (endReveal s).pnp.idleSetting = s.pnp.idleSetting ∧
    (endReveal s).pnp.event = s.pnp.event := by
  (unfold endReveal; (try dsimp only); (repeat' split) <;> simp_all)

@[simp] theorem revealCheck_frame (s : State) :
    (revealCheck s).pending = s.pending ∧ (revealCheck s).pins = s.pins ∧ (revealCheck s).psdo = s.psdo ∧
    (revealCheck s).mem = s.mem ∧ (revealCheck s).tru = s.tru ∧ (revealCheck s).dkc = s.dkc ∧
    (revealCheck s).cdc = s.cdc ∧ (revealCheck s).shc = s.shc ∧ (revealCheck s).rmi = s.rmi ∧
    (revealCheck s).lkc = s.lkc ∧ (revealCheck s).csq.gate = s.csq.gate ∧
    (revealCheck s).csq.origin = s.csq.origin ∧ (revealCheck s).csq.cfg = s.csq.cfg ∧
    (revealCheck s).sar.sources = s.sar.sources ∧ (revealCheck s).sar.cfg = s.sar.cfg ∧
    (revealCheck s).lmc.hours = s.lmc.hours ∧ (revealCheck s).lmc.cfg = s.lmc.cfg ∧
    (revealCheck s).lmc.temp = s.lmc.temp ∧ (revealCheck s).lmc.trip = s.lmc.trip ∧
    (revealCheck s).crn.table = s.crn.table ∧ (revealCheck s).crn.queue = s.crn.queue ∧
    (revealCheck s).crn.current = s.crn.current ∧ (revealCheck s).pnp.power = s.pnp.power ∧
    (revealCheck s).pnp.resp = s.pnp.resp ∧ (revealCheck s).pnp.cfg = s.pnp.cfg ∧
    (revealCheck s).pnp.store = s.pnp.store ∧ (revealCheck s).pnp.load = s.pnp.load ∧
    (revealCheck s).pnp.hoursWrite = s.pnp.hoursWrite ∧ (revealCheck s).pnp.hoursWaiting = s.pnp.hoursWaiting ∧
    (revealCheck s).pnp.memPresent = s.pnp.memPresent ∧ (revealCheck s).pnp.idleSetting = s.pnp.idleSetting ∧
    (revealCheck s).pnp.event = s.pnp.event := by
  (unfold revealCheck; (try dsimp only); (repeat' split) <;> simp_all)

@[simp] theorem enterRevealing_frame (s : State) :
    (enterRevealing s).pending = s.pending ∧ (enterRevealing s).pins = s.pins ∧ (enterRevealing s).psdo = s.psdo ∧
    (enterRevealing s).mem = s.mem ∧ (enterRevealing s).tru = s.tru ∧ (enterRevealing s).dkc = s.dkc ∧
    (enterRevealing s).cdc = s.cdc ∧ (enterRevealing s).shc = s.shc ∧ (enterRevealing s).rmi = s.rmi ∧
    (enterRevealing s).lkc = s.lkc ∧ (enterRevealing s).csq.gate = s.csq.gate ∧
    (enterRevealing s).csq.origin = s.csq.origin ∧ (enterRevealing s).csq.cfg = s.csq.cfg ∧
    (enterRevealing s).sar.sources = s.sar.sources ∧ (enterRevealing s).sar.cfg = s.sar.cfg ∧
    (enterRevealing s).lmc.hours = s.lmc.hours ∧ (enterRevealing s).lmc.cfg = s.lmc.cfg ∧
    (enterRevealing s).lmc.temp = s.lmc.temp ∧ (enterRevealing s).lmc.trip = s.lmc.trip ∧
    (enterRevealing s).crn.table = s.crn.table ∧ (enterRevealing s).crn.queue = s.crn.queue ∧
    (enterRevealing s).crn.current = s.crn.current ∧ (enterRevealing s).pnp.power = s.pnp.power ∧
    (enterRevealing s).pnp.resp = s.pnp.resp ∧ (enterRevealing s).pnp.cfg = s.pnp.cfg ∧
    (enterRevealing s).pnp.store = s.pnp.store ∧ (enterRevealing s).pnp.load = s.pnp.load ∧
    (enterRevealing s).pnp.hoursWrite = s.pnp.hoursWrite ∧
    (enterRevealing s).pnp.hoursWaiting = s.pnp.hoursWaiting ∧
    (enterRevealing s).pnp.memPresent = s.pnp.memPresent ∧ (enterRevealing s).pnp.idleSetting = s.pnp.idleSetting ∧
    (enterRevealing s).pnp.event = s.pnp.event := by
  (unfold enterRevealing; (try dsimp only); (repeat' split) <;> simp_all)

@[simp] theorem releaseBlanking_frame (fade : Nat) (s : State) :
    (releaseBlanking fade s).pending = s.pending ∧ (releaseBlanking fade s).pins = s.pins ∧
    (releaseBlanking fade s).psdo = s.psdo ∧ (releaseBlanking fade s).mem = s.mem ∧
    (releaseBlanking fade s).tru = s.tru ∧ (releaseBlanking fade s).sar = s.sar ∧
    (releaseBlanking fade s).dkc = s.dkc ∧ (releaseBlanking fade s).cdc = s.cdc ∧
    (releaseBlanking fade s).crn = s.crn ∧ (releaseBlanking fade s).shc = s.shc ∧
    (releaseBlanking fade s).rmi = s.rmi ∧ (releaseBlanking fade s).lkc = s.lkc ∧
    (releaseBlanking fade s).pnp = s.pnp ∧ (releaseBlanking fade s).csq.state = s.csq.state ∧
    (releaseBlanking fade s).csq.gate = s.csq.gate ∧ (releaseBlanking fade s).csq.origin = s.csq.origin ∧
    (releaseBlanking fade s).csq.flight = s.csq.flight ∧ (releaseBlanking fade s).csq.cfg = s.csq.cfg ∧
    (releaseBlanking fade s).csq.drive = s.csq.drive ∧ (releaseBlanking fade s).lmc.hours = s.lmc.hours ∧
    (releaseBlanking fade s).lmc.cfg = s.lmc.cfg ∧ (releaseBlanking fade s).lmc.temp = s.lmc.temp ∧
    (releaseBlanking fade s).lmc.trip = s.lmc.trip := by
  (unfold releaseBlanking; (try dsimp only); (repeat' split) <;> simp_all)

@[simp] theorem enterJammed_frame (c : StopCause) (s : State) :
    (enterJammed c s).pending = s.pending ∧ (enterJammed c s).pins = s.pins ∧ (enterJammed c s).psdo = s.psdo ∧
    (enterJammed c s).mem = s.mem ∧ (enterJammed c s).tru = s.tru ∧ (enterJammed c s).lmc = s.lmc ∧
    (enterJammed c s).cdc = s.cdc ∧ (enterJammed c s).rmi = s.rmi ∧ (enterJammed c s).lkc = s.lkc ∧
    (enterJammed c s).csq.gate = s.csq.gate ∧ (enterJammed c s).csq.origin = s.csq.origin ∧
    (enterJammed c s).csq.cfg = s.csq.cfg ∧ (enterJammed c s).csq.shutClosed = s.csq.shutClosed ∧
    (enterJammed c s).sar.sources = s.sar.sources ∧ (enterJammed c s).sar.cfg = s.sar.cfg ∧
    (enterJammed c s).dkc.clock = s.dkc.clock ∧ (enterJammed c s).dkc.audio = s.dkc.audio ∧
    (enterJammed c s).dkc.cfg = s.dkc.cfg ∧ (enterJammed c s).crn.table = s.crn.table ∧
    (enterJammed c s).crn.queue = s.crn.queue ∧ (enterJammed c s).crn.current = s.crn.current ∧
    (enterJammed c s).shc.autoResume = s.shc.autoResume ∧ (enterJammed c s).pnp.power = s.pnp.power ∧
    (enterJammed c s).pnp.resp = s.pnp.resp ∧ (enterJammed c s).pnp.cfg = s.pnp.cfg ∧
    (enterJammed c s).pnp.store = s.pnp.store ∧ (enterJammed c s).pnp.load = s.pnp.load ∧
    (enterJammed c s).pnp.hoursWrite = s.pnp.hoursWrite ∧ (enterJammed c s).pnp.hoursWaiting = s.pnp.hoursWaiting ∧
    (enterJammed c s).pnp.memPresent = s.pnp.memPresent ∧ (enterJammed c s).pnp.idleSetting = s.pnp.idleSetting ∧
    (enterJammed c s).pnp.event = s.pnp.event := by
  (unfold enterJammed; (try dsimp only); (repeat' split) <;> simp_all)

@[simp] theorem enterStalled_frame (c : StopCause) (s : State) :
    (enterStalled c s).pending = s.pending ∧ (enterStalled c s).pins = s.pins ∧ (enterStalled c s).psdo = s.psdo ∧
    (enterStalled c s).mem = s.mem ∧ (enterStalled c s).lmc = s.lmc ∧ (enterStalled c s).cdc = s.cdc ∧
    (enterStalled c s).rmi = s.rmi ∧ (enterStalled c s).lkc = s.lkc ∧ (enterStalled c s).tru.map = s.tru.map ∧
    (enterStalled c s).tru.present = s.tru.present ∧ (enterStalled c s).tru.cfg = s.tru.cfg ∧
    (enterStalled c s).csq.gate = s.csq.gate ∧ (enterStalled c s).csq.origin = s.csq.origin ∧
    (enterStalled c s).csq.cfg = s.csq.cfg ∧ (enterStalled c s).csq.shutClosed = s.csq.shutClosed ∧
    (enterStalled c s).sar.sources = s.sar.sources ∧ (enterStalled c s).sar.cfg = s.sar.cfg ∧
    (enterStalled c s).dkc.clock = s.dkc.clock ∧ (enterStalled c s).dkc.audio = s.dkc.audio ∧
    (enterStalled c s).dkc.cfg = s.dkc.cfg ∧ (enterStalled c s).crn.table = s.crn.table ∧
    (enterStalled c s).crn.queue = s.crn.queue ∧ (enterStalled c s).crn.current = s.crn.current ∧
    (enterStalled c s).shc.autoResume = s.shc.autoResume ∧ (enterStalled c s).pnp.power = s.pnp.power ∧
    (enterStalled c s).pnp.resp = s.pnp.resp ∧ (enterStalled c s).pnp.cfg = s.pnp.cfg ∧
    (enterStalled c s).pnp.store = s.pnp.store ∧ (enterStalled c s).pnp.load = s.pnp.load ∧
    (enterStalled c s).pnp.hoursWrite = s.pnp.hoursWrite ∧
    (enterStalled c s).pnp.hoursWaiting = s.pnp.hoursWaiting ∧
    (enterStalled c s).pnp.memPresent = s.pnp.memPresent ∧ (enterStalled c s).pnp.idleSetting = s.pnp.idleSetting ∧
    (enterStalled c s).pnp.event = s.pnp.event := by
  (unfold enterStalled; (try dsimp only); (repeat' split) <;> simp_all)

@[simp] theorem shutterFallback_frame (s : State) :
    (shutterFallback s).pending = s.pending ∧ (shutterFallback s).pins = s.pins ∧
    (shutterFallback s).psdo = s.psdo ∧ (shutterFallback s).mem = s.mem ∧ (shutterFallback s).tru = s.tru ∧
    (shutterFallback s).sar = s.sar ∧ (shutterFallback s).dkc = s.dkc ∧ (shutterFallback s).cdc = s.cdc ∧
    (shutterFallback s).crn = s.crn ∧ (shutterFallback s).shc = s.shc ∧ (shutterFallback s).rmi = s.rmi ∧
    (shutterFallback s).lkc = s.lkc ∧ (shutterFallback s).csq.state = s.csq.state ∧
    (shutterFallback s).csq.gate = s.csq.gate ∧ (shutterFallback s).csq.origin = s.csq.origin ∧
    (shutterFallback s).csq.flight = s.csq.flight ∧ (shutterFallback s).csq.cfg = s.csq.cfg ∧
    (shutterFallback s).csq.shutClosed = s.csq.shutClosed ∧ (shutterFallback s).csq.drive = s.csq.drive ∧
    (shutterFallback s).lmc.hours = s.lmc.hours ∧ (shutterFallback s).lmc.cfg = s.lmc.cfg ∧
    (shutterFallback s).lmc.temp = s.lmc.temp ∧ (shutterFallback s).lmc.trip = s.lmc.trip ∧
    (shutterFallback s).pnp.power = s.pnp.power ∧ (shutterFallback s).pnp.resp = s.pnp.resp ∧
    (shutterFallback s).pnp.cfg = s.pnp.cfg ∧ (shutterFallback s).pnp.store = s.pnp.store ∧
    (shutterFallback s).pnp.load = s.pnp.load ∧ (shutterFallback s).pnp.hoursWrite = s.pnp.hoursWrite ∧
    (shutterFallback s).pnp.hoursWaiting = s.pnp.hoursWaiting ∧
    (shutterFallback s).pnp.memPresent = s.pnp.memPresent ∧
    (shutterFallback s).pnp.idleSetting = s.pnp.idleSetting ∧ (shutterFallback s).pnp.event = s.pnp.event := by
  (unfold shutterFallback; (try dsimp only); (repeat' split) <;> simp_all)

@[simp] theorem positionReport_frame (s : State) :
    (positionReport s).pending = s.pending ∧ (positionReport s).pins = s.pins ∧ (positionReport s).psdo = s.psdo ∧
    (positionReport s).mem = s.mem ∧ (positionReport s).tru = s.tru ∧ (positionReport s).sar = s.sar ∧
    (positionReport s).lmc = s.lmc ∧ (positionReport s).dkc = s.dkc ∧ (positionReport s).cdc = s.cdc ∧
    (positionReport s).crn = s.crn ∧ (positionReport s).shc = s.shc ∧ (positionReport s).rmi = s.rmi ∧
    (positionReport s).lkc = s.lkc ∧ (positionReport s).pnp = s.pnp ∧ (positionReport s).csq.gate = s.csq.gate ∧
    (positionReport s).csq.origin = s.csq.origin ∧ (positionReport s).csq.flight = s.csq.flight ∧
    (positionReport s).csq.cfg = s.csq.cfg ∧ (positionReport s).csq.shutClosed = s.csq.shutClosed := by
  (unfold positionReport; (try dsimp only); (repeat' split) <;> simp_all)

@[simp] theorem restartStep_frame (s : State) :
    (restartStep s).pending = s.pending ∧ (restartStep s).pins = s.pins ∧ (restartStep s).psdo = s.psdo ∧
    (restartStep s).mem = s.mem ∧ (restartStep s).tru = s.tru ∧ (restartStep s).sar = s.sar ∧
    (restartStep s).lmc = s.lmc ∧ (restartStep s).dkc = s.dkc ∧ (restartStep s).cdc = s.cdc ∧
    (restartStep s).crn = s.crn ∧ (restartStep s).shc = s.shc ∧ (restartStep s).rmi = s.rmi ∧
    (restartStep s).lkc = s.lkc ∧ (restartStep s).pnp = s.pnp ∧ (restartStep s).csq.state = s.csq.state ∧
    (restartStep s).csq.gate = s.csq.gate ∧ (restartStep s).csq.origin = s.csq.origin ∧
    (restartStep s).csq.flight = s.csq.flight ∧ (restartStep s).csq.cfg = s.csq.cfg ∧
    (restartStep s).csq.shutClosed = s.csq.shutClosed ∧ (restartStep s).csq.drive = s.csq.drive := by
  (unfold restartStep; (try dsimp only); (repeat' split) <;> simp_all)

@[simp] theorem skipOn_frame (s : State) :
    (skipOn s).pending = s.pending ∧ (skipOn s).pins = s.pins ∧ (skipOn s).psdo = s.psdo ∧ (skipOn s).mem = s.mem ∧
    (skipOn s).tru = s.tru ∧ (skipOn s).cdc = s.cdc ∧ (skipOn s).rmi = s.rmi ∧ (skipOn s).lkc = s.lkc ∧
    (skipOn s).csq.gate = s.csq.gate ∧ (skipOn s).csq.origin = s.csq.origin ∧ (skipOn s).csq.cfg = s.csq.cfg ∧
    (skipOn s).sar.sources = s.sar.sources ∧ (skipOn s).sar.cfg = s.sar.cfg ∧ (skipOn s).lmc.hours = s.lmc.hours ∧
    (skipOn s).lmc.cfg = s.lmc.cfg ∧ (skipOn s).lmc.temp = s.lmc.temp ∧ (skipOn s).lmc.trip = s.lmc.trip ∧
    (skipOn s).dkc.clock = s.dkc.clock ∧ (skipOn s).dkc.audio = s.dkc.audio ∧ (skipOn s).dkc.cfg = s.dkc.cfg ∧
    (skipOn s).crn.table = s.crn.table ∧ (skipOn s).crn.queue = s.crn.queue ∧
    (skipOn s).crn.current = s.crn.current ∧ (skipOn s).shc.autoResume = s.shc.autoResume ∧
    (skipOn s).pnp.power = s.pnp.power ∧ (skipOn s).pnp.resp = s.pnp.resp ∧ (skipOn s).pnp.cfg = s.pnp.cfg ∧
    (skipOn s).pnp.store = s.pnp.store ∧ (skipOn s).pnp.load = s.pnp.load ∧
    (skipOn s).pnp.hoursWrite = s.pnp.hoursWrite ∧ (skipOn s).pnp.hoursWaiting = s.pnp.hoursWaiting ∧
    (skipOn s).pnp.memPresent = s.pnp.memPresent ∧ (skipOn s).pnp.idleSetting = s.pnp.idleSetting ∧
    (skipOn s).pnp.event = s.pnp.event := by
  (unfold skipOn; (try dsimp only); (repeat' split) <;> simp_all)

@[simp] theorem liftDone_frame (s : State) :
    (liftDone s).pending = s.pending ∧ (liftDone s).pins = s.pins ∧ (liftDone s).psdo = s.psdo ∧
    (liftDone s).mem = s.mem ∧ (liftDone s).tru = s.tru ∧ (liftDone s).cdc = s.cdc ∧ (liftDone s).rmi = s.rmi ∧
    (liftDone s).lkc = s.lkc ∧ (liftDone s).csq.cfg = s.csq.cfg ∧ (liftDone s).sar.sources = s.sar.sources ∧
    (liftDone s).sar.cfg = s.sar.cfg ∧ (liftDone s).lmc.hours = s.lmc.hours ∧ (liftDone s).lmc.cfg = s.lmc.cfg ∧
    (liftDone s).lmc.temp = s.lmc.temp ∧ (liftDone s).lmc.trip = s.lmc.trip ∧
    (liftDone s).dkc.clock = s.dkc.clock ∧ (liftDone s).dkc.audio = s.dkc.audio ∧
    (liftDone s).dkc.cfg = s.dkc.cfg ∧ (liftDone s).crn.table = s.crn.table ∧
    (liftDone s).crn.queue = s.crn.queue ∧ (liftDone s).crn.current = s.crn.current ∧
    (liftDone s).shc.autoResume = s.shc.autoResume ∧ (liftDone s).pnp.power = s.pnp.power ∧
    (liftDone s).pnp.resp = s.pnp.resp ∧ (liftDone s).pnp.cfg = s.pnp.cfg ∧ (liftDone s).pnp.store = s.pnp.store ∧
    (liftDone s).pnp.load = s.pnp.load ∧ (liftDone s).pnp.hoursWrite = s.pnp.hoursWrite ∧
    (liftDone s).pnp.hoursWaiting = s.pnp.hoursWaiting ∧ (liftDone s).pnp.memPresent = s.pnp.memPresent ∧
    (liftDone s).pnp.idleSetting = s.pnp.idleSetting ∧ (liftDone s).pnp.event = s.pnp.event := by
  (unfold liftDone; (try dsimp only); (repeat' split) <;> simp_all)

@[simp] theorem liftFails_frame (s : State) :
    (liftFails s).pending = s.pending ∧ (liftFails s).pins = s.pins ∧ (liftFails s).psdo = s.psdo ∧
    (liftFails s).mem = s.mem ∧ (liftFails s).lmc = s.lmc ∧ (liftFails s).cdc = s.cdc ∧ (liftFails s).rmi = s.rmi ∧
    (liftFails s).lkc = s.lkc ∧ (liftFails s).tru.position = s.tru.position ∧
    (liftFails s).tru.present = s.tru.present ∧ (liftFails s).tru.cfg = s.tru.cfg ∧
    (liftFails s).csq.cfg = s.csq.cfg ∧ (liftFails s).csq.shutClosed = s.csq.shutClosed ∧
    (liftFails s).sar.sources = s.sar.sources ∧ (liftFails s).sar.cfg = s.sar.cfg ∧
    (liftFails s).dkc.clock = s.dkc.clock ∧ (liftFails s).dkc.audio = s.dkc.audio ∧
    (liftFails s).dkc.cfg = s.dkc.cfg ∧ (liftFails s).crn.table = s.crn.table ∧
    (liftFails s).crn.queue = s.crn.queue ∧ (liftFails s).crn.current = s.crn.current ∧
    (liftFails s).shc.autoResume = s.shc.autoResume ∧ (liftFails s).pnp.power = s.pnp.power ∧
    (liftFails s).pnp.resp = s.pnp.resp ∧ (liftFails s).pnp.cfg = s.pnp.cfg ∧
    (liftFails s).pnp.store = s.pnp.store ∧ (liftFails s).pnp.load = s.pnp.load ∧
    (liftFails s).pnp.hoursWrite = s.pnp.hoursWrite ∧ (liftFails s).pnp.hoursWaiting = s.pnp.hoursWaiting ∧
    (liftFails s).pnp.memPresent = s.pnp.memPresent ∧ (liftFails s).pnp.idleSetting = s.pnp.idleSetting ∧
    (liftFails s).pnp.event = s.pnp.event := by
  (unfold liftFails; (try dsimp only); (repeat' split) <;> simp_all)

@[simp] theorem dropFails_frame (b : Bool) (s : State) :
    (dropFails b s).pending = s.pending ∧ (dropFails b s).pins = s.pins ∧ (dropFails b s).psdo = s.psdo ∧
    (dropFails b s).mem = s.mem ∧ (dropFails b s).lmc = s.lmc ∧ (dropFails b s).cdc = s.cdc ∧
    (dropFails b s).rmi = s.rmi ∧ (dropFails b s).lkc = s.lkc ∧ (dropFails b s).tru.position = s.tru.position ∧
    (dropFails b s).tru.present = s.tru.present ∧ (dropFails b s).tru.cfg = s.tru.cfg ∧
    (dropFails b s).csq.cfg = s.csq.cfg ∧ (dropFails b s).csq.shutClosed = s.csq.shutClosed ∧
    (dropFails b s).sar.sources = s.sar.sources ∧ (dropFails b s).sar.cfg = s.sar.cfg ∧
    (dropFails b s).dkc.clock = s.dkc.clock ∧ (dropFails b s).dkc.audio = s.dkc.audio ∧
    (dropFails b s).dkc.cfg = s.dkc.cfg ∧ (dropFails b s).crn.table = s.crn.table ∧
    (dropFails b s).crn.queue = s.crn.queue ∧ (dropFails b s).crn.current = s.crn.current ∧
    (dropFails b s).shc.autoResume = s.shc.autoResume ∧ (dropFails b s).pnp.power = s.pnp.power ∧
    (dropFails b s).pnp.resp = s.pnp.resp ∧ (dropFails b s).pnp.cfg = s.pnp.cfg ∧
    (dropFails b s).pnp.store = s.pnp.store ∧ (dropFails b s).pnp.load = s.pnp.load ∧
    (dropFails b s).pnp.hoursWrite = s.pnp.hoursWrite ∧ (dropFails b s).pnp.hoursWaiting = s.pnp.hoursWaiting ∧
    (dropFails b s).pnp.memPresent = s.pnp.memPresent ∧ (dropFails b s).pnp.idleSetting = s.pnp.idleSetting ∧
    (dropFails b s).pnp.event = s.pnp.event := by
  (unfold dropFails; (try dsimp only); (repeat' split) <;> simp_all)

@[simp] theorem liftLimit_frame (s : State) :
    (liftLimit s).pending = s.pending ∧ (liftLimit s).pins = s.pins ∧ (liftLimit s).psdo = s.psdo ∧
    (liftLimit s).mem = s.mem ∧ (liftLimit s).lmc = s.lmc ∧ (liftLimit s).cdc = s.cdc ∧ (liftLimit s).rmi = s.rmi ∧
    (liftLimit s).lkc = s.lkc ∧ (liftLimit s).tru.position = s.tru.position ∧
    (liftLimit s).tru.present = s.tru.present ∧ (liftLimit s).tru.cfg = s.tru.cfg ∧
    (liftLimit s).csq.cfg = s.csq.cfg ∧ (liftLimit s).csq.shutClosed = s.csq.shutClosed ∧
    (liftLimit s).sar.sources = s.sar.sources ∧ (liftLimit s).sar.cfg = s.sar.cfg ∧
    (liftLimit s).dkc.clock = s.dkc.clock ∧ (liftLimit s).dkc.audio = s.dkc.audio ∧
    (liftLimit s).dkc.cfg = s.dkc.cfg ∧ (liftLimit s).crn.table = s.crn.table ∧
    (liftLimit s).crn.queue = s.crn.queue ∧ (liftLimit s).crn.current = s.crn.current ∧
    (liftLimit s).shc.autoResume = s.shc.autoResume ∧ (liftLimit s).pnp.power = s.pnp.power ∧
    (liftLimit s).pnp.resp = s.pnp.resp ∧ (liftLimit s).pnp.cfg = s.pnp.cfg ∧
    (liftLimit s).pnp.store = s.pnp.store ∧ (liftLimit s).pnp.load = s.pnp.load ∧
    (liftLimit s).pnp.hoursWrite = s.pnp.hoursWrite ∧ (liftLimit s).pnp.hoursWaiting = s.pnp.hoursWaiting ∧
    (liftLimit s).pnp.memPresent = s.pnp.memPresent ∧ (liftLimit s).pnp.idleSetting = s.pnp.idleSetting ∧
    (liftLimit s).pnp.event = s.pnp.event := by
  (unfold liftLimit; (try dsimp only); (repeat' split) <;> simp_all)

@[simp] theorem dropLands_frame (s : State) :
    (dropLands s).pending = s.pending ∧ (dropLands s).pins = s.pins ∧ (dropLands s).psdo = s.psdo ∧
    (dropLands s).mem = s.mem ∧ (dropLands s).dkc = s.dkc ∧ (dropLands s).cdc = s.cdc ∧ (dropLands s).shc = s.shc ∧
    (dropLands s).rmi = s.rmi ∧ (dropLands s).lkc = s.lkc ∧ (dropLands s).tru.position = s.tru.position ∧
    (dropLands s).tru.present = s.tru.present ∧ (dropLands s).tru.cfg = s.tru.cfg ∧
    (dropLands s).csq.cfg = s.csq.cfg ∧ (dropLands s).sar.sources = s.sar.sources ∧
    (dropLands s).sar.cfg = s.sar.cfg ∧ (dropLands s).lmc.hours = s.lmc.hours ∧ (dropLands s).lmc.cfg = s.lmc.cfg ∧
    (dropLands s).lmc.temp = s.lmc.temp ∧ (dropLands s).lmc.trip = s.lmc.trip ∧
    (dropLands s).crn.table = s.crn.table ∧ (dropLands s).crn.queue = s.crn.queue ∧
    (dropLands s).crn.current = s.crn.current ∧ (dropLands s).pnp.power = s.pnp.power ∧
    (dropLands s).pnp.resp = s.pnp.resp ∧ (dropLands s).pnp.cfg = s.pnp.cfg ∧
    (dropLands s).pnp.store = s.pnp.store ∧ (dropLands s).pnp.load = s.pnp.load ∧
    (dropLands s).pnp.hoursWrite = s.pnp.hoursWrite ∧ (dropLands s).pnp.hoursWaiting = s.pnp.hoursWaiting ∧
    (dropLands s).pnp.memPresent = s.pnp.memPresent ∧ (dropLands s).pnp.idleSetting = s.pnp.idleSetting ∧
    (dropLands s).pnp.event = s.pnp.event := by
  (unfold dropLands; (try dsimp only); (repeat' split) <;> simp_all)

@[simp] theorem dropLimit_frame (s : State) :
    (dropLimit s).pending = s.pending ∧ (dropLimit s).pins = s.pins ∧ (dropLimit s).psdo = s.psdo ∧
    (dropLimit s).mem = s.mem ∧ (dropLimit s).cdc = s.cdc ∧ (dropLimit s).rmi = s.rmi ∧ (dropLimit s).lkc = s.lkc ∧
    (dropLimit s).tru.position = s.tru.position ∧ (dropLimit s).tru.present = s.tru.present ∧
    (dropLimit s).tru.cfg = s.tru.cfg ∧ (dropLimit s).csq.cfg = s.csq.cfg ∧
    (dropLimit s).sar.sources = s.sar.sources ∧ (dropLimit s).sar.cfg = s.sar.cfg ∧
    (dropLimit s).lmc.hours = s.lmc.hours ∧ (dropLimit s).lmc.cfg = s.lmc.cfg ∧
    (dropLimit s).lmc.temp = s.lmc.temp ∧ (dropLimit s).lmc.trip = s.lmc.trip ∧
    (dropLimit s).dkc.clock = s.dkc.clock ∧ (dropLimit s).dkc.audio = s.dkc.audio ∧
    (dropLimit s).dkc.cfg = s.dkc.cfg ∧ (dropLimit s).crn.table = s.crn.table ∧
    (dropLimit s).crn.queue = s.crn.queue ∧ (dropLimit s).crn.current = s.crn.current ∧
    (dropLimit s).shc.autoResume = s.shc.autoResume ∧ (dropLimit s).pnp.power = s.pnp.power ∧
    (dropLimit s).pnp.resp = s.pnp.resp ∧ (dropLimit s).pnp.cfg = s.pnp.cfg ∧
    (dropLimit s).pnp.store = s.pnp.store ∧ (dropLimit s).pnp.load = s.pnp.load ∧
    (dropLimit s).pnp.hoursWrite = s.pnp.hoursWrite ∧ (dropLimit s).pnp.hoursWaiting = s.pnp.hoursWaiting ∧
    (dropLimit s).pnp.memPresent = s.pnp.memPresent ∧ (dropLimit s).pnp.idleSetting = s.pnp.idleSetting ∧
    (dropLimit s).pnp.event = s.pnp.event := by
  (unfold dropLimit; (try dsimp only); (repeat' split) <;> simp_all)

@[simp] theorem lampReports_frame (s : State) :
    (lampReports s).pending = s.pending ∧ (lampReports s).pins = s.pins ∧ (lampReports s).psdo = s.psdo ∧
    (lampReports s).mem = s.mem ∧ (lampReports s).tru = s.tru ∧ (lampReports s).dkc = s.dkc ∧
    (lampReports s).cdc = s.cdc ∧ (lampReports s).shc = s.shc ∧ (lampReports s).rmi = s.rmi ∧
    (lampReports s).lkc = s.lkc ∧ (lampReports s).csq.gate = s.csq.gate ∧
    (lampReports s).csq.origin = s.csq.origin ∧ (lampReports s).csq.cfg = s.csq.cfg ∧
    (lampReports s).sar.sources = s.sar.sources ∧ (lampReports s).sar.cfg = s.sar.cfg ∧
    (lampReports s).lmc.hours = s.lmc.hours ∧ (lampReports s).lmc.cfg = s.lmc.cfg ∧
    (lampReports s).lmc.temp = s.lmc.temp ∧ (lampReports s).lmc.trip = s.lmc.trip ∧
    (lampReports s).crn.table = s.crn.table ∧ (lampReports s).crn.queue = s.crn.queue ∧
    (lampReports s).crn.current = s.crn.current ∧ (lampReports s).pnp.power = s.pnp.power ∧
    (lampReports s).pnp.resp = s.pnp.resp ∧ (lampReports s).pnp.cfg = s.pnp.cfg ∧
    (lampReports s).pnp.store = s.pnp.store ∧ (lampReports s).pnp.load = s.pnp.load ∧
    (lampReports s).pnp.hoursWrite = s.pnp.hoursWrite ∧ (lampReports s).pnp.hoursWaiting = s.pnp.hoursWaiting ∧
    (lampReports s).pnp.memPresent = s.pnp.memPresent ∧ (lampReports s).pnp.idleSetting = s.pnp.idleSetting ∧
    (lampReports s).pnp.event = s.pnp.event := by
  (unfold lampReports; (try dsimp only); (repeat' split) <;> simp_all)

@[simp] theorem revealReplaced_frame (s : State) :
    (revealReplaced s).pending = s.pending ∧ (revealReplaced s).pins = s.pins ∧ (revealReplaced s).psdo = s.psdo ∧
    (revealReplaced s).mem = s.mem ∧ (revealReplaced s).tru = s.tru ∧ (revealReplaced s).dkc = s.dkc ∧
    (revealReplaced s).cdc = s.cdc ∧ (revealReplaced s).shc = s.shc ∧ (revealReplaced s).rmi = s.rmi ∧
    (revealReplaced s).lkc = s.lkc ∧ (revealReplaced s).csq.gate = s.csq.gate ∧
    (revealReplaced s).csq.origin = s.csq.origin ∧ (revealReplaced s).csq.cfg = s.csq.cfg ∧
    (revealReplaced s).sar.sources = s.sar.sources ∧ (revealReplaced s).sar.cfg = s.sar.cfg ∧
    (revealReplaced s).lmc.hours = s.lmc.hours ∧ (revealReplaced s).lmc.cfg = s.lmc.cfg ∧
    (revealReplaced s).lmc.temp = s.lmc.temp ∧ (revealReplaced s).lmc.trip = s.lmc.trip ∧
    (revealReplaced s).crn.table = s.crn.table ∧ (revealReplaced s).crn.queue = s.crn.queue ∧
    (revealReplaced s).crn.current = s.crn.current ∧ (revealReplaced s).pnp.power = s.pnp.power ∧
    (revealReplaced s).pnp.resp = s.pnp.resp ∧ (revealReplaced s).pnp.cfg = s.pnp.cfg ∧
    (revealReplaced s).pnp.store = s.pnp.store ∧ (revealReplaced s).pnp.load = s.pnp.load ∧
    (revealReplaced s).pnp.hoursWrite = s.pnp.hoursWrite ∧
    (revealReplaced s).pnp.hoursWaiting = s.pnp.hoursWaiting ∧
    (revealReplaced s).pnp.memPresent = s.pnp.memPresent ∧ (revealReplaced s).pnp.idleSetting = s.pnp.idleSetting ∧
    (revealReplaced s).pnp.event = s.pnp.event := by
  (unfold revealReplaced; (try dsimp only); (repeat' split) <;> simp_all)

@[simp] theorem shutterActive_frame (s : State) :
    (shutterActive s).pending = s.pending ∧ (shutterActive s).psdo = s.psdo ∧ (shutterActive s).mem = s.mem ∧
    (shutterActive s).tru = s.tru ∧ (shutterActive s).sar = s.sar ∧ (shutterActive s).lmc = s.lmc ∧
    (shutterActive s).dkc = s.dkc ∧ (shutterActive s).cdc = s.cdc ∧ (shutterActive s).crn = s.crn ∧
    (shutterActive s).shc = s.shc ∧ (shutterActive s).rmi = s.rmi ∧ (shutterActive s).lkc = s.lkc ∧
    (shutterActive s).pnp = s.pnp ∧ (shutterActive s).csq.gate = s.csq.gate ∧
    (shutterActive s).csq.origin = s.csq.origin ∧ (shutterActive s).csq.flight = s.csq.flight ∧
    (shutterActive s).csq.cfg = s.csq.cfg ∧ (shutterActive s).csq.shutClosed = s.csq.shutClosed ∧
    (shutterActive s).pins.porstLow = s.pins.porstLow := by
  (unfold shutterActive; (try dsimp only); (repeat' split) <;> simp_all)

@[simp] theorem shutterInactive_frame (s : State) :
    (shutterInactive s).pending = s.pending ∧ (shutterInactive s).psdo = s.psdo ∧ (shutterInactive s).mem = s.mem ∧
    (shutterInactive s).tru = s.tru ∧ (shutterInactive s).dkc = s.dkc ∧ (shutterInactive s).cdc = s.cdc ∧
    (shutterInactive s).shc = s.shc ∧ (shutterInactive s).rmi = s.rmi ∧ (shutterInactive s).lkc = s.lkc ∧
    (shutterInactive s).csq.gate = s.csq.gate ∧ (shutterInactive s).csq.origin = s.csq.origin ∧
    (shutterInactive s).csq.cfg = s.csq.cfg ∧ (shutterInactive s).sar.sources = s.sar.sources ∧
    (shutterInactive s).sar.cfg = s.sar.cfg ∧ (shutterInactive s).lmc.hours = s.lmc.hours ∧
    (shutterInactive s).lmc.cfg = s.lmc.cfg ∧ (shutterInactive s).lmc.temp = s.lmc.temp ∧
    (shutterInactive s).lmc.trip = s.lmc.trip ∧ (shutterInactive s).crn.table = s.crn.table ∧
    (shutterInactive s).crn.queue = s.crn.queue ∧ (shutterInactive s).crn.current = s.crn.current ∧
    (shutterInactive s).pnp.power = s.pnp.power ∧ (shutterInactive s).pnp.resp = s.pnp.resp ∧
    (shutterInactive s).pnp.cfg = s.pnp.cfg ∧ (shutterInactive s).pnp.store = s.pnp.store ∧
    (shutterInactive s).pnp.load = s.pnp.load ∧ (shutterInactive s).pnp.hoursWrite = s.pnp.hoursWrite ∧
    (shutterInactive s).pnp.hoursWaiting = s.pnp.hoursWaiting ∧
    (shutterInactive s).pnp.memPresent = s.pnp.memPresent ∧
    (shutterInactive s).pnp.idleSetting = s.pnp.idleSetting ∧ (shutterInactive s).pnp.event = s.pnp.event ∧
    (shutterInactive s).pins.porstLow = s.pins.porstLow := by
  (unfold shutterInactive; (try dsimp only); (repeat' split) <;> simp_all)

@[simp] theorem shutterLimit_frame (s : State) :
    (shutterLimit s).pending = s.pending ∧ (shutterLimit s).pins = s.pins ∧ (shutterLimit s).psdo = s.psdo ∧
    (shutterLimit s).mem = s.mem ∧ (shutterLimit s).tru = s.tru ∧ (shutterLimit s).dkc = s.dkc ∧
    (shutterLimit s).cdc = s.cdc ∧ (shutterLimit s).shc = s.shc ∧ (shutterLimit s).rmi = s.rmi ∧
    (shutterLimit s).lkc = s.lkc ∧ (shutterLimit s).csq.gate = s.csq.gate ∧
    (shutterLimit s).csq.origin = s.csq.origin ∧ (shutterLimit s).csq.cfg = s.csq.cfg ∧
    (shutterLimit s).sar.sources = s.sar.sources ∧ (shutterLimit s).sar.cfg = s.sar.cfg ∧
    (shutterLimit s).lmc.hours = s.lmc.hours ∧ (shutterLimit s).lmc.cfg = s.lmc.cfg ∧
    (shutterLimit s).lmc.temp = s.lmc.temp ∧ (shutterLimit s).lmc.trip = s.lmc.trip ∧
    (shutterLimit s).crn.table = s.crn.table ∧ (shutterLimit s).crn.queue = s.crn.queue ∧
    (shutterLimit s).crn.current = s.crn.current ∧ (shutterLimit s).pnp.power = s.pnp.power ∧
    (shutterLimit s).pnp.resp = s.pnp.resp ∧ (shutterLimit s).pnp.cfg = s.pnp.cfg ∧
    (shutterLimit s).pnp.store = s.pnp.store ∧ (shutterLimit s).pnp.load = s.pnp.load ∧
    (shutterLimit s).pnp.hoursWrite = s.pnp.hoursWrite ∧ (shutterLimit s).pnp.hoursWaiting = s.pnp.hoursWaiting ∧
    (shutterLimit s).pnp.memPresent = s.pnp.memPresent ∧ (shutterLimit s).pnp.idleSetting = s.pnp.idleSetting ∧
    (shutterLimit s).pnp.event = s.pnp.event := by
  (unfold shutterLimit; (try dsimp only); (repeat' split) <;> simp_all)

@[simp] theorem haltChange_frame (s : State) :
    (haltChange s).pending = s.pending ∧ (haltChange s).pins = s.pins ∧ (haltChange s).psdo = s.psdo ∧
    (haltChange s).mem = s.mem ∧ (haltChange s).tru = s.tru ∧ (haltChange s).dkc = s.dkc ∧
    (haltChange s).cdc = s.cdc ∧ (haltChange s).shc = s.shc ∧ (haltChange s).rmi = s.rmi ∧
    (haltChange s).lkc = s.lkc ∧ (haltChange s).csq.gate = s.csq.gate ∧ (haltChange s).csq.origin = s.csq.origin ∧
    (haltChange s).csq.cfg = s.csq.cfg ∧ (haltChange s).sar.sources = s.sar.sources ∧
    (haltChange s).sar.cfg = s.sar.cfg ∧ (haltChange s).lmc.hours = s.lmc.hours ∧
    (haltChange s).lmc.cfg = s.lmc.cfg ∧ (haltChange s).lmc.temp = s.lmc.temp ∧
    (haltChange s).lmc.trip = s.lmc.trip ∧ (haltChange s).crn.table = s.crn.table ∧
    (haltChange s).crn.queue = s.crn.queue ∧ (haltChange s).crn.current = s.crn.current ∧
    (haltChange s).pnp.power = s.pnp.power ∧ (haltChange s).pnp.resp = s.pnp.resp ∧
    (haltChange s).pnp.cfg = s.pnp.cfg ∧ (haltChange s).pnp.store = s.pnp.store ∧
    (haltChange s).pnp.load = s.pnp.load ∧ (haltChange s).pnp.hoursWrite = s.pnp.hoursWrite ∧
    (haltChange s).pnp.hoursWaiting = s.pnp.hoursWaiting ∧ (haltChange s).pnp.memPresent = s.pnp.memPresent ∧
    (haltChange s).pnp.idleSetting = s.pnp.idleSetting ∧ (haltChange s).pnp.event = s.pnp.event := by
  (unfold haltChange; (try dsimp only); (repeat' split) <;> simp_all)

@[simp] theorem clearJamAt_frame (s : State) :
    ((clearJamAt s).1).pending = s.pending ∧ ((clearJamAt s).1).pins = s.pins ∧ ((clearJamAt s).1).psdo = s.psdo ∧
    ((clearJamAt s).1).mem = s.mem ∧ ((clearJamAt s).1).cdc = s.cdc ∧ ((clearJamAt s).1).rmi = s.rmi ∧
    ((clearJamAt s).1).lkc = s.lkc ∧ ((clearJamAt s).1).tru.position = s.tru.position ∧
    ((clearJamAt s).1).tru.present = s.tru.present ∧ ((clearJamAt s).1).tru.cfg = s.tru.cfg ∧
    ((clearJamAt s).1).csq.cfg = s.csq.cfg ∧ ((clearJamAt s).1).sar.sources = s.sar.sources ∧
    ((clearJamAt s).1).sar.cfg = s.sar.cfg ∧ ((clearJamAt s).1).lmc.hours = s.lmc.hours ∧
    ((clearJamAt s).1).lmc.cfg = s.lmc.cfg ∧ ((clearJamAt s).1).lmc.temp = s.lmc.temp ∧
    ((clearJamAt s).1).lmc.trip = s.lmc.trip ∧ ((clearJamAt s).1).dkc.clock = s.dkc.clock ∧
    ((clearJamAt s).1).dkc.audio = s.dkc.audio ∧ ((clearJamAt s).1).dkc.cfg = s.dkc.cfg ∧
    ((clearJamAt s).1).crn.table = s.crn.table ∧ ((clearJamAt s).1).crn.queue = s.crn.queue ∧
    ((clearJamAt s).1).crn.current = s.crn.current ∧ ((clearJamAt s).1).shc.autoResume = s.shc.autoResume ∧
    ((clearJamAt s).1).pnp.power = s.pnp.power ∧ ((clearJamAt s).1).pnp.resp = s.pnp.resp ∧
    ((clearJamAt s).1).pnp.cfg = s.pnp.cfg ∧ ((clearJamAt s).1).pnp.store = s.pnp.store ∧
    ((clearJamAt s).1).pnp.load = s.pnp.load ∧ ((clearJamAt s).1).pnp.hoursWrite = s.pnp.hoursWrite ∧
    ((clearJamAt s).1).pnp.hoursWaiting = s.pnp.hoursWaiting ∧
    ((clearJamAt s).1).pnp.memPresent = s.pnp.memPresent ∧ ((clearJamAt s).1).pnp.idleSetting = s.pnp.idleSetting ∧
    ((clearJamAt s).1).pnp.event = s.pnp.event := by
  (unfold clearJamAt; (try dsimp only); (repeat' split) <;> simp_all)

@[simp] theorem loseOrigin_frame (s : State) :
    (loseOrigin s).pending = s.pending ∧ (loseOrigin s).pins = s.pins ∧ (loseOrigin s).psdo = s.psdo ∧
    (loseOrigin s).mem = s.mem ∧ (loseOrigin s).tru = s.tru ∧ (loseOrigin s).sar = s.sar ∧
    (loseOrigin s).lmc = s.lmc ∧ (loseOrigin s).dkc = s.dkc ∧ (loseOrigin s).cdc = s.cdc ∧
    (loseOrigin s).crn = s.crn ∧ (loseOrigin s).shc = s.shc ∧ (loseOrigin s).rmi = s.rmi ∧
    (loseOrigin s).lkc = s.lkc ∧ (loseOrigin s).pnp = s.pnp ∧ (loseOrigin s).csq.state = s.csq.state ∧
    (loseOrigin s).csq.gate = s.csq.gate ∧ (loseOrigin s).csq.flight = s.csq.flight ∧
    (loseOrigin s).csq.cfg = s.csq.cfg ∧ (loseOrigin s).csq.shutClosed = s.csq.shutClosed ∧
    (loseOrigin s).csq.drive = s.csq.drive := by
  (unfold loseOrigin; (try dsimp only); (repeat' split) <;> simp_all)

@[simp] theorem lossToIdle_frame (s : State) :
    (lossToIdle s).pending = s.pending ∧ (lossToIdle s).pins = s.pins ∧ (lossToIdle s).psdo = s.psdo ∧
    (lossToIdle s).mem = s.mem ∧ (lossToIdle s).tru = s.tru ∧ (lossToIdle s).dkc = s.dkc ∧
    (lossToIdle s).cdc = s.cdc ∧ (lossToIdle s).shc = s.shc ∧ (lossToIdle s).rmi = s.rmi ∧
    (lossToIdle s).lkc = s.lkc ∧ (lossToIdle s).csq.gate = s.csq.gate ∧ (lossToIdle s).csq.origin = s.csq.origin ∧
    (lossToIdle s).csq.cfg = s.csq.cfg ∧ (lossToIdle s).sar.sources = s.sar.sources ∧
    (lossToIdle s).sar.cfg = s.sar.cfg ∧ (lossToIdle s).lmc.hours = s.lmc.hours ∧
    (lossToIdle s).lmc.cfg = s.lmc.cfg ∧ (lossToIdle s).lmc.temp = s.lmc.temp ∧
    (lossToIdle s).lmc.trip = s.lmc.trip ∧ (lossToIdle s).crn.table = s.crn.table ∧
    (lossToIdle s).crn.queue = s.crn.queue ∧ (lossToIdle s).crn.current = s.crn.current ∧
    (lossToIdle s).pnp.power = s.pnp.power ∧ (lossToIdle s).pnp.resp = s.pnp.resp ∧
    (lossToIdle s).pnp.cfg = s.pnp.cfg ∧ (lossToIdle s).pnp.store = s.pnp.store ∧
    (lossToIdle s).pnp.load = s.pnp.load ∧ (lossToIdle s).pnp.hoursWrite = s.pnp.hoursWrite ∧
    (lossToIdle s).pnp.hoursWaiting = s.pnp.hoursWaiting ∧ (lossToIdle s).pnp.memPresent = s.pnp.memPresent ∧
    (lossToIdle s).pnp.idleSetting = s.pnp.idleSetting ∧ (lossToIdle s).pnp.event = s.pnp.event := by
  (unfold lossToIdle; (try dsimp only); (repeat' split) <;> simp_all)

@[simp] theorem lossToJam_frame (s : State) :
    (lossToJam s).pending = s.pending ∧ (lossToJam s).pins = s.pins ∧ (lossToJam s).psdo = s.psdo ∧
    (lossToJam s).mem = s.mem ∧ (lossToJam s).tru = s.tru ∧ (lossToJam s).cdc = s.cdc ∧ (lossToJam s).rmi = s.rmi ∧
    (lossToJam s).lkc = s.lkc ∧ (lossToJam s).csq.origin = s.csq.origin ∧ (lossToJam s).csq.cfg = s.csq.cfg ∧
    (lossToJam s).csq.shutClosed = s.csq.shutClosed ∧ (lossToJam s).sar.sources = s.sar.sources ∧
    (lossToJam s).sar.cfg = s.sar.cfg ∧ (lossToJam s).lmc.lamp = s.lmc.lamp ∧
    (lossToJam s).lmc.claim = s.lmc.claim ∧ (lossToJam s).lmc.hours = s.lmc.hours ∧
    (lossToJam s).lmc.cfg = s.lmc.cfg ∧ (lossToJam s).lmc.temp = s.lmc.temp ∧ (lossToJam s).lmc.dim = s.lmc.dim ∧
    (lossToJam s).lmc.trip = s.lmc.trip ∧ (lossToJam s).dkc.clock = s.dkc.clock ∧
    (lossToJam s).dkc.audio = s.dkc.audio ∧ (lossToJam s).dkc.cfg = s.dkc.cfg ∧
    (lossToJam s).crn.table = s.crn.table ∧ (lossToJam s).crn.queue = s.crn.queue ∧
    (lossToJam s).crn.current = s.crn.current ∧ (lossToJam s).shc.autoResume = s.shc.autoResume ∧
    (lossToJam s).pnp.power = s.pnp.power ∧ (lossToJam s).pnp.resp = s.pnp.resp ∧
    (lossToJam s).pnp.cfg = s.pnp.cfg ∧ (lossToJam s).pnp.store = s.pnp.store ∧
    (lossToJam s).pnp.load = s.pnp.load ∧ (lossToJam s).pnp.hoursWrite = s.pnp.hoursWrite ∧
    (lossToJam s).pnp.hoursWaiting = s.pnp.hoursWaiting ∧ (lossToJam s).pnp.memPresent = s.pnp.memPresent ∧
    (lossToJam s).pnp.idleSetting = s.pnp.idleSetting ∧ (lossToJam s).pnp.event = s.pnp.event := by
  (unfold lossToJam; (try dsimp only); (repeat' split) <;> simp_all)

@[simp] theorem trayLost_frame (s : State) :
    (trayLost s).pending = s.pending ∧ (trayLost s).pins = s.pins ∧ (trayLost s).psdo = s.psdo ∧
    (trayLost s).mem = s.mem ∧ (trayLost s).tru = s.tru ∧ (trayLost s).cdc = s.cdc ∧ (trayLost s).rmi = s.rmi ∧
    (trayLost s).lkc = s.lkc ∧ (trayLost s).csq.cfg = s.csq.cfg ∧ (trayLost s).sar.sources = s.sar.sources ∧
    (trayLost s).sar.cfg = s.sar.cfg ∧ (trayLost s).lmc.hours = s.lmc.hours ∧ (trayLost s).lmc.cfg = s.lmc.cfg ∧
    (trayLost s).lmc.temp = s.lmc.temp ∧ (trayLost s).lmc.trip = s.lmc.trip ∧
    (trayLost s).dkc.clock = s.dkc.clock ∧ (trayLost s).dkc.audio = s.dkc.audio ∧
    (trayLost s).dkc.cfg = s.dkc.cfg ∧ (trayLost s).crn.table = s.crn.table ∧
    (trayLost s).crn.queue = s.crn.queue ∧ (trayLost s).crn.current = s.crn.current ∧
    (trayLost s).shc.autoResume = s.shc.autoResume ∧ (trayLost s).pnp.power = s.pnp.power ∧
    (trayLost s).pnp.resp = s.pnp.resp ∧ (trayLost s).pnp.cfg = s.pnp.cfg ∧ (trayLost s).pnp.store = s.pnp.store ∧
    (trayLost s).pnp.load = s.pnp.load ∧ (trayLost s).pnp.hoursWrite = s.pnp.hoursWrite ∧
    (trayLost s).pnp.hoursWaiting = s.pnp.hoursWaiting ∧ (trayLost s).pnp.memPresent = s.pnp.memPresent ∧
    (trayLost s).pnp.idleSetting = s.pnp.idleSetting ∧ (trayLost s).pnp.event = s.pnp.event := by
  (unfold trayLost; (try dsimp only); (repeat' split) <;> simp_all)

@[simp] theorem followSensors_frame (o : Sensed) (s : State) :
    (followSensors o s).pending = s.pending ∧ (followSensors o s).pins = s.pins ∧
    (followSensors o s).psdo = s.psdo ∧ (followSensors o s).mem = s.mem ∧ (followSensors o s).tru = s.tru ∧
    (followSensors o s).sar = s.sar ∧ (followSensors o s).lmc = s.lmc ∧ (followSensors o s).dkc = s.dkc ∧
    (followSensors o s).cdc = s.cdc ∧ (followSensors o s).crn = s.crn ∧ (followSensors o s).shc = s.shc ∧
    (followSensors o s).rmi = s.rmi ∧ (followSensors o s).lkc = s.lkc ∧ (followSensors o s).pnp = s.pnp ∧
    (followSensors o s).csq.state = s.csq.state ∧ (followSensors o s).csq.flight = s.csq.flight ∧
    (followSensors o s).csq.cfg = s.csq.cfg ∧ (followSensors o s).csq.shutClosed = s.csq.shutClosed ∧
    (followSensors o s).csq.drive = s.csq.drive := by
  (unfold followSensors; (try dsimp only); (repeat' split) <;> simp_all)

end Sys2Proof.Machine
end

