-- ==== Sys2Proof/Laws/RequestFrames.lean ====
section
/-! SUPPORT. Frame laws (request operations): what each shared operation leaves as it stands. -/

namespace Sys2Proof.Machine

@[simp] theorem sourced_pending (src : Source) (c : ReqClass) (f : State → State × Status)
    (h : ∀ s, (f s).1.pending = s.pending) (s : State) : (sourced src c f s).1.pending = s.pending := by
  unfold sourced; split
  · simp
  · (try dsimp only); split <;> simp [h]

@[simp] theorem sourced_pins (src : Source) (c : ReqClass) (f : State → State × Status)
    (h : ∀ s, (f s).1.pins = s.pins) (s : State) : (sourced src c f s).1.pins = s.pins := by
  unfold sourced; split
  · simp
  · (try dsimp only); split <;> simp [h]

@[simp] theorem sourced_psdo (src : Source) (c : ReqClass) (f : State → State × Status)
    (h : ∀ s, (f s).1.psdo = s.psdo) (s : State) : (sourced src c f s).1.psdo = s.psdo := by
  unfold sourced; split
  · simp
  · (try dsimp only); split <;> simp [h]

@[simp] theorem sourced_mem (src : Source) (c : ReqClass) (f : State → State × Status)
    (h : ∀ s, (f s).1.mem = s.mem) (s : State) : (sourced src c f s).1.mem = s.mem := by
  unfold sourced; split
  · simp
  · (try dsimp only); split <;> simp [h]

@[simp] theorem sourced_tru (src : Source) (c : ReqClass) (f : State → State × Status)
    (h : ∀ s, (f s).1.tru = s.tru) (s : State) : (sourced src c f s).1.tru = s.tru := by
  unfold sourced; split
  · simp
  · (try dsimp only); split <;> simp [h]

@[simp] theorem sourced_csq (src : Source) (c : ReqClass) (f : State → State × Status)
    (h : ∀ s, (f s).1.csq = s.csq) (s : State) : (sourced src c f s).1.csq = s.csq := by
  unfold sourced; split
  · simp
  · (try dsimp only); split <;> simp [h]

@[simp] theorem sourced_lmc (src : Source) (c : ReqClass) (f : State → State × Status)
    (h : ∀ s, (f s).1.lmc = s.lmc) (s : State) : (sourced src c f s).1.lmc = s.lmc := by
  unfold sourced; split
  · simp
  · (try dsimp only); split <;> simp [h]

@[simp] theorem sourced_dkc (src : Source) (c : ReqClass) (f : State → State × Status)
    (h : ∀ s, (f s).1.dkc = s.dkc) (s : State) : (sourced src c f s).1.dkc = s.dkc := by
  unfold sourced; split
  · simp
  · (try dsimp only); split <;> simp [h]

@[simp] theorem sourced_cdc (src : Source) (c : ReqClass) (f : State → State × Status)
    (h : ∀ s, (f s).1.cdc = s.cdc) (s : State) : (sourced src c f s).1.cdc = s.cdc := by
  unfold sourced; split
  · simp
  · (try dsimp only); split <;> simp [h]

@[simp] theorem sourced_crn (src : Source) (c : ReqClass) (f : State → State × Status)
    (h : ∀ s, (f s).1.crn = s.crn) (s : State) : (sourced src c f s).1.crn = s.crn := by
  unfold sourced; split
  · simp
  · (try dsimp only); split <;> simp [h]

@[simp] theorem sourced_shc (src : Source) (c : ReqClass) (f : State → State × Status)
    (h : ∀ s, (f s).1.shc = s.shc) (s : State) : (sourced src c f s).1.shc = s.shc := by
  unfold sourced; split
  · simp
  · (try dsimp only); split <;> simp [h]

@[simp] theorem sourced_rmi (src : Source) (c : ReqClass) (f : State → State × Status)
    (h : ∀ s, (f s).1.rmi = s.rmi) (s : State) : (sourced src c f s).1.rmi = s.rmi := by
  unfold sourced; split
  · simp
  · (try dsimp only); split <;> simp [h]

@[simp] theorem sourced_lkc (src : Source) (c : ReqClass) (f : State → State × Status)
    (h : ∀ s, (f s).1.lkc = s.lkc) (s : State) : (sourced src c f s).1.lkc = s.lkc := by
  unfold sourced; split
  · simp
  · (try dsimp only); split <;> simp [h]

@[simp] theorem sourced_pnp_power (src : Source) (c : ReqClass) (f : State → State × Status)
    (h : ∀ s, (f s).1.pnp.power = s.pnp.power) (s : State) : (sourced src c f s).1.pnp.power = s.pnp.power := by
  unfold sourced; split
  · simp
  · (try dsimp only); split <;> simp [h]

@[simp] theorem sourced_pnp_resp (src : Source) (c : ReqClass) (f : State → State × Status)
    (h : ∀ s, (f s).1.pnp.resp = s.pnp.resp) (s : State) : (sourced src c f s).1.pnp.resp = s.pnp.resp := by
  unfold sourced; split
  · simp
  · (try dsimp only); split <;> simp [h]

@[simp] theorem sourced_pnp_cfg (src : Source) (c : ReqClass) (f : State → State × Status)
    (h : ∀ s, (f s).1.pnp.cfg = s.pnp.cfg) (s : State) : (sourced src c f s).1.pnp.cfg = s.pnp.cfg := by
  unfold sourced; split
  · simp
  · (try dsimp only); split <;> simp [h]

@[simp] theorem sourced_pnp_store (src : Source) (c : ReqClass) (f : State → State × Status)
    (h : ∀ s, (f s).1.pnp.store = s.pnp.store) (s : State) : (sourced src c f s).1.pnp.store = s.pnp.store := by
  unfold sourced; split
  · simp
  · (try dsimp only); split <;> simp [h]

@[simp] theorem sourced_pnp_load (src : Source) (c : ReqClass) (f : State → State × Status)
    (h : ∀ s, (f s).1.pnp.load = s.pnp.load) (s : State) : (sourced src c f s).1.pnp.load = s.pnp.load := by
  unfold sourced; split
  · simp
  · (try dsimp only); split <;> simp [h]

@[simp] theorem sourced_pnp_hoursWrite (src : Source) (c : ReqClass) (f : State → State × Status)
    (h : ∀ s, (f s).1.pnp.hoursWrite = s.pnp.hoursWrite) (s : State) : (sourced src c f s).1.pnp.hoursWrite = s.pnp.hoursWrite := by
  unfold sourced; split
  · simp
  · (try dsimp only); split <;> simp [h]

@[simp] theorem sourced_pnp_hoursWaiting (src : Source) (c : ReqClass) (f : State → State × Status)
    (h : ∀ s, (f s).1.pnp.hoursWaiting = s.pnp.hoursWaiting) (s : State) : (sourced src c f s).1.pnp.hoursWaiting = s.pnp.hoursWaiting := by
  unfold sourced; split
  · simp
  · (try dsimp only); split <;> simp [h]

@[simp] theorem sourced_pnp_memPresent (src : Source) (c : ReqClass) (f : State → State × Status)
    (h : ∀ s, (f s).1.pnp.memPresent = s.pnp.memPresent) (s : State) : (sourced src c f s).1.pnp.memPresent = s.pnp.memPresent := by
  unfold sourced; split
  · simp
  · (try dsimp only); split <;> simp [h]

@[simp] theorem sourced_pnp_idleSetting (src : Source) (c : ReqClass) (f : State → State × Status)
    (h : ∀ s, (f s).1.pnp.idleSetting = s.pnp.idleSetting) (s : State) : (sourced src c f s).1.pnp.idleSetting = s.pnp.idleSetting := by
  unfold sourced; split
  · simp
  · (try dsimp only); split <;> simp [h]

@[simp] theorem sourced_pnp_event (src : Source) (c : ReqClass) (f : State → State × Status)
    (h : ∀ s, (f s).1.pnp.event = s.pnp.event) (s : State) : (sourced src c f s).1.pnp.event = s.pnp.event := by
  unfold sourced; split
  · simp
  · (try dsimp only); split <;> simp [h]

@[simp] theorem sourced_sar_sources (src : Source) (c : ReqClass) (f : State → State × Status)
    (h : ∀ s, (f s).1.sar.sources = s.sar.sources) (s : State) : (sourced src c f s).1.sar.sources = s.sar.sources := by
  unfold sourced; split
  · simp
  · (try dsimp only); split <;> simp [h]

@[simp] theorem sourced_sar_cfg (src : Source) (c : ReqClass) (f : State → State × Status)
    (h : ∀ s, (f s).1.sar.cfg = s.sar.cfg) (s : State) : (sourced src c f s).1.sar.cfg = s.sar.cfg := by
  unfold sourced; split
  · simp
  · (try dsimp only); split <;> simp [h]

@[simp] theorem sourced_sar_waiting (src : Source) (c : ReqClass) (f : State → State × Status)
    (h : ∀ s, (f s).1.sar.waiting = s.sar.waiting) (s : State) : (sourced src c f s).1.sar.waiting = s.sar.waiting := by
  unfold sourced; split
  · simp
  · (try dsimp only); split <;> simp [h]

@[simp] theorem sourced_sar_holder (src : Source) (c : ReqClass) (f : State → State × Status)
    (h : ∀ s, (f s).1.sar.holder = s.sar.holder) (s : State) : (sourced src c f s).1.sar.holder = s.sar.holder := by
  unfold sourced; split
  · simp
  · (try dsimp only); split <;> simp [h]

@[simp] theorem offerFrame_frame (d : Byte) (k : Byte) (p : List Byte) (s : State) :
    ((offerFrame d k p s).1).pending = s.pending ∧ ((offerFrame d k p s).1).pins = s.pins ∧
    ((offerFrame d k p s).1).psdo = s.psdo ∧ ((offerFrame d k p s).1).mem = s.mem ∧
    ((offerFrame d k p s).1).tru = s.tru ∧ ((offerFrame d k p s).1).csq = s.csq ∧
    ((offerFrame d k p s).1).sar = s.sar ∧ ((offerFrame d k p s).1).lmc = s.lmc ∧
    ((offerFrame d k p s).1).dkc = s.dkc ∧ ((offerFrame d k p s).1).cdc = s.cdc ∧
    ((offerFrame d k p s).1).crn = s.crn ∧ ((offerFrame d k p s).1).shc = s.shc ∧
    ((offerFrame d k p s).1).rmi = s.rmi ∧ ((offerFrame d k p s).1).pnp = s.pnp ∧
    ((offerFrame d k p s).1).lkc.rxbuf = s.lkc.rxbuf ∧ ((offerFrame d k p s).1).lkc.node = s.lkc.node ∧
    ((offerFrame d k p s).1).lkc.lock = s.lkc.lock ∧ ((offerFrame d k p s).1).lkc.enable = s.lkc.enable ∧
    ((offerFrame d k p s).1).lkc.cfg = s.lkc.cfg := by
  (unfold offerFrame; (try dsimp only); (repeat' split) <;> simp_all)

@[simp] theorem offerOrOverflow_frame (d : Byte) (k : Byte) (p : List Byte) (s : State) :
    ((offerOrOverflow d k p s).1).pending = s.pending ∧ ((offerOrOverflow d k p s).1).pins = s.pins ∧
    ((offerOrOverflow d k p s).1).psdo = s.psdo ∧ ((offerOrOverflow d k p s).1).mem = s.mem ∧
    ((offerOrOverflow d k p s).1).tru = s.tru ∧ ((offerOrOverflow d k p s).1).csq = s.csq ∧
    ((offerOrOverflow d k p s).1).sar = s.sar ∧ ((offerOrOverflow d k p s).1).lmc = s.lmc ∧
    ((offerOrOverflow d k p s).1).dkc = s.dkc ∧ ((offerOrOverflow d k p s).1).cdc = s.cdc ∧
    ((offerOrOverflow d k p s).1).crn = s.crn ∧ ((offerOrOverflow d k p s).1).shc = s.shc ∧
    ((offerOrOverflow d k p s).1).rmi = s.rmi ∧ ((offerOrOverflow d k p s).1).pnp = s.pnp ∧
    ((offerOrOverflow d k p s).1).lkc.rxbuf = s.lkc.rxbuf ∧ ((offerOrOverflow d k p s).1).lkc.node = s.lkc.node ∧
    ((offerOrOverflow d k p s).1).lkc.lock = s.lkc.lock ∧ ((offerOrOverflow d k p s).1).lkc.enable = s.lkc.enable ∧
    ((offerOrOverflow d k p s).1).lkc.cfg = s.lkc.cfg := by
  (unfold offerOrOverflow; (try dsimp only); (repeat' split) <;> simp_all)

@[simp] theorem merge_frame (w : Waiting) (src : Source) (c : Int) (f : Nat) (s : State) :
    ((merge w src c f s).1).pending = s.pending ∧ ((merge w src c f s).1).pins = s.pins ∧
    ((merge w src c f s).1).psdo = s.psdo ∧ ((merge w src c f s).1).mem = s.mem ∧
    ((merge w src c f s).1).tru = s.tru ∧ ((merge w src c f s).1).csq = s.csq ∧
    ((merge w src c f s).1).lmc = s.lmc ∧ ((merge w src c f s).1).dkc = s.dkc ∧
    ((merge w src c f s).1).cdc = s.cdc ∧ ((merge w src c f s).1).shc = s.shc ∧
    ((merge w src c f s).1).rmi = s.rmi ∧ ((merge w src c f s).1).lkc = s.lkc ∧
    ((merge w src c f s).1).sar.sources = s.sar.sources ∧ ((merge w src c f s).1).sar.cfg = s.sar.cfg ∧
    ((merge w src c f s).1).sar.holder = s.sar.holder ∧ ((merge w src c f s).1).crn.table = s.crn.table ∧
    ((merge w src c f s).1).crn.queue = s.crn.queue ∧ ((merge w src c f s).1).crn.current = s.crn.current ∧
    ((merge w src c f s).1).pnp.power = s.pnp.power ∧ ((merge w src c f s).1).pnp.resp = s.pnp.resp ∧
    ((merge w src c f s).1).pnp.cfg = s.pnp.cfg ∧ ((merge w src c f s).1).pnp.store = s.pnp.store ∧
    ((merge w src c f s).1).pnp.load = s.pnp.load ∧ ((merge w src c f s).1).pnp.hoursWrite = s.pnp.hoursWrite ∧
    ((merge w src c f s).1).pnp.hoursWaiting = s.pnp.hoursWaiting ∧
    ((merge w src c f s).1).pnp.memPresent = s.pnp.memPresent ∧
    ((merge w src c f s).1).pnp.idleSetting = s.pnp.idleSetting ∧
    ((merge w src c f s).1).pnp.event = s.pnp.event := by
  (unfold merge; (try dsimp only); (repeat' split) <;> simp_all)

@[simp] theorem pend_frame (src : Source) (k : ChangeKind) (a t f : Nat) (s : State) :
    ((pend src k a t f s).1).pending = s.pending ∧ ((pend src k a t f s).1).pins = s.pins ∧
    ((pend src k a t f s).1).psdo = s.psdo ∧ ((pend src k a t f s).1).mem = s.mem ∧
    ((pend src k a t f s).1).tru = s.tru ∧ ((pend src k a t f s).1).csq = s.csq ∧
    ((pend src k a t f s).1).lmc = s.lmc ∧ ((pend src k a t f s).1).dkc = s.dkc ∧
    ((pend src k a t f s).1).cdc = s.cdc ∧ ((pend src k a t f s).1).shc = s.shc ∧
    ((pend src k a t f s).1).rmi = s.rmi ∧ ((pend src k a t f s).1).lkc = s.lkc ∧
    ((pend src k a t f s).1).sar.sources = s.sar.sources ∧ ((pend src k a t f s).1).sar.cfg = s.sar.cfg ∧
    ((pend src k a t f s).1).sar.holder = s.sar.holder ∧ ((pend src k a t f s).1).crn.table = s.crn.table ∧
    ((pend src k a t f s).1).crn.queue = s.crn.queue ∧ ((pend src k a t f s).1).crn.current = s.crn.current ∧
    ((pend src k a t f s).1).pnp.power = s.pnp.power ∧ ((pend src k a t f s).1).pnp.resp = s.pnp.resp ∧
    ((pend src k a t f s).1).pnp.cfg = s.pnp.cfg ∧ ((pend src k a t f s).1).pnp.store = s.pnp.store ∧
    ((pend src k a t f s).1).pnp.load = s.pnp.load ∧ ((pend src k a t f s).1).pnp.hoursWrite = s.pnp.hoursWrite ∧
    ((pend src k a t f s).1).pnp.hoursWaiting = s.pnp.hoursWaiting ∧
    ((pend src k a t f s).1).pnp.memPresent = s.pnp.memPresent ∧
    ((pend src k a t f s).1).pnp.idleSetting = s.pnp.idleSetting ∧
    ((pend src k a t f s).1).pnp.event = s.pnp.event := by
  (unfold pend; (try dsimp only); (repeat' split) <;> simp_all)

@[simp] theorem place_frame (src : Source) (k : ChangeKind) (a t f : Nat) (s : State) :
    ((place src k a t f s).1).pending = s.pending ∧ ((place src k a t f s).1).pins = s.pins ∧
    ((place src k a t f s).1).psdo = s.psdo ∧ ((place src k a t f s).1).mem = s.mem ∧
    ((place src k a t f s).1).tru = s.tru ∧ ((place src k a t f s).1).cdc = s.cdc ∧
    ((place src k a t f s).1).rmi = s.rmi ∧ ((place src k a t f s).1).lkc = s.lkc ∧
    ((place src k a t f s).1).csq.gate = s.csq.gate ∧ ((place src k a t f s).1).csq.origin = s.csq.origin ∧
    ((place src k a t f s).1).csq.cfg = s.csq.cfg ∧ ((place src k a t f s).1).sar.sources = s.sar.sources ∧
    ((place src k a t f s).1).sar.cfg = s.sar.cfg ∧ ((place src k a t f s).1).lmc.hours = s.lmc.hours ∧
    ((place src k a t f s).1).lmc.cfg = s.lmc.cfg ∧ ((place src k a t f s).1).lmc.temp = s.lmc.temp ∧
    ((place src k a t f s).1).lmc.trip = s.lmc.trip ∧ ((place src k a t f s).1).dkc.clock = s.dkc.clock ∧
    ((place src k a t f s).1).dkc.audio = s.dkc.audio ∧ ((place src k a t f s).1).dkc.cfg = s.dkc.cfg ∧
    ((place src k a t f s).1).crn.table = s.crn.table ∧ ((place src k a t f s).1).crn.queue = s.crn.queue ∧
    ((place src k a t f s).1).crn.current = s.crn.current ∧
    ((place src k a t f s).1).shc.autoResume = s.shc.autoResume ∧
    ((place src k a t f s).1).pnp.power = s.pnp.power ∧ ((place src k a t f s).1).pnp.resp = s.pnp.resp ∧
    ((place src k a t f s).1).pnp.cfg = s.pnp.cfg ∧ ((place src k a t f s).1).pnp.store = s.pnp.store ∧
    ((place src k a t f s).1).pnp.load = s.pnp.load ∧ ((place src k a t f s).1).pnp.hoursWrite = s.pnp.hoursWrite ∧
    ((place src k a t f s).1).pnp.hoursWaiting = s.pnp.hoursWaiting ∧
    ((place src k a t f s).1).pnp.memPresent = s.pnp.memPresent ∧
    ((place src k a t f s).1).pnp.idleSetting = s.pnp.idleSetting ∧
    ((place src k a t f s).1).pnp.event = s.pnp.event := by
  (unfold place; (try dsimp only); (repeat' split) <;> simp_all)

@[simp] theorem requestHere_frame (src : Source) (k : ChangeKind) (a f : Nat) (s : State) :
    ((requestHere src k a f s).1).pending = s.pending ∧ ((requestHere src k a f s).1).pins = s.pins ∧
    ((requestHere src k a f s).1).psdo = s.psdo ∧ ((requestHere src k a f s).1).mem = s.mem ∧
    ((requestHere src k a f s).1).tru = s.tru ∧ ((requestHere src k a f s).1).cdc = s.cdc ∧
    ((requestHere src k a f s).1).rmi = s.rmi ∧ ((requestHere src k a f s).1).lkc = s.lkc ∧
    ((requestHere src k a f s).1).csq.gate = s.csq.gate ∧ ((requestHere src k a f s).1).csq.origin = s.csq.origin ∧
    ((requestHere src k a f s).1).csq.cfg = s.csq.cfg ∧ ((requestHere src k a f s).1).sar.sources = s.sar.sources ∧
    ((requestHere src k a f s).1).sar.cfg = s.sar.cfg ∧ ((requestHere src k a f s).1).lmc.hours = s.lmc.hours ∧
    ((requestHere src k a f s).1).lmc.cfg = s.lmc.cfg ∧ ((requestHere src k a f s).1).lmc.temp = s.lmc.temp ∧
    ((requestHere src k a f s).1).lmc.trip = s.lmc.trip ∧ ((requestHere src k a f s).1).dkc.clock = s.dkc.clock ∧
    ((requestHere src k a f s).1).dkc.audio = s.dkc.audio ∧ ((requestHere src k a f s).1).dkc.cfg = s.dkc.cfg ∧
    ((requestHere src k a f s).1).crn.table = s.crn.table ∧ ((requestHere src k a f s).1).crn.queue = s.crn.queue ∧
    ((requestHere src k a f s).1).crn.current = s.crn.current ∧
    ((requestHere src k a f s).1).shc.autoResume = s.shc.autoResume ∧
    ((requestHere src k a f s).1).pnp.power = s.pnp.power ∧ ((requestHere src k a f s).1).pnp.resp = s.pnp.resp ∧
    ((requestHere src k a f s).1).pnp.cfg = s.pnp.cfg ∧ ((requestHere src k a f s).1).pnp.store = s.pnp.store ∧
    ((requestHere src k a f s).1).pnp.load = s.pnp.load ∧
    ((requestHere src k a f s).1).pnp.hoursWrite = s.pnp.hoursWrite ∧
    ((requestHere src k a f s).1).pnp.hoursWaiting = s.pnp.hoursWaiting ∧
    ((requestHere src k a f s).1).pnp.memPresent = s.pnp.memPresent ∧
    ((requestHere src k a f s).1).pnp.idleSetting = s.pnp.idleSetting ∧
    ((requestHere src k a f s).1).pnp.event = s.pnp.event := by
  (unfold requestHere; (try dsimp only); (repeat' split) <;> simp_all)

@[simp] theorem requestRouted_frame (src : Source) (k : ChangeKind) (a f : Nat) (s : State) :
    ((requestRouted src k a f s).1).pending = s.pending ∧ ((requestRouted src k a f s).1).pins = s.pins ∧
    ((requestRouted src k a f s).1).psdo = s.psdo ∧ ((requestRouted src k a f s).1).mem = s.mem ∧
    ((requestRouted src k a f s).1).tru = s.tru ∧ ((requestRouted src k a f s).1).cdc = s.cdc ∧
    ((requestRouted src k a f s).1).rmi = s.rmi ∧ ((requestRouted src k a f s).1).csq.gate = s.csq.gate ∧
    ((requestRouted src k a f s).1).csq.origin = s.csq.origin ∧
    ((requestRouted src k a f s).1).csq.cfg = s.csq.cfg ∧
    ((requestRouted src k a f s).1).sar.sources = s.sar.sources ∧
    ((requestRouted src k a f s).1).sar.cfg = s.sar.cfg ∧ ((requestRouted src k a f s).1).lmc.hours = s.lmc.hours ∧
    ((requestRouted src k a f s).1).lmc.cfg = s.lmc.cfg ∧ ((requestRouted src k a f s).1).lmc.temp = s.lmc.temp ∧
    ((requestRouted src k a f s).1).lmc.trip = s.lmc.trip ∧
    ((requestRouted src k a f s).1).dkc.clock = s.dkc.clock ∧
    ((requestRouted src k a f s).1).dkc.audio = s.dkc.audio ∧ ((requestRouted src k a f s).1).dkc.cfg = s.dkc.cfg ∧
    ((requestRouted src k a f s).1).crn.table = s.crn.table ∧
    ((requestRouted src k a f s).1).crn.queue = s.crn.queue ∧
    ((requestRouted src k a f s).1).crn.current = s.crn.current ∧
    ((requestRouted src k a f s).1).shc.autoResume = s.shc.autoResume ∧
    ((requestRouted src k a f s).1).lkc.rxbuf = s.lkc.rxbuf ∧
    ((requestRouted src k a f s).1).lkc.node = s.lkc.node ∧ ((requestRouted src k a f s).1).lkc.lock = s.lkc.lock ∧
    ((requestRouted src k a f s).1).lkc.enable = s.lkc.enable ∧
    ((requestRouted src k a f s).1).lkc.cfg = s.lkc.cfg ∧ ((requestRouted src k a f s).1).pnp.power = s.pnp.power ∧
    ((requestRouted src k a f s).1).pnp.resp = s.pnp.resp ∧ ((requestRouted src k a f s).1).pnp.cfg = s.pnp.cfg ∧
    ((requestRouted src k a f s).1).pnp.store = s.pnp.store ∧
    ((requestRouted src k a f s).1).pnp.load = s.pnp.load ∧
    ((requestRouted src k a f s).1).pnp.hoursWrite = s.pnp.hoursWrite ∧
    ((requestRouted src k a f s).1).pnp.hoursWaiting = s.pnp.hoursWaiting ∧
    ((requestRouted src k a f s).1).pnp.memPresent = s.pnp.memPresent ∧
    ((requestRouted src k a f s).1).pnp.idleSetting = s.pnp.idleSetting ∧
    ((requestRouted src k a f s).1).pnp.event = s.pnp.event := by
  (unfold requestRouted; (try dsimp only); (repeat' split) <;> simp_all)

@[simp] theorem changeRequest_frame (src : Source) (k : ChangeKind) (a : Nat) (f : Byte) (s : State) :
    ((changeRequest src k a f s).1).pending = s.pending ∧ ((changeRequest src k a f s).1).pins = s.pins ∧
    ((changeRequest src k a f s).1).psdo = s.psdo ∧ ((changeRequest src k a f s).1).mem = s.mem ∧
    ((changeRequest src k a f s).1).tru = s.tru ∧ ((changeRequest src k a f s).1).cdc = s.cdc ∧
    ((changeRequest src k a f s).1).rmi = s.rmi ∧ ((changeRequest src k a f s).1).csq.gate = s.csq.gate ∧
    ((changeRequest src k a f s).1).csq.origin = s.csq.origin ∧
    ((changeRequest src k a f s).1).csq.cfg = s.csq.cfg ∧
    ((changeRequest src k a f s).1).sar.sources = s.sar.sources ∧
    ((changeRequest src k a f s).1).sar.cfg = s.sar.cfg ∧ ((changeRequest src k a f s).1).lmc.hours = s.lmc.hours ∧
    ((changeRequest src k a f s).1).lmc.cfg = s.lmc.cfg ∧ ((changeRequest src k a f s).1).lmc.temp = s.lmc.temp ∧
    ((changeRequest src k a f s).1).lmc.trip = s.lmc.trip ∧
    ((changeRequest src k a f s).1).dkc.clock = s.dkc.clock ∧
    ((changeRequest src k a f s).1).dkc.audio = s.dkc.audio ∧ ((changeRequest src k a f s).1).dkc.cfg = s.dkc.cfg ∧
    ((changeRequest src k a f s).1).crn.table = s.crn.table ∧
    ((changeRequest src k a f s).1).crn.queue = s.crn.queue ∧
    ((changeRequest src k a f s).1).crn.current = s.crn.current ∧
    ((changeRequest src k a f s).1).shc.autoResume = s.shc.autoResume ∧
    ((changeRequest src k a f s).1).lkc.rxbuf = s.lkc.rxbuf ∧
    ((changeRequest src k a f s).1).lkc.node = s.lkc.node ∧ ((changeRequest src k a f s).1).lkc.lock = s.lkc.lock ∧
    ((changeRequest src k a f s).1).lkc.enable = s.lkc.enable ∧
    ((changeRequest src k a f s).1).lkc.cfg = s.lkc.cfg ∧ ((changeRequest src k a f s).1).pnp.power = s.pnp.power ∧
    ((changeRequest src k a f s).1).pnp.resp = s.pnp.resp ∧ ((changeRequest src k a f s).1).pnp.cfg = s.pnp.cfg ∧
    ((changeRequest src k a f s).1).pnp.store = s.pnp.store ∧
    ((changeRequest src k a f s).1).pnp.load = s.pnp.load ∧
    ((changeRequest src k a f s).1).pnp.hoursWrite = s.pnp.hoursWrite ∧
    ((changeRequest src k a f s).1).pnp.hoursWaiting = s.pnp.hoursWaiting ∧
    ((changeRequest src k a f s).1).pnp.memPresent = s.pnp.memPresent ∧
    ((changeRequest src k a f s).1).pnp.idleSetting = s.pnp.idleSetting ∧
    ((changeRequest src k a f s).1).pnp.event = s.pnp.event := by
  (unfold changeRequest; (try dsimp only); (repeat' split) <;> simp_all)

@[simp] theorem haltFrom_frame (src : Source) (s : State) :
    ((haltFrom src s).1).pending = s.pending ∧ ((haltFrom src s).1).pins = s.pins ∧
    ((haltFrom src s).1).psdo = s.psdo ∧ ((haltFrom src s).1).mem = s.mem ∧ ((haltFrom src s).1).tru = s.tru ∧
    ((haltFrom src s).1).dkc = s.dkc ∧ ((haltFrom src s).1).cdc = s.cdc ∧ ((haltFrom src s).1).shc = s.shc ∧
    ((haltFrom src s).1).rmi = s.rmi ∧ ((haltFrom src s).1).lkc = s.lkc ∧
    ((haltFrom src s).1).csq.gate = s.csq.gate ∧ ((haltFrom src s).1).csq.origin = s.csq.origin ∧
    ((haltFrom src s).1).csq.cfg = s.csq.cfg ∧ ((haltFrom src s).1).sar.sources = s.sar.sources ∧
    ((haltFrom src s).1).sar.cfg = s.sar.cfg ∧ ((haltFrom src s).1).lmc.hours = s.lmc.hours ∧
    ((haltFrom src s).1).lmc.cfg = s.lmc.cfg ∧ ((haltFrom src s).1).lmc.temp = s.lmc.temp ∧
    ((haltFrom src s).1).lmc.trip = s.lmc.trip ∧ ((haltFrom src s).1).crn.table = s.crn.table ∧
    ((haltFrom src s).1).crn.queue = s.crn.queue ∧ ((haltFrom src s).1).crn.current = s.crn.current ∧
    ((haltFrom src s).1).pnp.power = s.pnp.power ∧ ((haltFrom src s).1).pnp.resp = s.pnp.resp ∧
    ((haltFrom src s).1).pnp.cfg = s.pnp.cfg ∧ ((haltFrom src s).1).pnp.store = s.pnp.store ∧
    ((haltFrom src s).1).pnp.load = s.pnp.load ∧ ((haltFrom src s).1).pnp.hoursWrite = s.pnp.hoursWrite ∧
    ((haltFrom src s).1).pnp.hoursWaiting = s.pnp.hoursWaiting ∧
    ((haltFrom src s).1).pnp.memPresent = s.pnp.memPresent ∧
    ((haltFrom src s).1).pnp.idleSetting = s.pnp.idleSetting ∧ ((haltFrom src s).1).pnp.event = s.pnp.event := by
  (unfold haltFrom; (try dsimp only); (repeat' split) <;> simp_all)

@[simp] theorem wakeUp_frame (s : State) :
    (wakeUp s).pending = s.pending ∧ (wakeUp s).pins = s.pins ∧ (wakeUp s).psdo = s.psdo ∧ (wakeUp s).mem = s.mem ∧
    (wakeUp s).tru = s.tru ∧ (wakeUp s).rmi = s.rmi ∧ (wakeUp s).lkc = s.lkc ∧ (wakeUp s).csq.gate = s.csq.gate ∧
    (wakeUp s).csq.origin = s.csq.origin ∧ (wakeUp s).csq.cfg = s.csq.cfg ∧
    (wakeUp s).sar.sources = s.sar.sources ∧ (wakeUp s).sar.cfg = s.sar.cfg ∧ (wakeUp s).lmc.hours = s.lmc.hours ∧
    (wakeUp s).lmc.cfg = s.lmc.cfg ∧ (wakeUp s).lmc.temp = s.lmc.temp ∧ (wakeUp s).lmc.trip = s.lmc.trip ∧
    (wakeUp s).dkc.clock = s.dkc.clock ∧ (wakeUp s).dkc.audio = s.dkc.audio ∧ (wakeUp s).dkc.cfg = s.dkc.cfg ∧
    (wakeUp s).crn.table = s.crn.table ∧ (wakeUp s).crn.queue = s.crn.queue ∧
    (wakeUp s).crn.current = s.crn.current ∧ (wakeUp s).shc.autoResume = s.shc.autoResume ∧
    (wakeUp s).pnp.resp = s.pnp.resp ∧ (wakeUp s).pnp.cfg = s.pnp.cfg ∧ (wakeUp s).pnp.store = s.pnp.store ∧
    (wakeUp s).pnp.load = s.pnp.load ∧ (wakeUp s).pnp.hoursWrite = s.pnp.hoursWrite ∧
    (wakeUp s).pnp.hoursWaiting = s.pnp.hoursWaiting ∧ (wakeUp s).pnp.memPresent = s.pnp.memPresent ∧
    (wakeUp s).pnp.idleSetting = s.pnp.idleSetting := by
  (unfold wakeUp; (try dsimp only); (repeat' split) <;> simp_all)

@[simp] theorem requestStandby_frame (s : State) :
    ((requestStandby s).1).pending = s.pending ∧ ((requestStandby s).1).pins = s.pins ∧
    ((requestStandby s).1).psdo = s.psdo ∧ ((requestStandby s).1).mem = s.mem ∧
    ((requestStandby s).1).tru = s.tru ∧ ((requestStandby s).1).dkc = s.dkc ∧ ((requestStandby s).1).cdc = s.cdc ∧
    ((requestStandby s).1).shc = s.shc ∧ ((requestStandby s).1).rmi = s.rmi ∧ ((requestStandby s).1).lkc = s.lkc ∧
    ((requestStandby s).1).csq.gate = s.csq.gate ∧ ((requestStandby s).1).csq.origin = s.csq.origin ∧
    ((requestStandby s).1).csq.cfg = s.csq.cfg ∧ ((requestStandby s).1).sar.sources = s.sar.sources ∧
    ((requestStandby s).1).sar.cfg = s.sar.cfg ∧ ((requestStandby s).1).lmc.hours = s.lmc.hours ∧
    ((requestStandby s).1).lmc.cfg = s.lmc.cfg ∧ ((requestStandby s).1).lmc.temp = s.lmc.temp ∧
    ((requestStandby s).1).lmc.trip = s.lmc.trip ∧ ((requestStandby s).1).crn.table = s.crn.table ∧
    ((requestStandby s).1).crn.queue = s.crn.queue ∧ ((requestStandby s).1).crn.current = s.crn.current ∧
    ((requestStandby s).1).pnp.resp = s.pnp.resp ∧ ((requestStandby s).1).pnp.cfg = s.pnp.cfg ∧
    ((requestStandby s).1).pnp.store = s.pnp.store ∧ ((requestStandby s).1).pnp.load = s.pnp.load ∧
    ((requestStandby s).1).pnp.hoursWrite = s.pnp.hoursWrite ∧
    ((requestStandby s).1).pnp.memPresent = s.pnp.memPresent ∧
    ((requestStandby s).1).pnp.idleSetting = s.pnp.idleSetting ∧
    ((requestStandby s).1).pnp.event = s.pnp.event := by
  (unfold requestStandby; (try dsimp only); (repeat' split) <;> simp_all)

@[simp] theorem lampOnTaken_frame (s : State) :
    ((lampOnTaken s).1).pending = s.pending ∧ ((lampOnTaken s).1).pins = s.pins ∧
    ((lampOnTaken s).1).psdo = s.psdo ∧ ((lampOnTaken s).1).mem = s.mem ∧ ((lampOnTaken s).1).tru = s.tru ∧
    ((lampOnTaken s).1).rmi = s.rmi ∧ ((lampOnTaken s).1).lkc = s.lkc ∧ ((lampOnTaken s).1).csq.gate = s.csq.gate ∧
    ((lampOnTaken s).1).csq.origin = s.csq.origin ∧ ((lampOnTaken s).1).csq.cfg = s.csq.cfg ∧
    ((lampOnTaken s).1).sar.sources = s.sar.sources ∧ ((lampOnTaken s).1).sar.cfg = s.sar.cfg ∧
    ((lampOnTaken s).1).lmc.hours = s.lmc.hours ∧ ((lampOnTaken s).1).lmc.cfg = s.lmc.cfg ∧
    ((lampOnTaken s).1).lmc.temp = s.lmc.temp ∧ ((lampOnTaken s).1).lmc.trip = s.lmc.trip ∧
    ((lampOnTaken s).1).dkc.clock = s.dkc.clock ∧ ((lampOnTaken s).1).dkc.audio = s.dkc.audio ∧
    ((lampOnTaken s).1).dkc.cfg = s.dkc.cfg ∧ ((lampOnTaken s).1).crn.table = s.crn.table ∧
    ((lampOnTaken s).1).crn.queue = s.crn.queue ∧ ((lampOnTaken s).1).crn.current = s.crn.current ∧
    ((lampOnTaken s).1).shc.autoResume = s.shc.autoResume ∧ ((lampOnTaken s).1).pnp.resp = s.pnp.resp ∧
    ((lampOnTaken s).1).pnp.cfg = s.pnp.cfg ∧ ((lampOnTaken s).1).pnp.store = s.pnp.store ∧
    ((lampOnTaken s).1).pnp.load = s.pnp.load ∧ ((lampOnTaken s).1).pnp.hoursWrite = s.pnp.hoursWrite ∧
    ((lampOnTaken s).1).pnp.hoursWaiting = s.pnp.hoursWaiting ∧
    ((lampOnTaken s).1).pnp.memPresent = s.pnp.memPresent ∧
    ((lampOnTaken s).1).pnp.idleSetting = s.pnp.idleSetting := by
  (unfold lampOnTaken; (try dsimp only); (repeat' split) <;> simp_all)

@[simp] theorem lampOffTaken_frame (s : State) :
    ((lampOffTaken s).1).pending = s.pending ∧ ((lampOffTaken s).1).pins = s.pins ∧
    ((lampOffTaken s).1).psdo = s.psdo ∧ ((lampOffTaken s).1).mem = s.mem ∧ ((lampOffTaken s).1).tru = s.tru ∧
    ((lampOffTaken s).1).dkc = s.dkc ∧ ((lampOffTaken s).1).cdc = s.cdc ∧ ((lampOffTaken s).1).shc = s.shc ∧
    ((lampOffTaken s).1).rmi = s.rmi ∧ ((lampOffTaken s).1).lkc = s.lkc ∧
    ((lampOffTaken s).1).csq.gate = s.csq.gate ∧ ((lampOffTaken s).1).csq.origin = s.csq.origin ∧
    ((lampOffTaken s).1).csq.cfg = s.csq.cfg ∧ ((lampOffTaken s).1).sar.sources = s.sar.sources ∧
    ((lampOffTaken s).1).sar.cfg = s.sar.cfg ∧ ((lampOffTaken s).1).lmc.hours = s.lmc.hours ∧
    ((lampOffTaken s).1).lmc.cfg = s.lmc.cfg ∧ ((lampOffTaken s).1).lmc.temp = s.lmc.temp ∧
    ((lampOffTaken s).1).lmc.trip = s.lmc.trip ∧ ((lampOffTaken s).1).crn.table = s.crn.table ∧
    ((lampOffTaken s).1).crn.queue = s.crn.queue ∧ ((lampOffTaken s).1).crn.current = s.crn.current ∧
    ((lampOffTaken s).1).pnp.power = s.pnp.power ∧ ((lampOffTaken s).1).pnp.resp = s.pnp.resp ∧
    ((lampOffTaken s).1).pnp.cfg = s.pnp.cfg ∧ ((lampOffTaken s).1).pnp.store = s.pnp.store ∧
    ((lampOffTaken s).1).pnp.load = s.pnp.load ∧ ((lampOffTaken s).1).pnp.hoursWrite = s.pnp.hoursWrite ∧
    ((lampOffTaken s).1).pnp.memPresent = s.pnp.memPresent ∧
    ((lampOffTaken s).1).pnp.idleSetting = s.pnp.idleSetting ∧ ((lampOffTaken s).1).pnp.event = s.pnp.event := by
  (unfold lampOffTaken; (try dsimp only); (repeat' split) <;> simp_all)

@[simp] theorem setLevelTaken_frame (l f : Nat) (s : State) :
    ((setLevelTaken l f s).1).pending = s.pending ∧ ((setLevelTaken l f s).1).pins = s.pins ∧
    ((setLevelTaken l f s).1).psdo = s.psdo ∧ ((setLevelTaken l f s).1).mem = s.mem ∧
    ((setLevelTaken l f s).1).tru = s.tru ∧ ((setLevelTaken l f s).1).dkc = s.dkc ∧
    ((setLevelTaken l f s).1).cdc = s.cdc ∧ ((setLevelTaken l f s).1).shc = s.shc ∧
    ((setLevelTaken l f s).1).rmi = s.rmi ∧ ((setLevelTaken l f s).1).lkc = s.lkc ∧
    ((setLevelTaken l f s).1).csq.gate = s.csq.gate ∧ ((setLevelTaken l f s).1).csq.origin = s.csq.origin ∧
    ((setLevelTaken l f s).1).csq.cfg = s.csq.cfg ∧ ((setLevelTaken l f s).1).sar.sources = s.sar.sources ∧
    ((setLevelTaken l f s).1).sar.cfg = s.sar.cfg ∧ ((setLevelTaken l f s).1).lmc.hours = s.lmc.hours ∧
    ((setLevelTaken l f s).1).lmc.cfg = s.lmc.cfg ∧ ((setLevelTaken l f s).1).lmc.temp = s.lmc.temp ∧
    ((setLevelTaken l f s).1).lmc.trip = s.lmc.trip ∧ ((setLevelTaken l f s).1).crn.table = s.crn.table ∧
    ((setLevelTaken l f s).1).crn.queue = s.crn.queue ∧ ((setLevelTaken l f s).1).crn.current = s.crn.current ∧
    ((setLevelTaken l f s).1).pnp.power = s.pnp.power ∧ ((setLevelTaken l f s).1).pnp.resp = s.pnp.resp ∧
    ((setLevelTaken l f s).1).pnp.cfg = s.pnp.cfg ∧ ((setLevelTaken l f s).1).pnp.store = s.pnp.store ∧
    ((setLevelTaken l f s).1).pnp.load = s.pnp.load ∧ ((setLevelTaken l f s).1).pnp.hoursWrite = s.pnp.hoursWrite ∧
    ((setLevelTaken l f s).1).pnp.hoursWaiting = s.pnp.hoursWaiting ∧
    ((setLevelTaken l f s).1).pnp.memPresent = s.pnp.memPresent ∧
    ((setLevelTaken l f s).1).pnp.idleSetting = s.pnp.idleSetting ∧
    ((setLevelTaken l f s).1).pnp.event = s.pnp.event := by
  (unfold setLevelTaken; (try dsimp only); (repeat' split) <;> simp_all)

@[simp] theorem setLevelByte_frame (l f : Byte) (s : State) :
    ((setLevelByte l f s).1).pending = s.pending ∧ ((setLevelByte l f s).1).pins = s.pins ∧
    ((setLevelByte l f s).1).psdo = s.psdo ∧ ((setLevelByte l f s).1).mem = s.mem ∧
    ((setLevelByte l f s).1).tru = s.tru ∧ ((setLevelByte l f s).1).dkc = s.dkc ∧
    ((setLevelByte l f s).1).cdc = s.cdc ∧ ((setLevelByte l f s).1).shc = s.shc ∧
    ((setLevelByte l f s).1).rmi = s.rmi ∧ ((setLevelByte l f s).1).lkc = s.lkc ∧
    ((setLevelByte l f s).1).csq.gate = s.csq.gate ∧ ((setLevelByte l f s).1).csq.origin = s.csq.origin ∧
    ((setLevelByte l f s).1).csq.cfg = s.csq.cfg ∧ ((setLevelByte l f s).1).sar.sources = s.sar.sources ∧
    ((setLevelByte l f s).1).sar.cfg = s.sar.cfg ∧ ((setLevelByte l f s).1).lmc.hours = s.lmc.hours ∧
    ((setLevelByte l f s).1).lmc.cfg = s.lmc.cfg ∧ ((setLevelByte l f s).1).lmc.temp = s.lmc.temp ∧
    ((setLevelByte l f s).1).lmc.trip = s.lmc.trip ∧ ((setLevelByte l f s).1).crn.table = s.crn.table ∧
    ((setLevelByte l f s).1).crn.queue = s.crn.queue ∧ ((setLevelByte l f s).1).crn.current = s.crn.current ∧
    ((setLevelByte l f s).1).pnp.power = s.pnp.power ∧ ((setLevelByte l f s).1).pnp.resp = s.pnp.resp ∧
    ((setLevelByte l f s).1).pnp.cfg = s.pnp.cfg ∧ ((setLevelByte l f s).1).pnp.store = s.pnp.store ∧
    ((setLevelByte l f s).1).pnp.load = s.pnp.load ∧ ((setLevelByte l f s).1).pnp.hoursWrite = s.pnp.hoursWrite ∧
    ((setLevelByte l f s).1).pnp.hoursWaiting = s.pnp.hoursWaiting ∧
    ((setLevelByte l f s).1).pnp.memPresent = s.pnp.memPresent ∧
    ((setLevelByte l f s).1).pnp.idleSetting = s.pnp.idleSetting ∧
    ((setLevelByte l f s).1).pnp.event = s.pnp.event := by
  (unfold setLevelByte; (try dsimp only); (repeat' split) <;> simp_all)

@[simp] theorem showStopTaken_frame (s : State) :
    ((showStopTaken s).1).pending = s.pending ∧ ((showStopTaken s).1).pins = s.pins ∧
    ((showStopTaken s).1).psdo = s.psdo ∧ ((showStopTaken s).1).mem = s.mem ∧ ((showStopTaken s).1).tru = s.tru ∧
    ((showStopTaken s).1).csq = s.csq ∧ ((showStopTaken s).1).lmc = s.lmc ∧ ((showStopTaken s).1).cdc = s.cdc ∧
    ((showStopTaken s).1).rmi = s.rmi ∧ ((showStopTaken s).1).lkc = s.lkc ∧
    ((showStopTaken s).1).sar.sources = s.sar.sources ∧ ((showStopTaken s).1).sar.cfg = s.sar.cfg ∧
    ((showStopTaken s).1).sar.holder = s.sar.holder ∧ ((showStopTaken s).1).dkc.clock = s.dkc.clock ∧
    ((showStopTaken s).1).dkc.audio = s.dkc.audio ∧ ((showStopTaken s).1).dkc.cfg = s.dkc.cfg ∧
    ((showStopTaken s).1).crn.table = s.crn.table ∧ ((showStopTaken s).1).crn.current = s.crn.current ∧
    ((showStopTaken s).1).shc.autoResume = s.shc.autoResume ∧ ((showStopTaken s).1).pnp.power = s.pnp.power ∧
    ((showStopTaken s).1).pnp.resp = s.pnp.resp ∧ ((showStopTaken s).1).pnp.cfg = s.pnp.cfg ∧
    ((showStopTaken s).1).pnp.store = s.pnp.store ∧ ((showStopTaken s).1).pnp.load = s.pnp.load ∧
    ((showStopTaken s).1).pnp.hoursWrite = s.pnp.hoursWrite ∧
    ((showStopTaken s).1).pnp.hoursWaiting = s.pnp.hoursWaiting ∧
    ((showStopTaken s).1).pnp.memPresent = s.pnp.memPresent ∧
    ((showStopTaken s).1).pnp.idleSetting = s.pnp.idleSetting ∧ ((showStopTaken s).1).pnp.event = s.pnp.event := by
  (unfold showStopTaken; (try dsimp only); (repeat' split) <;> simp_all)

@[simp] theorem offerFrom_frame (o : CueOrigin) (k : CueKind) (s : State) :
    ((offerFrom o k s).1).pending = s.pending ∧ ((offerFrom o k s).1).pins = s.pins ∧
    ((offerFrom o k s).1).psdo = s.psdo ∧ ((offerFrom o k s).1).mem = s.mem ∧ ((offerFrom o k s).1).tru = s.tru ∧
    ((offerFrom o k s).1).csq = s.csq ∧ ((offerFrom o k s).1).sar = s.sar ∧ ((offerFrom o k s).1).lmc = s.lmc ∧
    ((offerFrom o k s).1).dkc = s.dkc ∧ ((offerFrom o k s).1).cdc = s.cdc ∧ ((offerFrom o k s).1).shc = s.shc ∧
    ((offerFrom o k s).1).rmi = s.rmi ∧ ((offerFrom o k s).1).lkc = s.lkc ∧ ((offerFrom o k s).1).pnp = s.pnp ∧
    ((offerFrom o k s).1).crn.table = s.crn.table ∧ ((offerFrom o k s).1).crn.progress = s.crn.progress ∧
    ((offerFrom o k s).1).crn.current = s.crn.current := by
  (unfold offerFrom; (try dsimp only); (repeat' split) <;> simp_all)

@[simp] theorem holdTaken_frame (c : Cause) (s : State) :
    ((holdTaken c s).1).pending = s.pending ∧ ((holdTaken c s).1).pins = s.pins ∧
    ((holdTaken c s).1).psdo = s.psdo ∧ ((holdTaken c s).1).mem = s.mem ∧ ((holdTaken c s).1).tru = s.tru ∧
    ((holdTaken c s).1).csq = s.csq ∧ ((holdTaken c s).1).sar = s.sar ∧ ((holdTaken c s).1).lmc = s.lmc ∧
    ((holdTaken c s).1).cdc = s.cdc ∧ ((holdTaken c s).1).crn = s.crn ∧ ((holdTaken c s).1).rmi = s.rmi ∧
    ((holdTaken c s).1).lkc = s.lkc ∧ ((holdTaken c s).1).dkc.clock = s.dkc.clock ∧
    ((holdTaken c s).1).dkc.audio = s.dkc.audio ∧ ((holdTaken c s).1).dkc.cfg = s.dkc.cfg ∧
    ((holdTaken c s).1).shc.autoResume = s.shc.autoResume ∧ ((holdTaken c s).1).pnp.power = s.pnp.power ∧
    ((holdTaken c s).1).pnp.resp = s.pnp.resp ∧ ((holdTaken c s).1).pnp.cfg = s.pnp.cfg ∧
    ((holdTaken c s).1).pnp.store = s.pnp.store ∧ ((holdTaken c s).1).pnp.load = s.pnp.load ∧
    ((holdTaken c s).1).pnp.hoursWrite = s.pnp.hoursWrite ∧
    ((holdTaken c s).1).pnp.hoursWaiting = s.pnp.hoursWaiting ∧
    ((holdTaken c s).1).pnp.memPresent = s.pnp.memPresent ∧
    ((holdTaken c s).1).pnp.idleSetting = s.pnp.idleSetting ∧ ((holdTaken c s).1).pnp.event = s.pnp.event := by
  (unfold holdTaken; (try dsimp only); (repeat' split) <;> simp_all)

@[simp] theorem resumeTaken_frame (s : State) :
    ((resumeTaken s).1).pending = s.pending ∧ ((resumeTaken s).1).pins = s.pins ∧
    ((resumeTaken s).1).psdo = s.psdo ∧ ((resumeTaken s).1).mem = s.mem ∧ ((resumeTaken s).1).tru = s.tru ∧
    ((resumeTaken s).1).csq = s.csq ∧ ((resumeTaken s).1).sar = s.sar ∧ ((resumeTaken s).1).lmc = s.lmc ∧
    ((resumeTaken s).1).cdc = s.cdc ∧ ((resumeTaken s).1).rmi = s.rmi ∧ ((resumeTaken s).1).lkc = s.lkc ∧
    ((resumeTaken s).1).dkc.clock = s.dkc.clock ∧ ((resumeTaken s).1).dkc.audio = s.dkc.audio ∧
    ((resumeTaken s).1).dkc.cfg = s.dkc.cfg ∧ ((resumeTaken s).1).crn.table = s.crn.table ∧
    ((resumeTaken s).1).crn.queue = s.crn.queue ∧ ((resumeTaken s).1).crn.progress = s.crn.progress ∧
    ((resumeTaken s).1).crn.current = s.crn.current ∧ ((resumeTaken s).1).shc.autoResume = s.shc.autoResume ∧
    ((resumeTaken s).1).pnp.power = s.pnp.power ∧ ((resumeTaken s).1).pnp.resp = s.pnp.resp ∧
    ((resumeTaken s).1).pnp.cfg = s.pnp.cfg ∧ ((resumeTaken s).1).pnp.store = s.pnp.store ∧
    ((resumeTaken s).1).pnp.load = s.pnp.load ∧ ((resumeTaken s).1).pnp.hoursWrite = s.pnp.hoursWrite ∧
    ((resumeTaken s).1).pnp.hoursWaiting = s.pnp.hoursWaiting ∧
    ((resumeTaken s).1).pnp.memPresent = s.pnp.memPresent ∧
    ((resumeTaken s).1).pnp.idleSetting = s.pnp.idleSetting ∧ ((resumeTaken s).1).pnp.event = s.pnp.event := by
  (unfold resumeTaken; (try dsimp only); (repeat' split) <;> simp_all)

end Sys2Proof.Machine
end

