-- ==== Sys2Proof/Laws/EventFrames.lean ====
section
/-! SUPPORT. Frame laws (event operations): what each shared operation leaves as it stands. -/

namespace Sys2Proof.Machine

@[simp] theorem insertTray_frame (s : State) :
    (insertTray s).pending = s.pending ∧ (insertTray s).psdo = s.psdo ∧ (insertTray s).mem = s.mem ∧
    (insertTray s).csq = s.csq ∧ (insertTray s).sar = s.sar ∧ (insertTray s).lmc = s.lmc ∧
    (insertTray s).dkc = s.dkc ∧ (insertTray s).cdc = s.cdc ∧ (insertTray s).crn = s.crn ∧
    (insertTray s).shc = s.shc ∧ (insertTray s).rmi = s.rmi ∧ (insertTray s).lkc = s.lkc ∧
    (insertTray s).pnp = s.pnp ∧ (insertTray s).tru.map = s.tru.map ∧
    (insertTray s).tru.position = s.tru.position ∧ (insertTray s).tru.cfg = s.tru.cfg ∧
    (insertTray s).pins.porstLow = s.pins.porstLow := by
  (unfold insertTray; (try dsimp only); (repeat' split) <;> simp_all)

@[simp] theorem removeTray_frame (s : State) :
    (removeTray s).pending = s.pending ∧ (removeTray s).psdo = s.psdo ∧ (removeTray s).mem = s.mem ∧
    (removeTray s).cdc = s.cdc ∧ (removeTray s).rmi = s.rmi ∧ (removeTray s).lkc = s.lkc ∧
    (removeTray s).tru.cfg = s.tru.cfg ∧ (removeTray s).csq.cfg = s.csq.cfg ∧
    (removeTray s).sar.sources = s.sar.sources ∧ (removeTray s).sar.cfg = s.sar.cfg ∧
    (removeTray s).lmc.hours = s.lmc.hours ∧ (removeTray s).lmc.cfg = s.lmc.cfg ∧
    (removeTray s).lmc.temp = s.lmc.temp ∧ (removeTray s).lmc.trip = s.lmc.trip ∧
    (removeTray s).dkc.clock = s.dkc.clock ∧ (removeTray s).dkc.audio = s.dkc.audio ∧
    (removeTray s).dkc.cfg = s.dkc.cfg ∧ (removeTray s).crn.table = s.crn.table ∧
    (removeTray s).crn.queue = s.crn.queue ∧ (removeTray s).crn.current = s.crn.current ∧
    (removeTray s).shc.autoResume = s.shc.autoResume ∧ (removeTray s).pnp.power = s.pnp.power ∧
    (removeTray s).pnp.resp = s.pnp.resp ∧ (removeTray s).pnp.cfg = s.pnp.cfg ∧
    (removeTray s).pnp.store = s.pnp.store ∧ (removeTray s).pnp.load = s.pnp.load ∧
    (removeTray s).pnp.hoursWrite = s.pnp.hoursWrite ∧ (removeTray s).pnp.hoursWaiting = s.pnp.hoursWaiting ∧
    (removeTray s).pnp.memPresent = s.pnp.memPresent ∧ (removeTray s).pnp.idleSetting = s.pnp.idleSetting ∧
    (removeTray s).pnp.event = s.pnp.event ∧ (removeTray s).pins.porstLow = s.pins.porstLow := by
  (unfold removeTray; (try dsimp only); (repeat' split) <;> simp_all)

@[simp] theorem indexPulse_frame (s : State) :
    (indexPulse s).pending = s.pending ∧ (indexPulse s).pins = s.pins ∧ (indexPulse s).psdo = s.psdo ∧
    (indexPulse s).mem = s.mem ∧ (indexPulse s).lmc = s.lmc ∧ (indexPulse s).cdc = s.cdc ∧
    (indexPulse s).rmi = s.rmi ∧ (indexPulse s).lkc = s.lkc ∧ (indexPulse s).tru.map = s.tru.map ∧
    (indexPulse s).tru.present = s.tru.present ∧ (indexPulse s).tru.cfg = s.tru.cfg ∧
    (indexPulse s).csq.gate = s.csq.gate ∧ (indexPulse s).csq.origin = s.csq.origin ∧
    (indexPulse s).csq.cfg = s.csq.cfg ∧ (indexPulse s).csq.shutClosed = s.csq.shutClosed ∧
    (indexPulse s).sar.sources = s.sar.sources ∧ (indexPulse s).sar.cfg = s.sar.cfg ∧
    (indexPulse s).dkc.clock = s.dkc.clock ∧ (indexPulse s).dkc.audio = s.dkc.audio ∧
    (indexPulse s).dkc.cfg = s.dkc.cfg ∧ (indexPulse s).crn.table = s.crn.table ∧
    (indexPulse s).crn.queue = s.crn.queue ∧ (indexPulse s).crn.current = s.crn.current ∧
    (indexPulse s).shc.autoResume = s.shc.autoResume ∧ (indexPulse s).pnp.power = s.pnp.power ∧
    (indexPulse s).pnp.resp = s.pnp.resp ∧ (indexPulse s).pnp.cfg = s.pnp.cfg ∧
    (indexPulse s).pnp.store = s.pnp.store ∧ (indexPulse s).pnp.load = s.pnp.load ∧
    (indexPulse s).pnp.hoursWrite = s.pnp.hoursWrite ∧ (indexPulse s).pnp.hoursWaiting = s.pnp.hoursWaiting ∧
    (indexPulse s).pnp.memPresent = s.pnp.memPresent ∧ (indexPulse s).pnp.idleSetting = s.pnp.idleSetting ∧
    (indexPulse s).pnp.event = s.pnp.event := by
  (unfold indexPulse; (try dsimp only); (repeat' split) <;> simp_all)

@[simp] theorem homePulse_frame (s : State) :
    (homePulse s).pending = s.pending ∧ (homePulse s).pins = s.pins ∧ (homePulse s).psdo = s.psdo ∧
    (homePulse s).mem = s.mem ∧ (homePulse s).sar = s.sar ∧ (homePulse s).lmc = s.lmc ∧ (homePulse s).dkc = s.dkc ∧
    (homePulse s).cdc = s.cdc ∧ (homePulse s).crn = s.crn ∧ (homePulse s).shc = s.shc ∧ (homePulse s).rmi = s.rmi ∧
    (homePulse s).lkc = s.lkc ∧ (homePulse s).tru.map = s.tru.map ∧ (homePulse s).tru.present = s.tru.present ∧
    (homePulse s).tru.cfg = s.tru.cfg ∧ (homePulse s).csq.gate = s.csq.gate ∧
    (homePulse s).csq.origin = s.csq.origin ∧ (homePulse s).csq.flight = s.csq.flight ∧
    (homePulse s).csq.cfg = s.csq.cfg ∧ (homePulse s).csq.shutClosed = s.csq.shutClosed ∧
    (homePulse s).pnp.power = s.pnp.power ∧ (homePulse s).pnp.resp = s.pnp.resp ∧
    (homePulse s).pnp.cfg = s.pnp.cfg ∧ (homePulse s).pnp.store = s.pnp.store ∧
    (homePulse s).pnp.load = s.pnp.load ∧ (homePulse s).pnp.hoursWrite = s.pnp.hoursWrite ∧
    (homePulse s).pnp.hoursWaiting = s.pnp.hoursWaiting ∧ (homePulse s).pnp.memPresent = s.pnp.memPresent ∧
    (homePulse s).pnp.idleSetting = s.pnp.idleSetting ∧ (homePulse s).pnp.event = s.pnp.event := by
  (unfold homePulse; (try dsimp only); (repeat' split) <;> simp_all)

@[simp] theorem guardCheck_frame (s : State) :
    (guardCheck s).pending = s.pending ∧ (guardCheck s).pins = s.pins ∧ (guardCheck s).psdo = s.psdo ∧
    (guardCheck s).mem = s.mem ∧ (guardCheck s).tru = s.tru ∧ (guardCheck s).csq = s.csq ∧
    (guardCheck s).sar = s.sar ∧ (guardCheck s).dkc = s.dkc ∧ (guardCheck s).cdc = s.cdc ∧
    (guardCheck s).crn = s.crn ∧ (guardCheck s).shc = s.shc ∧ (guardCheck s).rmi = s.rmi ∧
    (guardCheck s).lkc = s.lkc ∧ (guardCheck s).pnp = s.pnp ∧ (guardCheck s).lmc.lamp = s.lmc.lamp ∧
    (guardCheck s).lmc.claim = s.lmc.claim ∧ (guardCheck s).lmc.hours = s.lmc.hours ∧
    (guardCheck s).lmc.cfg = s.lmc.cfg ∧ (guardCheck s).lmc.temp = s.lmc.temp ∧
    (guardCheck s).lmc.dim = s.lmc.dim ∧ (guardCheck s).lmc.trip = s.lmc.trip := by
  (unfold guardCheck; (try dsimp only); (repeat' split) <;> simp_all)

@[simp] theorem applyLamp_frame (v : LampSettings) (s : State) :
    (applyLamp v s).pending = s.pending ∧ (applyLamp v s).pins = s.pins ∧ (applyLamp v s).psdo = s.psdo ∧
    (applyLamp v s).mem = s.mem ∧ (applyLamp v s).tru = s.tru ∧ (applyLamp v s).csq = s.csq ∧
    (applyLamp v s).sar = s.sar ∧ (applyLamp v s).dkc = s.dkc ∧ (applyLamp v s).cdc = s.cdc ∧
    (applyLamp v s).crn = s.crn ∧ (applyLamp v s).shc = s.shc ∧ (applyLamp v s).rmi = s.rmi ∧
    (applyLamp v s).lkc = s.lkc ∧ (applyLamp v s).pnp = s.pnp ∧ (applyLamp v s).lmc.lamp = s.lmc.lamp ∧
    (applyLamp v s).lmc.claim = s.lmc.claim ∧ (applyLamp v s).lmc.hours = s.lmc.hours ∧
    (applyLamp v s).lmc.temp = s.lmc.temp ∧ (applyLamp v s).lmc.dim = s.lmc.dim ∧
    (applyLamp v s).lmc.trip = s.lmc.trip := by
  (unfold applyLamp; (try dsimp only); (repeat' split) <;> simp_all)

@[simp] theorem sampleTrip_frame (t : Nat) (b : Bool) (s : State) :
    (sampleTrip t b s).pending = s.pending ∧ (sampleTrip t b s).pins = s.pins ∧ (sampleTrip t b s).psdo = s.psdo ∧
    (sampleTrip t b s).mem = s.mem ∧ (sampleTrip t b s).tru = s.tru ∧ (sampleTrip t b s).csq = s.csq ∧
    (sampleTrip t b s).sar = s.sar ∧ (sampleTrip t b s).cdc = s.cdc ∧ (sampleTrip t b s).crn = s.crn ∧
    (sampleTrip t b s).rmi = s.rmi ∧ (sampleTrip t b s).lkc = s.lkc ∧ (sampleTrip t b s).lmc.claim = s.lmc.claim ∧
    (sampleTrip t b s).lmc.hours = s.lmc.hours ∧ (sampleTrip t b s).lmc.cfg = s.lmc.cfg ∧
    (sampleTrip t b s).lmc.temp = s.lmc.temp ∧ (sampleTrip t b s).lmc.dim = s.lmc.dim ∧
    (sampleTrip t b s).dkc.clock = s.dkc.clock ∧ (sampleTrip t b s).dkc.audio = s.dkc.audio ∧
    (sampleTrip t b s).dkc.cfg = s.dkc.cfg ∧ (sampleTrip t b s).shc.autoResume = s.shc.autoResume ∧
    (sampleTrip t b s).pnp.power = s.pnp.power ∧ (sampleTrip t b s).pnp.resp = s.pnp.resp ∧
    (sampleTrip t b s).pnp.cfg = s.pnp.cfg ∧ (sampleTrip t b s).pnp.store = s.pnp.store ∧
    (sampleTrip t b s).pnp.load = s.pnp.load ∧ (sampleTrip t b s).pnp.hoursWrite = s.pnp.hoursWrite ∧
    (sampleTrip t b s).pnp.memPresent = s.pnp.memPresent ∧ (sampleTrip t b s).pnp.idleSetting = s.pnp.idleSetting ∧
    (sampleTrip t b s).pnp.event = s.pnp.event := by
  (unfold sampleTrip; (try dsimp only); (repeat' split) <;> simp_all)

@[simp] theorem residualCooling_frame (t : Nat) (b : Bool) (s : State) :
    (residualCooling t b s).pending = s.pending ∧ (residualCooling t b s).pins = s.pins ∧
    (residualCooling t b s).psdo = s.psdo ∧ (residualCooling t b s).mem = s.mem ∧
    (residualCooling t b s).tru = s.tru ∧ (residualCooling t b s).csq = s.csq ∧
    (residualCooling t b s).sar = s.sar ∧ (residualCooling t b s).dkc = s.dkc ∧
    (residualCooling t b s).cdc = s.cdc ∧ (residualCooling t b s).crn = s.crn ∧
    (residualCooling t b s).shc = s.shc ∧ (residualCooling t b s).rmi = s.rmi ∧
    (residualCooling t b s).lkc = s.lkc ∧ (residualCooling t b s).pnp = s.pnp ∧
    (residualCooling t b s).lmc.claim = s.lmc.claim ∧ (residualCooling t b s).lmc.hours = s.lmc.hours ∧
    (residualCooling t b s).lmc.cfg = s.lmc.cfg ∧ (residualCooling t b s).lmc.temp = s.lmc.temp ∧
    (residualCooling t b s).lmc.dim = s.lmc.dim ∧ (residualCooling t b s).lmc.trip = s.lmc.trip := by
  (unfold residualCooling; (try dsimp only); (repeat' split) <;> simp_all)

@[simp] theorem sampleRestrike_frame (t : Nat) (s : State) :
    (sampleRestrike t s).pending = s.pending ∧ (sampleRestrike t s).pins = s.pins ∧
    (sampleRestrike t s).psdo = s.psdo ∧ (sampleRestrike t s).mem = s.mem ∧ (sampleRestrike t s).tru = s.tru ∧
    (sampleRestrike t s).csq = s.csq ∧ (sampleRestrike t s).sar = s.sar ∧ (sampleRestrike t s).dkc = s.dkc ∧
    (sampleRestrike t s).cdc = s.cdc ∧ (sampleRestrike t s).crn = s.crn ∧ (sampleRestrike t s).shc = s.shc ∧
    (sampleRestrike t s).rmi = s.rmi ∧ (sampleRestrike t s).lkc = s.lkc ∧ (sampleRestrike t s).pnp = s.pnp ∧
    (sampleRestrike t s).lmc.claim = s.lmc.claim ∧ (sampleRestrike t s).lmc.hours = s.lmc.hours ∧
    (sampleRestrike t s).lmc.cfg = s.lmc.cfg ∧ (sampleRestrike t s).lmc.temp = s.lmc.temp ∧
    (sampleRestrike t s).lmc.dim = s.lmc.dim ∧ (sampleRestrike t s).lmc.trip = s.lmc.trip := by
  (unfold sampleRestrike; (try dsimp only); (repeat' split) <;> simp_all)

@[simp] theorem takeSample_frame (r : Option Nat) (s : State) :
    (takeSample r s).pending = s.pending ∧ (takeSample r s).pins = s.pins ∧ (takeSample r s).psdo = s.psdo ∧
    (takeSample r s).mem = s.mem ∧ (takeSample r s).tru = s.tru ∧ (takeSample r s).cdc = s.cdc ∧
    (takeSample r s).rmi = s.rmi ∧ (takeSample r s).lkc = s.lkc ∧ (takeSample r s).csq.gate = s.csq.gate ∧
    (takeSample r s).csq.origin = s.csq.origin ∧ (takeSample r s).csq.cfg = s.csq.cfg ∧
    (takeSample r s).sar.sources = s.sar.sources ∧ (takeSample r s).sar.cfg = s.sar.cfg ∧
    (takeSample r s).dkc.clock = s.dkc.clock ∧ (takeSample r s).dkc.audio = s.dkc.audio ∧
    (takeSample r s).dkc.cfg = s.dkc.cfg ∧ (takeSample r s).crn.table = s.crn.table ∧
    (takeSample r s).crn.queue = s.crn.queue ∧ (takeSample r s).crn.current = s.crn.current ∧
    (takeSample r s).shc.autoResume = s.shc.autoResume ∧ (takeSample r s).pnp.power = s.pnp.power ∧
    (takeSample r s).pnp.resp = s.pnp.resp ∧ (takeSample r s).pnp.cfg = s.pnp.cfg ∧
    (takeSample r s).pnp.store = s.pnp.store ∧ (takeSample r s).pnp.load = s.pnp.load ∧
    (takeSample r s).pnp.hoursWrite = s.pnp.hoursWrite ∧ (takeSample r s).pnp.memPresent = s.pnp.memPresent ∧
    (takeSample r s).pnp.idleSetting = s.pnp.idleSetting ∧ (takeSample r s).pnp.event = s.pnp.event := by
  (unfold takeSample; (try dsimp only); (repeat' split) <;> simp_all)

@[simp] theorem endActive_frame (s : State) :
    (endActive s).pending = s.pending ∧ (endActive s).pins = s.pins ∧ (endActive s).psdo = s.psdo ∧
    (endActive s).mem = s.mem ∧ (endActive s).tru = s.tru ∧ (endActive s).csq = s.csq ∧ (endActive s).sar = s.sar ∧
    (endActive s).lmc = s.lmc ∧ (endActive s).cdc = s.cdc ∧ (endActive s).rmi = s.rmi ∧ (endActive s).lkc = s.lkc ∧
    (endActive s).dkc.clock = s.dkc.clock ∧ (endActive s).dkc.audio = s.dkc.audio ∧
    (endActive s).dkc.cfg = s.dkc.cfg ∧ (endActive s).crn.table = s.crn.table ∧
    (endActive s).crn.queue = s.crn.queue ∧ (endActive s).crn.progress = s.crn.progress ∧
    (endActive s).crn.current = s.crn.current ∧ (endActive s).shc.autoResume = s.shc.autoResume ∧
    (endActive s).pnp.power = s.pnp.power ∧ (endActive s).pnp.resp = s.pnp.resp ∧
    (endActive s).pnp.cfg = s.pnp.cfg ∧ (endActive s).pnp.store = s.pnp.store ∧
    (endActive s).pnp.load = s.pnp.load ∧ (endActive s).pnp.hoursWrite = s.pnp.hoursWrite ∧
    (endActive s).pnp.hoursWaiting = s.pnp.hoursWaiting ∧ (endActive s).pnp.memPresent = s.pnp.memPresent ∧
    (endActive s).pnp.idleSetting = s.pnp.idleSetting ∧ (endActive s).pnp.event = s.pnp.event := by
  (unfold endActive; (try dsimp only); (repeat' split) <;> simp_all)

@[simp] theorem runningUp_frame (s : State) :
    (runningUp s).pending = s.pending ∧ (runningUp s).pins = s.pins ∧ (runningUp s).psdo = s.psdo ∧
    (runningUp s).mem = s.mem ∧ (runningUp s).tru = s.tru ∧ (runningUp s).csq = s.csq ∧ (runningUp s).sar = s.sar ∧
    (runningUp s).lmc = s.lmc ∧ (runningUp s).cdc = s.cdc ∧ (runningUp s).rmi = s.rmi ∧ (runningUp s).lkc = s.lkc ∧
    (runningUp s).dkc.audio = s.dkc.audio ∧ (runningUp s).dkc.cfg = s.dkc.cfg ∧
    (runningUp s).crn.table = s.crn.table ∧ (runningUp s).crn.progress = s.crn.progress ∧
    (runningUp s).shc.autoResume = s.shc.autoResume ∧ (runningUp s).pnp.power = s.pnp.power ∧
    (runningUp s).pnp.resp = s.pnp.resp ∧ (runningUp s).pnp.cfg = s.pnp.cfg ∧
    (runningUp s).pnp.store = s.pnp.store ∧ (runningUp s).pnp.load = s.pnp.load ∧
    (runningUp s).pnp.hoursWrite = s.pnp.hoursWrite ∧ (runningUp s).pnp.hoursWaiting = s.pnp.hoursWaiting ∧
    (runningUp s).pnp.memPresent = s.pnp.memPresent ∧ (runningUp s).pnp.idleSetting = s.pnp.idleSetting ∧
    (runningUp s).pnp.event = s.pnp.event := by
  (unfold runningUp; (try dsimp only); (repeat' split) <;> simp_all)

@[simp] theorem runningDown_frame (s : State) :
    (runningDown s).pending = s.pending ∧ (runningDown s).pins = s.pins ∧ (runningDown s).psdo = s.psdo ∧
    (runningDown s).mem = s.mem ∧ (runningDown s).tru = s.tru ∧ (runningDown s).csq = s.csq ∧
    (runningDown s).sar = s.sar ∧ (runningDown s).lmc = s.lmc ∧ (runningDown s).cdc = s.cdc ∧
    (runningDown s).crn = s.crn ∧ (runningDown s).shc = s.shc ∧ (runningDown s).rmi = s.rmi ∧
    (runningDown s).lkc = s.lkc ∧ (runningDown s).pnp = s.pnp ∧ (runningDown s).dkc.clock = s.dkc.clock ∧
    (runningDown s).dkc.audio = s.dkc.audio ∧ (runningDown s).dkc.cfg = s.dkc.cfg := by
  (unfold runningDown; (try dsimp only); (repeat' split) <;> simp_all)

@[simp] theorem deckEdge_frame (a b : Bool) (s : State) :
    (deckEdge a b s).pending = s.pending ∧ (deckEdge a b s).psdo = s.psdo ∧ (deckEdge a b s).mem = s.mem ∧
    (deckEdge a b s).tru = s.tru ∧ (deckEdge a b s).csq = s.csq ∧ (deckEdge a b s).sar = s.sar ∧
    (deckEdge a b s).lmc = s.lmc ∧ (deckEdge a b s).cdc = s.cdc ∧ (deckEdge a b s).rmi = s.rmi ∧
    (deckEdge a b s).lkc = s.lkc ∧ (deckEdge a b s).dkc.audio = s.dkc.audio ∧
    (deckEdge a b s).dkc.cfg = s.dkc.cfg ∧ (deckEdge a b s).crn.table = s.crn.table ∧
    (deckEdge a b s).crn.progress = s.crn.progress ∧ (deckEdge a b s).shc.autoResume = s.shc.autoResume ∧
    (deckEdge a b s).pnp.power = s.pnp.power ∧ (deckEdge a b s).pnp.resp = s.pnp.resp ∧
    (deckEdge a b s).pnp.cfg = s.pnp.cfg ∧ (deckEdge a b s).pnp.store = s.pnp.store ∧
    (deckEdge a b s).pnp.load = s.pnp.load ∧ (deckEdge a b s).pnp.hoursWrite = s.pnp.hoursWrite ∧
    (deckEdge a b s).pnp.hoursWaiting = s.pnp.hoursWaiting ∧ (deckEdge a b s).pnp.memPresent = s.pnp.memPresent ∧
    (deckEdge a b s).pnp.idleSetting = s.pnp.idleSetting ∧ (deckEdge a b s).pnp.event = s.pnp.event ∧
    (deckEdge a b s).pins.porstLow = s.pins.porstLow := by
  (unfold deckEdge; (try dsimp only); (repeat' split) <;> simp_all)

@[simp] theorem deliverCue_frame (l : LastCue) (k : CueKind) (s : State) :
    (deliverCue l k s).pending = s.pending ∧ (deliverCue l k s).pins = s.pins ∧ (deliverCue l k s).psdo = s.psdo ∧
    (deliverCue l k s).mem = s.mem ∧ (deliverCue l k s).tru = s.tru ∧ (deliverCue l k s).csq = s.csq ∧
    (deliverCue l k s).sar = s.sar ∧ (deliverCue l k s).lmc = s.lmc ∧ (deliverCue l k s).dkc = s.dkc ∧
    (deliverCue l k s).shc = s.shc ∧ (deliverCue l k s).rmi = s.rmi ∧ (deliverCue l k s).lkc = s.lkc ∧
    (deliverCue l k s).pnp = s.pnp ∧ (deliverCue l k s).crn.table = s.crn.table ∧
    (deliverCue l k s).crn.progress = s.crn.progress ∧ (deliverCue l k s).crn.current = s.crn.current ∧
    (deliverCue l k s).cdc.cfg = s.cdc.cfg := by
  (unfold deliverCue; (try dsimp only); (repeat' split) <;> simp_all)

@[simp] theorem yieldHold_frame (s : State) :
    (yieldHold s).pending = s.pending ∧ (yieldHold s).pins = s.pins ∧ (yieldHold s).psdo = s.psdo ∧
    (yieldHold s).mem = s.mem ∧ (yieldHold s).tru = s.tru ∧ (yieldHold s).csq = s.csq ∧ (yieldHold s).sar = s.sar ∧
    (yieldHold s).lmc = s.lmc ∧ (yieldHold s).crn = s.crn ∧ (yieldHold s).rmi = s.rmi ∧ (yieldHold s).lkc = s.lkc ∧
    (yieldHold s).dkc.clock = s.dkc.clock ∧ (yieldHold s).dkc.audio = s.dkc.audio ∧
    (yieldHold s).dkc.cfg = s.dkc.cfg ∧ (yieldHold s).shc.autoResume = s.shc.autoResume ∧
    (yieldHold s).pnp.power = s.pnp.power ∧ (yieldHold s).pnp.resp = s.pnp.resp ∧
    (yieldHold s).pnp.cfg = s.pnp.cfg ∧ (yieldHold s).pnp.store = s.pnp.store ∧
    (yieldHold s).pnp.load = s.pnp.load ∧ (yieldHold s).pnp.hoursWrite = s.pnp.hoursWrite ∧
    (yieldHold s).pnp.hoursWaiting = s.pnp.hoursWaiting ∧ (yieldHold s).pnp.memPresent = s.pnp.memPresent ∧
    (yieldHold s).pnp.idleSetting = s.pnp.idleSetting ∧ (yieldHold s).pnp.event = s.pnp.event ∧
    (yieldHold s).cdc.cfg = s.cdc.cfg := by
  (unfold yieldHold; (try dsimp only); (repeat' split) <;> simp_all)

@[simp] theorem endPulse_frame (s : State) :
    (endPulse s).pending = s.pending ∧ (endPulse s).pins = s.pins ∧ (endPulse s).psdo = s.psdo ∧
    (endPulse s).mem = s.mem ∧ (endPulse s).tru = s.tru ∧ (endPulse s).csq = s.csq ∧ (endPulse s).sar = s.sar ∧
    (endPulse s).lmc = s.lmc ∧ (endPulse s).rmi = s.rmi ∧ (endPulse s).lkc = s.lkc ∧
    (endPulse s).dkc.clock = s.dkc.clock ∧ (endPulse s).dkc.audio = s.dkc.audio ∧
    (endPulse s).dkc.cfg = s.dkc.cfg ∧ (endPulse s).crn.table = s.crn.table ∧
    (endPulse s).crn.progress = s.crn.progress ∧ (endPulse s).crn.current = s.crn.current ∧
    (endPulse s).shc.autoResume = s.shc.autoResume ∧ (endPulse s).pnp.power = s.pnp.power ∧
    (endPulse s).pnp.resp = s.pnp.resp ∧ (endPulse s).pnp.cfg = s.pnp.cfg ∧ (endPulse s).pnp.store = s.pnp.store ∧
    (endPulse s).pnp.load = s.pnp.load ∧ (endPulse s).pnp.hoursWrite = s.pnp.hoursWrite ∧
    (endPulse s).pnp.hoursWaiting = s.pnp.hoursWaiting ∧ (endPulse s).pnp.memPresent = s.pnp.memPresent ∧
    (endPulse s).pnp.idleSetting = s.pnp.idleSetting ∧ (endPulse s).pnp.event = s.pnp.event ∧
    (endPulse s).cdc.cfg = s.cdc.cfg := by
  (unfold endPulse; (try dsimp only); (repeat' split) <;> simp_all)

@[simp] theorem changeTone_frame (t : Tone) (s : State) :
    (changeTone t s).pending = s.pending ∧ (changeTone t s).pins = s.pins ∧ (changeTone t s).psdo = s.psdo ∧
    (changeTone t s).mem = s.mem ∧ (changeTone t s).tru = s.tru ∧ (changeTone t s).csq = s.csq ∧
    (changeTone t s).sar = s.sar ∧ (changeTone t s).lmc = s.lmc ∧ (changeTone t s).rmi = s.rmi ∧
    (changeTone t s).lkc = s.lkc ∧ (changeTone t s).dkc.clock = s.dkc.clock ∧
    (changeTone t s).dkc.audio = s.dkc.audio ∧ (changeTone t s).dkc.cfg = s.dkc.cfg ∧
    (changeTone t s).crn.table = s.crn.table ∧ (changeTone t s).crn.progress = s.crn.progress ∧
    (changeTone t s).crn.current = s.crn.current ∧ (changeTone t s).shc.autoResume = s.shc.autoResume ∧
    (changeTone t s).pnp.power = s.pnp.power ∧ (changeTone t s).pnp.resp = s.pnp.resp ∧
    (changeTone t s).pnp.cfg = s.pnp.cfg ∧ (changeTone t s).pnp.store = s.pnp.store ∧
    (changeTone t s).pnp.load = s.pnp.load ∧ (changeTone t s).pnp.hoursWrite = s.pnp.hoursWrite ∧
    (changeTone t s).pnp.hoursWaiting = s.pnp.hoursWaiting ∧ (changeTone t s).pnp.memPresent = s.pnp.memPresent ∧
    (changeTone t s).pnp.idleSetting = s.pnp.idleSetting ∧ (changeTone t s).pnp.event = s.pnp.event := by
  (unfold changeTone; (try dsimp only); (repeat' split) <;> simp_all)

@[simp] theorem takeJudgment_frame (j : Judgment) (s : State) :
    (takeJudgment j s).pending = s.pending ∧ (takeJudgment j s).pins = s.pins ∧ (takeJudgment j s).psdo = s.psdo ∧
    (takeJudgment j s).mem = s.mem ∧ (takeJudgment j s).tru = s.tru ∧ (takeJudgment j s).csq = s.csq ∧
    (takeJudgment j s).sar = s.sar ∧ (takeJudgment j s).lmc = s.lmc ∧ (takeJudgment j s).rmi = s.rmi ∧
    (takeJudgment j s).lkc = s.lkc ∧ (takeJudgment j s).dkc.clock = s.dkc.clock ∧
    (takeJudgment j s).dkc.audio = s.dkc.audio ∧ (takeJudgment j s).dkc.cfg = s.dkc.cfg ∧
    (takeJudgment j s).crn.table = s.crn.table ∧ (takeJudgment j s).crn.progress = s.crn.progress ∧
    (takeJudgment j s).crn.current = s.crn.current ∧ (takeJudgment j s).shc.autoResume = s.shc.autoResume ∧
    (takeJudgment j s).pnp.power = s.pnp.power ∧ (takeJudgment j s).pnp.resp = s.pnp.resp ∧
    (takeJudgment j s).pnp.cfg = s.pnp.cfg ∧ (takeJudgment j s).pnp.store = s.pnp.store ∧
    (takeJudgment j s).pnp.load = s.pnp.load ∧ (takeJudgment j s).pnp.hoursWrite = s.pnp.hoursWrite ∧
    (takeJudgment j s).pnp.hoursWaiting = s.pnp.hoursWaiting ∧
    (takeJudgment j s).pnp.memPresent = s.pnp.memPresent ∧ (takeJudgment j s).pnp.idleSetting = s.pnp.idleSetting ∧
    (takeJudgment j s).pnp.event = s.pnp.event := by
  (unfold takeJudgment; (try dsimp only); (repeat' split) <;> simp_all)

@[simp] theorem risingEdge_frame (us : Nat) (s : State) :
    (risingEdge us s).pending = s.pending ∧ (risingEdge us s).pins = s.pins ∧ (risingEdge us s).psdo = s.psdo ∧
    (risingEdge us s).mem = s.mem ∧ (risingEdge us s).tru = s.tru ∧ (risingEdge us s).csq = s.csq ∧
    (risingEdge us s).sar = s.sar ∧ (risingEdge us s).lmc = s.lmc ∧ (risingEdge us s).rmi = s.rmi ∧
    (risingEdge us s).lkc = s.lkc ∧ (risingEdge us s).dkc.clock = s.dkc.clock ∧
    (risingEdge us s).dkc.audio = s.dkc.audio ∧ (risingEdge us s).dkc.cfg = s.dkc.cfg ∧
    (risingEdge us s).crn.table = s.crn.table ∧ (risingEdge us s).crn.progress = s.crn.progress ∧
    (risingEdge us s).crn.current = s.crn.current ∧ (risingEdge us s).shc.autoResume = s.shc.autoResume ∧
    (risingEdge us s).pnp.power = s.pnp.power ∧ (risingEdge us s).pnp.resp = s.pnp.resp ∧
    (risingEdge us s).pnp.cfg = s.pnp.cfg ∧ (risingEdge us s).pnp.store = s.pnp.store ∧
    (risingEdge us s).pnp.load = s.pnp.load ∧ (risingEdge us s).pnp.hoursWrite = s.pnp.hoursWrite ∧
    (risingEdge us s).pnp.hoursWaiting = s.pnp.hoursWaiting ∧ (risingEdge us s).pnp.memPresent = s.pnp.memPresent ∧
    (risingEdge us s).pnp.idleSetting = s.pnp.idleSetting ∧ (risingEdge us s).pnp.event = s.pnp.event := by
  (unfold risingEdge; (try dsimp only); (repeat' split) <;> simp_all)

@[simp] theorem edgeWatch_frame (s : State) :
    (edgeWatch s).pending = s.pending ∧ (edgeWatch s).pins = s.pins ∧ (edgeWatch s).psdo = s.psdo ∧
    (edgeWatch s).mem = s.mem ∧ (edgeWatch s).tru = s.tru ∧ (edgeWatch s).csq = s.csq ∧ (edgeWatch s).sar = s.sar ∧
    (edgeWatch s).lmc = s.lmc ∧ (edgeWatch s).rmi = s.rmi ∧ (edgeWatch s).lkc = s.lkc ∧
    (edgeWatch s).dkc.clock = s.dkc.clock ∧ (edgeWatch s).dkc.audio = s.dkc.audio ∧
    (edgeWatch s).dkc.cfg = s.dkc.cfg ∧ (edgeWatch s).crn.table = s.crn.table ∧
    (edgeWatch s).crn.progress = s.crn.progress ∧ (edgeWatch s).crn.current = s.crn.current ∧
    (edgeWatch s).shc.autoResume = s.shc.autoResume ∧ (edgeWatch s).pnp.power = s.pnp.power ∧
    (edgeWatch s).pnp.resp = s.pnp.resp ∧ (edgeWatch s).pnp.cfg = s.pnp.cfg ∧
    (edgeWatch s).pnp.store = s.pnp.store ∧ (edgeWatch s).pnp.load = s.pnp.load ∧
    (edgeWatch s).pnp.hoursWrite = s.pnp.hoursWrite ∧ (edgeWatch s).pnp.hoursWaiting = s.pnp.hoursWaiting ∧
    (edgeWatch s).pnp.memPresent = s.pnp.memPresent ∧ (edgeWatch s).pnp.idleSetting = s.pnp.idleSetting ∧
    (edgeWatch s).pnp.event = s.pnp.event := by
  (unfold edgeWatch; (try dsimp only); (repeat' split) <;> simp_all)

@[simp] theorem holdCue_frame (s : State) :
    (holdCue s).pending = s.pending ∧ (holdCue s).pins = s.pins ∧ (holdCue s).psdo = s.psdo ∧
    (holdCue s).mem = s.mem ∧ (holdCue s).tru = s.tru ∧ (holdCue s).csq = s.csq ∧ (holdCue s).sar = s.sar ∧
    (holdCue s).lmc = s.lmc ∧ (holdCue s).crn = s.crn ∧ (holdCue s).rmi = s.rmi ∧ (holdCue s).lkc = s.lkc ∧
    (holdCue s).dkc.clock = s.dkc.clock ∧ (holdCue s).dkc.audio = s.dkc.audio ∧ (holdCue s).dkc.cfg = s.dkc.cfg ∧
    (holdCue s).shc.autoResume = s.shc.autoResume ∧ (holdCue s).pnp.power = s.pnp.power ∧
    (holdCue s).pnp.resp = s.pnp.resp ∧ (holdCue s).pnp.cfg = s.pnp.cfg ∧ (holdCue s).pnp.store = s.pnp.store ∧
    (holdCue s).pnp.load = s.pnp.load ∧ (holdCue s).pnp.hoursWrite = s.pnp.hoursWrite ∧
    (holdCue s).pnp.hoursWaiting = s.pnp.hoursWaiting ∧ (holdCue s).pnp.memPresent = s.pnp.memPresent ∧
    (holdCue s).pnp.idleSetting = s.pnp.idleSetting ∧ (holdCue s).pnp.event = s.pnp.event ∧
    (holdCue s).cdc.cfg = s.cdc.cfg := by
  (unfold holdCue; (try dsimp only); (repeat' split) <;> simp_all)

@[simp] theorem startCheckWord_frame (s : State) :
    (startCheckWord s).pending = s.pending ∧ (startCheckWord s).pins = s.pins ∧ (startCheckWord s).psdo = s.psdo ∧
    (startCheckWord s).mem = s.mem ∧ (startCheckWord s).tru = s.tru ∧ (startCheckWord s).csq = s.csq ∧
    (startCheckWord s).sar = s.sar ∧ (startCheckWord s).lmc = s.lmc ∧ (startCheckWord s).dkc = s.dkc ∧
    (startCheckWord s).crn = s.crn ∧ (startCheckWord s).shc = s.shc ∧ (startCheckWord s).rmi = s.rmi ∧
    (startCheckWord s).lkc = s.lkc ∧ (startCheckWord s).pnp = s.pnp ∧ (startCheckWord s).cdc.cfg = s.cdc.cfg := by
  (unfold startCheckWord; (try dsimp only); (repeat' split) <;> simp_all)

@[simp] theorem discardWord_frame (f : CdcFlags → CdcFlags) (s : State) :
    (discardWord f s).pending = s.pending ∧ (discardWord f s).pins = s.pins ∧ (discardWord f s).psdo = s.psdo ∧
    (discardWord f s).mem = s.mem ∧ (discardWord f s).tru = s.tru ∧ (discardWord f s).csq = s.csq ∧
    (discardWord f s).sar = s.sar ∧ (discardWord f s).lmc = s.lmc ∧ (discardWord f s).dkc = s.dkc ∧
    (discardWord f s).crn = s.crn ∧ (discardWord f s).shc = s.shc ∧ (discardWord f s).rmi = s.rmi ∧
    (discardWord f s).lkc = s.lkc ∧ (discardWord f s).pnp = s.pnp ∧ (discardWord f s).cdc.cfg = s.cdc.cfg := by
  (unfold discardWord; (try dsimp only); (repeat' split) <;> simp_all)

@[simp] theorem completeWord_frame (s : State) :
    (completeWord s).pending = s.pending ∧ (completeWord s).pins = s.pins ∧ (completeWord s).psdo = s.psdo ∧
    (completeWord s).mem = s.mem ∧ (completeWord s).tru = s.tru ∧ (completeWord s).csq = s.csq ∧
    (completeWord s).sar = s.sar ∧ (completeWord s).lmc = s.lmc ∧ (completeWord s).dkc = s.dkc ∧
    (completeWord s).shc = s.shc ∧ (completeWord s).rmi = s.rmi ∧ (completeWord s).lkc = s.lkc ∧
    (completeWord s).pnp = s.pnp ∧ (completeWord s).crn.table = s.crn.table ∧
    (completeWord s).crn.progress = s.crn.progress ∧ (completeWord s).crn.current = s.crn.current ∧
    (completeWord s).cdc.cfg = s.cdc.cfg := by
  (unfold completeWord; (try dsimp only); (repeat' split) <;> simp_all)

@[simp] theorem sampleWord_frame (s : State) :
    (sampleWord s).pending = s.pending ∧ (sampleWord s).pins = s.pins ∧ (sampleWord s).psdo = s.psdo ∧
    (sampleWord s).mem = s.mem ∧ (sampleWord s).tru = s.tru ∧ (sampleWord s).csq = s.csq ∧
    (sampleWord s).sar = s.sar ∧ (sampleWord s).lmc = s.lmc ∧ (sampleWord s).dkc = s.dkc ∧
    (sampleWord s).shc = s.shc ∧ (sampleWord s).rmi = s.rmi ∧ (sampleWord s).lkc = s.lkc ∧
    (sampleWord s).pnp = s.pnp ∧ (sampleWord s).crn.table = s.crn.table ∧
    (sampleWord s).crn.progress = s.crn.progress ∧ (sampleWord s).crn.current = s.crn.current := by
  (unfold sampleWord; (try dsimp only); (repeat' split) <;> simp_all)

@[simp] theorem applyDecoder_frame (v : DecoderSettings) (s : State) :
    (applyDecoder v s).pending = s.pending ∧ (applyDecoder v s).pins = s.pins ∧ (applyDecoder v s).psdo = s.psdo ∧
    (applyDecoder v s).mem = s.mem ∧ (applyDecoder v s).tru = s.tru ∧ (applyDecoder v s).csq = s.csq ∧
    (applyDecoder v s).sar = s.sar ∧ (applyDecoder v s).lmc = s.lmc ∧ (applyDecoder v s).dkc = s.dkc ∧
    (applyDecoder v s).shc = s.shc ∧ (applyDecoder v s).rmi = s.rmi ∧ (applyDecoder v s).lkc = s.lkc ∧
    (applyDecoder v s).pnp = s.pnp ∧ (applyDecoder v s).crn.table = s.crn.table ∧
    (applyDecoder v s).crn.progress = s.crn.progress ∧ (applyDecoder v s).crn.current = s.crn.current := by
  (unfold applyDecoder; (try dsimp only); (repeat' split) <;> simp_all)

@[simp] theorem awaitAnswer_frame (n : Nat) (a : Except Status Taken) (s : State) :
    (awaitAnswer n s a).pending = s.pending ∧ (awaitAnswer n s a).pins = s.pins ∧
    (awaitAnswer n s a).psdo = s.psdo ∧ (awaitAnswer n s a).mem = s.mem ∧ (awaitAnswer n s a).tru = s.tru ∧
    (awaitAnswer n s a).csq = s.csq ∧ (awaitAnswer n s a).sar = s.sar ∧ (awaitAnswer n s a).lmc = s.lmc ∧
    (awaitAnswer n s a).dkc = s.dkc ∧ (awaitAnswer n s a).cdc = s.cdc ∧ (awaitAnswer n s a).shc = s.shc ∧
    (awaitAnswer n s a).rmi = s.rmi ∧ (awaitAnswer n s a).lkc = s.lkc ∧ (awaitAnswer n s a).pnp = s.pnp ∧
    (awaitAnswer n s a).crn.table = s.crn.table ∧ (awaitAnswer n s a).crn.queue = s.crn.queue ∧
    (awaitAnswer n s a).crn.current = s.crn.current := by
  (unfold awaitAnswer; (try dsimp only); (repeat' split) <;> simp_all)

@[simp] theorem runnerRequest_frame (n : Nat) (k : ChangeKind) (a : Nat) (f : Byte) (s : State) :
    (runnerRequest n k a f s).pending = s.pending ∧ (runnerRequest n k a f s).pins = s.pins ∧
    (runnerRequest n k a f s).psdo = s.psdo ∧ (runnerRequest n k a f s).mem = s.mem ∧
    (runnerRequest n k a f s).tru = s.tru ∧ (runnerRequest n k a f s).cdc = s.cdc ∧
    (runnerRequest n k a f s).rmi = s.rmi ∧ (runnerRequest n k a f s).csq.gate = s.csq.gate ∧
    (runnerRequest n k a f s).csq.origin = s.csq.origin ∧ (runnerRequest n k a f s).csq.cfg = s.csq.cfg ∧
    (runnerRequest n k a f s).sar.sources = s.sar.sources ∧ (runnerRequest n k a f s).sar.cfg = s.sar.cfg ∧
    (runnerRequest n k a f s).lmc.hours = s.lmc.hours ∧ (runnerRequest n k a f s).lmc.cfg = s.lmc.cfg ∧
    (runnerRequest n k a f s).lmc.temp = s.lmc.temp ∧ (runnerRequest n k a f s).lmc.trip = s.lmc.trip ∧
    (runnerRequest n k a f s).dkc.clock = s.dkc.clock ∧ (runnerRequest n k a f s).dkc.audio = s.dkc.audio ∧
    (runnerRequest n k a f s).dkc.cfg = s.dkc.cfg ∧ (runnerRequest n k a f s).crn.table = s.crn.table ∧
    (runnerRequest n k a f s).crn.queue = s.crn.queue ∧ (runnerRequest n k a f s).crn.current = s.crn.current ∧
    (runnerRequest n k a f s).shc.autoResume = s.shc.autoResume ∧
    (runnerRequest n k a f s).lkc.rxbuf = s.lkc.rxbuf ∧ (runnerRequest n k a f s).lkc.node = s.lkc.node ∧
    (runnerRequest n k a f s).lkc.lock = s.lkc.lock ∧ (runnerRequest n k a f s).lkc.enable = s.lkc.enable ∧
    (runnerRequest n k a f s).lkc.cfg = s.lkc.cfg ∧ (runnerRequest n k a f s).pnp.power = s.pnp.power ∧
    (runnerRequest n k a f s).pnp.resp = s.pnp.resp ∧ (runnerRequest n k a f s).pnp.cfg = s.pnp.cfg ∧
    (runnerRequest n k a f s).pnp.store = s.pnp.store ∧ (runnerRequest n k a f s).pnp.load = s.pnp.load ∧
    (runnerRequest n k a f s).pnp.hoursWrite = s.pnp.hoursWrite ∧
    (runnerRequest n k a f s).pnp.hoursWaiting = s.pnp.hoursWaiting ∧
    (runnerRequest n k a f s).pnp.memPresent = s.pnp.memPresent ∧
    (runnerRequest n k a f s).pnp.idleSetting = s.pnp.idleSetting ∧
    (runnerRequest n k a f s).pnp.event = s.pnp.event := by
  (unfold runnerRequest; (try dsimp only); (repeat' split) <;> simp_all)

@[simp] theorem stepLevel_frame (n : Nat) (r : StepRec) (s : State) :
    (stepLevel n r s).pending = s.pending ∧ (stepLevel n r s).pins = s.pins ∧ (stepLevel n r s).psdo = s.psdo ∧
    (stepLevel n r s).mem = s.mem ∧ (stepLevel n r s).tru = s.tru ∧ (stepLevel n r s).dkc = s.dkc ∧
    (stepLevel n r s).cdc = s.cdc ∧ (stepLevel n r s).shc = s.shc ∧ (stepLevel n r s).rmi = s.rmi ∧
    (stepLevel n r s).lkc = s.lkc ∧ (stepLevel n r s).sar.sources = s.sar.sources ∧
    (stepLevel n r s).sar.cfg = s.sar.cfg ∧ (stepLevel n r s).pnp.power = s.pnp.power ∧
    (stepLevel n r s).pnp.resp = s.pnp.resp ∧ (stepLevel n r s).pnp.cfg = s.pnp.cfg ∧
    (stepLevel n r s).pnp.store = s.pnp.store ∧ (stepLevel n r s).pnp.load = s.pnp.load ∧
    (stepLevel n r s).pnp.hoursWrite = s.pnp.hoursWrite ∧ (stepLevel n r s).pnp.hoursWaiting = s.pnp.hoursWaiting ∧
    (stepLevel n r s).pnp.memPresent = s.pnp.memPresent ∧ (stepLevel n r s).pnp.idleSetting = s.pnp.idleSetting ∧
    (stepLevel n r s).pnp.event = s.pnp.event := by
  (unfold stepLevel; (try dsimp only); (repeat' split) <;> simp_all)

@[simp] theorem stepAudio_frame (r : StepRec) (s : State) :
    (stepAudio r s).pending = s.pending ∧ (stepAudio r s).pins = s.pins ∧ (stepAudio r s).psdo = s.psdo ∧
    (stepAudio r s).mem = s.mem ∧ (stepAudio r s).tru = s.tru ∧ (stepAudio r s).csq = s.csq ∧
    (stepAudio r s).sar = s.sar ∧ (stepAudio r s).lmc = s.lmc ∧ (stepAudio r s).cdc = s.cdc ∧
    (stepAudio r s).crn = s.crn ∧ (stepAudio r s).shc = s.shc ∧ (stepAudio r s).rmi = s.rmi ∧
    (stepAudio r s).lkc = s.lkc ∧ (stepAudio r s).pnp = s.pnp ∧ (stepAudio r s).dkc.deck = s.dkc.deck ∧
    (stepAudio r s).dkc.clock = s.dkc.clock ∧ (stepAudio r s).dkc.cfg = s.dkc.cfg := by
  (unfold stepAudio; (try dsimp only); (repeat' split) <;> simp_all)

@[simp] theorem stepLink_frame (r : StepRec) (s : State) :
    (stepLink r s).pending = s.pending ∧ (stepLink r s).pins = s.pins ∧ (stepLink r s).psdo = s.psdo ∧
    (stepLink r s).mem = s.mem ∧ (stepLink r s).tru = s.tru ∧ (stepLink r s).csq = s.csq ∧
    (stepLink r s).sar = s.sar ∧ (stepLink r s).lmc = s.lmc ∧ (stepLink r s).dkc = s.dkc ∧
    (stepLink r s).cdc = s.cdc ∧ (stepLink r s).crn = s.crn ∧ (stepLink r s).shc = s.shc ∧
    (stepLink r s).rmi = s.rmi ∧ (stepLink r s).pnp = s.pnp ∧ (stepLink r s).lkc.rxbuf = s.lkc.rxbuf ∧
    (stepLink r s).lkc.node = s.lkc.node ∧ (stepLink r s).lkc.lock = s.lkc.lock ∧
    (stepLink r s).lkc.enable = s.lkc.enable ∧ (stepLink r s).lkc.cfg = s.lkc.cfg := by
  (unfold stepLink; (try dsimp only); (repeat' split) <;> simp_all)

@[simp] theorem stepDeck_frame (n : Nat) (r : StepRec) (s : State) :
    (stepDeck n r s).pending = s.pending ∧ (stepDeck n r s).pins = s.pins ∧ (stepDeck n r s).psdo = s.psdo ∧
    (stepDeck n r s).mem = s.mem ∧ (stepDeck n r s).tru = s.tru ∧ (stepDeck n r s).csq = s.csq ∧
    (stepDeck n r s).sar = s.sar ∧ (stepDeck n r s).lmc = s.lmc ∧ (stepDeck n r s).cdc = s.cdc ∧
    (stepDeck n r s).rmi = s.rmi ∧ (stepDeck n r s).lkc = s.lkc ∧ (stepDeck n r s).dkc.clock = s.dkc.clock ∧
    (stepDeck n r s).dkc.audio = s.dkc.audio ∧ (stepDeck n r s).dkc.cfg = s.dkc.cfg ∧
    (stepDeck n r s).crn.table = s.crn.table ∧ (stepDeck n r s).crn.queue = s.crn.queue ∧
    (stepDeck n r s).crn.progress = s.crn.progress ∧ (stepDeck n r s).crn.current = s.crn.current ∧
    (stepDeck n r s).shc.autoResume = s.shc.autoResume ∧ (stepDeck n r s).pnp.power = s.pnp.power ∧
    (stepDeck n r s).pnp.resp = s.pnp.resp ∧ (stepDeck n r s).pnp.cfg = s.pnp.cfg ∧
    (stepDeck n r s).pnp.store = s.pnp.store ∧ (stepDeck n r s).pnp.load = s.pnp.load ∧
    (stepDeck n r s).pnp.hoursWrite = s.pnp.hoursWrite ∧ (stepDeck n r s).pnp.hoursWaiting = s.pnp.hoursWaiting ∧
    (stepDeck n r s).pnp.memPresent = s.pnp.memPresent ∧ (stepDeck n r s).pnp.idleSetting = s.pnp.idleSetting ∧
    (stepDeck n r s).pnp.event = s.pnp.event := by
  (unfold stepDeck; (try dsimp only); (repeat' split) <;> simp_all)

@[simp] theorem stepTransport_frame (n : Nat) (r : StepRec) (s : State) :
    (stepTransport n r s).pending = s.pending ∧ (stepTransport n r s).pins = s.pins ∧
    (stepTransport n r s).psdo = s.psdo ∧ (stepTransport n r s).mem = s.mem ∧ (stepTransport n r s).tru = s.tru ∧
    (stepTransport n r s).cdc = s.cdc ∧ (stepTransport n r s).rmi = s.rmi ∧
    (stepTransport n r s).csq.gate = s.csq.gate ∧ (stepTransport n r s).csq.origin = s.csq.origin ∧
    (stepTransport n r s).csq.cfg = s.csq.cfg ∧ (stepTransport n r s).sar.sources = s.sar.sources ∧
    (stepTransport n r s).sar.cfg = s.sar.cfg ∧ (stepTransport n r s).lmc.hours = s.lmc.hours ∧
    (stepTransport n r s).lmc.cfg = s.lmc.cfg ∧ (stepTransport n r s).lmc.temp = s.lmc.temp ∧
    (stepTransport n r s).lmc.trip = s.lmc.trip ∧ (stepTransport n r s).dkc.clock = s.dkc.clock ∧
    (stepTransport n r s).dkc.audio = s.dkc.audio ∧ (stepTransport n r s).dkc.cfg = s.dkc.cfg ∧
    (stepTransport n r s).crn.table = s.crn.table ∧ (stepTransport n r s).crn.queue = s.crn.queue ∧
    (stepTransport n r s).crn.current = s.crn.current ∧ (stepTransport n r s).shc.autoResume = s.shc.autoResume ∧
    (stepTransport n r s).lkc.rxbuf = s.lkc.rxbuf ∧ (stepTransport n r s).lkc.node = s.lkc.node ∧
    (stepTransport n r s).lkc.lock = s.lkc.lock ∧ (stepTransport n r s).lkc.enable = s.lkc.enable ∧
    (stepTransport n r s).lkc.cfg = s.lkc.cfg ∧ (stepTransport n r s).pnp.power = s.pnp.power ∧
    (stepTransport n r s).pnp.resp = s.pnp.resp ∧ (stepTransport n r s).pnp.cfg = s.pnp.cfg ∧
    (stepTransport n r s).pnp.store = s.pnp.store ∧ (stepTransport n r s).pnp.load = s.pnp.load ∧
    (stepTransport n r s).pnp.hoursWrite = s.pnp.hoursWrite ∧
    (stepTransport n r s).pnp.hoursWaiting = s.pnp.hoursWaiting ∧
    (stepTransport n r s).pnp.memPresent = s.pnp.memPresent ∧
    (stepTransport n r s).pnp.idleSetting = s.pnp.idleSetting ∧ (stepTransport n r s).pnp.event = s.pnp.event := by
  (unfold stepTransport; (try dsimp only); (repeat' split) <;> simp_all)

@[simp] theorem startStep_frame (n : Nat) (r : StepRec) (s : State) :
    (startStep n r s).pending = s.pending ∧ (startStep n r s).pins = s.pins ∧ (startStep n r s).psdo = s.psdo ∧
    (startStep n r s).mem = s.mem ∧ (startStep n r s).tru = s.tru ∧ (startStep n r s).cdc = s.cdc ∧
    (startStep n r s).rmi = s.rmi ∧ (startStep n r s).sar.sources = s.sar.sources ∧
    (startStep n r s).sar.cfg = s.sar.cfg ∧ (startStep n r s).dkc.clock = s.dkc.clock ∧
    (startStep n r s).dkc.cfg = s.dkc.cfg ∧ (startStep n r s).shc.autoResume = s.shc.autoResume ∧
    (startStep n r s).lkc.rxbuf = s.lkc.rxbuf ∧ (startStep n r s).lkc.node = s.lkc.node ∧
    (startStep n r s).lkc.lock = s.lkc.lock ∧ (startStep n r s).lkc.enable = s.lkc.enable ∧
    (startStep n r s).lkc.cfg = s.lkc.cfg ∧ (startStep n r s).pnp.power = s.pnp.power ∧
    (startStep n r s).pnp.resp = s.pnp.resp ∧ (startStep n r s).pnp.cfg = s.pnp.cfg ∧
    (startStep n r s).pnp.store = s.pnp.store ∧ (startStep n r s).pnp.load = s.pnp.load ∧
    (startStep n r s).pnp.hoursWrite = s.pnp.hoursWrite ∧ (startStep n r s).pnp.hoursWaiting = s.pnp.hoursWaiting ∧
    (startStep n r s).pnp.memPresent = s.pnp.memPresent ∧ (startStep n r s).pnp.idleSetting = s.pnp.idleSetting ∧
    (startStep n r s).pnp.event = s.pnp.event := by
  (unfold startStep; (try dsimp only); (repeat' split) <;> simp_all)

@[simp] theorem takeProgram_frame (k : CueKind) (s : State) :
    (takeProgram k s).pending = s.pending ∧ (takeProgram k s).pins = s.pins ∧ (takeProgram k s).psdo = s.psdo ∧
    (takeProgram k s).mem = s.mem ∧ (takeProgram k s).tru = s.tru ∧ (takeProgram k s).cdc = s.cdc ∧
    (takeProgram k s).rmi = s.rmi ∧ (takeProgram k s).sar.sources = s.sar.sources ∧
    (takeProgram k s).sar.cfg = s.sar.cfg ∧ (takeProgram k s).dkc.clock = s.dkc.clock ∧
    (takeProgram k s).dkc.cfg = s.dkc.cfg ∧ (takeProgram k s).shc.autoResume = s.shc.autoResume ∧
    (takeProgram k s).lkc.rxbuf = s.lkc.rxbuf ∧ (takeProgram k s).lkc.node = s.lkc.node ∧
    (takeProgram k s).lkc.lock = s.lkc.lock ∧ (takeProgram k s).lkc.enable = s.lkc.enable ∧
    (takeProgram k s).lkc.cfg = s.lkc.cfg ∧ (takeProgram k s).pnp.power = s.pnp.power ∧
    (takeProgram k s).pnp.resp = s.pnp.resp ∧ (takeProgram k s).pnp.cfg = s.pnp.cfg ∧
    (takeProgram k s).pnp.store = s.pnp.store ∧ (takeProgram k s).pnp.load = s.pnp.load ∧
    (takeProgram k s).pnp.hoursWrite = s.pnp.hoursWrite ∧ (takeProgram k s).pnp.hoursWaiting = s.pnp.hoursWaiting ∧
    (takeProgram k s).pnp.memPresent = s.pnp.memPresent ∧ (takeProgram k s).pnp.idleSetting = s.pnp.idleSetting ∧
    (takeProgram k s).pnp.event = s.pnp.event := by
  (unfold takeProgram; (try dsimp only); (repeat' split) <;> simp_all)

@[simp] theorem directRequest_frame (n : Nat) (k : ChangeKind) (a : Nat) (s : State) :
    (directRequest n k a s).pending = s.pending ∧ (directRequest n k a s).pins = s.pins ∧
    (directRequest n k a s).psdo = s.psdo ∧ (directRequest n k a s).mem = s.mem ∧
    (directRequest n k a s).tru = s.tru ∧ (directRequest n k a s).cdc = s.cdc ∧
    (directRequest n k a s).rmi = s.rmi ∧ (directRequest n k a s).csq.gate = s.csq.gate ∧
    (directRequest n k a s).csq.origin = s.csq.origin ∧ (directRequest n k a s).csq.cfg = s.csq.cfg ∧
    (directRequest n k a s).sar.sources = s.sar.sources ∧ (directRequest n k a s).sar.cfg = s.sar.cfg ∧
    (directRequest n k a s).lmc.hours = s.lmc.hours ∧ (directRequest n k a s).lmc.cfg = s.lmc.cfg ∧
    (directRequest n k a s).lmc.temp = s.lmc.temp ∧ (directRequest n k a s).lmc.trip = s.lmc.trip ∧
    (directRequest n k a s).dkc.clock = s.dkc.clock ∧ (directRequest n k a s).dkc.audio = s.dkc.audio ∧
    (directRequest n k a s).dkc.cfg = s.dkc.cfg ∧ (directRequest n k a s).crn.table = s.crn.table ∧
    (directRequest n k a s).crn.queue = s.crn.queue ∧ (directRequest n k a s).crn.current = s.crn.current ∧
    (directRequest n k a s).shc.autoResume = s.shc.autoResume ∧ (directRequest n k a s).lkc.rxbuf = s.lkc.rxbuf ∧
    (directRequest n k a s).lkc.node = s.lkc.node ∧ (directRequest n k a s).lkc.lock = s.lkc.lock ∧
    (directRequest n k a s).lkc.enable = s.lkc.enable ∧ (directRequest n k a s).lkc.cfg = s.lkc.cfg ∧
    (directRequest n k a s).pnp.power = s.pnp.power ∧ (directRequest n k a s).pnp.resp = s.pnp.resp ∧
    (directRequest n k a s).pnp.cfg = s.pnp.cfg ∧ (directRequest n k a s).pnp.store = s.pnp.store ∧
    (directRequest n k a s).pnp.load = s.pnp.load ∧ (directRequest n k a s).pnp.hoursWrite = s.pnp.hoursWrite ∧
    (directRequest n k a s).pnp.hoursWaiting = s.pnp.hoursWaiting ∧
    (directRequest n k a s).pnp.memPresent = s.pnp.memPresent ∧
    (directRequest n k a s).pnp.idleSetting = s.pnp.idleSetting ∧
    (directRequest n k a s).pnp.event = s.pnp.event := by
  (unfold directRequest; (try dsimp only); (repeat' split) <;> simp_all)

@[simp] theorem takeDirect_frame (k : CueKind) (s : State) :
    (takeDirect k s).pending = s.pending ∧ (takeDirect k s).pins = s.pins ∧ (takeDirect k s).psdo = s.psdo ∧
    (takeDirect k s).mem = s.mem ∧ (takeDirect k s).tru = s.tru ∧ (takeDirect k s).cdc = s.cdc ∧
    (takeDirect k s).rmi = s.rmi ∧ (takeDirect k s).csq.gate = s.csq.gate ∧
    (takeDirect k s).csq.origin = s.csq.origin ∧ (takeDirect k s).csq.cfg = s.csq.cfg ∧
    (takeDirect k s).sar.sources = s.sar.sources ∧ (takeDirect k s).sar.cfg = s.sar.cfg ∧
    (takeDirect k s).lmc.hours = s.lmc.hours ∧ (takeDirect k s).lmc.cfg = s.lmc.cfg ∧
    (takeDirect k s).lmc.temp = s.lmc.temp ∧ (takeDirect k s).lmc.trip = s.lmc.trip ∧
    (takeDirect k s).dkc.clock = s.dkc.clock ∧ (takeDirect k s).dkc.audio = s.dkc.audio ∧
    (takeDirect k s).dkc.cfg = s.dkc.cfg ∧ (takeDirect k s).crn.table = s.crn.table ∧
    (takeDirect k s).crn.queue = s.crn.queue ∧ (takeDirect k s).crn.current = s.crn.current ∧
    (takeDirect k s).shc.autoResume = s.shc.autoResume ∧ (takeDirect k s).lkc.rxbuf = s.lkc.rxbuf ∧
    (takeDirect k s).lkc.node = s.lkc.node ∧ (takeDirect k s).lkc.lock = s.lkc.lock ∧
    (takeDirect k s).lkc.enable = s.lkc.enable ∧ (takeDirect k s).lkc.cfg = s.lkc.cfg ∧
    (takeDirect k s).pnp.power = s.pnp.power ∧ (takeDirect k s).pnp.resp = s.pnp.resp ∧
    (takeDirect k s).pnp.cfg = s.pnp.cfg ∧ (takeDirect k s).pnp.store = s.pnp.store ∧
    (takeDirect k s).pnp.load = s.pnp.load ∧ (takeDirect k s).pnp.hoursWrite = s.pnp.hoursWrite ∧
    (takeDirect k s).pnp.hoursWaiting = s.pnp.hoursWaiting ∧ (takeDirect k s).pnp.memPresent = s.pnp.memPresent ∧
    (takeDirect k s).pnp.idleSetting = s.pnp.idleSetting ∧ (takeDirect k s).pnp.event = s.pnp.event := by
  (unfold takeDirect; (try dsimp only); (repeat' split) <;> simp_all)

@[simp] theorem takeCue_frame (s : State) :
    (takeCue s).pending = s.pending ∧ (takeCue s).pins = s.pins ∧ (takeCue s).psdo = s.psdo ∧
    (takeCue s).mem = s.mem ∧ (takeCue s).tru = s.tru ∧ (takeCue s).cdc = s.cdc ∧ (takeCue s).rmi = s.rmi ∧
    (takeCue s).sar.sources = s.sar.sources ∧ (takeCue s).sar.cfg = s.sar.cfg ∧
    (takeCue s).dkc.clock = s.dkc.clock ∧ (takeCue s).dkc.cfg = s.dkc.cfg ∧
    (takeCue s).shc.autoResume = s.shc.autoResume ∧ (takeCue s).lkc.rxbuf = s.lkc.rxbuf ∧
    (takeCue s).lkc.node = s.lkc.node ∧ (takeCue s).lkc.lock = s.lkc.lock ∧ (takeCue s).lkc.enable = s.lkc.enable ∧
    (takeCue s).lkc.cfg = s.lkc.cfg ∧ (takeCue s).pnp.power = s.pnp.power ∧ (takeCue s).pnp.resp = s.pnp.resp ∧
    (takeCue s).pnp.cfg = s.pnp.cfg ∧ (takeCue s).pnp.store = s.pnp.store ∧ (takeCue s).pnp.load = s.pnp.load ∧
    (takeCue s).pnp.hoursWrite = s.pnp.hoursWrite ∧ (takeCue s).pnp.hoursWaiting = s.pnp.hoursWaiting ∧
    (takeCue s).pnp.memPresent = s.pnp.memPresent ∧ (takeCue s).pnp.idleSetting = s.pnp.idleSetting ∧
    (takeCue s).pnp.event = s.pnp.event := by
  (unfold takeCue; (try dsimp only); (repeat' split) <;> simp_all)

@[simp] theorem applyAutoResume_frame (v : Bool) (s : State) :
    (applyAutoResume v s).pending = s.pending ∧ (applyAutoResume v s).pins = s.pins ∧
    (applyAutoResume v s).psdo = s.psdo ∧ (applyAutoResume v s).mem = s.mem ∧ (applyAutoResume v s).tru = s.tru ∧
    (applyAutoResume v s).csq = s.csq ∧ (applyAutoResume v s).sar = s.sar ∧ (applyAutoResume v s).lmc = s.lmc ∧
    (applyAutoResume v s).cdc = s.cdc ∧ (applyAutoResume v s).rmi = s.rmi ∧ (applyAutoResume v s).lkc = s.lkc ∧
    (applyAutoResume v s).dkc.clock = s.dkc.clock ∧ (applyAutoResume v s).dkc.audio = s.dkc.audio ∧
    (applyAutoResume v s).dkc.cfg = s.dkc.cfg ∧ (applyAutoResume v s).crn.table = s.crn.table ∧
    (applyAutoResume v s).crn.queue = s.crn.queue ∧ (applyAutoResume v s).crn.progress = s.crn.progress ∧
    (applyAutoResume v s).crn.current = s.crn.current ∧ (applyAutoResume v s).pnp.power = s.pnp.power ∧
    (applyAutoResume v s).pnp.resp = s.pnp.resp ∧ (applyAutoResume v s).pnp.cfg = s.pnp.cfg ∧
    (applyAutoResume v s).pnp.store = s.pnp.store ∧ (applyAutoResume v s).pnp.load = s.pnp.load ∧
    (applyAutoResume v s).pnp.hoursWrite = s.pnp.hoursWrite ∧
    (applyAutoResume v s).pnp.hoursWaiting = s.pnp.hoursWaiting ∧
    (applyAutoResume v s).pnp.memPresent = s.pnp.memPresent ∧
    (applyAutoResume v s).pnp.idleSetting = s.pnp.idleSetting ∧ (applyAutoResume v s).pnp.event = s.pnp.event := by
  (unfold applyAutoResume; (try dsimp only); (repeat' split) <;> simp_all)

end Sys2Proof.Machine
end

