-- ==== Sys2Proof/Laws/Memory.lean ====
section
/-! SUPPORT. Laws of the settings memory: every operation keeps the canonical form, a read gives what was
written, and what a STORE leaves. -/

namespace Sys2Proof.Machine

@[simp] theorem Memory.read_nil (x : Nat) : Memory.read [] x = Config.erasedByte := rfl

/-- In canonical form no address below the first one is listed. -/
theorem Memory.read_below {m : Memory} {x : Nat} (h : ∀ c ∈ m, x < c.1) : m.read x = Config.erasedByte := by
  induction m with
  | nil => rfl
  | cons c m ih =>
    obtain ⟨a, v⟩ := c
    have ha := h (a, v) (by simp)
    simp only [Memory.read]
    rw [if_neg (by simp at ha; omega)]
    exact ih (fun c hc => h c (by simp [hc]))

/-- A write lists no address but the written one and those that were listed. -/
theorem Memory.mem_write {m : Memory} {x : Nat} {v : Byte} {c : Host.Cell} (h : c ∈ m.write x v) :
    (c.1 = x ∧ c.2 ≠ Config.erasedByte) ∨ c ∈ m := by
  induction m with
  | nil =>
    simp only [Memory.write] at h
    split at h <;> simp_all
  | cons d m ih =>
    obtain ⟨a, w⟩ := d
    simp only [Memory.write] at h
    grind

/-- A write keeps the canonical form. -/
theorem Memory.write_wf {m : Memory} (x : Nat) (v : Byte) (h : m.wf) : (m.write x v).wf := by
  induction m with
  | nil => simp only [Memory.write]; split <;> simp_all [Memory.wf]
  | cons d m ih =>
    obtain ⟨a, w⟩ := d
    have hm : Memory.wf m := ⟨(List.pairwise_cons.1 h.1).2, fun c hc => h.2 c (by simp [hc])⟩
    have ha : ∀ c ∈ m, a < c.1 := (List.pairwise_cons.1 h.1).1
    have hw : w ≠ Config.erasedByte := h.2 (a, w) (by simp)
    simp only [Memory.write]
    split
    · split
      · exact h
      · refine ⟨List.pairwise_cons.2 ⟨?_, h.1⟩, ?_⟩ <;> intro c hc
        · rcases List.mem_cons.1 hc with rfl | hc
          · assumption
          · have := ha c hc; simp only; omega
        · rcases List.mem_cons.1 hc with rfl | hc
          · assumption
          · exact h.2 c hc
    · split
      · split
        · exact hm
        · refine ⟨List.pairwise_cons.2 ⟨?_, hm.1⟩, ?_⟩ <;> intro c hc
          · have := ha c hc; simp only; omega
          · rcases List.mem_cons.1 hc with rfl | hc
            · assumption
            · exact hm.2 c hc
      · have hi := ih hm
        refine ⟨List.pairwise_cons.2 ⟨?_, hi.1⟩, ?_⟩ <;> intro c hc
        · rcases Memory.mem_write hc with ⟨h1, _⟩ | hc
          · simp only; omega
          · exact ha c hc
        · rcases List.mem_cons.1 hc with rfl | hc
          · exact hw
          · exact hi.2 c hc

theorem Memory.writes_wf {m : Memory} (ws : List (Nat × Byte)) (h : m.wf) : (m.writes ws).wf := by
  induction ws generalizing m with
  | nil => exact h
  | cons w ws ih => exact ih (Memory.write_wf w.1 w.2 h)

/-- Every byte after a write: the written one at its address, the others as before. -/
theorem Memory.read_write {m : Memory} (h : m.wf) (x y : Nat) (v : Byte) :
    (m.write x v).read y = if y = x then v else m.read y := by
  induction m with
  | nil => simp only [Memory.write]; split <;> grind [Memory.read]
  | cons d m ih =>
    obtain ⟨a, w⟩ := d
    have hm : Memory.wf m := ⟨(List.pairwise_cons.1 h.1).2, fun c hc => h.2 c (by simp [hc])⟩
    have ha : ∀ c ∈ m, a < c.1 := (List.pairwise_cons.1 h.1).1
    have hb : Memory.read m a = Config.erasedByte := Memory.read_below ha
    have hx : x < a → Memory.read m x = Config.erasedByte := fun hl =>
      Memory.read_below (fun c hc => Nat.lt_trans hl (ha c hc))
    have hi := ih hm
    simp only [Memory.write]
    grind [Memory.read]

/-- Bytes that no write of a list names read as before. -/
theorem Memory.read_writes_of_ne {m : Memory} (h : m.wf) (y : Nat) (ws : List (Nat × Byte))
    (hy : ∀ w ∈ ws, w.1 ≠ y) : (m.writes ws).read y = m.read y := by
  induction ws generalizing m with
  | nil => rfl
  | cons w ws ih =>
    have h1 := hy w (by simp)
    rw [Memory.writes, ih (Memory.write_wf _ _ h) (fun u hu => hy u (by simp [hu])), Memory.read_write h,
      if_neg (fun e => h1 e.symm)]

theorem Memory.reset_wf : Memory.wf State.reset.mem := by decide

@[simp] theorem Memory.readFrom_length (m : Memory) (a n : Nat) : (m.readFrom a n).length = n := by
  induction n generalizing a with
  | zero => rfl
  | succ n ih => simp [Memory.readFrom, ih]

/-- A read of two runs of bytes is the one beside the other. -/
theorem Memory.readFrom_add (m : Memory) (a n k : Nat) :
    m.readFrom a (n + k) = m.readFrom a n ++ m.readFrom (a + n) k := by
  induction n generalizing a with
  | zero => simp [Memory.readFrom]
  | succ n ih =>
    rw [show n + 1 + k = (n + k) + 1 by omega, Memory.readFrom, Memory.readFrom, ih]
    simp [Nat.add_comm, Nat.add_left_comm]

/-- The memory that lists bytes from an address upward and nothing else, in canonical form. -/
def Memory.holding (a : Nat) (bs : List Byte) : Memory := (placed a bs).filter (fun c => c.2 ≠ Config.erasedByte)

theorem placed_ge {a : Nat} {bs : List Byte} {c : Host.Cell} (h : c ∈ placed a bs) : a ≤ c.1 := by
  induction bs generalizing a with
  | nil => simp [placed] at h
  | cons b bs ih =>
    simp only [placed, List.mem_cons] at h
    rcases h with rfl | h
    · simp
    · have := ih h; omega

theorem Memory.holding_wf (a : Nat) (bs : List Byte) : (Memory.holding a bs).wf := by
  refine ⟨?_, by simp [Memory.holding]⟩
  refine List.Pairwise.filter _ ?_
  induction bs generalizing a with
  | nil => simp [placed]
  | cons b bs ih =>
    exact List.pairwise_cons.2 ⟨fun c hc => by have := placed_ge hc; simp only; omega, ih (a + 1)⟩

theorem Memory.readFrom_congr {m k : Memory} {a n : Nat} (h : ∀ x, a ≤ x → m.read x = k.read x) :
    m.readFrom a n = k.readFrom a n := by
  induction n generalizing a with
  | zero => rfl
  | succ n ih => simp only [Memory.readFrom]; rw [h a (by omega), ih (fun x hx => h x (by omega))]

/-- The bytes of a run read back from the memory that holds them. -/
theorem Memory.readFrom_holding (a : Nat) (bs : List Byte) : (Memory.holding a bs).readFrom a bs.length = bs := by
  induction bs generalizing a with
  | nil => rfl
  | cons b bs ih =>
    have hb : ∀ x, a + 1 ≤ x → (Memory.holding a (b :: bs)).read x = (Memory.holding (a + 1) bs).read x := by
      intro x hx
      simp only [Memory.holding, placed, List.filter_cons]
      split
      · simp only [Memory.read]; rw [if_neg (by omega)]
      · rfl
    have ha : (Memory.holding a (b :: bs)).read a = b := by
      simp only [Memory.holding, placed, List.filter_cons]
      split
      · simp [Memory.read]
      · have e : b = Config.erasedByte := by simp_all
        rw [e]
        refine Memory.read_below (fun c hc => ?_)
        have := placed_ge (List.mem_filter.1 hc).1
        omega
    rw [List.length_cons, Memory.readFrom, ha, Memory.readFrom_congr hb, ih]

theorem Memory.readFrom_take {m : Memory} {a n k : Nat} {x y : List Byte} (h : m.readFrom a (n + k) = x ++ y)
    (hx : x.length = n) : m.readFrom a n = x ∧ m.readFrom (a + n) k = y := by
  rw [Memory.readFrom_add] at h
  exact List.append_inj h (by simp [hx])

/-- The hours of the image from its four hours bytes (R185). -/
theorem imageHours_of {m : Memory} {a b c d : Byte} (h : m.readFrom 3520 4 = [a, b, c, d]) :
    imageHours m = if of16 a b + of16 c d = 65535 then of16 a b else 0 := by
  simp only [Memory.readFrom, List.cons.injEq] at h
  obtain ⟨rfl, rfl, rfl, rfl, -⟩ := h
  rfl

/-- A memory whose bytes are an image's is read as that image (R185). -/
theorem imageRead_of {m : Memory} {checked : List Byte} {v : Settings} (h1 : m.readFrom 0 8 = imageHeader checked)
    (h2 : m.readFrom 8 3512 = checked) (h3 : Settings.parse checked (imageHours m) = some v) :
    imageRead true m = some v := by
  have h0 : m.readFrom 0 2 = Config.imageSignature := by
    rw [imageHeader, List.append_assoc] at h1
    exact (Memory.readFrom_take (n := 2) (k := 6) h1 rfl).1
  unfold imageRead
  rw [if_pos ⟨rfl, h0⟩]
  simp only [Config.imageHoursStart, Config.imageBodyStart, Nat.reduceSub, h2, h1, if_true, h3]

/-! ## What a STORE leaves (11 R186) -/

theorem storeLanded_whole {v : Settings} {n : Nat} (h : storeLength ≤ n) : storeLanded v n = storeWrites v := by
  simp [storeLanded, h]

theorem storeLanded_short {v : Settings} {n : Nat} (h : n < storeLength) :
    storeLanded v n = (storeBody v).take n := by
  simp [storeLanded, Nat.not_le.mpr h]

/-- A STORE that fails after step 1 has written the signature 0000h and then bytes of the sections alone. -/
theorem storeLanded_signature {v : Settings} {n : Nat} (h1 : 2 ≤ n) (h2 : n < storeLength) :
    storeLanded v n = (0, 0) :: (1, 0)
      :: (placed Config.imageBodyStart (v.checked ++ hoursBytes v.hours)).take (n - 2) := by
  obtain ⟨k, rfl⟩ := Nat.exists_eq_add_of_le' h1
  simp [storeLanded_short h2, storeBody]

/-- An abandoned STORE changes no byte but the signature, and keeps the canonical form. -/
theorem abandonStore_mem {s : State} (h : s.mem.wf) :
    (abandonStore s).mem.wf ∧ ∀ x, 2 ≤ x → (abandonStore s).mem.read x = s.mem.read x := by
  unfold abandonStore
  split
  · exact ⟨h, fun _ _ => rfl⟩
  · refine ⟨Memory.writes_wf _ h, fun x hx => Memory.read_writes_of_ne h x _ ?_⟩
    intro c hc
    simp only [List.mem_cons, List.not_mem_nil, or_false] at hc
    rcases hc with rfl | rfl <;> simp only <;> omega

end Sys2Proof.Machine
end

