-- ==== Sys2Proof/Laws/RemoteFrames.lean ====
section
/-! SUPPORT. Frame laws (remote operations): what each shared operation leaves as it stands, and what
a reading of a wired line does. -/

namespace Sys2Proof.Machine

@[simp] theorem startFocus_frame (i : Bool) (e : FocusEnd) (s : State) :
    (startFocus i e s).pending = s.pending ∧ (startFocus i e s).pins = s.pins ∧ (startFocus i e s).psdo = s.psdo ∧
    (startFocus i e s).mem = s.mem ∧ (startFocus i e s).tru = s.tru ∧ (startFocus i e s).csq = s.csq ∧
    (startFocus i e s).sar = s.sar ∧ (startFocus i e s).lmc = s.lmc ∧ (startFocus i e s).dkc = s.dkc ∧
    (startFocus i e s).cdc = s.cdc ∧ (startFocus i e s).crn = s.crn ∧ (startFocus i e s).shc = s.shc ∧
    (startFocus i e s).lkc = s.lkc ∧ (startFocus i e s).pnp = s.pnp ∧ (startFocus i e s).rmi.keys = s.rmi.keys ∧
    (startFocus i e s).rmi.cfg = s.rmi.cfg ∧ (startFocus i e s).rmi.test = s.rmi.test ∧
    (startFocus i e s).rmi.irHeld = s.rmi.irHeld := by
  (unfold startFocus; (try dsimp only); (repeat' split) <;> simp_all)

@[simp] theorem remoteChange_frame (k : ChangeKind) (a : Nat) (s : State) :
    (remoteChange k a s).pending = s.pending ∧ (remoteChange k a s).pins = s.pins ∧
    (remoteChange k a s).psdo = s.psdo ∧ (remoteChange k a s).mem = s.mem ∧ (remoteChange k a s).tru = s.tru ∧
    (remoteChange k a s).cdc = s.cdc ∧ (remoteChange k a s).rmi = s.rmi ∧
    (remoteChange k a s).csq.gate = s.csq.gate ∧ (remoteChange k a s).csq.origin = s.csq.origin ∧
    (remoteChange k a s).csq.cfg = s.csq.cfg ∧ (remoteChange k a s).sar.sources = s.sar.sources ∧
    (remoteChange k a s).sar.cfg = s.sar.cfg ∧ (remoteChange k a s).lmc.hours = s.lmc.hours ∧
    (remoteChange k a s).lmc.cfg = s.lmc.cfg ∧ (remoteChange k a s).lmc.temp = s.lmc.temp ∧
    (remoteChange k a s).lmc.trip = s.lmc.trip ∧ (remoteChange k a s).dkc.clock = s.dkc.clock ∧
    (remoteChange k a s).dkc.audio = s.dkc.audio ∧ (remoteChange k a s).dkc.cfg = s.dkc.cfg ∧
    (remoteChange k a s).crn.table = s.crn.table ∧ (remoteChange k a s).crn.queue = s.crn.queue ∧
    (remoteChange k a s).crn.current = s.crn.current ∧ (remoteChange k a s).shc.autoResume = s.shc.autoResume ∧
    (remoteChange k a s).lkc.rxbuf = s.lkc.rxbuf ∧ (remoteChange k a s).lkc.node = s.lkc.node ∧
    (remoteChange k a s).lkc.lock = s.lkc.lock ∧ (remoteChange k a s).lkc.enable = s.lkc.enable ∧
    (remoteChange k a s).lkc.cfg = s.lkc.cfg ∧ (remoteChange k a s).pnp.power = s.pnp.power ∧
    (remoteChange k a s).pnp.resp = s.pnp.resp ∧ (remoteChange k a s).pnp.cfg = s.pnp.cfg ∧
    (remoteChange k a s).pnp.store = s.pnp.store ∧ (remoteChange k a s).pnp.load = s.pnp.load ∧
    (remoteChange k a s).pnp.hoursWrite = s.pnp.hoursWrite ∧
    (remoteChange k a s).pnp.hoursWaiting = s.pnp.hoursWaiting ∧
    (remoteChange k a s).pnp.memPresent = s.pnp.memPresent ∧
    (remoteChange k a s).pnp.idleSetting = s.pnp.idleSetting ∧ (remoteChange k a s).pnp.event = s.pnp.event := by
  (unfold remoteChange; (try dsimp only); (repeat' split) <;> simp_all)

@[simp] theorem digitKey_frame (d : Nat) (s : State) :
    (digitKey d s).pending = s.pending ∧ (digitKey d s).pins = s.pins ∧ (digitKey d s).psdo = s.psdo ∧
    (digitKey d s).mem = s.mem ∧ (digitKey d s).tru = s.tru ∧ (digitKey d s).cdc = s.cdc ∧
    (digitKey d s).csq.gate = s.csq.gate ∧ (digitKey d s).csq.origin = s.csq.origin ∧
    (digitKey d s).csq.cfg = s.csq.cfg ∧ (digitKey d s).sar.sources = s.sar.sources ∧
    (digitKey d s).sar.cfg = s.sar.cfg ∧ (digitKey d s).lmc.hours = s.lmc.hours ∧
    (digitKey d s).lmc.cfg = s.lmc.cfg ∧ (digitKey d s).lmc.temp = s.lmc.temp ∧
    (digitKey d s).lmc.trip = s.lmc.trip ∧ (digitKey d s).dkc.clock = s.dkc.clock ∧
    (digitKey d s).dkc.audio = s.dkc.audio ∧ (digitKey d s).dkc.cfg = s.dkc.cfg ∧
    (digitKey d s).crn.table = s.crn.table ∧ (digitKey d s).crn.queue = s.crn.queue ∧
    (digitKey d s).crn.current = s.crn.current ∧ (digitKey d s).shc.autoResume = s.shc.autoResume ∧
    (digitKey d s).rmi.keys = s.rmi.keys ∧ (digitKey d s).rmi.cfg = s.rmi.cfg ∧
    (digitKey d s).rmi.test = s.rmi.test ∧ (digitKey d s).rmi.irHeld = s.rmi.irHeld ∧
    (digitKey d s).lkc.rxbuf = s.lkc.rxbuf ∧ (digitKey d s).lkc.node = s.lkc.node ∧
    (digitKey d s).lkc.lock = s.lkc.lock ∧ (digitKey d s).lkc.enable = s.lkc.enable ∧
    (digitKey d s).lkc.cfg = s.lkc.cfg ∧ (digitKey d s).pnp.power = s.pnp.power ∧
    (digitKey d s).pnp.resp = s.pnp.resp ∧ (digitKey d s).pnp.cfg = s.pnp.cfg ∧
    (digitKey d s).pnp.store = s.pnp.store ∧ (digitKey d s).pnp.load = s.pnp.load ∧
    (digitKey d s).pnp.hoursWrite = s.pnp.hoursWrite ∧ (digitKey d s).pnp.hoursWaiting = s.pnp.hoursWaiting ∧
    (digitKey d s).pnp.memPresent = s.pnp.memPresent ∧ (digitKey d s).pnp.idleSetting = s.pnp.idleSetting ∧
    (digitKey d s).pnp.event = s.pnp.event := by
  (unfold digitKey; (try dsimp only); (repeat' split) <;> simp_all)

@[simp] theorem enterKey_frame (s : State) :
    (enterKey s).pending = s.pending ∧ (enterKey s).pins = s.pins ∧ (enterKey s).psdo = s.psdo ∧
    (enterKey s).mem = s.mem ∧ (enterKey s).tru = s.tru ∧ (enterKey s).cdc = s.cdc ∧
    (enterKey s).csq.gate = s.csq.gate ∧ (enterKey s).csq.origin = s.csq.origin ∧
    (enterKey s).csq.cfg = s.csq.cfg ∧ (enterKey s).sar.sources = s.sar.sources ∧
    (enterKey s).sar.cfg = s.sar.cfg ∧ (enterKey s).lmc.hours = s.lmc.hours ∧ (enterKey s).lmc.cfg = s.lmc.cfg ∧
    (enterKey s).lmc.temp = s.lmc.temp ∧ (enterKey s).lmc.trip = s.lmc.trip ∧
    (enterKey s).dkc.clock = s.dkc.clock ∧ (enterKey s).dkc.audio = s.dkc.audio ∧
    (enterKey s).dkc.cfg = s.dkc.cfg ∧ (enterKey s).crn.table = s.crn.table ∧
    (enterKey s).crn.queue = s.crn.queue ∧ (enterKey s).crn.current = s.crn.current ∧
    (enterKey s).shc.autoResume = s.shc.autoResume ∧ (enterKey s).rmi.keys = s.rmi.keys ∧
    (enterKey s).rmi.cfg = s.rmi.cfg ∧ (enterKey s).rmi.test = s.rmi.test ∧
    (enterKey s).rmi.irHeld = s.rmi.irHeld ∧ (enterKey s).lkc.rxbuf = s.lkc.rxbuf ∧
    (enterKey s).lkc.node = s.lkc.node ∧ (enterKey s).lkc.lock = s.lkc.lock ∧
    (enterKey s).lkc.enable = s.lkc.enable ∧ (enterKey s).lkc.cfg = s.lkc.cfg ∧
    (enterKey s).pnp.power = s.pnp.power ∧ (enterKey s).pnp.resp = s.pnp.resp ∧ (enterKey s).pnp.cfg = s.pnp.cfg ∧
    (enterKey s).pnp.store = s.pnp.store ∧ (enterKey s).pnp.load = s.pnp.load ∧
    (enterKey s).pnp.hoursWrite = s.pnp.hoursWrite ∧ (enterKey s).pnp.hoursWaiting = s.pnp.hoursWaiting ∧
    (enterKey s).pnp.memPresent = s.pnp.memPresent ∧ (enterKey s).pnp.idleSetting = s.pnp.idleSetting ∧
    (enterKey s).pnp.event = s.pnp.event := by
  (unfold enterKey; (try dsimp only); (repeat' split) <;> simp_all)

@[simp] theorem focusKey_frame (i : Bool) (c : Nat) (m : RepeatMode) (s : State) :
    (focusKey i c m s).pending = s.pending ∧ (focusKey i c m s).pins = s.pins ∧ (focusKey i c m s).psdo = s.psdo ∧
    (focusKey i c m s).mem = s.mem ∧ (focusKey i c m s).tru = s.tru ∧ (focusKey i c m s).csq = s.csq ∧
    (focusKey i c m s).sar = s.sar ∧ (focusKey i c m s).lmc = s.lmc ∧ (focusKey i c m s).dkc = s.dkc ∧
    (focusKey i c m s).cdc = s.cdc ∧ (focusKey i c m s).crn = s.crn ∧ (focusKey i c m s).shc = s.shc ∧
    (focusKey i c m s).lkc = s.lkc ∧ (focusKey i c m s).pnp = s.pnp ∧ (focusKey i c m s).rmi.keys = s.rmi.keys ∧
    (focusKey i c m s).rmi.cfg = s.rmi.cfg ∧ (focusKey i c m s).rmi.test = s.rmi.test ∧
    (focusKey i c m s).rmi.irHeld = s.rmi.irHeld := by
  (unfold focusKey; (try dsimp only); (repeat' split) <;> simp_all)

@[simp] theorem setPress_frame (c : Nat) (p : Option Press) (s : State) :
    (setPress c p s).pending = s.pending ∧ (setPress c p s).pins = s.pins ∧ (setPress c p s).psdo = s.psdo ∧
    (setPress c p s).mem = s.mem ∧ (setPress c p s).tru = s.tru ∧ (setPress c p s).csq = s.csq ∧
    (setPress c p s).sar = s.sar ∧ (setPress c p s).lmc = s.lmc ∧ (setPress c p s).dkc = s.dkc ∧
    (setPress c p s).cdc = s.cdc ∧ (setPress c p s).crn = s.crn ∧ (setPress c p s).shc = s.shc ∧
    (setPress c p s).lkc = s.lkc ∧ (setPress c p s).pnp = s.pnp := by
  (unfold setPress; (try dsimp only); (repeat' split) <;> simp_all)

@[simp] theorem releaseKey_frame (c : Nat) (s : State) :
    (releaseKey c s).pending = s.pending ∧ (releaseKey c s).pins = s.pins ∧ (releaseKey c s).psdo = s.psdo ∧
    (releaseKey c s).mem = s.mem ∧ (releaseKey c s).tru = s.tru ∧ (releaseKey c s).csq = s.csq ∧
    (releaseKey c s).sar = s.sar ∧ (releaseKey c s).lmc = s.lmc ∧ (releaseKey c s).dkc = s.dkc ∧
    (releaseKey c s).cdc = s.cdc ∧ (releaseKey c s).crn = s.crn ∧ (releaseKey c s).shc = s.shc ∧
    (releaseKey c s).lkc = s.lkc ∧ (releaseKey c s).pnp = s.pnp := by
  (unfold releaseKey; (try dsimp only); (repeat' split) <;> simp_all)

@[simp] theorem irReleased_frame (s : State) :
    (irReleased s).pending = s.pending ∧ (irReleased s).pins = s.pins ∧ (irReleased s).psdo = s.psdo ∧
    (irReleased s).mem = s.mem ∧ (irReleased s).tru = s.tru ∧ (irReleased s).csq = s.csq ∧
    (irReleased s).sar = s.sar ∧ (irReleased s).lmc = s.lmc ∧ (irReleased s).dkc = s.dkc ∧
    (irReleased s).cdc = s.cdc ∧ (irReleased s).crn = s.crn ∧ (irReleased s).shc = s.shc ∧
    (irReleased s).lkc = s.lkc ∧ (irReleased s).pnp = s.pnp := by
  (unfold irReleased; (try dsimp only); (repeat' split) <;> simp_all)

@[simp] theorem endStop_frame (a b : Bool) (s : State) :
    (endStop a b s).pending = s.pending ∧ (endStop a b s).psdo = s.psdo ∧ (endStop a b s).mem = s.mem ∧
    (endStop a b s).tru = s.tru ∧ (endStop a b s).csq = s.csq ∧ (endStop a b s).sar = s.sar ∧
    (endStop a b s).lmc = s.lmc ∧ (endStop a b s).dkc = s.dkc ∧ (endStop a b s).cdc = s.cdc ∧
    (endStop a b s).crn = s.crn ∧ (endStop a b s).shc = s.shc ∧ (endStop a b s).lkc = s.lkc ∧
    (endStop a b s).pnp = s.pnp ∧ (endStop a b s).rmi.keys = s.rmi.keys ∧ (endStop a b s).rmi.cfg = s.rmi.cfg ∧
    (endStop a b s).rmi.test = s.rmi.test ∧ (endStop a b s).rmi.irHeld = s.rmi.irHeld ∧
    (endStop a b s).pins.porstLow = s.pins.porstLow := by
  (unfold endStop; (try dsimp only); (repeat' split) <;> simp_all)

/-! ## Readings of the wired lines -/

/-- A line record read back after another is written: the one written, or the one that stood. -/
@[simp] theorem Rmi.line_setLine (r : Rmi) (l m : Line) (x : LineRec) :
    (r.setLine l x).line m = if m = l then x else r.line m := by
  cases l <;> cases m <;> rfl

@[simp] theorem Rmi.line_readFrom (r : Rmi) (l : Line) (x : LineRead) :
    (r.readFrom x).line l = { r.line l with reading := x } := by
  cases l <;> rfl

@[simp] theorem watchLine_fields (l : Line) (s : State) :
    (watchLine l s).pending = s.pending ∧ (watchLine l s).pins = s.pins ∧ (watchLine l s).psdo = s.psdo ∧
    (watchLine l s).mem = s.mem ∧ (watchLine l s).tru = s.tru ∧ (watchLine l s).csq = s.csq ∧
    (watchLine l s).sar = s.sar ∧ (watchLine l s).lmc = s.lmc ∧ (watchLine l s).dkc = s.dkc ∧
    (watchLine l s).cdc = s.cdc ∧ (watchLine l s).crn = s.crn ∧ (watchLine l s).shc = s.shc ∧
    (watchLine l s).rmi = s.rmi.setLine l { s.rmi.line l with reading := .watched } ∧ (watchLine l s).lkc = s.lkc ∧
    (watchLine l s).pnp = s.pnp :=
  ⟨rfl, rfl, rfl, rfl, rfl, rfl, rfl, rfl, rfl, rfl, rfl, rfl, rfl, rfl, rfl⟩

/-- The first reading after a reset takes the level with no event (R163). -/
theorem lineReading_first {l : Line} {s : State} {n : Nat} (h : (s.rmi.line l).reading = .first n) (v : Bool) :
    lineReading l v s = { s with rmi := s.rmi.setLine l ((s.rmi.line l).sampled v (s.rmi.entry (lineCode l))) } := by
  simp only [lineReading, h, setRmi]

/-- Every other reading is an event where it changes the line (R151, R161). -/
theorem lineReading_event {l : Line} {s : State} (h : ∀ n, (s.rmi.line l).reading ≠ .first n) (v : Bool) :
    lineReading l v s = lineEvent l v (watchLine l s) := by
  unfold lineReading
  split
  · exact absurd ‹_› (h _)
  · rfl

/-- After a reading the line is watched, and stands as read where the reading was no event. -/
theorem LineRec.sampled_reading (v : Bool) (e : KeyEntry) (l : LineRec) :
    (l.sampled v e).reading = .watched ∧ (l.sampled v e).pressed = v
      ∧ (l.sampled v e).pressedChg = l.pressedChg ∧ (l.sampled v e).releasedChg = l.releasedChg :=
  ⟨rfl, rfl, rfl, rfl⟩

theorem LineRead.due_iff (x : LineRead) :
    x.due = true ↔ ∃ n, Config.lineStableMs ≤ n ∧ (x = .resumed n ∨ x = .first n) := by
  cases x <;> simp [LineRead.due]

end Sys2Proof.Machine
end

