-- ==== Sys2Proof/Laws/SystemFrames.lean ====
section
/-! SUPPORT. Frame laws (system operations): what each shared operation leaves as it stands. -/

namespace Sys2Proof.Machine

@[simp] theorem linkChange_frame (k a f : Byte) (s : State) :
    (linkChange k a f s).pending = s.pending ∧ (linkChange k a f s).pins = s.pins ∧
    (linkChange k a f s).psdo = s.psdo ∧ (linkChange k a f s).mem = s.mem ∧ (linkChange k a f s).tru = s.tru ∧
    (linkChange k a f s).cdc = s.cdc ∧ (linkChange k a f s).rmi = s.rmi ∧
    (linkChange k a f s).csq.gate = s.csq.gate ∧ (linkChange k a f s).csq.origin = s.csq.origin ∧
    (linkChange k a f s).csq.cfg = s.csq.cfg ∧ (linkChange k a f s).sar.sources = s.sar.sources ∧
    (linkChange k a f s).sar.cfg = s.sar.cfg ∧ (linkChange k a f s).lmc.hours = s.lmc.hours ∧
    (linkChange k a f s).lmc.cfg = s.lmc.cfg ∧ (linkChange k a f s).lmc.temp = s.lmc.temp ∧
    (linkChange k a f s).lmc.trip = s.lmc.trip ∧ (linkChange k a f s).dkc.clock = s.dkc.clock ∧
    (linkChange k a f s).dkc.audio = s.dkc.audio ∧ (linkChange k a f s).dkc.cfg = s.dkc.cfg ∧
    (linkChange k a f s).crn.table = s.crn.table ∧ (linkChange k a f s).crn.queue = s.crn.queue ∧
    (linkChange k a f s).crn.current = s.crn.current ∧ (linkChange k a f s).shc.autoResume = s.shc.autoResume ∧
    (linkChange k a f s).lkc.rxbuf = s.lkc.rxbuf ∧ (linkChange k a f s).lkc.node = s.lkc.node ∧
    (linkChange k a f s).lkc.lock = s.lkc.lock ∧ (linkChange k a f s).lkc.enable = s.lkc.enable ∧
    (linkChange k a f s).lkc.cfg = s.lkc.cfg ∧ (linkChange k a f s).pnp.power = s.pnp.power ∧
    (linkChange k a f s).pnp.resp = s.pnp.resp ∧ (linkChange k a f s).pnp.cfg = s.pnp.cfg ∧
    (linkChange k a f s).pnp.store = s.pnp.store ∧ (linkChange k a f s).pnp.load = s.pnp.load ∧
    (linkChange k a f s).pnp.hoursWrite = s.pnp.hoursWrite ∧
    (linkChange k a f s).pnp.hoursWaiting = s.pnp.hoursWaiting ∧
    (linkChange k a f s).pnp.memPresent = s.pnp.memPresent ∧
    (linkChange k a f s).pnp.idleSetting = s.pnp.idleSetting ∧ (linkChange k a f s).pnp.event = s.pnp.event := by
  (unfold linkChange; (try dsimp only); (repeat' split) <;> simp_all)

@[simp] theorem answerAsk_frame (n : Nat) (s : State) :
    (answerAsk n s).pending = s.pending ∧ (answerAsk n s).pins = s.pins ∧ (answerAsk n s).psdo = s.psdo ∧
    (answerAsk n s).mem = s.mem ∧ (answerAsk n s).tru = s.tru ∧ (answerAsk n s).csq = s.csq ∧
    (answerAsk n s).sar = s.sar ∧ (answerAsk n s).lmc = s.lmc ∧ (answerAsk n s).dkc = s.dkc ∧
    (answerAsk n s).cdc = s.cdc ∧ (answerAsk n s).crn = s.crn ∧ (answerAsk n s).shc = s.shc ∧
    (answerAsk n s).rmi = s.rmi ∧ (answerAsk n s).pnp = s.pnp ∧ (answerAsk n s).lkc.rxbuf = s.lkc.rxbuf ∧
    (answerAsk n s).lkc.node = s.lkc.node ∧ (answerAsk n s).lkc.lock = s.lkc.lock ∧
    (answerAsk n s).lkc.enable = s.lkc.enable ∧ (answerAsk n s).lkc.cfg = s.lkc.cfg := by
  (unfold answerAsk; (try dsimp only); (repeat' split) <;> simp_all)

@[simp] theorem notAccepted_frame (h : FrameHead) (s : State) :
    (notAccepted h s).pending = s.pending ∧ (notAccepted h s).pins = s.pins ∧ (notAccepted h s).psdo = s.psdo ∧
    (notAccepted h s).mem = s.mem ∧ (notAccepted h s).tru = s.tru ∧ (notAccepted h s).csq = s.csq ∧
    (notAccepted h s).sar = s.sar ∧ (notAccepted h s).lmc = s.lmc ∧ (notAccepted h s).dkc = s.dkc ∧
    (notAccepted h s).cdc = s.cdc ∧ (notAccepted h s).crn = s.crn ∧ (notAccepted h s).shc = s.shc ∧
    (notAccepted h s).rmi = s.rmi ∧ (notAccepted h s).pnp = s.pnp ∧ (notAccepted h s).lkc.txq = s.lkc.txq ∧
    (notAccepted h s).lkc.rxbuf = s.lkc.rxbuf ∧ (notAccepted h s).lkc.node = s.lkc.node ∧
    (notAccepted h s).lkc.lock = s.lkc.lock ∧ (notAccepted h s).lkc.enable = s.lkc.enable ∧
    (notAccepted h s).lkc.cfg = s.lkc.cfg := by
  (unfold notAccepted; (try dsimp only); (repeat' split) <;> simp_all)

@[simp] theorem lampReset_frame (s : State) :
    (lampReset s).pending = s.pending ∧ (lampReset s).pins = s.pins ∧ (lampReset s).psdo = s.psdo ∧
    (lampReset s).mem = s.mem ∧ (lampReset s).tru = s.tru ∧ (lampReset s).csq = s.csq ∧ (lampReset s).sar = s.sar ∧
    (lampReset s).dkc = s.dkc ∧ (lampReset s).cdc = s.cdc ∧ (lampReset s).crn = s.crn ∧ (lampReset s).shc = s.shc ∧
    (lampReset s).rmi = s.rmi ∧ (lampReset s).lkc = s.lkc ∧ (lampReset s).lmc.hours = s.lmc.hours ∧
    (lampReset s).lmc.cfg = s.lmc.cfg ∧ (lampReset s).lmc.temp = s.lmc.temp ∧ (lampReset s).lmc.trip = s.lmc.trip ∧
    (lampReset s).pnp.power = s.pnp.power ∧ (lampReset s).pnp.resp = s.pnp.resp ∧
    (lampReset s).pnp.cfg = s.pnp.cfg ∧ (lampReset s).pnp.store = s.pnp.store ∧
    (lampReset s).pnp.load = s.pnp.load ∧ (lampReset s).pnp.hoursWrite = s.pnp.hoursWrite ∧
    (lampReset s).pnp.memPresent = s.pnp.memPresent ∧ (lampReset s).pnp.idleSetting = s.pnp.idleSetting ∧
    (lampReset s).pnp.event = s.pnp.event := by
  (unfold lampReset; (try dsimp only); (repeat' split) <;> simp_all)

@[simp] theorem abandonStore_frame (s : State) :
    (abandonStore s).pending = s.pending ∧ (abandonStore s).pins = s.pins ∧ (abandonStore s).psdo = s.psdo ∧
    (abandonStore s).tru = s.tru ∧ (abandonStore s).csq = s.csq ∧ (abandonStore s).sar = s.sar ∧
    (abandonStore s).lmc = s.lmc ∧ (abandonStore s).dkc = s.dkc ∧ (abandonStore s).cdc = s.cdc ∧
    (abandonStore s).crn = s.crn ∧ (abandonStore s).shc = s.shc ∧ (abandonStore s).rmi = s.rmi ∧
    (abandonStore s).lkc = s.lkc ∧ (abandonStore s).pnp = s.pnp := by
  (unfold abandonStore; (try dsimp only); (repeat' split) <;> simp_all)

@[simp] theorem powerOn_frame (a : Bool) (s : State) :
    (powerOn a s).pending = s.pending ∧ (powerOn a s).psdo = s.psdo ∧
    (powerOn a s).mem = (abandonStore s).mem := by
  (unfold powerOn abandonStore; (try dsimp only); (repeat' split) <;> simp_all)

@[simp] theorem controlReset_frame (a : Bool) (s : State) :
    (controlReset a s).pending = s.pending ∧ (controlReset a s).pins = s.pins ∧ (controlReset a s).psdo = s.psdo ∧
    (controlReset a s).tru.map = s.tru.map ∧ (controlReset a s).tru.present = s.tru.present ∧
    (controlReset a s).lmc.hours = s.lmc.hours ∧ (controlReset a s).lmc.temp = s.lmc.temp ∧
    (controlReset a s).lmc.trip = s.lmc.trip ∧ (controlReset a s).lkc.node = s.lkc.node ∧
    (controlReset a s).lkc.lock = s.lkc.lock ∧ (controlReset a s).pnp.power = s.pnp.power ∧
    (controlReset a s).pnp.event = s.pnp.event := by
  (unfold controlReset; (try dsimp only); (repeat' split) <;> simp_all)

@[simp] theorem resetToRun_frame (a : Bool) (s : State) :
    (resetToRun a s).pending = s.pending ∧ (resetToRun a s).pins = s.pins ∧ (resetToRun a s).psdo = s.psdo ∧
    (resetToRun a s).tru.map = s.tru.map ∧ (resetToRun a s).tru.present = s.tru.present ∧
    (resetToRun a s).lmc.hours = s.lmc.hours ∧ (resetToRun a s).lmc.temp = s.lmc.temp ∧
    (resetToRun a s).lmc.trip = s.lmc.trip ∧ (resetToRun a s).lkc.node = s.lkc.node ∧
    (resetToRun a s).lkc.lock = s.lkc.lock := by
  (unfold resetToRun; (try dsimp only); (repeat' split) <;> simp_all)

@[simp] theorem applyImage_frame (v : Settings) (s : State) :
    (applyImage v s).pending = s.pending ∧ (applyImage v s).pins = s.pins ∧ (applyImage v s).psdo = s.psdo ∧
    (applyImage v s).mem = s.mem ∧ (applyImage v s).tru.map = s.tru.map ∧
    (applyImage v s).tru.position = s.tru.position ∧ (applyImage v s).tru.present = s.tru.present ∧
    (applyImage v s).csq.state = s.csq.state ∧ (applyImage v s).csq.gate = s.csq.gate ∧
    (applyImage v s).csq.origin = s.csq.origin ∧ (applyImage v s).csq.flight = s.csq.flight ∧
    (applyImage v s).csq.shutClosed = s.csq.shutClosed ∧ (applyImage v s).csq.drive = s.csq.drive ∧
    (applyImage v s).sar.waiting = s.sar.waiting ∧ (applyImage v s).sar.holder = s.sar.holder ∧
    (applyImage v s).sar.last = s.sar.last ∧ (applyImage v s).lmc.lamp = s.lmc.lamp ∧
    (applyImage v s).lmc.claim = s.lmc.claim ∧ (applyImage v s).lmc.hours = s.lmc.hours ∧
    (applyImage v s).lmc.temp = s.lmc.temp ∧ (applyImage v s).lmc.dim = s.lmc.dim ∧
    (applyImage v s).lmc.trip = s.lmc.trip ∧ (applyImage v s).dkc.deck = s.dkc.deck ∧
    (applyImage v s).dkc.clock = s.dkc.clock ∧ (applyImage v s).dkc.audio = s.dkc.audio ∧
    (applyImage v s).crn.progress = s.crn.progress ∧ (applyImage v s).crn.current = s.crn.current ∧
    (applyImage v s).shc.phase = s.shc.phase ∧ (applyImage v s).shc.causes = s.shc.causes ∧
    (applyImage v s).rmi.test = s.rmi.test ∧ (applyImage v s).rmi.irHeld = s.rmi.irHeld ∧
    (applyImage v s).lkc.rxbuf = s.lkc.rxbuf ∧ (applyImage v s).lkc.node = s.lkc.node ∧
    (applyImage v s).lkc.lock = s.lkc.lock ∧ (applyImage v s).pnp.power = s.pnp.power ∧
    (applyImage v s).pnp.resp = s.pnp.resp ∧ (applyImage v s).pnp.store = s.pnp.store ∧
    (applyImage v s).pnp.load = s.pnp.load ∧ (applyImage v s).pnp.hoursWrite = s.pnp.hoursWrite ∧
    (applyImage v s).pnp.hoursWaiting = s.pnp.hoursWaiting ∧ (applyImage v s).pnp.memPresent = s.pnp.memPresent ∧
    (applyImage v s).pnp.event = s.pnp.event := by
  (unfold applyImage; (try dsimp only); (repeat' split) <;> simp_all)

@[simp] theorem endLoad_frame (a : Bool) (s : State) :
    (endLoad a s).pending = s.pending ∧ (endLoad a s).pins = s.pins ∧ (endLoad a s).psdo = s.psdo ∧
    (endLoad a s).mem = s.mem ∧ (endLoad a s).tru.map = s.tru.map ∧ (endLoad a s).tru.position = s.tru.position ∧
    (endLoad a s).tru.present = s.tru.present ∧ (endLoad a s).csq.state = s.csq.state ∧
    (endLoad a s).csq.gate = s.csq.gate ∧ (endLoad a s).csq.origin = s.csq.origin ∧
    (endLoad a s).csq.flight = s.csq.flight ∧ (endLoad a s).csq.shutClosed = s.csq.shutClosed ∧
    (endLoad a s).csq.drive = s.csq.drive ∧ (endLoad a s).sar.waiting = s.sar.waiting ∧
    (endLoad a s).sar.holder = s.sar.holder ∧ (endLoad a s).sar.last = s.sar.last ∧
    (endLoad a s).lmc.lamp = s.lmc.lamp ∧ (endLoad a s).lmc.claim = s.lmc.claim ∧
    (endLoad a s).lmc.hours = s.lmc.hours ∧ (endLoad a s).lmc.temp = s.lmc.temp ∧
    (endLoad a s).lmc.dim = s.lmc.dim ∧ (endLoad a s).lmc.trip = s.lmc.trip ∧ (endLoad a s).dkc.deck = s.dkc.deck ∧
    (endLoad a s).dkc.clock = s.dkc.clock ∧ (endLoad a s).dkc.audio = s.dkc.audio ∧
    (endLoad a s).crn.progress = s.crn.progress ∧ (endLoad a s).crn.current = s.crn.current ∧
    (endLoad a s).shc.phase = s.shc.phase ∧ (endLoad a s).shc.causes = s.shc.causes ∧
    (endLoad a s).rmi.test = s.rmi.test ∧ (endLoad a s).rmi.irHeld = s.rmi.irHeld ∧
    (endLoad a s).lkc.rxbuf = s.lkc.rxbuf ∧ (endLoad a s).lkc.node = s.lkc.node ∧
    (endLoad a s).lkc.lock = s.lkc.lock ∧ (endLoad a s).pnp.power = s.pnp.power ∧
    (endLoad a s).pnp.resp = s.pnp.resp ∧ (endLoad a s).pnp.store = s.pnp.store ∧
    (endLoad a s).pnp.hoursWrite = s.pnp.hoursWrite ∧ (endLoad a s).pnp.hoursWaiting = s.pnp.hoursWaiting := by
  (unfold endLoad; (try dsimp only); (repeat' split) <;> simp_all)

@[simp] theorem enterStandby_frame (s : State) :
    (enterStandby s).pending = s.pending ∧ (enterStandby s).pins = s.pins ∧ (enterStandby s).psdo = s.psdo ∧
    (enterStandby s).mem = s.mem ∧ (enterStandby s).tru = s.tru ∧ (enterStandby s).csq = s.csq ∧
    (enterStandby s).sar = s.sar ∧ (enterStandby s).lmc = s.lmc ∧ (enterStandby s).lkc = s.lkc ∧
    (enterStandby s).dkc.clock = s.dkc.clock ∧ (enterStandby s).dkc.audio = s.dkc.audio ∧
    (enterStandby s).dkc.cfg = s.dkc.cfg ∧ (enterStandby s).crn.table = s.crn.table ∧
    (enterStandby s).crn.queue = s.crn.queue ∧ (enterStandby s).crn.progress = s.crn.progress ∧
    (enterStandby s).crn.current = s.crn.current ∧ (enterStandby s).shc.autoResume = s.shc.autoResume ∧
    (enterStandby s).pnp.resp = s.pnp.resp ∧ (enterStandby s).pnp.cfg = s.pnp.cfg ∧
    (enterStandby s).pnp.store = s.pnp.store ∧ (enterStandby s).pnp.load = s.pnp.load ∧
    (enterStandby s).pnp.hoursWrite = s.pnp.hoursWrite ∧ (enterStandby s).pnp.hoursWaiting = s.pnp.hoursWaiting ∧
    (enterStandby s).pnp.memPresent = s.pnp.memPresent ∧ (enterStandby s).pnp.idleSetting = s.pnp.idleSetting := by
  (unfold enterStandby; (try dsimp only); (repeat' split) <;> simp_all)

@[simp] theorem readOut_frame (n : Nat) (s : State) :
    (readOut n s).pending = s.pending ∧ (readOut n s).pins = s.pins ∧ (readOut n s).mem = s.mem ∧
    (readOut n s).tru = s.tru ∧ (readOut n s).csq = s.csq ∧ (readOut n s).sar = s.sar ∧ (readOut n s).lmc = s.lmc ∧
    (readOut n s).dkc = s.dkc ∧ (readOut n s).cdc = s.cdc ∧ (readOut n s).crn = s.crn ∧ (readOut n s).shc = s.shc ∧
    (readOut n s).rmi = s.rmi ∧ (readOut n s).lkc = s.lkc ∧ (readOut n s).pnp.power = s.pnp.power ∧
    (readOut n s).pnp.cfg = s.pnp.cfg ∧ (readOut n s).pnp.store = s.pnp.store ∧
    (readOut n s).pnp.load = s.pnp.load ∧ (readOut n s).pnp.hoursWrite = s.pnp.hoursWrite ∧
    (readOut n s).pnp.hoursWaiting = s.pnp.hoursWaiting ∧ (readOut n s).pnp.memPresent = s.pnp.memPresent ∧
    (readOut n s).pnp.idleSetting = s.pnp.idleSetting ∧ (readOut n s).pnp.event = s.pnp.event := by
  (unfold readOut; (try dsimp only); (repeat' split) <;> simp_all)

@[simp] theorem endStore_frame (v : Settings) (n : Nat) (s : State) :
    (endStore v n s).pending = s.pending ∧ (endStore v n s).pins = s.pins ∧ (endStore v n s).psdo = s.psdo ∧
    (endStore v n s).tru = s.tru ∧ (endStore v n s).csq = s.csq ∧ (endStore v n s).sar = s.sar ∧
    (endStore v n s).lmc = s.lmc ∧ (endStore v n s).dkc = s.dkc ∧ (endStore v n s).cdc = s.cdc ∧
    (endStore v n s).crn = s.crn ∧ (endStore v n s).shc = s.shc ∧ (endStore v n s).rmi = s.rmi ∧
    (endStore v n s).lkc = s.lkc ∧ (endStore v n s).pnp.power = s.pnp.power ∧
    (endStore v n s).pnp.resp = s.pnp.resp ∧ (endStore v n s).pnp.cfg = s.pnp.cfg ∧
    (endStore v n s).pnp.load = s.pnp.load ∧ (endStore v n s).pnp.hoursWrite = s.pnp.hoursWrite ∧
    (endStore v n s).pnp.hoursWaiting = s.pnp.hoursWaiting ∧ (endStore v n s).pnp.memPresent = s.pnp.memPresent ∧
    (endStore v n s).pnp.idleSetting = s.pnp.idleSetting := by
  (unfold endStore; (try dsimp only); (repeat' split) <;> simp_all)

@[simp] theorem tick_frame (s : State) :
    (tick s).pending = s.pending ∧ (tick s).pins = s.pins ∧ (tick s).psdo = s.psdo ∧ (tick s).mem = s.mem ∧
    (tick s).shc = s.shc := by
  (unfold tick; (try dsimp only); (repeat' split) <;> simp_all)

end Sys2Proof.Machine
end

