-- ==== Sys2Proof/Laws/Receiver.lean ====
section
/-! SUPPORT. What the link's receiver can do: a character gathered, a frame judged, and what a frame leaves. -/

namespace Sys2Proof.Machine

/-! ## Characters -/

@[simp] theorem LinkRx.gather_waitIdle (c : Byte) (b : Bool) : LinkRx.waitIdle.gather c b = .going .waitIdle := rfl

/-- A receiver that goes on is still in WAIT_IDLE, or has the one character more that has come. -/
theorem LinkRx.gather_going {rx t : LinkRx} {c : Byte} {b : Bool} (h : rx.gather c b = .going t) :
    (rx = .waitIdle ∧ t = .waitIdle) ∨ (b = true ∧ rx = .waitLead ∧ c = 0x7E ∧ t = .inFrame [c])
      ∨ (b = true ∧ ∃ got, rx = .inFrame got ∧ t = .inFrame (got ++ [c])) := by
  revert h
  cases rx <;> simp only [LinkRx.gather] <;> (repeat' split) <;> grind

/-- Only IN_FRAME completes a frame, with a character whose stop bit stands. -/
theorem LinkRx.gather_whole {rx : LinkRx} {c : Byte} {b : Bool} {bs : List Byte} (h : rx.gather c b = .whole bs) :
    b = true ∧ ∃ got, rx = .inFrame got ∧ bs = got ++ [c] ∧ 6 ≤ bs.length := by
  revert h
  cases rx <;> simp only [LinkRx.gather] <;> (repeat' split) <;> grind

/-- In WAIT_IDLE a character keeps the line BUSY and does nothing else. -/
theorem hearChar_waitIdle {s : State} (h : s.lkc.rx = .waitIdle) (c : Byte) (b : Bool) :
    hearChar c b s = setLkc (·.busy 3) s := by
  have same : { s.lkc with rx := .waitIdle } = s.lkc := by rw [← h]
  simp only [hearChar, h, LinkRx.gather_waitIdle, setLkc, same]

theorem takeBytes_sound {bs : List Byte} {f : LinkFrame} (h : LinkFrame.parse bs = some f) (s : State) :
    takeBytes bs s = takeFrame f s := by
  simp [takeBytes, h]

theorem takeBytes_bad {bs : List Byte} (h : LinkFrame.parse bs = none) (s : State) :
    takeBytes bs s = setLkc Lkc.badFrame s := by
  simp [takeBytes, h]

/-! ## Frames -/

/-- A frame leaves what the link's own update and the meaning of its kind leave. -/
theorem onFrame_keeps {α : Type} (g : State → α) {f : State → State} (hl : ∀ k s, g (setLkc k s) = g s)
    (hf : ∀ s, g (f s) = g s) (h : FrameHead) (kind : Byte) (p : List Byte) (s : State) :
    g (onFrame h kind p f s) = g s := by
  unfold onFrame
  split <;> simp only [hl, hf]

theorem unlessStandby_keeps {α : Type} (g : State → α) {f : State → State} (hf : ∀ s, g (f s) = g s) (s : State) :
    g (unlessStandby f s) = g s := by
  unfold unlessStandby
  split <;> simp only [hf]

theorem linkRequest_keeps {α : Type} (g : State → α) {f : State → State × Status} (hf : ∀ s, g (f s).1 = g s)
    (hz : ∀ s, g (idleZero s) = g s) (hc : ∀ s, g (countRefusal .link s) = g s) (c : ReqClass) (s : State) :
    g (linkRequest c f s) = g s := by
  unfold linkRequest sourced
  dsimp only
  (repeat' split) <;> simp only [hf, hz, hc]

/-- A sound frame of any kind leaves what every kind's meaning leaves. -/
theorem takeFrame_keeps {α : Type} (g : State → α) (hl : ∀ k s, g (setLkc k s) = g s)
    (hz : ∀ s, g (idleZero s) = g s) (hc : ∀ s, g (countRefusal .link s) = g s) (hw : ∀ s, g (wakeUp s) = g s)
    (ha : ∀ n s, g (answerAsk n s) = g s) (h1 : ∀ k a f s, g (linkChange k a f s) = g s)
    (h2 : ∀ l f s, g (setLevelByte l f s).1 = g s) (h3 : ∀ s, g (lampOnTaken s).1 = g s)
    (h4 : ∀ s, g (lampOffTaken s).1 = g s) (h5 : ∀ s, g (holdTaken .link s).1 = g s)
    (h6 : ∀ s, g (resumeTaken s).1 = g s) (h7 : ∀ n s, g (offerFrom .link (.step n) s).1 = g s)
    (h8 : ∀ s, g (requestStandby s).1 = g s) (f : LinkFrame) (s : State) : g (takeFrame f s) = g s := by
  unfold takeFrame
  dsimp only
  split
  · exact onFrame_keeps g hl (unlessStandby_keeps g (h1 _ _ _)) _ _ _ s
  · exact onFrame_keeps g hl (unlessStandby_keeps g (linkRequest_keeps g (h2 _ _) hz hc _)) _ _ _ s
  · refine onFrame_keeps g hl (unlessStandby_keeps g (linkRequest_keeps g ?_ hz hc _)) _ _ _ s
    split
    · exact h3
    · exact h4
  · exact onFrame_keeps g hl (unlessStandby_keeps g (linkRequest_keeps g h5 hz hc _)) _ _ _ s
  · exact onFrame_keeps g hl (unlessStandby_keeps g (linkRequest_keeps g h6 hz hc _)) _ _ _ s
  · exact onFrame_keeps g hl (unlessStandby_keeps g (linkRequest_keeps g (h7 _) hz hc _)) _ _ _ s
  · exact onFrame_keeps g hl (ha _) _ _ _ s
  · exact onFrame_keeps g hl (unlessStandby_keeps g (linkRequest_keeps g h8 hz hc _)) _ _ _ s
  · exact onFrame_keeps g hl hw _ _ _ s
  · unfold dataFrame
    split
    · exact onFrame_keeps g hl (unlessStandby_keeps g (hl _)) _ _ _ s
    · rfl

@[simp] theorem takeFrame_frame (f : LinkFrame) (s : State) :
    (takeFrame f s).pending = s.pending ∧ (takeFrame f s).pins = s.pins ∧ (takeFrame f s).psdo = s.psdo
      ∧ (takeFrame f s).mem = s.mem ∧ (takeFrame f s).tru = s.tru ∧ (takeFrame f s).rmi = s.rmi := by
  refine ⟨takeFrame_keeps State.pending ?_ ?_ ?_ ?_ ?_ ?_ ?_ ?_ ?_ ?_ ?_ ?_ ?_ f s,
    takeFrame_keeps State.pins ?_ ?_ ?_ ?_ ?_ ?_ ?_ ?_ ?_ ?_ ?_ ?_ ?_ f s,
    takeFrame_keeps State.psdo ?_ ?_ ?_ ?_ ?_ ?_ ?_ ?_ ?_ ?_ ?_ ?_ ?_ f s,
    takeFrame_keeps State.mem ?_ ?_ ?_ ?_ ?_ ?_ ?_ ?_ ?_ ?_ ?_ ?_ ?_ f s,
    takeFrame_keeps State.tru ?_ ?_ ?_ ?_ ?_ ?_ ?_ ?_ ?_ ?_ ?_ ?_ ?_ f s,
    takeFrame_keeps State.rmi ?_ ?_ ?_ ?_ ?_ ?_ ?_ ?_ ?_ ?_ ?_ ?_ ?_ f s⟩ <;> intros <;> simp

@[simp] theorem hearChar_frame (c : Byte) (b : Bool) (s : State) :
    (hearChar c b s).pending = s.pending ∧ (hearChar c b s).pins = s.pins ∧ (hearChar c b s).psdo = s.psdo
      ∧ (hearChar c b s).mem = s.mem ∧ (hearChar c b s).tru = s.tru ∧ (hearChar c b s).rmi = s.rmi := by
  unfold hearChar takeBytes
  (repeat' split) <;> simp

end Sys2Proof.Machine
end

