-- ==== Sys2Proof/Laws/Timing.lean ====
section
/-! SUPPORT. What 1 ms does to a count, when each timer runs, and what the search for a due command finds. -/

namespace Sys2Proof.Machine

/-! ## Counts of whole units -/

@[simp] theorem msAfter_false (per ms : Nat) : msAfter false per ms = ms := rfl

@[simp] theorem unitDone_false (per ms : Nat) : unitDone false per ms = 0 := rfl

theorem countUp_eq (per units ms : Nat) :
    countUp per units ms = (units + unitDone true per ms, msAfter true per ms) := by
  unfold countUp unitDone msAfter
  by_cases h : ms + 1 < per
  · simp [h, Nat.not_le.mpr h]
  · simp [h, Nat.not_lt.mp h]

theorem countDown_eq (per units ms : Nat) :
    countDown per units ms = (units - unitDone true per ms, msAfter true per ms) := by
  unfold countDown unitDone msAfter
  by_cases h : ms + 1 < per
  · simp [h, Nat.not_le.mpr h]
  · simp [h, Nat.not_lt.mp h]

theorem Press.tick_eq (p : Press) : p.tick = pressedLonger p := by
  unfold Press.tick pressedLonger
  cases p.mode <;> cases p.spent <;> simp

/-! ## The timers of the lamp -/

/-- A sample period opens at 250 ms after an answer (04 R70, log 27). -/
theorem tickSample_eq (l : Lmc) : l.tickSample =
    let opens := decide (250 ≤ l.sampleMs + 1 ∧ l.answered = true)
    { l with sampleMs := if opens then 0 else l.sampleMs + 1, answered := l.answered && !opens } := by
  have cut : l.tickSample = if 250 ≤ l.sampleMs + 1 ∧ l.answered = true then { l with sampleMs := 0, answered := false }
      else { l with sampleMs := l.sampleMs + 1 } := rfl
  rw [cut]
  by_cases h : 250 ≤ l.sampleMs + 1 ∧ l.answered = true
  · rw [if_pos h]; simp [h]
  · rw [if_neg h, decide_eq_false h]; simp

theorem tickCooling_eq (awake : Bool) (l : Lmc) : l.tickCooling awake =
    { l with coolLeft := l.coolLeft - unitDone (l.coolRunning && awake) 1000 l.coolMs
             coolMs := msAfter (l.coolRunning && awake) 1000 l.coolMs } := by
  unfold Lmc.tickCooling
  cases h : (l.coolRunning && awake) <;> simp [countDown_eq]

theorem tickBurning_eq (awake : Bool) (l : Lmc) : l.tickBurning awake =
    { l with
      preheatMs := if l.lamp = .preheat then l.preheatMs + 1 else l.preheatMs
      ramp := if l.lamp = .lit ∧ l.ramp.elapsed < l.ramp.duration then { l.ramp with ms := l.ramp.ms + 1 } else l.ramp
      part := l.part + unitDone (l.lamp = .lit && awake) 1000 l.partMs
      partMs := msAfter (l.lamp = .lit && awake) 1000 l.partMs } := by
  unfold Lmc.tickBurning
  split
  · next h => simp [h]
  · next h => cases awake <;> simp [h, countUp_eq]
  · next h1 h2 =>
    have off : l.lamp ≠ .preheat ∧ l.lamp ≠ .lit := ⟨h1, h2⟩
    simp [off]

/-! ## When a timer runs -/

theorem guardRuns_iff (s : State) : s.guardRuns = true ↔ GuardRuns s := by
  have hot : s.guardRuns = true ↔ s.csq.gate = .seated ∧ s.lmc.lamp = .lit ∧ Config.heatLevel < s.lmc.output
      ∧ s.lmc.cfg.heat ≠ 0 ∧ s.lmc.guardCap = false := by simp [State.guardRuns, and_assoc]
  exact hot

theorem openRuns_iff (s : State) : s.openRuns = true ↔ OpenRuns s := by
  simp [State.openRuns, OpenRuns, and_assoc]

theorem dwellRuns_iff (s : State) : dwellRuns s = true ↔ DwellRuns s := by
  simp [dwellRuns, DwellRuns, and_assoc, Option.isSome_iff_ne_none]

theorem linkOn_iff (s : State) : s.linkOn = true ↔ LinkRuns s := by
  simp [State.linkOn, LinkRuns]

theorem idleRuns_iff (s : State) : s.idleRuns = true ↔ IdleRuns s := by
  simp [State.idleRuns, IdleRuns, and_assoc]

theorem deckActs_iff (s : State) : deckActs s = true ↔ Counting s := by
  simp [deckActs, Counting]

theorem decoderActs_iff (s : State) : decoderActs s = true ↔ Counting s := by
  simp [decoderActs, Counting]

/-! ## What is due -/

/-- The levels and expiries that `due` looks at, in its order. -/
def dueList (s : State) : List (Bool × Instr) :=
  dueNow s ++ dueMechanism s ++ dueLamp s ++ dueDeck s ++ dueCues s ++ dueRemote s ++ dueLink s

/-- What is due is in the list with its condition true. -/
theorem mem_dueList_of_due {s : State} {c : Instr} (h : due s = some c) : (true, c) ∈ dueList s := by
  unfold due at h
  split at h
  · cases h
  · rw [Option.map_eq_some_iff] at h
    obtain ⟨⟨b, d⟩, hf, rfl⟩ := h
    have hb : b = true := List.find?_some hf
    exact hb ▸ List.mem_of_find?_eq_some hf

/-- Nothing is due exactly where no condition of the list is true, PORST being high. -/
theorem due_eq_none_iff {s : State} (h : Powered s) : due s = none ↔ ∀ c, (true, c) ∉ dueList s := by
  unfold due
  rw [if_neg (by simp [h]), Option.map_eq_none_iff, List.find?_eq_none]
  constructor
  · intro hn c hc
    exact hn _ hc rfl
  · rintro hn ⟨b, c⟩ hm hb
    have : b = true := hb
    exact hn c (this ▸ hm)

end Sys2Proof.Machine
end

