-- ==== Sys2Proof/Laws/Tray.lean ====
section
/-! SUPPORT. What a search of the tray map finds (01 R11): a search of `n` positions, and the steps of ADVANCE and
REVERSE one after the other. -/

namespace Sys2Proof.Machine

/-- The position `k` steps onward or backward of `p`, round the 100 positions. -/
def stepsFrom (forward : Bool) (p k : Nat) : Nat := (if forward then p + k else p + 99 * k) % 100

theorem stepFrom_eq (forward : Bool) (p : Nat) : stepFrom forward p = stepsFrom forward p 1 := by
  cases forward <;> simp [stepFrom, stepsFrom, Config.positions]

theorem stepsFrom_stepFrom (forward : Bool) (p k : Nat) :
    stepsFrom forward (stepFrom forward p) k = stepsFrom forward p (k + 1) := by
  cases forward <;> simp only [stepFrom, stepsFrom, Config.positions] <;> simp <;> omega

/-- A search finds the first eligible position of those it looks at. -/
theorem search_eq_some_iff (t : Tru) (forward : Bool) (n p q : Nat) :
    t.search forward n p = some q ↔
      ∃ k, 1 ≤ k ∧ k ≤ n ∧ q = stepsFrom forward p k ∧ t.eligible q = true
        ∧ ∀ j < k, 1 ≤ j → t.eligible (stepsFrom forward p j) = false := by
  induction n generalizing p with
  | zero =>
    simp only [Tru.search, reduceCtorEq, false_iff]
    rintro ⟨k, h1, h2, -⟩
    omega
  | succ n ih =>
    have first : stepsFrom forward p 1 = stepFrom forward p := (stepFrom_eq forward p).symm
    simp only [Tru.search]
    split
    · next h =>
      constructor
      · intro hq
        cases hq
        exact ⟨1, by omega, by omega, stepFrom_eq forward p, h, fun j hj hj' => by omega⟩
      · rintro ⟨k, h1, h2, rfl, -, hall⟩
        by_cases hk : k = 1
        · subst hk; rw [first]
        · have := hall 1 (by omega) (by omega)
          rw [first, h] at this
          cases this
    · next h =>
      rw [ih]
      constructor
      · rintro ⟨k, h1, h2, hq, he, hall⟩
        refine ⟨k + 1, by omega, by omega, by rw [hq, stepsFrom_stepFrom], he, fun j hj hj' => ?_⟩
        by_cases h1' : j = 1
        · subst h1'; rw [first]; simpa using h
        · have := hall (j - 1) (by omega) (by omega)
          rwa [stepsFrom_stepFrom, show j - 1 + 1 = j by omega] at this
      · rintro ⟨k, h1, h2, hq, he, hall⟩
        have hk : k ≠ 1 := by
          rintro rfl
          rw [hq, first] at he
          exact h he
        refine ⟨k - 1, by omega, by omega, ?_, he, fun j hj hj' => ?_⟩
        · rw [hq, stepsFrom_stepFrom, show k - 1 + 1 = k by omega]
        · rw [stepsFrom_stepFrom]
          exact hall (j + 1) (by omega) (by omega)

/-- A search finds nothing exactly where none of the positions it looks at is eligible. -/
theorem search_eq_none_iff (t : Tru) (forward : Bool) (n p : Nat) :
    t.search forward n p = none ↔ ∀ k, 1 ≤ k → k ≤ n → t.eligible (stepsFrom forward p k) = false := by
  induction n generalizing p with
  | zero => simp only [Tru.search, true_iff]; intro k _ _; omega
  | succ n ih =>
    simp only [Tru.search]
    constructor
    · split
      · intro h; cases h
      · next h =>
        intro hn k h1 h2
        by_cases hk : k = 1
        · subst hk; rw [← stepFrom_eq]; simpa using h
        · have := (ih _).mp hn (k - 1) (by omega) (by omega)
          rwa [stepsFrom_stepFrom, show k - 1 + 1 = k by omega] at this
    · intro hall
      have h1 := hall 1 (by omega) (by omega)
      rw [← stepFrom_eq] at h1
      simp only [h1]
      rw [if_neg (by decide), ih]
      intro k hk hk'
      rw [stepsFrom_stepFrom]
      exact hall (k + 1) (by omega) (by omega)

/-- One step more than `n` is a search from the position that `n` steps give. -/
theorem nth_succ (t : Tru) (forward : Bool) (n b : Nat) :
    t.nth forward (n + 1) b = (t.nth forward n b).bind (t.search forward 99) := by
  induction n generalizing b with
  | zero => simp only [Tru.nth, Option.bind_some]; split <;> simp_all [Config.positions]
  | succ n ih =>
    rw [Tru.nth]
    conv_rhs => rw [Tru.nth]
    split
    · exact ih _
    · rfl

end Sys2Proof.Machine
end

