-- ==== Sys2Proof/Tests/Slice0.lean ====
section
/-! SUPPORT. Our own tests: ill-formed terms that the check refuses, frames, the examples of the manual, and for each
statement a state and operands that meet its hypotheses. -/

namespace Sys2Proof.Tests

open Sys2Proof Sys2Proof.Machine

set_option maxRecDepth 20000

theorem okOf {e : Except Status Nat} {q : Nat} (h : e.toOption = some q) : e = .ok q := by
  cases e <;> simp_all [Except.toOption]

theorem errorOf {e : Except Status Nat} {st : Status}
    (h : (match e with | .error x => some x | .ok _ => none) = some st) : e = .error st := by
  cases e <;> simp_all

/-- The state of an outcome; the reset state where there is none. -/
def after : Host.Outcome State Fault Refusal → State
  | .next s => s
  | _ => State.reset

/-- A change in flight from the panel with a tray in place. -/
def moving (p target : Nat) (d : Direction) : State :=
  { State.reset with
    tru := { State.reset.tru with present := true, position := some p }
    csq := { State.reset.csq with state := .indexing, gate := .empty
                                  flight := some ⟨.advance, .panel, target, 5, d, 0, 99, false, true, false, 1⟩ } }

/-! ## Well-formedness refuses -/

theorem test_wf_accepts : (Instr.wf (.writeStep 1 (List.replicate 16 0)) && Instr.wf (.linkChangeFrame ⟨8, 3, 0x41⟩ 1 1 5)
    && Instr.wf (.sendLink 0x80 9 2 [1, 2]) && Instr.wf (.storeComplete 3526) && Instr.wf .readId) = true := by decide

theorem test_wf_refuses_stepLength : Instr.wf (.writeStep 1 [0]) = false := by decide
theorem test_wf_refuses_keyCode : Instr.wf (.keyRepeatExpiry 64) = false := by decide
theorem test_wf_refuses_noPulses :
    (Instr.wf (.irFrame []) || Instr.wf (.irRepeat []) || Instr.wf (.irFrameDrop [])) = false := by decide
theorem test_wf_refuses_focusStopAsFocus : Instr.wf (.focus 0 5) = false := by decide
theorem test_wf_refuses_level : Instr.wf (.linkHoldFrame ⟨16, 3, 0x80⟩) = false := by decide
theorem test_wf_refuses_source : Instr.wf (.linkHoldFrame ⟨8, 15, 0x80⟩) = false := by decide
theorem test_wf_refuses_nodeFifteen : Instr.wf (.linkResumeFrame ⟨8, 3, 15⟩) = false := by decide
theorem test_wf_refuses_groupZero : Instr.wf (.linkStandbyFrame ⟨8, 3, 0x40⟩) = false := by decide
theorem test_wf_refuses_groupNine : Instr.wf (.linkWakeFrame ⟨8, 3, 0x49⟩) = false := by decide
theorem test_wf_refuses_destType : Instr.wf (.frameNotAccepted ⟨8, 3, 0xC0⟩) = false := by decide
theorem test_wf_refuses_changeKind : Instr.wf (.linkChangeFrame ⟨8, 3, 0x80⟩ 5 1 5) = false := by decide
theorem test_wf_refuses_lampValue : Instr.wf (.linkLampFrame ⟨8, 3, 0x80⟩ 2) = false := by decide
theorem test_wf_refuses_stepNumber :
    (Instr.wf (.linkStepFrame ⟨8, 3, 0x80⟩ 0) || Instr.wf (.linkStepFrame ⟨8, 3, 0x80⟩ 255)) = false := by decide
theorem test_wf_refuses_answerKind : Instr.wf (.linkStateOrDataFrame ⟨8, 3, 0x80⟩ 1 [1, 1, 5]) = false := by decide
theorem test_wf_refuses_stateLength : Instr.wf (.linkStateOrDataFrame ⟨8, 3, 0x80⟩ 8 [1]) = false := by decide
theorem test_wf_refuses_ownKind : Instr.wf (.ownAddressFrame 0x80 12 []) = false := by decide
theorem test_wf_refuses_sendLength : Instr.wf (.sendLink 0x80 9 2 [1]) = false := by decide
theorem test_wf_refuses_unknownRead :
    (Instr.wf (.unknownCommand []) || Instr.wf (.unknownCommand [0, 1])) = false := by decide
theorem test_wf_refuses_storeCount : Instr.wf (.storeComplete 3527) = false := by decide
theorem test_wf_refuses_hoursCount : Instr.wf (.hoursWriteComplete 5) = false := by decide

/-! ## Panel frames (11 Tables 11.2, 11.3, 11.11) -/

theorem test_frame_readId : panelDecode false [0x01, 0x00] = .readId := by decide
theorem test_frame_seek : panelDecode false [0x22, 0x02, 0x2F, 0xFF] = .seek 47 0xFF := by decide
theorem test_frame_setSlot : panelDecode false [0x10, 0x03, 0x02, 0x05, 0x01] = .setSlot 2 5 1 := by decide
theorem test_frame_extraBytesIgnored : panelDecode false [0x22, 0x02, 0x2F, 0xFF, 0x55] = .seek 47 0xFF := by decide
theorem test_frame_shortPayload : panelDecode false [0x22, 0x01, 0x2F] = .unknownCommand [0x22, 0x01, 0x2F] := by decide
theorem test_frame_setSource :
    panelDecode false [0x25, 0x0A, 3, 1, 3, 15, 0, 99, 255, 2, 2, 14] = .setSource 3 ⟨1, 3, 15, 0, 99, 255, 2, 2, 14⟩ := by
  decide
theorem test_frame_read : panelDecode false [0x00, 0xAA, 0xAA] = .panelRead 2 := by decide
theorem test_no_word_spells_a_command : decodeTableWord 8 1 = none := by decide

/-! ## Reset and the empty queue -/

theorem test_reset_is_powerOn_of_a_blank_memory :
    after (exec (.powerOnReset true) State.reset)
      = { State.reset with pnp := { (after (exec (.powerOnReset true) State.reset)).pnp with
          memPresent := State.reset.pnp.memPresent } } := by decide
theorem test_emptyQueue_timePasses : (after (step State.reset)).lmc.sampleMs = 1 := by decide

/-! ## The tray (01) -/

theorem test_missedPulse_homeCorrects :
    let t := after (exec .homePulse (moving 98 2 .forward))
    (t.tru.position, t.pnp.faults.traySlip, t.csq.state) = (some 0, true, .indexing) := by decide

theorem test_spuriousPulse_stalls :
    let t := after (exec .indexPulse (moving 99 2 .forward))
    (t.tru.position, t.pnp.faults.traySlip, t.pnp.faults.trayStall, t.csq.state) = (none, true, true, .stalled) := by
  decide

/-- The map of Table 1.6. -/
def excerpt (skipEmpty : Bool) : Tru :=
  { State.reset.tru with
    present := true, position := some 97, cfg := ⟨2, skipEmpty⟩
    map := [⟨.empty, false, 0, false⟩, ⟨.slide, false, 2, true⟩, ⟨.empty, false, 0, false⟩, ⟨.unknown, false, 0, false⟩,
        ⟨.slide, false, 0, false⟩] ++ List.replicate 92 SlotRec.cleared
      ++ [⟨.slide, false, 0, false⟩, ⟨.slide, true, 0, false⟩, ⟨.slide, false, 0, false⟩] }

theorem test_table_1_7 :
    ((excerpt true).resolve .advance 3 97).toOption = some 4 ∧ ((excerpt false).resolve .advance 3 97).toOption = some 3
    ∧ ((excerpt false).resolve .advance 1 97).toOption = some 99
    ∧ ((excerpt true).resolve .reverse 2 3).toOption = some 97
    ∧ ((excerpt true).resolve .seek 1 97).toOption = none ∧ ((excerpt true).resolve .seek 2 97).toOption = some 2
    ∧ [2, 47, 50].map (seekDirection 97) = [.forward, .forward, .reverse] := by decide

/-! ## Levels and hours (04, 05) -/

theorem test_lampRamp : [1, 4, 8].map (fun e => (Ramp.level ⟨255, 55, 8, e, 0⟩)) = [230, 155, 55] := by decide
theorem test_audioFade : [1, 3, 10, 12, 20].map (fun e => (Ramp.level ⟨0, 30, 20, e, 0⟩)) = [1, 4, 15, 18, 30] := by
  decide
theorem test_derateCap :
    ({ State.reset.lmc with lamp := .lit, derate := true, ramp := ⟨160, 0, 10, 5, 0⟩ } : Lmc).output = 80 := by decide
theorem test_hours :
    (after (exec .lampHoursTick { State.reset with lmc := { State.reset.lmc with lamp := .lit, part := 359 } })).lmc.hours
      = 1 := by decide

/-- A lamp that is LIT with output, its open timer at `ms`. -/
def burning (ms : Nat) (lcur : Bool) : State :=
  { State.reset with
    pins := { State.reset.pins with lcur }
    lmc := { State.reset.lmc with lamp := .lit, ramp := .still 200, openMs := ms } }

theorem test_current_holds_the_open_timer :
    (after (exec (.lcurActive true) (burning 1999 false))).lmc.openMs = 0
    ∧ (after (exec .lampOpenDetect (burning 1999 true))).lmc.lamp = .lit
    ∧ (after (exec .lampOpenDetect (burning 1999 false))).lmc.lamp ≠ .lit := by decide

/-! ## Words, cues and link frames (06, 10) -/

/-- Table 6.4 note 1: a run that has reached hold-min is a HOLD, whatever ends it. -/
theorem test_pulse_at_holdMin :
    let t := after (exec .edgeWatchExpiry { State.reset with
      cdc := { State.reset.cdc with tone := .toneA, pulse := .measuring 3000 250 1500 3000 } })
    (t.cdc.last, t.cdc.flags.holdSeen, t.cdc.flags.long, t.cdc.pulse) = (.hold, true, false, .none) := by decide

/-- Node 2 with all bytes but the check of a LEVEL frame for FEh. -/
def almostHeard : State :=
  { State.reset with
    sar := { State.reset.sar with sources := { State.reset.sar.sources with
      link := { State.reset.sar.sources.link with enable := true, lamp := true } } }
    lkc := { State.reset.lkc with
      enable := true, node := 2, rx := .inFrame [0x7E, 0x81, 0x02, 0x02, 0x02, 0xFE, 0x14] } }

theorem test_checkByte_completes_the_frame :
    let t := after (exec (.lineBusy 0xE9 true) almostHeard)
    let u := after (exec (.lineBusy 0xE8 true) almostHeard)
    (t.lkc.rx, t.lmc.showLevel, t.lkc.rxError, u.lkc.rx, u.lkc.rxError) = (.waitIdle, 254, false, .waitIdle, true) := by
  decide

/-! ## Wired lines (09) -/

theorem test_first_reading_is_no_event :
    let t := after (exec (.wiredLineChange .fwd true) State.reset)
    (t.rmi.fwd.pressed, t.rmi.fwd.pressedChg, t.rmi.fwd.reading) = (true, false, .watched) := by decide

/-! ## A word and a frame to the bit -/

/-- Word 45 with its parity sampled, at the stop element of Table 6.6. -/
def word45 : State :=
  { State.reset with
    cdc := { State.reset.cdc with tone := .toneA, word := .stop, wordParity := .even, element := 0
                                  bits := [true, false, true, true, false, true, false, false] }
    shc := { State.reset.shc with phase := .running } }

theorem test_word45 :
    let t := after (exec .wordCue word45)
    (t.cdc.last, t.cdc.word, t.crn.queue.map (fun k => (k.origin, k.kind))) = (.step 45, .idle, [(.tape, .step 45)]) := by
  decide

theorem test_linkFrame_example :
    LinkFrame.bytes ⟨8, 1, 2, 2, [0xFF, 0x14]⟩ = [0x7E, 0x81, 0x02, 0x02, 0x02, 0xFF, 0x14, 0xE8]
    ∧ LinkFrame.parse [0x7E, 0x81, 0x02, 0x02, 0x02, 0xFF, 0x14, 0xE8] = some ⟨8, 1, 2, 2, [0xFF, 0x14]⟩
    ∧ LinkFrame.parse [0x7E, 0x81, 0x02, 0x02, 0x02, 0xFF, 0x14, 0xE9] = none := by decide

/-! ## A memory that holds an image -/

/-- The image of the built-in settings, as a whole STORE leaves it. -/
def sampleImage : Memory :=
  Memory.holding 0 (imageHeader Settings.builtIn.checked ++ (Settings.builtIn.checked ++ hoursBytes 0))

theorem checked_length : Settings.builtIn.checked.length = 3512 := by decide

theorem builtIn_parses : Settings.parse Settings.builtIn.checked 0 = some Settings.builtIn := by decide

theorem sampleImage_read : imageRead true sampleImage = some Settings.builtIn := by
  have h := Memory.readFrom_holding 0 (imageHeader Settings.builtIn.checked ++ (Settings.builtIn.checked ++ hoursBytes 0))
  rw [List.length_append, List.length_append, checked_length] at h
  have h1 := Memory.readFrom_take h rfl
  have h2 := Memory.readFrom_take h1.2 checked_length
  refine imageRead_of h1.1 h2.1 ?_
  rw [show imageHours sampleImage = 0 from imageHours_of h2.2]
  exact builtIn_parses

/-! ## A pending change starts with the event that lets it (03 R58, R59) -/

/-- A tenure of REMOTE holds up a SEEK of PANEL to slot 7. -/
def heldUp : State :=
  { State.reset with
    tru := { State.reset.tru with present := true, position := some 5, map := Tru.clearedMap }
    sar := { State.reset.sar with holder := some .remote, tenureLeft := 1, waiting := some ⟨.panel, .seek, 0, 7, 5⟩
                                  sources := { State.reset.sar.sources with
                                    panel := { State.reset.sar.sources.panel with priority := 2 } } } }

theorem test_tenureExpiry_starts_the_pending_change :
    let t := after (exec .tenureExpiry heldUp)
    (t.csq.state.active, t.csq.flight.map (·.target), t.sar.waiting, t.sar.holder) = (true, some 7, none, none) := by decide

theorem test_a_request_after_the_expiry_meets_CSQ_busy :
    let t := after (exec (.advance 1 5) (after (exec .tenureExpiry heldUp)))
    (t.csq.flight.map (·.target), t.sar.waiting.map (·.target)) = (some 7, some 8) := by decide

theorem test_load_keeps_the_heat_guard :
    let t := applyImage { Settings.builtIn with lamp := { Settings.builtIn.lamp with heat := 0 } }
      { State.reset with lmc := { State.reset.lmc with guardCap := true, guardElapsed := 9 } }
    (t.lmc.cfg.heat, t.lmc.guardCap, t.lmc.guardElapsed) = (0, true, 9) := by decide

/-! ## Bytes that a table does not name (07 R122, 09 R155) -/

theorem test_setKey_refuses_an_unknown_action :
    ((after (exec (.setKey 5 0x12 0) State.reset)).pnp.resp.map (·.status),
      (after (exec (.setKey 5 0x2A 0) State.reset)).pnp.resp.map (·.status)) = (some .badArg, some .badArg) := by decide

theorem test_writeStep_refuses_an_unknown_action :
    ((after (exec (.writeStep 1 (1 :: 5 :: List.replicate 14 0)) State.reset)).pnp.resp.map (·.status),
      (after (exec (.writeStep 1 (1 :: 3 :: 100 :: List.replicate 13 0)) State.reset)).pnp.resp.map (·.status))
      = (some .badArg, some .badArg) := by decide

/-! ## The hypotheses of the statements are met -/

theorem test_hyps_AnEmptyQueueTakesWhatIsDue :
    (∃ s : State, s.pending = [] ∧ due s = some .cueTake) ∧ (∃ s : State, s.pending = [] ∧ due s = none)
    ∧ (∃ s : State, s.pins.porstLow = true) ∧ (∃ s : State, Powered s ∧ Counting s ∧ s.pnp.power ≠ .resetHeld ∧ LinkRuns s)
    ∧ (∃ s : State, Powered s ∧ ¬ Counting s ∧ s.pnp.power = .resetHeld ∧ ¬ LinkRuns s)
    ∧ (∃ s : State, Powered s ∧ ¬ Counting s ∧ s.pnp.power ≠ .resetHeld) :=
  ⟨⟨{ State.reset with
        crn := { State.reset.crn with queue := [⟨.tape, .next, 0⟩] }
        shc := { State.reset.shc with phase := .running } }, by decide⟩,
   ⟨State.reset, by decide⟩, ⟨{ State.reset with pins := { State.reset.pins with porstLow := true } }, by decide⟩,
   ⟨State.reset, by decide⟩, ⟨{ State.reset with pnp := { State.reset.pnp with power := .resetHeld } }, by decide⟩,
   ⟨{ State.reset with pnp := { State.reset.pnp with power := .standby } }, by decide⟩⟩

/-! A state per limit: the row named is what is due with the count at the first number, and not at the second. -/

def atSeq (f : Csq → Csq) : State := { State.reset with csq := f State.reset.csq }
def atLamp (f : Lmc → Lmc) : State := { State.reset with lmc := f { State.reset.lmc with answered := true } }
def atDeck (f : Dkc → Dkc) : State := { State.reset with dkc := f { State.reset.dkc with stopPulse := none } }
def atCues (f : Cdc → Cdc) : State := { State.reset with cdc := f State.reset.cdc }
def atRemote (f : Rmi → Rmi) : State := { State.reset with rmi := f State.reset.rmi }
def atLink (f : Lkc → Lkc) : State := { State.reset with lkc := f { State.reset.lkc with node := 3 } }

/-- The row is due at the first number and not at the second. -/
def dueFrom (row : Instr × Nat × Nat × (Nat → State)) : Bool :=
  due (row.2.2.2 row.2.1) = some row.1 && due (row.2.2.2 row.2.2.1) != some row.1

theorem test_limits_mechanism : ([
    (.trayInsertion, 50, 49, fun n => { State.reset with
      pins := { State.reset.pins with tprs := true }, tru := { State.reset.tru with readingMs := n } }),
    (.liftTimeout, 500, 499, fun n => atSeq ({ · with drive := .lift, timerMs := n })),
    (.liftRetryDropEnd, 500, 499, fun n => atSeq ({ · with drive := .retryDrop, timerMs := n })),
    (.dropTimeout, 500, 499, fun n => atSeq ({ · with drive := .drop, timerMs := n })),
    (.stepTimeout, 300, 299, fun n => atSeq ({ · with state := .indexing, timerMs := n })),
    (.shutterTimeout, 200, 199, fun n => atSeq ({ · with state := .blanking, shutMs := some n })),
    (.tenureExpiry, 0, 1, fun n => { State.reset with
      sar := { State.reset.sar with holder := some .panel, tenureLeft := n } })] : List _).all dueFrom = true := by decide

theorem test_limits_lamp : ([
    (.temperatureSample none, 250, 249, fun n => atLamp ({ · with answered := false, sampleMs := n })),
    (.preheatExpiry, 300, 299, fun n => atLamp ({ · with lamp := .preheat, preheatMs := n })),
    (.coolingTimerExpiry, 0, 1, fun n => atLamp ({ · with lamp := .cooling, coolRunning := true, coolLeft := n })),
    (.lampRampTick, 100, 99, fun n => atLamp ({ · with lamp := .lit, ramp := ⟨0, 9, 9, 0, n⟩ })),
    (.lampOpenDetect, 100, 99, fun n => atLamp ({ · with lamp := .lit, ramp := .still 1, openMs := n })),
    (.heatGuardExpiry, 9, 8, fun n => { State.reset with
      csq := { State.reset.csq with gate := .seated }
      lmc := { State.reset.lmc with
        lamp := .lit, ramp := .still 201, guardElapsed := n, cfg := { State.reset.lmc.cfg with heat := 9 } } }),
    (.fanStallExpiry, 2000, 1999, fun n => atLamp ({ · with stallMs := n })),
    (.lampHoursTick, 360, 359, fun n => atLamp ({ · with lamp := .lit, part := n }))] : List _).all dueFrom = true := by
  decide

theorem test_limits_deck : ([
    (.stopPulseEnd, 100, 99, fun n => atDeck ({ · with stopPulse := some n })),
    (.startTimeout, 2000, 1999, fun n => atDeck ({ · with deck := .starting, timerMs := n })),
    (.stallTimeout, 500, 499, fun n => atDeck ({ · with deck := .playing, stall := some n })),
    (.pauseTimeout, 1000, 999, fun n => atDeck ({ · with deck := .pausing, timerMs := n })),
    (.showClockTick, 100, 99, fun n => atDeck ({ · with deck := .playing, clockMs := n })),
    (.audioRampTick, 100, 99, fun n => atDeck ({ · with audio := ⟨0, 9, 9, 0, n⟩ }))] : List _).all dueFrom = true := by
  decide

theorem test_limits_cues : ([
    (.holdMinReached, 300, 299, fun n => atCues ({ · with pulse := .measuring n 25 150 300 })),
    (.edgeWatchExpiry, 3, 2, fun n => atCues ({ · with risen := true, watchMs := n })),
    (.wordStartCheck, 10, 9, fun n => atCues ({ · with word := .startCheck, elementMs := 20, wordMs := n })),
    (.wordElementSample, 30, 29, fun n => atCues ({ · with word := .data, element := 0, elementMs := 20, wordMs := n })),
    (.wordElementSample, 190, 189, fun n => atCues ({ · with word := .parity, elementMs := 20, wordMs := n })),
    (.wordCue, 190, 189, fun n => atCues ({ · with word := .stop, wordParity := .none, elementMs := 20, wordMs := n })),
    (.wordCue, 210, 209, fun n => atCues ({ · with word := .stop, wordParity := .even, elementMs := 20, wordMs := n })),
    (.dwellExpiry, 0, 1, fun n => { State.reset with
      crn := { State.reset.crn with dwell := some n }, shc := { State.reset.shc with phase := .running } })]
    : List _).all dueFrom = true := by decide

theorem test_limits_remote : ([
    (.wiredLineChange .fwd false, 20, 19, fun n => atRemote (fun r => { r with fwd := { r.fwd with reading := .first n } })),
    (.irReleaseTimeout, 200, 199, fun n => atRemote ({ · with irHeld := some 5, irReleaseMs := n })),
    (.digitTimeout, 3000, 2999, fun n => atRemote ({ · with digit := some 5, digitMs := n })),
    (.keyRepeatExpiry 63, 200, 199, fun n => atRemote (fun r => { r with
      fout := { r.fout with press := some ⟨.advance, .auto 2, n, false⟩ } })),
    (.keyRepeatExpiry 5, 200, 199, fun n => atRemote ({ · with
      irHeld := some 5, irPress := some ⟨.advance, .auto 2, n, false⟩ })),
    (.focusTimedEnd, 0, 1, fun n => atRemote ({ · with focus := .run true (.timed n) 9 })),
    (.focusRunLimit, 8000, 7999, fun n => atRemote ({ · with focus := .run true (.key 62) n }))]
    : List _).all dueFrom = true := by decide

theorem test_limits_link : ([
    (.lineIdle, 0, 1, fun n => atLink ({ · with idleInUs := n })),
    (.frameSent, 0, 1, fun n => atLink ({ · with access := .sending, sendUs := n })),
    (.frameSendStart, 9 * 521, 9 * 521 - 1, fun n => atLink (fun l => { l with
      access := .waitSlots, lineIdle := true, txq := [⟨8, 3, 128, 9, []⟩], idleForUs := n
      cfg := { l.cfg with rate := 1, level := 8 } })),
    (.frameSendStart, 13 * 174, 13 * 174 - 1, fun n => atLink (fun l => { l with
      access := .waitSlots, lineIdle := true, txq := [⟨8, 3, 128, 9, []⟩], idleForUs := n, retry := 1
      cfg := { l.cfg with rate := 3, level := 8 } })),
    (.idleTimerExpiry, 120, 119, fun n => { State.reset with
      pnp := { State.reset.pnp with idleSetting := 2, idleElapsed := n } })] : List _).all dueFrom = true := by decide

theorem test_hyps_WhilePorstIsLow :
    ∃ (c : Instr) (s : State), s.pins.porstLow = true ∧ ∀ a, c ≠ .powerOnReset a :=
  ⟨.readId, { State.reset with pins := { State.reset.pins with porstLow := true } }, by decide⟩

theorem test_hyps_RefusedInStandbyAndResetHold :
    (∃ (c : Instr) (s : State), (panelParts c).isSome = true ∧ Powered s ∧ s.pnp.power = .standby
      ∧ c ∉ [.wake, .readStatus, .readAttention, .readId, .lampOn] ∧ ∀ a, c ≠ .resetControl a ∧ c ≠ .resetHold a)
    ∧ (∃ (c : Instr) (s : State), (panelParts c).isSome = true ∧ Powered s ∧ s.pnp.power = .resetHeld
      ∧ c ∉ [.readStatus, .readId] ∧ ∀ a, c ≠ .release a) :=
  ⟨⟨.lampOff, { State.reset with pnp := { State.reset.pnp with power := .standby } }, by decide⟩,
   ⟨.wake, { State.reset with pnp := { State.reset.pnp with power := .resetHeld } }, by decide⟩⟩

theorem test_hyps_FinishSetsTheFanAndTheIdleTimer :
    (∃ s : State, s.pnp.power = .standby) ∧ (∃ s : State, s.pnp.power ≠ .standby ∧ s.lmc.temp = none)
    ∧ (∃ s : State, s.pnp.power ≠ .standby ∧ s.lmc.temp = some 85 ∧ s.lmc.cfg.warn ≤ 85)
    ∧ (∃ s : State, s.pnp.power ≠ .standby ∧ s.lmc.temp = some 44 ∧ s.lmc.lamp = .off ∧ 44 < s.lmc.cfg.warn)
    ∧ (∃ s : State, s.pnp.power ≠ .standby ∧ s.lmc.temp = some 45 ∧ s.lmc.lamp = .off ∧ 45 < s.lmc.cfg.warn)
    ∧ (∃ s : State, s.pnp.power ≠ .standby ∧ s.lmc.temp = some 84 ∧ s.lmc.lamp = .lit ∧ 84 < s.lmc.cfg.warn
      ∧ s.lmc.output ≤ 160)
    ∧ (∃ s : State, s.pnp.power ≠ .standby ∧ s.lmc.temp = some 84 ∧ s.lmc.lamp = .preheat ∧ 84 < s.lmc.cfg.warn)
    ∧ (∃ s : State, s.pnp.power ≠ .standby ∧ s.lmc.temp = some 44 ∧ s.lmc.lamp = .fault ∧ s.lmc.coolDone = true
      ∧ 44 < s.lmc.cfg.warn)
    ∧ (∃ s : State, s.pnp.power ≠ .standby ∧ s.lmc.temp = some 45 ∧ s.lmc.lamp = .fault ∧ s.lmc.coolDone = true
      ∧ 45 < s.lmc.cfg.warn)
    ∧ (∃ s : State, s.lmc.lamp = .lit ∧ 0 < s.lmc.output ∧ s.pins.lcur = false ∧ s.lmc.openMs = 1999) :=
  ⟨⟨{ State.reset with pnp := { State.reset.pnp with power := .standby } }, by decide⟩, ⟨State.reset, by decide⟩,
   ⟨{ State.reset with lmc := { State.reset.lmc with temp := some 85 } }, by decide⟩,
   ⟨{ State.reset with lmc := { State.reset.lmc with temp := some 44 } }, by decide⟩,
   ⟨{ State.reset with lmc := { State.reset.lmc with temp := some 45 } }, by decide⟩,
   ⟨{ State.reset with lmc := { State.reset.lmc with temp := some 84, lamp := .lit, ramp := .still 160 } }, by decide⟩,
   ⟨{ State.reset with lmc := { State.reset.lmc with temp := some 84, lamp := .preheat } }, by decide⟩,
   ⟨{ State.reset with lmc := { State.reset.lmc with temp := some 44, lamp := .fault, coolDone := true } }, by decide⟩,
   ⟨{ State.reset with lmc := { State.reset.lmc with temp := some 45, lamp := .fault, coolDone := true } }, by decide⟩,
   ⟨{ State.reset with lmc := { State.reset.lmc with lamp := .lit, ramp := .still 1, openMs := 1999 } }, by decide⟩⟩

theorem test_hyps_StorageKeepsItsForm :
    (∃ s t : State, MemoryCanonical s ∧ step s = .next t) ∧ (∃ s t : State, TablesSound s ∧ step s = .next t) :=
  ⟨⟨State.reset, _, by decide, rfl⟩, ⟨State.reset, _, by decide, rfl⟩⟩

theorem test_hyps_SeatedOriginIsThePosition : ∃ s t : State, GateSound s ∧ step s = .next t :=
  ⟨moving 3 4 .forward, _, by decide, rfl⟩

theorem test_hyps_HoldCausesAndDeckStayConsistent :
    (∃ s t : State, TransportCauseExact s ∧ step s = .next t) ∧ (∃ s t : State, ShowSound s ∧ step s = .next t)
    ∧ (∃ s t : State, DeckCauseExact s ∧ s.dkc.deck = .fault ∧ step s = .next t ∧ t.shc.causes.deck = false) :=
  ⟨⟨State.reset, _, by decide, rfl⟩, ⟨State.reset, _, by decide, rfl⟩,
   { State.reset with
      pending := [.showStop]
      dkc := { State.reset.dkc with deck := .fault }
      shc := { State.reset.shc with phase := .held, causes := { State.reset.shc.causes with deck := true } } },
   _, by decide, rfl, rfl, by decide⟩

theorem test_hyps_MechanismMovesInTheDark :
    (∃ s t : State, DarkWhileMoving s ∧ step s = .next t)
    ∧ ∃ s : State, DarkWhileMoving s
      ∧ (s.outputs.lft = true ∨ s.outputs.drp = true ∨ s.outputs.tdf = true ∨ s.outputs.tdr = true) :=
  ⟨⟨State.reset, _, by decide, rfl⟩,
   { moving 3 4 .forward with
      csq := { (moving 3 4 .forward).csq with state := .lifting, drive := .lift, gate := .seated }
      lmc := { State.reset.lmc with lamp := .lit, claim := .hold, dim := true } }, by decide⟩

theorem test_hyps_MemoryAndPinsChangeOnlyByTheirCommands : ∃ (c : Instr) (s t : State), exec c s = .next t :=
  ⟨.readId, State.reset, _, rfl⟩

theorem test_hyps_RecordsChangeOnlyByTheirCommands :
    ∃ (c : Instr) (s t : State) (f : FaultFlag), exec c s = .next t ∧ s.pnp.faults.set f = s.pnp.faults :=
  ⟨.clearFaultShutter, { State.reset with pnp := { State.reset.pnp with faults := State.reset.pnp.faults.set .shutter } },
    _, .shutter, rfl, by decide⟩

theorem test_hyps_PanelFramesDecodeBack :
    ∃ (c : Instr) (f : List Byte), c.wf = true ∧ panelEncode c = some f :=
  ⟨.setSource 3 ⟨1, 3, 15, 0, 99, 255, 2, 2, 14⟩, _, by decide, rfl⟩

theorem test_hyps_LinkFramesAndRecordsReadBack :
    (∃ f : LinkFrame, f.level ≤ 15 ∧ f.src ≤ 14 ∧ frameOk f.dest f.kind f.payload = true)
    ∧ (∃ (bs : List Byte) (r : StepRec), StepRec.parse bs = some (some r))
    ∧ (∃ (a m : Byte) (k : KeyEntry), KeyEntry.parse a m = some k)
    ∧ (∃ (src : Source) (b : SourceBytes) (r : SourceRec), SourceRec.parse src b = some r) :=
  ⟨⟨⟨15, 14, 0x48, 9, List.replicate 8 0xFF⟩, by decide⟩,
   ⟨StepRec.bytes ⟨.next, 99, some 255, some (63, 99), .stop, 6000, some 200, some ⟨.all, .hold, 0, 0⟩⟩, _, rfl⟩,
   ⟨1, 0, _, rfl⟩, ⟨.remote, ⟨1, 3, 15, 0, 99, 255, 2, 0, 14⟩, _, rfl⟩⟩

theorem test_hyps_AStoreReadsBack :
    ∃ (v : Settings) (m : Memory), m.wf ∧ v.checked.length = 3512 ∧ v.hours ≤ 65535
      ∧ Settings.parse v.checked v.hours = some v :=
  ⟨.builtIn, [], by decide, checked_length, by decide, builtIn_parses⟩

/-- The search wraps from 99 to 0 and from 0 to 99, and takes neither an ineligible position nor the one it leaves. -/
theorem test_hyps_EligiblePositions :
    (∃ (t : Tru) (n b q : Nat), 1 ≤ n ∧ (t.resolve .advance n b = .ok q ∨ t.resolve .reverse n b = .ok q))
    ∧ (∃ (k : ChangeKind) (d : Bool), (k, d) = (.advance, true) ∨ (k, d) = (.reverse, false))
    ∧ (excerpt true).resolve .advance 1 99 = .ok 3 ∧ NextEligible (excerpt true) true 99 3
    ∧ (excerpt true).resolve .reverse 1 3 = .ok 99 ∧ NextEligible (excerpt true) false 3 99
    ∧ (∃ (t : Tru) (b : Nat), t.resolve .advance 1 b = .error .noSlide ∧ t.resolve .reverse 1 b = .error .noSlide
      ∧ ∀ p < 100, p ≠ b % 100 → t.eligible p = false) :=
  ⟨⟨excerpt true, 3, 97, 4, by decide, Or.inl (okOf (by decide))⟩, ⟨.advance, true, Or.inl rfl⟩,
   okOf (by decide), ⟨4, by decide⟩, okOf (by decide), ⟨4, by decide⟩,
   { State.reset.tru with cfg := ⟨2, true⟩, map := List.replicate 100 ⟨.empty, false, 0, false⟩ }, 99,
   errorOf (by decide), errorOf (by decide), by decide⟩

theorem test_hyps_TrayPresenceFollowsTprs :
    (∃ (s : State), Powered s)
    ∧ (∃ (s : State), Powered s ∧ s.tru.present = true ∧ s.csq.state.active = false)
    ∧ (∃ (s : State), Powered s ∧ s.tru.present = false)
    ∧ (∃ (s : State) (f : Flight), Powered s ∧ s.tru.present = true ∧ s.csq.state.active = true ∧ s.csq.flight = some f) :=
  ⟨⟨State.reset, by decide⟩,
   ⟨{ State.reset with tru := { State.reset.tru with present := true } }, by decide⟩,
   ⟨State.reset, by decide⟩,
   ⟨{ State.reset with
        tru := { State.reset.tru with present := true }
        csq := { State.reset.csq with flight := (some ⟨.reverse, .remote, 98, 5, .reverse, 0, 99, false, true, true, 1⟩), state := .indexing } },
    ⟨.reverse, .remote, 98, 5, .reverse, 0, 99, false, true, true, 1⟩, by decide⟩⟩

theorem test_hyps_PulsesMoveThePosition :
    (∃ (s : State) (f : Flight) (p : Nat), Powered s ∧ Driven s f true ∧ s.tru.position = some p ∧ p < 99)
    ∧ (∃ (s : State) (f : Flight) (p : Nat), Powered s ∧ Driven s f false ∧ s.tru.position = some p ∧ 2 ≤ p ∧ p < 100)
    ∧ (∃ (s : State) (f : Flight), Powered s ∧ Driven s f false ∧ s.tru.position = some 0)
    ∧ (∃ (s : State) (f : Flight) (fwd : Bool), Powered s ∧ Driven s f fwd ∧ s.tru.position = some (if fwd then 99 else
      1))
    ∧ (∃ (s : State) (f : Flight) (fwd : Bool), Powered s ∧ Driven s f fwd ∧ s.tru.position = none)
    ∧ (∃ (s : State), Powered s ∧ s.csq.state ≠ .indexing)
    ∧ (∃ (s : State) (f : Flight) (fwd : Bool), Powered s ∧ Driven s f fwd ∧ (s.tru.position = none ∨ s.tru.position =
      some (if fwd then 99 else 1)))
    ∧ (∃ (s : State) (f : Flight) (fwd : Bool) (p : Nat), Powered s ∧ Driven s f fwd ∧ s.tru.position = some p ∧ p < 100 ∧
      p ≠ (if fwd then 99 else 1)) :=
  ⟨⟨{ State.reset with
        tru := { State.reset.tru with position := (some 2) }
        csq := { State.reset.csq with flight := (some ⟨.seek, .program, 7, 5, .forward, 0, 99, false, false, false, 1⟩), state := .indexing } },
    ⟨.seek, .program, 7, 5, .forward, 0, 99, false, false, false, 1⟩, 2, by decide⟩,
   ⟨{ State.reset with
        tru := { State.reset.tru with position := (some 98) }
        csq := { State.reset.csq with state := .indexing, flight := (some ⟨.reverse, .remote, 98, 5, .reverse, 0, 99, false, true, true, 1⟩) } },
    ⟨.reverse, .remote, 98, 5, .reverse, 0, 99, false, true, true, 1⟩, 98, by decide⟩,
   ⟨{ State.reset with
        csq := { State.reset.csq with state := .indexing, flight := (some ⟨.reverse, .panel, 2, 5, .reverse, 0, 99, false, false, false, 1⟩) }
        tru := { State.reset.tru with position := (some 0) } }, ⟨.reverse, .panel, 2, 5, .reverse, 0, 99, false,
    false, false, 1⟩, by decide⟩,
   ⟨{ State.reset with
        tru := { State.reset.tru with position := (some 99) }
        csq := { State.reset.csq with flight := (some ⟨.advance, .panel, 1, 5, .forward, 0, 99, false, true, false, 1⟩), state := .indexing } },
    ⟨.advance, .panel, 1, 5, .forward, 0, 99, false, true, false, 1⟩, true, by decide⟩,
   ⟨{ State.reset with
        csq := { State.reset.csq with flight := (some ⟨.advance, .remote, 2, 5, .forward, 0, 99, false, true, true, 1⟩), state := .indexing } },
    ⟨.advance, .remote, 2, 5, .forward, 0, 99, false, true, true, 1⟩, true, by decide⟩,
   ⟨State.reset, by decide⟩,
   ⟨{ State.reset with
        csq := { State.reset.csq with flight := (some ⟨.seek, .program, 7, 5, .forward, 0, 99, false, false, false, 1⟩), state := .indexing } },
    ⟨.seek, .program, 7, 5, .forward, 0, 99, false, false, false, 1⟩, true, by decide⟩,
   ⟨{ State.reset with
        csq := { State.reset.csq with flight := (some ⟨.home, .panel, 0, 5, .forward, 0, 99, false, true, false, 1⟩), state := .indexing }
        tru := { State.reset.tru with position := (some 50) } }, ⟨.home, .panel, 0, 5, .forward, 0, 99, false, true,
    false, 1⟩, true, 50, by decide⟩⟩

theorem test_hyps_SlotCommandsAndReads :
    (∃ (s : State) (a : Byte) (b : Byte) (v : Byte) (k : Bool), Awake s ∧ a.toNat ≤ b.toNat ∧ b.toNat ≤ 99 ∧ onOff v =
      some k ∧ s.tru.present = true)
    ∧ (∃ (s : State) (a : Byte) (b : Byte), Awake s ∧ a.toNat ≤ b.toNat ∧ b.toNat ≤ 99 ∧ s.tru.present = true)
    ∧ (∃ (s : State) (a : Byte) (b : Byte), Awake s ∧ (99 < a.toNat ∨ 99 < b.toNat ∨ b.toNat < a.toNat))
    ∧ (∃ (s : State) (a : Byte) (b : Byte) (v : Byte), Awake s ∧ a.toNat ≤ b.toNat ∧ b.toNat ≤ 99 ∧ 1 < v.toNat)
    ∧ (∃ (s : State) (a : Byte) (b : Byte) (v : Byte), Awake s ∧ a.toNat ≤ b.toNat ∧ b.toNat ≤ 99 ∧ v.toNat ≤ 1 ∧
      s.tru.present = false)
    ∧ (∃ (s : State) (a : Byte) (n : Byte), Awake s ∧ a.toNat ≤ 99 ∧ 1 ≤ n.toNat ∧ n.toNat ≤ 50 ∧ s.tru.map.length = 100)
    ∧ (∃ (s : State) (a : Byte) (n : Byte), Awake s ∧ (99 < a.toNat ∨ n.toNat = 0 ∨ 50 < n.toNat))
    ∧ (∃ (s : State) (l : Byte) (e : Byte) (v : Bool), Awake s ∧ l.toNat ≤ 3 ∧ onOff e = some v)
    ∧ (∃ (s : State) (l : Byte) (e : Byte), Awake s ∧ (3 < l.toNat ∨ 1 < e.toNat)) :=
  ⟨⟨{ State.reset with tru := { State.reset.tru with present := true } }, 7, 9, 0, false, by decide⟩,
   ⟨{ State.reset with tru := { State.reset.tru with present := true } }, 59, 64, by decide⟩,
   ⟨State.reset, 99, 255, by decide⟩,
   ⟨State.reset, 1, 4, 50, by decide⟩,
   ⟨State.reset, 3, 59, 1, by decide⟩,
   ⟨State.reset, 99, 50, by decide⟩,
   ⟨State.reset, 80, 51, by decide⟩,
   ⟨State.reset, 2, 1, true, by decide⟩,
   ⟨State.reset, 255, 255, by decide⟩⟩

theorem test_hyps_GateRecordAndSequencerSettings :
    (∃ (s : State) (a : Bool) (b : Bool) (c : Bool), Powered s ∧ s.csq.state = .idle ∧ s.pnp.power ≠ .resetHeld ∧
      (setGatePins a b c s).pins.sensed ≠ s.pins.sensed)
    ∧ (∃ (s : State) (a : Bool) (b : Bool), Powered s ∧ s.csq.state = .jammed ∧ s.csq.gate = .seated ∧ s.csq.origin = none
      ∧ s.pnp.power ≠ .resetHeld ∧ a = false ∧ b = true)
    ∧ (∃ (s : State) (a : Bool) (b : Bool) (c : Bool), Powered s ∧ ((s.csq.state ≠ .idle ∧ s.csq.state ≠ .jammed) ∨
      s.pnp.power = .resetHeld ∨ (setGatePins a b c s).pins.sensed = s.pins.sensed))
    ∧ (∃ (s : State) (m : Byte) (a : Byte) (n : Byte) (d : Bool) (k : Bool), Awake s ∧ onOff m = some d ∧ onOff a = some k
      ∧ n.toNat ≤ 3)
    ∧ (∃ (s : State) (m : Byte) (a : Byte) (n : Byte), Awake s ∧ (1 < m.toNat ∨ 1 < a.toNat ∨ 3 < n.toNat))
    ∧ (∃ (s : State), Awake s) :=
  ⟨⟨State.reset, true, true, true, by decide⟩,
   ⟨{ State.reset with csq := { State.reset.csq with gate := .seated, state := .jammed } }, false, true, by decide⟩,
   ⟨State.reset, false, true, true, by decide⟩,
   ⟨State.reset, 1, 0, 1, true, false, by decide⟩,
   ⟨State.reset, 51, 59, 0, by decide⟩,
   ⟨State.reset, by decide⟩⟩

theorem test_hyps_ShutterEventsEndTheirPhase :
    (∃ (s : State), Powered s ∧ s.csq.state = .blanking ∧ s.csq.shutMs ≠ none ∧ s.csq.gate ≠ .empty)
    ∧ (∃ (s : State) (f : Flight), Powered s ∧ s.csq.state = .blanking ∧ s.csq.shutMs ≠ none ∧ s.csq.gate = .empty ∧
      s.csq.flight = some f)
    ∧ (∃ (s : State), Powered s ∧ s.csq.state ≠ .blanking)
    ∧ (∃ (s : State), Powered s ∧ Moving s.csq ∧ s.csq.shutClosed = true ∧ s.csq.shutterBlanked = true ∧ s.pins.shcl =
      true)
    ∧ (∃ (s : State), Powered s ∧ s.csq.state = .revealing ∧ s.csq.lampDone = false)
    ∧ (∃ (s : State) (f : Flight), Powered s ∧ s.csq.state = .revealing ∧ s.csq.lampDone = true ∧ s.csq.flight = some f ∧
      StartsNothing f.owner s)
    ∧ (∃ (s : State) (f : Flight) (w : Waiting) (q : Nat), Powered s ∧ s.csq.state = .revealing ∧ s.csq.lampDone = true ∧
      s.csq.flight = some f ∧ s.sar.waiting = some w ∧ LetIn f.owner s w ∧ startCheck w s = .ok q)
    ∧ (∃ (s : State) (f : Flight) (w : Waiting) (st : Status), Powered s ∧ s.csq.state = .revealing ∧ s.csq.lampDone =
      true ∧ s.csq.flight = some f ∧ s.sar.waiting = some w ∧ LetIn f.owner s w ∧ startCheck w s = .error st)
    ∧ (∃ (s : State), Powered s ∧ s.csq.state = .revealing ∧ s.csq.lampDone = true ∧ s.csq.flight = none ∧ StartsNothing
      s.csq.keptOwner s)
    ∧ (∃ (s : State), Powered s ∧ s.csq.state ∉ [.revealing, .lifting, .indexing, .dropping])
    ∧ (∃ (s : State), Powered s ∧ s.csq.state = .revealing ∧ s.csq.shutMs ≠ none ∧ s.csq.lampDone = false) :=
  ⟨⟨{ State.reset with csq := { State.reset.csq with state := .blanking, gate := .seated, shutMs := (some 200) } }, by
    decide⟩,
   ⟨{ State.reset with
        csq := { State.reset.csq with flight := (some ⟨.reverse, .remote, 98, 5, .reverse, 0, 99, false, true, true, 1⟩), state := .blanking, shutMs := (some 200) } },
    ⟨.reverse, .remote, 98, 5, .reverse, 0, 99, false, true, true, 1⟩, by decide⟩,
   ⟨State.reset, by decide⟩,
   ⟨{ State.reset with
        csq := { State.reset.csq with shutClosed := true, flight := (some ⟨.advance, .panel, 5, 5, .forward, 0, 99, true, false, true, 1⟩), state := .indexing }
        pins := { State.reset.pins with shcl := true } }, by decide⟩,
   ⟨{ State.reset with csq := { State.reset.csq with state := .revealing } }, by decide⟩,
   ⟨{ State.reset with
        csq := { State.reset.csq with lampDone := true, flight := (some ⟨.seek, .program, 7, 5, .forward, 0, 99, false, false, false, 1⟩), state := .revealing }
        pnp := { State.reset.pnp with power := .resetHeld } }, ⟨.seek, .program, 7, 5, .forward, 0, 99, false,
    false, false, 1⟩, by decide⟩,
   ⟨{ State.reset with
        csq := { State.reset.csq with lampDone := true, state := .revealing, flight := (some ⟨.reverse, .panel, 2, 5, .reverse, 0, 99, false, false, false, 1⟩) }
        tru := { State.reset.tru with present := true, position := (some 0) }
        sar := { State.reset.sar with waiting := (some ⟨.remote, .advance, 1, 2, 5⟩) } }, ⟨.reverse, .panel, 2, 5,
    .reverse, 0, 99, false, false, false, 1⟩, ⟨.remote, .advance, 1, 2, 5⟩, 1, by decide, by decide, by decide, by
    decide, by decide, by decide, okOf (by decide)⟩,
   ⟨{ State.reset with
        csq := { State.reset.csq with lampDone := true, state := .revealing, flight := (some ⟨.seek, .panel, 99, 5, .reverse, 0, 99, false, true, false, 1⟩) }
        tru := { State.reset.tru with present := true, map := ((Tru.clearedMap.map (fun r => { r with skip := true }))), position := (some 98) }
        sar := { State.reset.sar with waiting := (some ⟨.panel, .advance, 15, 15, 5⟩) } }, ⟨.seek, .panel, 99, 5,
    .reverse, 0, 99, false, true, false, 1⟩, ⟨.panel, .advance, 15, 15, 5⟩, .noSlide, by decide, by decide, by
    decide, by decide, by decide, by decide, errorOf (by decide)⟩,
   ⟨{ State.reset with csq := { State.reset.csq with state := .revealing, lampDone := true } }, by decide⟩,
   ⟨State.reset, by decide⟩,
   ⟨{ State.reset with csq := { State.reset.csq with state := .revealing, shutMs := (some 200) } }, by decide⟩⟩

theorem test_hyps_LiftsSucceedRetryOrJam :
    (∃ (s : State) (f : Flight), Powered s ∧ s.csq.drive = .lift ∧ s.csq.flight = some f)
    ∧ (∃ (s : State), Powered s ∧ s.csq.drive = .dropLiftBack)
    ∧ (∃ (s : State) (f : Flight) (p : Nat) (q : Nat), Powered s ∧ s.csq.drive = .skipLift ∧ s.csq.flight = some f ∧
      f.halt = false ∧ f.kind = .advance ∧ s.tru.position = some p ∧ s.tru.resolve .advance 1 p = .ok q ∧ p < q ∧
      f.base ≤ q ∧ q ≤ f.limit)
    ∧ (∃ (s : State) (f : Flight) (p : Nat) (q : Nat), Powered s ∧ s.csq.drive = .skipLift ∧ s.csq.flight = some f ∧
      f.halt = false ∧ f.kind = .reverse ∧ s.tru.position = some p ∧ s.tru.resolve .reverse 1 p = .ok q ∧ q < p ∧
      f.base ≤ q ∧ q ≤ f.limit)
    ∧ (∃ (s : State) (f : Flight), Powered s ∧ s.csq.drive = .skipLift ∧ s.csq.flight = some f ∧ f.halt = true)
    ∧ (∃ (s : State) (f : Flight) (w : Waiting) (q : Nat), Powered s ∧ s.csq.drive = .skipLift ∧ s.csq.flight = some f ∧
      f.halt = true ∧ s.csq.shutClosed = false ∧ s.lmc.claim = .none ∧ s.sar.waiting = some w ∧ LetIn f.owner s w ∧
      startCheck w (setGate .empty none s) = .ok q)
    ∧ (∃ (s : State) (f : Flight), Powered s ∧ s.csq.drive = .skipLift ∧ s.csq.flight = some f ∧ f.halt = false ∧
      skipTarget f s.tru = none)
    ∧ (∃ (s : State), Powered s ∧ s.csq.drive ∉ [.lift, .skipLift, .dropLiftBack])
    ∧ (∃ (s : State) (f : Flight), Powered s ∧ s.csq.drive = .lift ∧ s.csq.flight = some f ∧ s.csq.retry < f.retries)
    ∧ (∃ (s : State), Powered s ∧ s.csq.drive = .retryDrop)
    ∧ (∃ (s : State) (f : Flight), Powered s ∧ s.csq.drive = .lift ∧ s.csq.flight = some f ∧ f.retries ≤ s.csq.retry)
    ∧ (∃ (s : State) (f : Flight), Powered s ∧ s.csq.drive = .dropLiftBack ∧ s.csq.flight = some f)
    ∧ (∃ (s : State) (f : Flight), Powered s ∧ s.csq.drive = .skipLift ∧ s.csq.flight = some f) :=
  ⟨⟨{ State.reset with
        csq := { State.reset.csq with flight := (some ⟨.reverse, .remote, 98, 5, .reverse, 0, 99, false, true, true, 1⟩), drive := .lift } },
    ⟨.reverse, .remote, 98, 5, .reverse, 0, 99, false, true, true, 1⟩, by decide⟩,
   ⟨{ State.reset with csq := { State.reset.csq with drive := .dropLiftBack } }, by decide⟩,
   ⟨{ State.reset with
        csq := { State.reset.csq with flight := (some ⟨.advance, .panel, 1, 5, .forward, 0, 99, false, true, false, 1⟩), drive := .skipLift }
        tru := { State.reset.tru with position := (some 2) } }, ⟨.advance, .panel, 1, 5, .forward, 0, 99, false,
    true, false, 1⟩, 2, 3, by decide, by decide, by decide, by decide, by decide, by decide, okOf (by decide), by
    decide, by decide, by decide⟩,
   ⟨{ State.reset with
        csq := { State.reset.csq with flight := (some ⟨.reverse, .remote, 98, 5, .reverse, 0, 99, false, true, true, 1⟩), drive := .skipLift }
        tru := { State.reset.tru with position := (some 99) } }, ⟨.reverse, .remote, 98, 5, .reverse, 0, 99, false,
    true, true, 1⟩, 99, 98, by decide, by decide, by decide, by decide, by decide, by decide, okOf (by decide), by
    decide, by decide, by decide⟩,
   ⟨{ State.reset with
        csq := { State.reset.csq with flight := (some ⟨.seek, .link, 50, 5, .reverse, 0, 99, true, true, false, 1⟩), drive := .skipLift } },
    ⟨.seek, .link, 50, 5, .reverse, 0, 99, true, true, false, 1⟩, by decide⟩,
   ⟨{ State.reset with
        csq := { State.reset.csq with drive := .skipLift, flight := (some ⟨.advance, .panel, 5, 5, .forward, 0, 99, true, false, true, 1⟩) }
        tru := { State.reset.tru with present := true, position := (some 2) }
        sar := { State.reset.sar with waiting := (some ⟨.program, .advance, 1, 2, 5⟩) } }, ⟨.advance, .panel, 5, 5,
    .forward, 0, 99, true, false, true, 1⟩, ⟨.program, .advance, 1, 2, 5⟩, 3, by decide, by decide, by decide, by
    decide, by decide, by decide, by decide, by decide, okOf (by decide)⟩,
   ⟨{ State.reset with
        csq := { State.reset.csq with flight := (some ⟨.seek, .program, 7, 5, .forward, 0, 99, false, false, false, 1⟩), drive := .skipLift } },
    ⟨.seek, .program, 7, 5, .forward, 0, 99, false, false, false, 1⟩, by decide⟩,
   ⟨State.reset, by decide⟩,
   ⟨{ State.reset with
        csq := { State.reset.csq with flight := (some ⟨.reverse, .remote, 98, 5, .reverse, 0, 99, false, true, true, 1⟩), drive := .lift } },
    ⟨.reverse, .remote, 98, 5, .reverse, 0, 99, false, true, true, 1⟩, by decide⟩,
   ⟨{ State.reset with csq := { State.reset.csq with drive := .retryDrop } }, by decide⟩,
   ⟨{ State.reset with
        csq := { State.reset.csq with retry := 1, flight := (some ⟨.reverse, .remote, 98, 5, .reverse, 0, 99, false, true, true, 1⟩), drive := .lift } },
    ⟨.reverse, .remote, 98, 5, .reverse, 0, 99, false, true, true, 1⟩, by decide⟩,
   ⟨{ State.reset with
        csq := { State.reset.csq with flight := (some ⟨.advance, .remote, 2, 5, .forward, 0, 99, false, true, true, 1⟩), drive := .dropLiftBack } },
    ⟨.advance, .remote, 2, 5, .forward, 0, 99, false, true, true, 1⟩, by decide⟩,
   ⟨{ State.reset with
        csq := { State.reset.csq with flight := (some ⟨.seek, .panel, 99, 5, .reverse, 0, 99, false, true, false, 1⟩), drive := .skipLift } },
    ⟨.seek, .panel, 99, 5, .reverse, 0, 99, false, true, false, 1⟩, by decide⟩⟩

theorem test_hyps_StallsAndDropResults :
    (∃ (s : State) (f : Flight), Powered s ∧ s.csq.state = .indexing ∧ s.csq.flight = some f)
    ∧ (∃ (s : State), Powered s ∧ s.csq.state ≠ .indexing)
    ∧ (∃ (s : State) (f : Flight), Powered s ∧ s.csq.drive = .drop ∧ s.csq.flight = some f)
    ∧ (∃ (s : State) (f : Flight) (w : Waiting) (q : Nat), Powered s ∧ s.csq.drive = .drop ∧ s.csq.flight = some f ∧
      s.csq.shutClosed = false ∧ s.lmc.claim = .none ∧ s.sar.waiting = some w ∧ LetIn f.owner s w ∧ startCheck w
      (reportContent .slide (setGate .seated s.tru.position s)) = .ok q)
    ∧ (∃ (s : State) (f : Flight), Powered s ∧ s.csq.drive = .drop ∧ s.csq.flight = some f ∧ s.pins.sensed = .clear)
    ∧ (∃ (s : State) (f : Flight) (w : Waiting) (q : Nat), Powered s ∧ s.csq.drive = .drop ∧ s.csq.flight = some f ∧
      s.pins.sensed = .clear ∧ s.csq.shutClosed = false ∧ s.lmc.claim = .none ∧ s.sar.waiting = some w ∧ LetIn
      f.owner s w ∧ startCheck w (reportContent .empty (setGate .empty none s)) = .ok q)
    ∧ (∃ (s : State) (f : Flight), Powered s ∧ s.csq.drive = .drop ∧ s.csq.flight = some f ∧ s.pins.sensed = .partway ∧
      s.csq.retry < f.retries)
    ∧ (∃ (s : State) (f : Flight), Powered s ∧ s.csq.drive = .drop ∧ s.csq.flight = some f ∧ s.pins.sensed = .partway ∧
      f.retries ≤ s.csq.retry ∧ f.skip = true ∧ f.halt = false ∧ (f.kind = .advance ∨ f.kind = .reverse))
    ∧ (∃ (s : State) (f : Flight), Powered s ∧ s.csq.drive = .drop ∧ s.csq.flight = some f ∧ s.pins.sensed = .partway ∧
      f.retries ≤ s.csq.retry ∧ (f.skip = false ∨ f.halt = true ∨ f.kind = .seek ∨ f.kind = .home))
    ∧ (∃ (s : State) (p : Nat) (q : Nat) (r : SlotRec), s.tru.position = some p ∧ s.tru.map[q]? = some r)
    ∧ (∃ (s : State), s.tru.position = none) :=
  ⟨⟨{ State.reset with
        csq := { State.reset.csq with flight := (some ⟨.seek, .panel, 99, 5, .reverse, 0, 99, false, true, false, 1⟩), state := .indexing } },
    ⟨.seek, .panel, 99, 5, .reverse, 0, 99, false, true, false, 1⟩, by decide⟩,
   ⟨State.reset, by decide⟩,
   ⟨{ State.reset with
        csq := { State.reset.csq with drive := .drop, flight := (some ⟨.reverse, .remote, 98, 5, .reverse, 0, 99, false, true, true, 1⟩) } },
    ⟨.reverse, .remote, 98, 5, .reverse, 0, 99, false, true, true, 1⟩, by decide⟩,
   ⟨{ State.reset with
        csq := { State.reset.csq with flight := (some ⟨.advance, .panel, 1, 5, .forward, 0, 99, false, true, false, 1⟩), drive := .drop }
        tru := { State.reset.tru with present := true, position := (some 1) }
        sar := { State.reset.sar with waiting := (some ⟨.remote, .advance, 1, 2, 5⟩) } }, ⟨.advance, .panel, 1, 5,
    .forward, 0, 99, false, true, false, 1⟩, ⟨.remote, .advance, 1, 2, 5⟩, 2, by decide, by decide, by decide, by
    decide, by decide, by decide, by decide, okOf (by decide)⟩,
   ⟨{ State.reset with
        csq := { State.reset.csq with flight := (some ⟨.advance, .panel, 5, 5, .forward, 0, 99, true, false, true, 1⟩), drive := .drop } },
    ⟨.advance, .panel, 5, 5, .forward, 0, 99, true, false, true, 1⟩, by decide⟩,
   ⟨{ State.reset with
        csq := { State.reset.csq with flight := (some ⟨.advance, .panel, 99, 5, .forward, 0, 99, false, true, true, 1⟩), drive := .drop }
        tru := { State.reset.tru with present := true, position := (some 0) }
        sar := { State.reset.sar with waiting := (some ⟨.link, .seek, 0, 99, 99⟩) } }, ⟨.advance, .panel, 99, 5,
    .forward, 0, 99, false, true, true, 1⟩, ⟨.link, .seek, 0, 99, 99⟩, 99, by decide, by decide, by decide, by
    decide, by decide, by decide, by decide, by decide, okOf (by decide)⟩,
   ⟨{ State.reset with
        pins := { State.reset.pins with clear := false }
        csq := { State.reset.csq with flight := (some ⟨.advance, .panel, 99, 5, .forward, 0, 99, false, true, true, 1⟩), drive := .drop } },
    ⟨.advance, .panel, 99, 5, .forward, 0, 99, false, true, true, 1⟩, by decide⟩,
   ⟨{ State.reset with
        pins := { State.reset.pins with seat := true }
        csq := { State.reset.csq with retry := 1, drive := .drop, flight := (some ⟨.advance, .panel, 99, 5, .forward, 0, 99, false, true, true, 1⟩) } },
    ⟨.advance, .panel, 99, 5, .forward, 0, 99, false, true, true, 1⟩, by decide⟩,
   ⟨{ State.reset with
        pins := { State.reset.pins with clear := false }
        csq := { State.reset.csq with flight := (some ⟨.home, .panel, 0, 5, .forward, 0, 99, false, true, false, 1⟩), retry := 2, drive := .drop } },
    ⟨.home, .panel, 0, 5, .forward, 0, 99, false, true, false, 1⟩, by decide⟩,
   ⟨{ State.reset with tru := { State.reset.tru with position := (some 98) } }, 98, 2, SlotRec.cleared, by decide⟩,
   ⟨State.reset, by decide⟩⟩

theorem test_hyps_ClearJamByState :
    (∃ (s : State), Awake s ∧ classOk .panel .transport s = true ∧ s.csq.state = .idle)
    ∧ (∃ (s : State), Awake s ∧ classOk .panel .transport s = true ∧ s.csq.state.active = true)
    ∧ (∃ (s : State), Awake s ∧ classOk .panel .transport s = true ∧ s.csq.state = .stalled)
    ∧ (∃ (s : State), Awake s ∧ classOk .panel .transport s = true ∧ s.csq.state = .jammed ∧ s.pins.sensed = .partway)
    ∧ (∃ (s : State), Awake s ∧ classOk .panel .transport s = false)
    ∧ (∃ (s : State), Awake s ∧ classOk .panel .transport s = true ∧ s.csq.state = .jammed ∧ s.pins.sensed = .clear ∧
      StartsNothing s.csq.keptOwner s)
    ∧ (∃ (s : State) (w : Waiting) (q : Nat), Awake s ∧ classOk .panel .transport s = true ∧ s.csq.state = .jammed ∧
      s.pins.sensed = .clear ∧ s.sar.waiting = some w ∧ LetIn s.csq.keptOwner s w ∧ startCheck w (reportContent
      .unknown (setGate .empty none s)) = .ok q)
    ∧ (∃ (s : State), Awake s ∧ classOk .panel .transport s = true ∧ s.csq.state = .jammed ∧ s.csq.flight = none ∧
      s.pins.sensed = .seated)
    ∧ (∃ (s : State) (w : Waiting) (q : Nat), Awake s ∧ classOk .panel .transport s = true ∧ s.csq.state = .jammed ∧
      s.csq.flight = none ∧ s.pins.sensed = .seated ∧ s.csq.shutClosed = false ∧ s.lmc.claim = .none ∧ s.sar.waiting
      = some w ∧ LetIn s.csq.keptOwner s w ∧ startCheck w (reportContent .slide (setGate .seated s.tru.position s))
      = .ok q) :=
  ⟨⟨State.reset, by decide⟩,
   ⟨{ State.reset with csq := { State.reset.csq with state := .indexing } }, by decide⟩,
   ⟨{ State.reset with csq := { State.reset.csq with state := .stalled } }, by decide⟩,
   ⟨{ State.reset with
        pins := { State.reset.pins with seat := true }
        csq := { State.reset.csq with state := .jammed } }, by decide⟩,
   ⟨{ State.reset with
        sar := { State.reset.sar with sources := { State.reset.sar.sources with panel := (⟨false, 0, true, true, true, true, 0, 99, 0, .here, .all⟩) } } },
    by decide⟩,
   ⟨{ State.reset with csq := { State.reset.csq with state := .jammed } }, by decide⟩,
   ⟨{ State.reset with
        tru := { State.reset.tru with present := true, position := (some 99) }
        csq := { State.reset.csq with state := .jammed }
        sar := { State.reset.sar with waiting := (some ⟨.panel, .advance, 3, 4, 5⟩) } }, ⟨.panel, .advance, 3, 4,
    5⟩, 3, by decide, by decide, by decide, by decide, by decide, by decide, okOf (by decide)⟩,
   ⟨{ State.reset with
        csq := { State.reset.csq with state := .jammed }
        pins := { State.reset.pins with clear := false, seat := true } }, by decide⟩,
   ⟨{ State.reset with
        pins := { State.reset.pins with clear := false, seat := true }
        tru := { State.reset.tru with present := true, position := (some 0) }
        csq := { State.reset.csq with state := .jammed }
        sar := { State.reset.sar with waiting := (some ⟨.remote, .advance, 1, 2, 5⟩) } }, ⟨.remote, .advance, 1, 2,
    5⟩, 1, by decide, by decide, by decide, by decide, by decide, by decide, by decide, by decide, by decide, okOf
    (by decide)⟩⟩

theorem test_hyps_TransportRequestStartsAChange :
    (∃ (s : State) (k : ChangeKind) (a : Byte) (fade : Byte) (q : Nat), Powered s ∧ Admitted s k a fade q ∧ Startable s
      k) :=
  ⟨{ State.reset with
        sar := { State.reset.sar with holder := (some .remote) }
        tru := { State.reset.tru with present := true } }, .home, 50, 1, 0, by decide, ⟨by decide, by decide, by
    decide, okOf (by decide), by decide⟩, by decide⟩

theorem test_hyps_PendingRulesAndMerging :
    (∃ (s : State) (k : ChangeKind) (a : Byte) (fade : Byte) (q : Nat), Awake s ∧ Admitted s k a fade q ∧ ¬ Startable s
      k ∧ s.sar.waiting = none)
    ∧ (∃ (s : State) (k : ChangeKind) (a : Byte) (fade : Byte) (q : Nat) (w : Waiting), Awake s ∧ Admitted s k a fade q ∧
      ¬ Startable s k ∧ s.sar.waiting = some w ∧ w.source = .panel ∧ (w.kind.steps = false ∨ k.steps = false))
    ∧ (∃ (s : State) (k : ChangeKind) (a : Byte) (fade : Byte) (q : Nat) (w : Waiting), Awake s ∧ Admitted s k a fade q ∧
      ¬ Startable s k ∧ s.sar.waiting = some w ∧ w.source ≠ .panel ∧ priority s .panel < priority s w.source)
    ∧ (∃ (s : State) (k : ChangeKind) (a : Byte) (fade : Byte) (q : Nat) (w : Waiting), Awake s ∧ Admitted s k a fade q ∧
      ¬ Startable s k ∧ s.sar.waiting = some w ∧ w.source ≠ .panel ∧ priority s w.source ≤ priority s .panel)
    ∧ (∃ (s : State) (k : ChangeKind) (a : Byte) (fade : Byte) (q : Nat) (w : Waiting), Awake s ∧ Admitted s k a fade q ∧
      ¬ Startable s k ∧ s.sar.waiting = some w ∧ w.source = .panel ∧ w.kind.steps = true ∧ k.steps = true ∧ w.count
      + signedCount k a.toNat = 0)
    ∧ (∃ (s : State) (k : ChangeKind) (a : Byte) (fade : Byte) (q : Nat) (w : Waiting), Awake s ∧ Admitted s k a fade q ∧
      ¬ Startable s k ∧ s.sar.waiting = some w ∧ w.source = .panel ∧ w.kind.steps = true ∧ k.steps = true ∧ 15 <
      (w.count + signedCount k a.toNat).natAbs)
    ∧ (∃ (s : State) (k : ChangeKind) (a : Byte) (fade : Byte) (q : Nat) (r : Nat) (w : Waiting), Awake s ∧ Admitted s k a
      fade q ∧ ¬ Startable s k ∧ s.sar.waiting = some w ∧ w.source = .panel ∧ w.kind.steps = true ∧ k.steps = true ∧
      0 < w.count + signedCount k a.toNat ∧ w.count + signedCount k a.toNat ≤ 15 ∧ s.tru.resolve .advance (w.count +
      signedCount k a.toNat).natAbs ((expected s).getD 0) = .ok r ∧ s.sar.sources.panel.base ≤ r ∧ r ≤
      s.sar.sources.panel.limit)
    ∧ (∃ (s : State) (k : ChangeKind) (a : Byte) (fade : Byte) (q : Nat) (r : Nat) (w : Waiting), Awake s ∧ Admitted s k a
      fade q ∧ ¬ Startable s k ∧ s.sar.waiting = some w ∧ w.source = .panel ∧ w.kind.steps = true ∧ k.steps = true ∧
      w.count + signedCount k a.toNat < 0 ∧ -15 ≤ w.count + signedCount k a.toNat ∧ s.tru.resolve .reverse (w.count
      + signedCount k a.toNat).natAbs ((expected s).getD 0) = .ok r ∧ s.sar.sources.panel.base ≤ r ∧ r ≤
      s.sar.sources.panel.limit)
    ∧ (∃ (s : State) (k : ChangeKind) (a : Byte) (fade : Byte) (q : Nat) (w : Waiting) (st : Status), Awake s ∧ Admitted s
      k a fade q ∧ ¬ Startable s k ∧ s.sar.waiting = some w ∧ w.source = .panel ∧ w.kind.steps = true ∧ k.steps =
      true ∧ 0 < w.count + signedCount k a.toNat ∧ w.count + signedCount k a.toNat ≤ 15 ∧ s.tru.resolve .advance
      (w.count + signedCount k a.toNat).natAbs ((expected s).getD 0) = .error st)
    ∧ (∃ (s : State) (k : ChangeKind) (a : Byte) (fade : Byte) (q : Nat) (r : Nat) (w : Waiting), Awake s ∧ Admitted s k a
      fade q ∧ ¬ Startable s k ∧ s.sar.waiting = some w ∧ w.source = .panel ∧ w.kind.steps = true ∧ k.steps = true ∧
      w.count + signedCount k a.toNat ≠ 0 ∧ (w.count + signedCount k a.toNat).natAbs ≤ 15 ∧ s.tru.resolve (if 0 <
      w.count + signedCount k a.toNat then .advance else .reverse) (w.count + signedCount k a.toNat).natAbs
      ((expected s).getD 0) = .ok r ∧ (r < s.sar.sources.panel.base ∨ s.sar.sources.panel.limit < r))
    ∧ (∃ (t : Tru) (n : Nat) (b : Nat) (st : Status), (t.resolve .advance n b = .error st ∨ t.resolve .reverse n b =
      .error st))
    ∧ (∃ (s : State) (k : ChangeKind) (a : Byte) (fade : Byte) (q : Nat) (w : Waiting) (st : Status), Awake s ∧ Admitted s
      k a fade q ∧ ¬ Startable s k ∧ s.sar.waiting = some w ∧ w.source = .panel ∧ w.kind.steps = true ∧ k.steps =
      true ∧ w.count + signedCount k a.toNat < 0 ∧ -15 ≤ w.count + signedCount k a.toNat ∧ s.tru.resolve .reverse
      (w.count + signedCount k a.toNat).natAbs ((expected s).getD 0) = .error st) :=
  ⟨⟨{ State.reset with
        tru := { State.reset.tru with present := true }
        csq := { State.reset.csq with state := .lifting } }, .home, 32, 8, 0, by decide, ⟨by decide, by decide, by
    decide, okOf (by decide), by decide⟩, by decide, by decide⟩,
   ⟨{ State.reset with
        sar := { State.reset.sar with waiting := (some ⟨.panel, .advance, 3, 4, 5⟩) }
        tru := { State.reset.tru with present := true } }, .home, 9, 33, 0, ⟨.panel, .advance, 3, 4, 5⟩, by decide,
    ⟨by decide, by decide, by decide, okOf (by decide), by decide⟩, by decide, by decide, by decide, by decide⟩,
   ⟨{ State.reset with
        tru := { State.reset.tru with present := true }
        sar := { State.reset.sar with waiting := (some ⟨.program, .seek, 0, 7, 5⟩) } }, .home, 2, 9, 0, ⟨.program,
    .seek, 0, 7, 5⟩, by decide, ⟨by decide, by decide, by decide, okOf (by decide), by decide⟩, by decide, by
    decide, by decide, by decide⟩,
   ⟨{ State.reset with
        sar := { State.reset.sar with sources := { State.reset.sar.sources with panel := (⟨true, 3, true, true, true, true, 0, 99, 0, .here, .all⟩) }, waiting := (some ⟨.remote, .advance, 1, 2, 5⟩) }
        tru := { State.reset.tru with present := true } }, .home, 1, 17, 0, ⟨.remote, .advance, 1, 2, 5⟩, by decide,
    ⟨by decide, by decide, by decide, okOf (by decide), by decide⟩, by decide, by decide, by decide, by decide⟩,
   ⟨{ State.reset with
        sar := { State.reset.sar with waiting := (some ⟨.panel, .reverse, -3, 4, 5⟩) }
        csq := { State.reset.csq with origin := (some 5), flight := (some ⟨.advance, .panel, 1, 5, .forward, 0, 99, false, true, false, 1⟩) }
        tru := { State.reset.tru with position := (some 0), present := true } }, .advance, 3, 15, 4, ⟨.panel,
    .reverse, -3, 4, 5⟩, by decide, ⟨by decide, by decide, by decide, okOf (by decide), by decide⟩, by decide, by
    decide, by decide, by decide, by decide, by decide⟩,
   ⟨{ State.reset with
        pnp := { State.reset.pnp with power := .standbyPending }
        tru := { State.reset.tru with present := true, position := (some 1) }
        csq := { State.reset.csq with flight := (some ⟨.home, .panel, 0, 5, .forward, 0, 99, false, true, false, 1⟩) }
        sar := { State.reset.sar with waiting := (some ⟨.panel, .advance, 15, 15, 5⟩) } }, .advance, 4, 16, 4,
    ⟨.panel, .advance, 15, 15, 5⟩, by decide, ⟨by decide, by decide, by decide, okOf (by decide), by decide⟩, by
    decide, by decide, by decide, by decide, by decide, by decide⟩,
   ⟨{ State.reset with
        tru := { State.reset.tru with present := true, position := (some 2) }
        csq := { State.reset.csq with flight := (some ⟨.reverse, .remote, 98, 5, .reverse, 0, 99, false, true, true, 1⟩), origin := (some 5) }
        sar := { State.reset.sar with waiting := (some ⟨.panel, .reverse, -3, 4, 5⟩) } }, .advance, 4, 51, 3, 99,
    ⟨.panel, .reverse, -3, 4, 5⟩, by decide, ⟨by decide, by decide, by decide, okOf (by decide), by decide⟩, by
    decide, by decide, by decide, by decide, by decide, by decide, by decide, okOf (by decide), by decide, by
    decide⟩,
   ⟨{ State.reset with
        tru := { State.reset.tru with present := true, position := (some 2) }
        sar := { State.reset.sar with waiting := (some ⟨.panel, .reverse, -3, 4, 5⟩) }
        csq := { State.reset.csq with flight := (some ⟨.advance, .panel, 5, 5, .forward, 0, 99, true, false, true, 1⟩) } },
    .reverse, 3, 59, 2, 98, ⟨.panel, .reverse, -3, 4, 5⟩, by decide, ⟨by decide, by decide, by decide, okOf (by
    decide), by decide⟩, by decide, by decide, by decide, by decide, by decide, by decide, by decide, okOf (by
    decide), by decide, by decide⟩,
   ⟨{ State.reset with
        tru := { State.reset.tru with present := true, position := (some 5), map := (updAt (fun r => { r with skip := false }) 7 (Tru.clearedMap.map (fun r => { r with skip := true }))) }
        pnp := { State.reset.pnp with power := .standbyPending }
        sar := { State.reset.sar with waiting := (some ⟨.panel, .advance, 1, 7, 5⟩) } }, .advance, 1, 255, 7,
    ⟨.panel, .advance, 1, 7, 5⟩, .noSlide, by decide, ⟨by decide, by decide, by decide, okOf (by decide), by
    decide⟩, by decide, by decide, by decide, by decide, by decide, by decide, by decide, errorOf (by decide)⟩,
   ⟨{ State.reset with
        sar := { State.reset.sar with waiting := (some ⟨.panel, .advance, 3, 4, 5⟩), sources := { State.reset.sar.sources with panel := (⟨true, 0, true, true, true, true, 20, 60, 0, .here, .all⟩) } }
        csq := { State.reset.csq with flight := (some ⟨.seek, .link, 50, 5, .reverse, 0, 99, true, true, false, 1⟩) }
        tru := { State.reset.tru with present := true, position := (some 98) } }, .advance, 9, 15, 59, 62, ⟨.panel,
    .advance, 3, 4, 5⟩, by decide, ⟨by decide, by decide, by decide, okOf (by decide), by decide⟩, by decide, by
    decide, by decide, by decide, by decide, by decide, by decide, okOf (by decide), by decide⟩,
   ⟨{ Tru.reset with map := Tru.clearedMap.map (fun r => { r with skip := true }) }, 1, 0, .noSlide, Or.inl (errorOf
    (by decide))⟩,
   ⟨{ State.reset with
        tru := { State.reset.tru with present := true, position := (some 5), map := (updAt (fun r => { r with skip := false }) 7 (Tru.clearedMap.map (fun r => { r with skip := true }))) }
        pnp := { State.reset.pnp with power := .standbyPending }
        sar := { State.reset.sar with waiting := (some ⟨.panel, .reverse, -3, 4, 5⟩) } }, .reverse, 1, 255, 7,
    ⟨.panel, .reverse, -3, 4, 5⟩, .noSlide, by decide, ⟨by decide, by decide, by decide, okOf (by decide), by
    decide⟩, by decide, by decide, by decide, by decide, by decide, by decide, by decide, errorOf (by decide)⟩⟩

theorem test_hyps_TransportRefusalsAndForwarding :
    (∃ (s : State), Awake s ∧ classOk .panel .transport s = false)
    ∧ (∃ (s : State) (k : ChangeKind) (a : Byte), Awake s ∧ classOk .panel .transport s = true ∧ ((k.steps = true ∧
      (a.toNat = 0 ∨ 15 < a.toNat)) ∨ (k = .seek ∧ 99 < a.toNat)))
    ∧ (∃ (s : State) (k : ChangeKind) (a : Byte) (fade : Byte), Awake s ∧ classOk .panel .transport s = true ∧ ((k.steps =
      true → 1 ≤ a.toNat ∧ a.toNat ≤ 15)) ∧ ((k = .seek → a.toNat ≤ 99)) ∧ 99 < fade.toNat ∧ fade ≠ 0xFF)
    ∧ (∃ (s : State) (k : ChangeKind) (a : Byte) (fade : Byte), Awake s ∧ Formed s k a fade ∧ s.sar.sources.panel.route ≠
      .forward ∧ s.tru.present = false)
    ∧ (∃ (s : State) (k : ChangeKind) (a : Byte) (fade : Byte), Awake s ∧ Formed s k a fade ∧ s.sar.sources.panel.route ≠
      .forward ∧ s.tru.present = true ∧ s.tru.position = none ∧ k ≠ .home)
    ∧ (∃ (s : State) (k : ChangeKind) (a : Byte) (fade : Byte), Awake s ∧ Formed s k a fade ∧ s.sar.sources.panel.route ≠
      .forward ∧ s.tru.present = true ∧ ((s.tru.position = none → k = .home)) ∧ s.csq.gate = .seated ∧ s.csq.origin
      = none)
    ∧ (∃ (s : State) (k : ChangeKind) (a : Byte) (fade : Byte) (st : Status), Awake s ∧ Formed s k a fade ∧
      s.sar.sources.panel.route ≠ .forward ∧ Placed s k ∧ s.tru.resolve k a.toNat ((expected s).getD 0) = .error st)
    ∧ (∃ (s : State) (k : ChangeKind) (a : Byte) (fade : Byte) (q : Nat), Awake s ∧ Formed s k a fade ∧
      s.sar.sources.panel.route ≠ .forward ∧ Placed s k ∧ k ≠ .home ∧ s.tru.resolve k a.toNat ((expected s).getD 0)
      = .ok q ∧ (q < s.sar.sources.panel.base ∨ s.sar.sources.panel.limit < q))
    ∧ (∃ (s : State) (k : ChangeKind) (a : Byte) (fade : Byte), Awake s ∧ Formed s k a fade ∧ s.sar.sources.panel.route =
      .forward ∧ s.lkc.canTake = true)
    ∧ (∃ (s : State) (k : ChangeKind) (a : Byte) (fade : Byte), Awake s ∧ Formed s k a fade ∧ s.sar.sources.panel.route =
      .forward ∧ s.lkc.canTake = false)
    ∧ (∃ (s : State) (k : ChangeKind) (a : Byte) (fade : Byte) (q : Nat), Powered s ∧ Formed s k a fade ∧
      s.sar.sources.panel.route = .both ∧ Placed s k ∧ s.tru.resolve k a.toNat ((expected s).getD 0) = .ok q ∧ ((k =
      .home ∨ (s.sar.sources.panel.base ≤ q ∧ q ≤ s.sar.sources.panel.limit))) ∧ Startable s k) :=
  ⟨⟨{ State.reset with
        sar := { State.reset.sar with sources := { State.reset.sar.sources with panel := (⟨false, 0, true, true, true, true, 0, 99, 0, .here, .all⟩) } } },
    by decide⟩,
   ⟨State.reset, .advance, 33, by decide⟩,
   ⟨State.reset, .advance, 3, 100, by decide⟩,
   ⟨State.reset, .advance, 7, 16, by decide⟩,
   ⟨{ State.reset with tru := { State.reset.tru with present := true } }, .seek, 8, 255, by decide⟩,
   ⟨{ State.reset with
        tru := { State.reset.tru with present := true }
        csq := { State.reset.csq with gate := .seated } }, .home, 17, 64, by decide⟩,
   ⟨{ State.reset with
        tru := { State.reset.tru with present := true, position := (some 2), map := ((updAt (fun r => { r with retired := true }) 7 Tru.clearedMap)) } },
    .seek, 7, 9, .slotRetired, by decide, by decide, by decide, by decide, errorOf (by decide)⟩,
   ⟨{ State.reset with
        sar := { State.reset.sar with sources := { State.reset.sar.sources with panel := (⟨true, 0, true, true, true, true, 20, 60, 0, .here, .all⟩) } }
        csq := { State.reset.csq with flight := (some ⟨.home, .panel, 0, 5, .forward, 0, 99, false, true, false, 1⟩) }
        tru := { State.reset.tru with position := (some 1), present := true } }, .advance, 1, 33, 1, by decide, by
    decide, by decide, by decide, by decide, okOf (by decide), by decide⟩,
   ⟨{ State.reset with
        sar := { State.reset.sar with sources := { State.reset.sar.sources with panel := (⟨true, 0, true, true, true, true, 0, 99, 0, .forward, .all⟩) } }
        lkc := { State.reset.lkc with node := 14 } }, .seek, 0, 4, by decide⟩,
   ⟨{ State.reset with
        sar := { State.reset.sar with sources := { State.reset.sar.sources with panel := (⟨true, 0, true, true, true, true, 0, 99, 0, .forward, .all⟩) } } },
    .reverse, 4, 2, by decide⟩,
   ⟨{ State.reset with
        sar := { State.reset.sar with holder := (some .remote), sources := { State.reset.sar.sources with panel := (⟨true, 0, true, true, true, true, 0, 99, 0, .both, .all⟩) } }
        tru := { State.reset.tru with present := true } }, .home, 7, 80, 0, by decide, by decide, by decide, by
    decide, okOf (by decide), by decide, by decide⟩⟩

theorem test_hyps_HaltTenureAndPendingStart :
    (∃ (s : State) (f : Flight), Awake s ∧ classOk .panel .transport s = true ∧ s.csq.flight = some f ∧ priority s
      f.owner < priority s .panel)
    ∧ (∃ (s : State) (f : Flight), Awake s ∧ classOk .panel .transport s = true ∧ s.csq.flight = some f ∧ priority s
      .panel ≤ priority s f.owner ∧ s.sar.waiting = none ∧ (s.csq.state = .lifting ∨ s.csq.state = .indexing))
    ∧ (∃ (s : State) (f : Flight), Awake s ∧ classOk .panel .transport s = true ∧ s.csq.flight = some f ∧ priority s
      .panel ≤ priority s f.owner ∧ s.sar.waiting = none ∧ (s.csq.state = .dropping ∨ s.csq.state = .revealing))
    ∧ (∃ (s : State) (f : Flight), Awake s ∧ classOk .panel .transport s = true ∧ s.csq.flight = some f ∧ priority s
      .panel ≤ priority s f.owner ∧ s.sar.waiting = none ∧ s.csq.state = .blanking)
    ∧ (∃ (s : State) (w : Waiting), Awake s ∧ classOk .panel .transport s = true ∧ s.csq.flight = none ∧ s.sar.holder =
      none ∧ s.sar.waiting = some w)
    ∧ (∃ (s : State), Awake s ∧ classOk .panel .transport s = false)
    ∧ (∃ (s : State) (f : Flight) (w : Waiting), Awake s ∧ classOk .panel .transport s = true ∧ s.csq.flight = some f ∧
      priority s .panel ≤ priority s f.owner ∧ s.sar.waiting = some w ∧ (s.csq.state = .lifting ∨ s.csq.state =
      .indexing))
    ∧ (∃ (s : State), Awake s ∧ ((∀ w ∈ s.sar.waiting, s.pnp.power = .standbyPending ∨ s.csq.state ≠ .idle ∧ (s.csq.state
      ≠ .stalled ∨ w.kind ≠ .home))))
    ∧ (∃ (s : State) (w : Waiting) (q : Nat), Powered s ∧ s.pnp.power = .run ∧ s.sar.waiting = some w ∧ (s.csq.state =
      .idle ∨ (s.csq.state = .stalled ∧ w.kind = .home)) ∧ startCheck w s = .ok q)
    ∧ (∃ (s : State) (w : Waiting) (st : Status), Powered s ∧ s.pnp.power = .run ∧ s.sar.waiting = some w ∧ (s.csq.state =
      .idle ∨ (s.csq.state = .stalled ∧ w.kind = .home)) ∧ s.csq.flight = none ∧ startCheck w s = .error st)
    ∧ (∃ (s : State), Powered s ∧ (s.pnp.power = .standby ∨ s.pnp.power = .resetHeld))
    ∧ (∃ (s : State) (w : Waiting) (q : Nat), Powered s ∧ s.pnp.power = .run ∧ s.csq.state = .idle ∧ s.sar.waiting = some
      w ∧ (s.sar.holder = none ∨ s.sar.holder = some w.source) ∧ startCheck w s = .ok q)
    ∧ (∃ (s : State) (w : Waiting) (st : Status), Powered s ∧ s.pnp.power = .run ∧ s.csq.state = .idle ∧ s.sar.waiting =
      some w ∧ (s.sar.holder = none ∨ s.sar.holder = some w.source) ∧ startCheck w s = .error st)
    ∧ (∃ (s : State) (w : Waiting), Powered s ∧ s.sar.waiting = some w ∧ classOk w.source .transport s = true ∧
      s.tru.present = true ∧ w.kind = .seek ∧ s.tru.position ≠ none ∧ s.csq.orphaned = false)
    ∧ (∃ (s : State), Powered s ∧ s.sar.waiting = none) :=
  ⟨⟨{ State.reset with
        csq := { State.reset.csq with flight := (some ⟨.reverse, .remote, 98, 5, .reverse, 0, 99, false, true, true, 1⟩) }
        sar := { State.reset.sar with sources := { State.reset.sar.sources with panel := (⟨true, 3, true, true, true, true, 0, 99, 0, .here, .all⟩) } } },
    ⟨.reverse, .remote, 98, 5, .reverse, 0, 99, false, true, true, 1⟩, by decide⟩,
   ⟨{ State.reset with
        csq := { State.reset.csq with flight := (some ⟨.seek, .link, 50, 5, .reverse, 0, 99, true, true, false, 1⟩), state := .lifting } },
    ⟨.seek, .link, 50, 5, .reverse, 0, 99, true, true, false, 1⟩, by decide⟩,
   ⟨{ State.reset with
        csq := { State.reset.csq with flight := (some ⟨.reverse, .remote, 98, 5, .reverse, 0, 99, false, true, true, 1⟩), state := .revealing } },
    ⟨.reverse, .remote, 98, 5, .reverse, 0, 99, false, true, true, 1⟩, by decide⟩,
   ⟨{ State.reset with
        csq := { State.reset.csq with flight := (some ⟨.advance, .panel, 5, 5, .forward, 0, 99, true, false, true, 1⟩), state := .blanking } },
    ⟨.advance, .panel, 5, 5, .forward, 0, 99, true, false, true, 1⟩, by decide⟩,
   ⟨{ State.reset with sar := { State.reset.sar with waiting := (some ⟨.panel, .advance, 15, 15, 5⟩) } }, ⟨.panel,
    .advance, 15, 15, 5⟩, by decide⟩,
   ⟨{ State.reset with
        sar := { State.reset.sar with sources := { State.reset.sar.sources with panel := (⟨false, 0, true, true, true, true, 0, 99, 0, .here, .all⟩) } } },
    by decide⟩,
   ⟨{ State.reset with
        csq := { State.reset.csq with state := .indexing, flight := (some ⟨.advance, .panel, 1, 5, .forward, 0, 99, false, true, false, 1⟩) }
        sar := { State.reset.sar with waiting := (some ⟨.link, .seek, 0, 99, 99⟩) } }, ⟨.advance, .panel, 1, 5,
    .forward, 0, 99, false, true, false, 1⟩, ⟨.link, .seek, 0, 99, 99⟩, by decide⟩,
   ⟨State.reset, by decide⟩,
   ⟨{ State.reset with
        sar := { State.reset.sar with waiting := (some ⟨.program, .advance, 1, 2, 5⟩) }
        csq := { State.reset.csq with origin := (some 5) }
        tru := { State.reset.tru with position := (some 0), present := true } }, ⟨.program, .advance, 1, 2, 5⟩, 1,
    by decide, by decide, by decide, by decide, okOf (by decide)⟩,
   ⟨{ State.reset with
        sar := { State.reset.sar with waiting := (some ⟨.panel, .reverse, -15, 85, 0⟩) }
        tru := { State.reset.tru with present := true } }, ⟨.panel, .reverse, -15, 85, 0⟩, .notHomed, by decide, by
    decide, by decide, by decide, by decide, errorOf (by decide)⟩,
   ⟨{ State.reset with pnp := { State.reset.pnp with power := .resetHeld } }, by decide⟩,
   ⟨{ State.reset with
        tru := { State.reset.tru with position := (some 98), present := true }
        sar := { State.reset.sar with waiting := (some ⟨.remote, .advance, 1, 2, 5⟩) }
        csq := { State.reset.csq with origin := (some 5) } }, ⟨.remote, .advance, 1, 2, 5⟩, 99, by decide, by
    decide, by decide, by decide, by decide, okOf (by decide)⟩,
   ⟨{ State.reset with
        tru := { State.reset.tru with present := true }
        sar := { State.reset.sar with waiting := (some ⟨.panel, .advance, 15, 15, 5⟩) } }, ⟨.panel, .advance, 15,
    15, 5⟩, .notHomed, by decide, by decide, by decide, by decide, by decide, errorOf (by decide)⟩,
   ⟨{ State.reset with
        sar := { State.reset.sar with waiting := (some ⟨.panel, .seek, 0, 7, 5⟩) }
        tru := { State.reset.tru with position := (some 98), present := true } }, ⟨.panel, .seek, 0, 7, 5⟩, by
    decide⟩,
   ⟨State.reset, by decide⟩⟩

theorem test_hyps_ArbitrationSettingsAndReads :
    (∃ (s : State) (n : Byte) (b : SourceBytes) (src : Source) (r : SourceRec), Awake s ∧ n.toNat = src.code ∧
      SourceRec.parse src b = some r ∧ (∀ f ∈ s.csq.flight, f.owner ≠ src) ∧ (∀ w ∈ s.sar.waiting, w.source ≠ src))
    ∧ (∃ (s : State) (n : Byte) (b : SourceBytes) (src : Source) (r : SourceRec) (f : Flight), Awake s ∧ n.toNat =
      src.code ∧ SourceRec.parse src b = some r ∧ s.csq.flight = some f ∧ f.owner = src)
    ∧ (∃ (s : State) (n : Byte) (b : SourceBytes) (src : Source) (r : SourceRec) (w : Waiting), Awake s ∧ n.toNat =
      src.code ∧ SourceRec.parse src b = some r ∧ s.sar.waiting = some w ∧ w.source = src)
    ∧ (∃ (s : State) (n : Byte) (b : SourceBytes) (src : Source), Awake s ∧ n.toNat = src.code ∧ (1 < b.enable.toNat ∨ 2 <
      b.route.toNat ∨ 2 < b.destType.toNat ∨ 3 < b.priority.toNat ∨ 99 < b.base.toNat ∨ 99 < b.limit.toNat ∨
      b.limit.toNat < b.base.toNat ∨ (b.destType.toNat = 0 ∧ 14 < b.destNum.toNat) ∨ (b.destType.toNat = 1 ∧
      (b.destNum.toNat = 0 ∨ 8 < b.destNum.toNat)) ∨ (src = .link ∧ b.route.toNat ≠ 0)))
    ∧ (∃ (src : Source) (b : SourceBytes), SourceRec.parse src b = none)
    ∧ (∃ (s : State) (n : Byte), Awake s ∧ 3 < n.toNat)
    ∧ (∃ (s : State) (n : Byte) (src : Source), Awake s ∧ n.toNat = src.code)
    ∧ (∃ (s : State) (fade : Byte), Awake s ∧ fade.toNat ≤ 99)
    ∧ (∃ (s : State) (fade : Byte), Awake s ∧ 99 < fade.toNat)
    ∧ (∃ (s : State), Awake s) :=
  ⟨⟨State.reset, 2, ⟨1, 3, 15, 0, 99, 255, 2, 0, 14⟩, .program, ⟨true, 3, true, true, true, true, 0, 99, 255, .both,
    .node 14⟩, by decide⟩,
   ⟨{ State.reset with
        csq := { State.reset.csq with flight := (some ⟨.advance, .panel, 1, 5, .forward, 0, 99, false, true, false, 1⟩) } },
    0, ⟨1, 0, 0, 0, 0, 0, 0, 2, 0⟩, .panel, ⟨true, 0, false, false, false, false, 0, 0, 0, .here, .all⟩, ⟨.advance,
    .panel, 1, 5, .forward, 0, 99, false, true, false, 1⟩, by decide⟩,
   ⟨{ State.reset with sar := { State.reset.sar with waiting := (some ⟨.remote, .advance, 1, 2, 5⟩) } }, 1, ⟨1, 0, 0,
    0, 0, 0, 0, 2, 0⟩, .remote, ⟨true, 0, false, false, false, false, 0, 0, 0, .here, .all⟩, ⟨.remote, .advance, 1,
    2, 5⟩, by decide⟩,
   ⟨State.reset, 3, ⟨2, 0, 0, 0, 0, 0, 0, 2, 0⟩, .link, by decide⟩,
   ⟨.remote, ⟨2, 0, 0, 0, 0, 0, 0, 2, 0⟩, by decide⟩,
   ⟨State.reset, 118, by decide⟩,
   ⟨State.reset, 0, .panel, by decide⟩,
   ⟨State.reset, 99, by decide⟩,
   ⟨State.reset, 128, by decide⟩,
   ⟨State.reset, by decide⟩⟩

theorem test_hyps_ReadLastChangeClearsTheRefusalCounts :
    (∃ (s : State), Awake s)
    ∧ (∃ (s : State) (src : Source), s.sar.cfg.mask.get src = true) :=
  ⟨⟨State.reset, by decide⟩,
   ⟨State.reset, .panel, by decide⟩⟩

theorem test_hyps_LampOnByTable :
    (∃ (s : State), Powered s ∧ s.pnp.power = .run ∧ classOk .panel .lamp s = true ∧ s.lmc.lamp = .fault)
    ∧ (∃ (s : State), Powered s ∧ s.pnp.power = .run ∧ classOk .panel .lamp s = true ∧ s.lmc.lamp ≠ .fault ∧ s.lmc.trip =
      true)
    ∧ (∃ (s : State), Powered s ∧ s.pnp.power = .run ∧ classOk .panel .lamp s = true ∧ s.lmc.trip = false ∧ (s.lmc.lamp =
      .preheat ∨ s.lmc.lamp = .lit))
    ∧ (∃ (s : State), Powered s ∧ s.pnp.power = .run ∧ classOk .panel .lamp s = true ∧ s.lmc.trip = false ∧ (s.lmc.lamp =
      .off ∨ s.lmc.lamp = .cooling) ∧ 60 ≤ s.lmc.temp.getD 60)
    ∧ (∃ (s : State), Powered s ∧ s.pnp.power = .run ∧ classOk .panel .lamp s = true ∧ s.lmc.trip = false ∧ (s.lmc.lamp =
      .off ∨ s.lmc.lamp = .cooling) ∧ s.lmc.temp.getD 60 < 60 ∧ s.lmc.dim = true)
    ∧ (∃ (s : State), Powered s ∧ s.pnp.power = .run ∧ classOk .panel .lamp s = true ∧ s.lmc.trip = false ∧ (s.lmc.lamp =
      .off ∨ s.lmc.lamp = .cooling) ∧ s.lmc.temp.getD 60 < 60 ∧ s.lmc.dim = false)
    ∧ (∃ (s : State), Powered s ∧ s.pnp.power ≠ .resetHeld ∧ classOk .panel .lamp s = false)
    ∧ (∃ (s : State), Powered s ∧ (s.pnp.power = .standby ∨ s.pnp.power = .standbyPending) ∧ classOk .panel .lamp s =
      true)
    ∧ (∃ (s : State) (w : Waiting) (q : Nat), Powered s ∧ (s.pnp.power = .standby ∨ s.pnp.power = .standbyPending) ∧
      classOk .panel .lamp s = true ∧ s.sar.waiting = some w ∧ DueAtRun s w ∧ startCheck w s = .ok q) :=
  ⟨⟨{ State.reset with lmc := { State.reset.lmc with lamp := .fault } }, by decide⟩,
   ⟨{ State.reset with lmc := { State.reset.lmc with trip := true } }, by decide⟩,
   ⟨{ State.reset with lmc := { State.reset.lmc with lamp := .lit } }, by decide⟩,
   ⟨State.reset, by decide⟩,
   ⟨{ State.reset with lmc := { State.reset.lmc with temp := (some 20), dim := true } }, by decide⟩,
   ⟨{ State.reset with lmc := { State.reset.lmc with temp := (some 59) } }, by decide⟩,
   ⟨{ State.reset with
        sar := { State.reset.sar with sources := { State.reset.sar.sources with panel := (⟨true, 0, false, false, false, false, 0, 99, 0, .here, .all⟩) } } },
    by decide⟩,
   ⟨{ State.reset with pnp := { State.reset.pnp with power := .standby } }, by decide⟩,
   ⟨{ State.reset with
        sar := { State.reset.sar with waiting := (some ⟨.program, .advance, 1, 2, 5⟩) }
        tru := { State.reset.tru with present := true, position := (some 2) }
        pnp := { State.reset.pnp with power := .standbyPending } }, ⟨.program, .advance, 1, 2, 5⟩, 3, by decide, by
    decide, by decide, by decide, by decide, okOf (by decide)⟩⟩

theorem test_hyps_LampOffPreheatAndCooling :
    (∃ (s : State), Awake s ∧ classOk .panel .lamp s = true ∧ (s.lmc.lamp = .preheat ∨ s.lmc.lamp = .lit))
    ∧ (∃ (s : State), Awake s ∧ classOk .panel .lamp s = true ∧ s.lmc.lamp ≠ .preheat ∧ s.lmc.lamp ≠ .lit)
    ∧ (∃ (s : State), Awake s ∧ classOk .panel .lamp s = false)
    ∧ (∃ (s : State), Powered s ∧ s.lmc.lamp = .preheat)
    ∧ (∃ (s : State), Powered s ∧ s.lmc.lamp ≠ .preheat)
    ∧ (∃ (s : State), Powered s ∧ s.lmc.lamp = .cooling ∧ s.lmc.temp.getD 45 < 45)
    ∧ (∃ (s : State), Powered s ∧ s.lmc.lamp = .cooling ∧ 45 ≤ s.lmc.temp.getD 45)
    ∧ (∃ (s : State), Powered s ∧ s.lmc.lamp = .fault ∧ s.lmc.coolDone = false ∧ s.lmc.temp.getD 45 < 45)
    ∧ (∃ (s : State), Powered s ∧ s.lmc.lamp ≠ .cooling ∧ s.lmc.lamp ≠ .fault)
    ∧ (∃ (s : State), Powered s)
    ∧ (∃ (s : State), Powered s ∧ s.lmc.lamp = .lit ∧ 0 < s.lmc.output ∧ s.pins.lcur = false)
    ∧ (∃ (s : State), Powered s ∧ (s.lmc.lamp ≠ .lit ∨ s.lmc.output = 0 ∨ s.pins.lcur = true)) :=
  ⟨⟨{ State.reset with lmc := { State.reset.lmc with lamp := .preheat } }, by decide⟩,
   ⟨State.reset, by decide⟩,
   ⟨{ State.reset with
        sar := { State.reset.sar with sources := { State.reset.sar.sources with panel := (⟨false, 0, true, true, true, true, 0, 99, 0, .here, .all⟩) } } },
    by decide⟩,
   ⟨{ State.reset with lmc := { State.reset.lmc with lamp := .preheat } }, by decide⟩,
   ⟨State.reset, by decide⟩,
   ⟨{ State.reset with lmc := { State.reset.lmc with lamp := .cooling, temp := (some 20) } }, by decide⟩,
   ⟨{ State.reset with lmc := { State.reset.lmc with lamp := .cooling } }, by decide⟩,
   ⟨{ State.reset with lmc := { State.reset.lmc with lamp := .fault, temp := (some 44) } }, by decide⟩,
   ⟨State.reset, by decide⟩,
   ⟨State.reset, by decide⟩,
   ⟨{ State.reset with lmc := { State.reset.lmc with lamp := .lit, ramp := (⟨200, 200, 0, 0, 0⟩) } }, by decide⟩,
   ⟨State.reset, by decide⟩⟩

theorem test_hyps_RampLevelAndOutput :
    (∃ (r : Ramp), r.duration = 0)
    ∧ (∃ (r : Ramp), 0 < r.duration ∧ r.start ≤ r.target)
    ∧ (∃ (r : Ramp), 0 < r.duration ∧ r.target < r.start)
    ∧ (∃ (r : Ramp), 0 < r.duration ∧ r.elapsed = 0)
    ∧ (∃ (r : Ramp), 0 < r.duration ∧ r.elapsed = r.duration)
    ∧ (∃ (l : Lmc), l.claim = .hold)
    ∧ (∃ (l : Lmc), l.claim ≠ .hold ∧ l.lamp = .preheat)
    ∧ (∃ (l : Lmc), l.claim ≠ .hold ∧ l.lamp = .lit ∧ l.derate = false ∧ l.guardCap = false)
    ∧ (∃ (l : Lmc), l.claim ≠ .hold ∧ l.lamp = .lit ∧ l.derate = true ∧ l.guardCap = false)
    ∧ (∃ (l : Lmc), l.claim ≠ .hold ∧ l.lamp = .lit ∧ l.guardCap = true)
    ∧ (∃ (l : Lmc), (l.lamp = .off ∨ l.lamp = .cooling ∨ l.lamp = .fault)) :=
  ⟨⟨⟨7, 9, 0, 0, 0⟩, by decide⟩,
   ⟨⟨0, 255, 5, 0, 0⟩, by decide⟩,
   ⟨⟨255, 0, 5, 5, 0⟩, by decide⟩,
   ⟨⟨0, 255, 5, 0, 0⟩, by decide⟩,
   ⟨⟨255, 0, 5, 5, 0⟩, by decide⟩,
   ⟨{ Lmc.reset with lamp := .lit, claim := .hold, derate := false, guardCap := false }, by decide⟩,
   ⟨{ Lmc.reset with lamp := .preheat, claim := .none, derate := false, guardCap := false }, by decide⟩,
   ⟨{ Lmc.reset with lamp := .lit, claim := .none, derate := false, guardCap := false }, by decide⟩,
   ⟨{ Lmc.reset with lamp := .lit, claim := .none, derate := true, guardCap := false }, by decide⟩,
   ⟨{ Lmc.reset with lamp := .lit, claim := .none, derate := true, guardCap := true }, by decide⟩,
   ⟨{ Lmc.reset with lamp := .off, claim := .none, derate := false, guardCap := false }, by decide⟩⟩

theorem test_hyps_ShowLevelAndHeatGuard :
    (∃ (s : State) (f : Byte), Awake s ∧ classOk .panel .lamp s = true ∧ (f.toNat ≤ 99 ∨ f = 0xFF) ∧ s.lmc.lamp = .lit ∧
      s.lmc.claim = .none ∧ RevealStartsNothing s)
    ∧ (∃ (s : State) (f : Byte) (w : Waiting) (q : Nat), Awake s ∧ classOk .panel .lamp s = true ∧ (f.toNat ≤ 99 ∨ f =
      0xFF) ∧ s.lmc.lamp = .lit ∧ s.lmc.claim = .none ∧ s.lmc.owed = true ∧ s.csq.state = .revealing ∧
      s.csq.shutDone = true ∧ s.sar.waiting = some w ∧ LetIn s.csq.ownerNow s w ∧ startCheck w s = .ok q)
    ∧ (∃ (s : State) (l : Byte) (f : Byte), Awake s ∧ classOk .panel .lamp s = true ∧ (f.toNat ≤ 99 ∨ f = 0xFF) ∧
      (s.lmc.lamp ≠ .lit ∨ s.lmc.claim ≠ .none) ∧ 200 < l.toNat)
    ∧ (∃ (s : State) (l : Byte) (f : Byte), Awake s ∧ classOk .panel .lamp s = true ∧ (f.toNat ≤ 99 ∨ f = 0xFF) ∧
      (s.lmc.lamp ≠ .lit ∨ s.lmc.claim ≠ .none) ∧ l.toNat ≤ 200)
    ∧ (∃ (s : State) (f : Byte), Awake s ∧ classOk .panel .lamp s = true ∧ 99 < f.toNat ∧ f ≠ 0xFF)
    ∧ (∃ (s : State), Awake s ∧ classOk .panel .lamp s = false)
    ∧ (∃ (s : State), Powered s ∧ s.lmc.lamp = .lit ∧ s.lmc.ramp.elapsed < s.lmc.ramp.duration)
    ∧ (∃ (s : State) (f : Flight), Powered s ∧ s.lmc.lamp = .lit ∧ s.lmc.ramp.elapsed + 1 = s.lmc.ramp.duration ∧
      s.lmc.ramp.target = 0 ∧ s.lmc.claim = .fade ∧ s.csq.state = .blanking ∧ s.csq.flight = some f ∧ s.lmc.owed =
      false)
    ∧ (∃ (s : State) (f : Flight), Powered s ∧ s.lmc.lamp = .lit ∧ s.lmc.ramp.elapsed + 1 = s.lmc.ramp.duration ∧
      s.lmc.claim = .none ∧ s.lmc.owed = true ∧ s.csq.state = .revealing ∧ s.csq.shutDone = true ∧ s.csq.flight =
      some f ∧ StartsNothing f.owner s)
    ∧ (∃ (s : State) (f : Flight) (w : Waiting) (q : Nat), Powered s ∧ s.lmc.lamp = .lit ∧ s.lmc.ramp.elapsed + 1 =
      s.lmc.ramp.duration ∧ s.lmc.claim = .none ∧ s.lmc.owed = true ∧ s.csq.state = .revealing ∧ s.csq.shutDone =
      true ∧ s.csq.flight = some f ∧ s.sar.waiting = some w ∧ LetIn f.owner s w ∧ startCheck w s = .ok q)
    ∧ (∃ (s : State), Powered s ∧ s.lmc.lamp = .lit ∧ s.lmc.ramp.elapsed + 1 = s.lmc.ramp.duration ∧ s.lmc.claim = .none ∧
      s.lmc.owed = true ∧ s.csq.state = .revealing ∧ s.csq.shutDone = false)
    ∧ (∃ (s : State), Powered s ∧ (s.lmc.lamp ≠ .lit ∨ s.lmc.ramp.duration ≤ s.lmc.ramp.elapsed))
    ∧ (∃ (s : State), Powered s ∧ s.csq.gate = .seated ∧ s.lmc.lamp = .lit ∧ 200 < s.lmc.output ∧ s.lmc.cfg.heat ≠ 0 ∧
      s.lmc.guardCap = false)
    ∧ (∃ (s : State), Powered s ∧ (s.csq.gate ≠ .seated ∨ s.lmc.lamp ≠ .lit ∨ s.lmc.output ≤ 200 ∨ s.lmc.cfg.heat = 0 ∨
      s.lmc.guardCap = true)) :=
  ⟨⟨{ State.reset with lmc := { State.reset.lmc with lamp := .lit } }, 80, by decide⟩,
   ⟨{ State.reset with
        csq := { State.reset.csq with shutDone := true, state := .revealing }
        lmc := { State.reset.lmc with lamp := .lit, owed := true }
        sar := { State.reset.sar with waiting := (some ⟨.panel, .reverse, -3, 4, 5⟩) }
        tru := { State.reset.tru with present := true, position := (some 2) } }, 15, ⟨.panel, .reverse, -3, 4, 5⟩,
    98, by decide, by decide, by decide, by decide, by decide, by decide, by decide, by decide, by decide, by
    decide, okOf (by decide)⟩,
   ⟨State.reset, 241, 51, by decide⟩,
   ⟨State.reset, 100, 63, by decide⟩,
   ⟨State.reset, 201, by decide⟩,
   ⟨{ State.reset with
        sar := { State.reset.sar with sources := { State.reset.sar.sources with panel := (⟨true, 0, false, false, false, false, 0, 99, 0, .here, .all⟩) } } },
    by decide⟩,
   ⟨{ State.reset with lmc := { State.reset.lmc with lamp := .lit, ramp := (⟨0, 200, 5, 4, 0⟩) } }, by decide⟩,
   ⟨{ State.reset with
        csq := { State.reset.csq with state := .blanking, flight := (some ⟨.reverse, .remote, 98, 5, .reverse, 0, 99, false, true, true, 1⟩) }
        lmc := { State.reset.lmc with lamp := .lit, ramp := (⟨200, 0, 5, 4, 0⟩), claim := .fade } }, ⟨.reverse,
    .remote, 98, 5, .reverse, 0, 99, false, true, true, 1⟩, by decide⟩,
   ⟨{ State.reset with
        csq := { State.reset.csq with shutDone := true, flight := (some ⟨.seek, .program, 7, 5, .forward, 0, 99, false, false, false, 1⟩), state := .revealing }
        lmc := { State.reset.lmc with ramp := (⟨200, 0, 5, 4, 0⟩), lamp := .lit, owed := true } }, ⟨.seek, .program,
    7, 5, .forward, 0, 99, false, false, false, 1⟩, by decide⟩,
   ⟨{ State.reset with
        lmc := { State.reset.lmc with lamp := .lit, ramp := (⟨200, 0, 5, 4, 0⟩), owed := true }
        tru := { State.reset.tru with present := true, position := (some 5) }
        sar := { State.reset.sar with waiting := (some ⟨.link, .seek, 0, 99, 99⟩) }
        csq := { State.reset.csq with shutDone := true, flight := (some ⟨.advance, .panel, 99, 5, .forward, 0, 99, false, true, true, 1⟩), state := .revealing } },
    ⟨.advance, .panel, 99, 5, .forward, 0, 99, false, true, true, 1⟩, ⟨.link, .seek, 0, 99, 99⟩, 99, by decide, by
    decide, by decide, by decide, by decide, by decide, by decide, by decide, by decide, by decide, okOf (by
    decide)⟩,
   ⟨{ State.reset with
        lmc := { State.reset.lmc with lamp := .lit, owed := true, ramp := (⟨0, 200, 5, 4, 0⟩) }
        csq := { State.reset.csq with state := .revealing } }, by decide⟩,
   ⟨State.reset, by decide⟩,
   ⟨{ State.reset with
        csq := { State.reset.csq with gate := .seated }
        lmc := { State.reset.lmc with ramp := (⟨201, 201, 0, 0, 0⟩), lamp := .lit } }, by decide⟩,
   ⟨State.reset, by decide⟩⟩

theorem test_hyps_LampServiceCommands :
    (∃ (s : State), Awake s ∧ ((s.lmc.lamp = .fault ∧ s.lmc.coolDone = true) ∨ s.lmc.lamp = .off))
    ∧ (∃ (s : State), Awake s ∧ s.lmc.lamp = .fault ∧ s.lmc.coolDone = false)
    ∧ (∃ (s : State), Awake s ∧ (s.lmc.lamp = .preheat ∨ s.lmc.lamp = .lit ∨ s.lmc.lamp = .cooling))
    ∧ (∃ (s : State), Awake s ∧ s.lmc.trip = false)
    ∧ (∃ (s : State), Awake s ∧ s.lmc.trip = true ∧ 60 ≤ s.lmc.temp.getD 60)
    ∧ (∃ (s : State), Awake s ∧ s.lmc.trip = true ∧ s.lmc.temp.getD 60 < 60 ∧ s.lmc.fanStall = true)
    ∧ (∃ (s : State), Awake s ∧ s.lmc.trip = true ∧ s.lmc.temp.getD 60 < 60 ∧ s.lmc.fanStall = false)
    ∧ (∃ (s : State) (b : LampBytes), Awake s ∧ 50 ≤ b.warn.toNat ∧ b.warn.toNat ≤ 150 ∧ b.warn.toNat + 5 ≤ b.trip.toNat ∧
      b.trip.toNat ≤ 180 ∧ b.minCool.toNat ≤ 600)
    ∧ (∃ (s : State) (b : LampBytes), Awake s ∧ (b.warn.toNat < 50 ∨ 150 < b.warn.toNat ∨ b.trip.toNat < b.warn.toNat + 5
      ∨ 180 < b.trip.toNat ∨ 600 < b.minCool.toNat))
    ∧ (∃ (s : State), Awake s) :=
  ⟨⟨State.reset, by decide⟩,
   ⟨{ State.reset with lmc := { State.reset.lmc with lamp := .fault } }, by decide⟩,
   ⟨{ State.reset with lmc := { State.reset.lmc with lamp := .cooling } }, by decide⟩,
   ⟨State.reset, by decide⟩,
   ⟨{ State.reset with lmc := { State.reset.lmc with trip := true } }, by decide⟩,
   ⟨{ State.reset with lmc := { State.reset.lmc with fanStall := true, temp := (some 45), trip := true } }, by decide⟩,
   ⟨{ State.reset with lmc := { State.reset.lmc with temp := (some 45), trip := true } }, by decide⟩,
   ⟨State.reset, ⟨150, 180, 600, 255, 255⟩, by decide⟩,
   ⟨State.reset, ⟨49, 180, 600, 255, 255⟩, by decide⟩,
   ⟨State.reset, by decide⟩⟩

theorem test_hyps_SamplesStallsAndHours :
    (∃ (s : State), Powered s)
    ∧ (∃ (s : State) (v : Option Nat), Powered s ∧ s.lmc.cfg.trip ≤ min (v.getD 200) 200 ∧ s.lmc.trip = false ∧
      (s.lmc.lamp = .preheat ∨ s.lmc.lamp = .lit) ∧ s.pnp.power ≠ .standby)
    ∧ (∃ (s : State) (v : Option Nat), Powered s ∧ s.lmc.cfg.trip ≤ min (v.getD 200) 200 ∧ s.lmc.trip = false ∧
      (s.lmc.lamp = .off ∨ s.lmc.lamp = .cooling ∨ s.lmc.lamp = .fault) ∧ s.pnp.power ≠ .standby ∧ s.lmc.temp ≠
      none)
    ∧ (∃ (s : State) (v : Nat), Powered s ∧ v < 60 ∧ v < s.lmc.cfg.trip ∧ s.lmc.restrike = true ∧ (s.lmc.lamp = .off ∨
      s.lmc.lamp = .cooling) ∧ s.lmc.dim = true ∧ s.pnp.power ≠ .standby ∧ s.lmc.owed = false)
    ∧ (∃ (s : State) (v : Option Nat), Powered s ∧ s.lmc.temp = none ∧ s.lmc.lamp = .off ∧ s.pnp.power ≠ .standby ∧ 45 ≤
      min (v.getD 200) 200 ∧ (min (v.getD 200) 200 < s.lmc.cfg.trip ∨ s.lmc.trip = true) ∧ (s.lmc.restrike = false ∨
      60 ≤ min (v.getD 200) 200) ∧ (s.lmc.owed = false ∨ s.lmc.deferred = false))
    ∧ (∃ (s : State) (v : Nat), Powered s ∧ s.lmc.temp = none ∧ s.lmc.lamp = .off ∧ v < 45 ∧ v < s.lmc.cfg.trip ∧
      s.lmc.restrike = false ∧ s.lmc.deferred = false)
    ∧ (∃ (s : State) (v : Option Nat), Powered s ∧ s.lmc.temp = none ∧ s.lmc.lamp = .off ∧ s.pnp.power ≠ .standby ∧
      s.lmc.cfg.trip ≤ min (v.getD 200) 200 ∧ s.lmc.trip = false)
    ∧ (∃ (s : State) (v : Option Nat), Powered s ∧ s.pnp.power = .standby ∧ s.lmc.lamp = .off ∧ s.lmc.owed = false ∧
      s.lmc.cfg.trip ≤ min (v.getD 200) 200 ∧ s.lmc.trip = false)
    ∧ (∃ (s : State) (v : Nat), Powered s ∧ v < 60 ∧ v < s.lmc.cfg.trip ∧ s.lmc.restrike = true ∧ (s.lmc.lamp = .off ∨
      s.lmc.lamp = .cooling) ∧ s.lmc.dim = false ∧ s.pnp.power ≠ .standby ∧ RevealStartsNothing s)
    ∧ (∃ (s : State) (v : Nat), Powered s ∧ v < 45 ∧ v < s.lmc.cfg.trip ∧ s.lmc.restrike = false ∧ s.lmc.lamp = .cooling ∧
      s.lmc.coolRunning = false ∧ s.lmc.deferred = false)
    ∧ (∃ (s : State), Powered s ∧ s.lmc.fan ≠ .off)
    ∧ (∃ (s : State), Powered s ∧ s.lmc.fan = .off)
    ∧ (∃ (s : State), Powered s ∧ s.lmc.fan ≠ .off ∧ s.lmc.fanStall = false ∧ s.lmc.lamp ≠ .preheat ∧ s.lmc.lamp ≠ .lit)
    ∧ (∃ (s : State), Powered s ∧ s.lmc.fan ≠ .off ∧ s.lmc.fanStall = false ∧ s.lmc.temp ≠ none ∧ s.pnp.power ≠ .standby ∧
      (s.lmc.lamp = .preheat ∨ s.lmc.lamp = .lit))
    ∧ (∃ (s : State), Powered s ∧ (s.lmc.fan = .off ∨ s.lmc.fanStall = true))
    ∧ (∃ (s : State), Powered s ∧ s.lmc.lamp = .lit ∧ s.pnp.power ≠ .standby)
    ∧ (∃ (s : State), Powered s ∧ s.lmc.lamp ≠ .lit) :=
  ⟨⟨State.reset, by decide⟩,
   ⟨{ State.reset with lmc := { State.reset.lmc with lamp := .lit } }, none, by decide⟩,
   ⟨{ State.reset with lmc := { State.reset.lmc with temp := (some 105) } }, none, by decide⟩,
   ⟨{ State.reset with lmc := { State.reset.lmc with dim := true, restrike := true } }, 1, by decide⟩,
   ⟨{ State.reset with lmc := { State.reset.lmc with trip := true } }, none, by decide⟩,
   ⟨State.reset, 3, by decide⟩,
   ⟨State.reset, none, by decide⟩,
   ⟨{ State.reset with pnp := { State.reset.pnp with power := .standby } }, none, by decide⟩,
   ⟨{ State.reset with lmc := { State.reset.lmc with restrike := true } }, 2, by decide⟩,
   ⟨{ State.reset with lmc := { State.reset.lmc with lamp := .cooling } }, 0, by decide⟩,
   ⟨State.reset, by decide⟩,
   ⟨{ State.reset with lmc := { State.reset.lmc with fan := .off } }, by decide⟩,
   ⟨State.reset, by decide⟩,
   ⟨{ State.reset with lmc := { State.reset.lmc with lamp := .lit, temp := (some 20) } }, by decide⟩,
   ⟨{ State.reset with lmc := { State.reset.lmc with fanStall := true } }, by decide⟩,
   ⟨{ State.reset with lmc := { State.reset.lmc with lamp := .lit } }, by decide⟩,
   ⟨State.reset, by decide⟩⟩

theorem test_hyps_DeckClaims :
    (∃ (s : State), Awake s ∧ s.shc.phase = .held)
    ∧ (∃ (s : State), Awake s ∧ s.shc.phase ≠ .held ∧ (s.dkc.deck = .starting ∨ s.dkc.deck = .playing))
    ∧ (∃ (s : State), Awake s ∧ s.shc.phase ≠ .held ∧ s.dkc.deck = .ended ∧ s.pins.tapeEnd = true)
    ∧ (∃ (s : State), Awake s ∧ s.shc.phase ≠ .held ∧ s.dkc.deck ≠ .starting ∧ s.dkc.deck ≠ .playing ∧ s.dkc.deck ≠ .fault
      ∧ ((s.dkc.deck = .ended → s.pins.tapeEnd = false)) ∧ s.pins.running = false)
    ∧ (∃ (s : State), Awake s ∧ s.shc.phase ≠ .held ∧ s.dkc.deck ≠ .starting ∧ s.dkc.deck ≠ .playing ∧ s.dkc.deck ≠ .fault
      ∧ s.pins.tapeEnd = false ∧ s.pins.running = true)
    ∧ (∃ (s : State), Awake s ∧ s.shc.phase ≠ .held ∧ s.dkc.deck = .fault ∧ s.pins.running = false)
    ∧ (∃ (s : State), s.dkc.deck = .fault ∧ s.shc.phase ≠ .held)
    ∧ (∃ (s : State), Awake s ∧ (s.dkc.deck = .playing ∨ s.dkc.deck = .starting))
    ∧ (∃ (s : State), Awake s ∧ (s.dkc.deck = .pausing ∨ s.dkc.deck = .paused))
    ∧ (∃ (s : State), Awake s ∧ (s.dkc.deck = .stopped ∨ s.dkc.deck = .ended ∨ s.dkc.deck = .fault))
    ∧ (∃ (s : State), Awake s ∧ s.dkc.deck ≠ .fault)
    ∧ (∃ (s : State), Awake s ∧ s.dkc.deck = .fault ∧ s.shc.autoResume = false)
    ∧ (∃ (s : State), Powered s) :=
  ⟨⟨{ State.reset with shc := { State.reset.shc with phase := .held } }, by decide⟩,
   ⟨{ State.reset with dkc := { State.reset.dkc with deck := .playing } }, by decide⟩,
   ⟨{ State.reset with
        dkc := { State.reset.dkc with deck := .ended }
        pins := { State.reset.pins with tapeEnd := true } }, by decide⟩,
   ⟨State.reset, by decide⟩,
   ⟨{ State.reset with pins := { State.reset.pins with running := true } }, by decide⟩,
   ⟨{ State.reset with dkc := { State.reset.dkc with deck := .fault } }, by decide⟩,
   ⟨{ State.reset with dkc := { State.reset.dkc with deck := .fault } }, by decide⟩,
   ⟨{ State.reset with dkc := { State.reset.dkc with deck := .playing } }, by decide⟩,
   ⟨{ State.reset with dkc := { State.reset.dkc with deck := .paused } }, by decide⟩,
   ⟨State.reset, by decide⟩,
   ⟨State.reset, by decide⟩,
   ⟨{ State.reset with dkc := { State.reset.dkc with deck := .fault } }, by decide⟩,
   ⟨State.reset, by decide⟩⟩

theorem test_hyps_DeckFollowsItsLinesAndLimits :
    (∃ (s : State) (e : Bool), Awake s ∧ s.dkc.deck = .starting ∧ s.pins.running = false ∧ e = false)
    ∧ (∃ (s : State) (e : Bool), Awake s ∧ s.dkc.deck = .starting ∧ s.pins.running = false ∧ e = true ∧ s.shc.phase ≠
      .running)
    ∧ (∃ (s : State), Awake s ∧ s.dkc.deck = .playing ∧ s.pins.running = false ∧ s.pins.tapeEnd = false)
    ∧ (∃ (s : State), Awake s ∧ s.dkc.deck = .stopped ∧ s.pins.running = false ∧ s.dkc.stopPulse = none ∧ s.shc.phase ≠
      .held ∧ s.dkc.cfg.external = false)
    ∧ (∃ (s : State), Powered s ∧ s.pnp.power = .run ∧ s.dkc.deck = .stopped ∧ s.pins.running = false ∧ s.dkc.stopPulse =
      none ∧ s.shc.phase = .stopped ∧ s.shc.causes = Causes.empty ∧ s.dkc.cfg.external = true)
    ∧ (∃ (s : State), Awake s ∧ s.dkc.deck = .stopped ∧ s.pins.running = false ∧ (s.dkc.stopPulse ≠ none ∨ s.shc.phase =
      .held))
    ∧ (∃ (s : State), Awake s ∧ s.dkc.deck = .playing ∧ s.pins.running = true)
    ∧ (∃ (s : State), Awake s ∧ s.dkc.deck = .pausing ∧ s.pins.running = true)
    ∧ (∃ (s : State), Awake s ∧ s.dkc.deck = .playing ∧ s.pins.tapeEnd = false ∧ s.shc.phase ≠ .running)
    ∧ (∃ (s : State), Awake s ∧ s.dkc.deck = .playing ∧ s.pins.tapeEnd = false ∧ s.shc.phase = .running ∧ s.crn.queue ≠
      [])
    ∧ (∃ (s : State), Awake s ∧ s.dkc.deck ≠ .playing)
    ∧ (∃ (s : State), Powered s ∧ s.pnp.power ≠ .resetHeld ∧ s.dkc.deck = .starting)
    ∧ (∃ (s : State), Powered s ∧ s.pnp.power ≠ .resetHeld ∧ s.dkc.deck = .playing ∧ s.dkc.stall ≠ none)
    ∧ (∃ (s : State), Powered s ∧ s.pnp.power ≠ .resetHeld ∧ s.dkc.deck = .pausing)
    ∧ (∃ (s : State), Powered s ∧ s.dkc.deck ≠ .starting)
    ∧ (∃ (s : State), Powered s ∧ s.dkc.deck ≠ .playing)
    ∧ (∃ (s : State), Powered s ∧ s.dkc.deck ≠ .pausing) :=
  ⟨⟨{ State.reset with dkc := { State.reset.dkc with deck := .starting } }, false, by decide⟩,
   ⟨{ State.reset with dkc := { State.reset.dkc with deck := .starting } }, true, by decide⟩,
   ⟨{ State.reset with dkc := { State.reset.dkc with deck := .playing } }, by decide⟩,
   ⟨{ State.reset with dkc := { State.reset.dkc with stopPulse := none } }, by decide⟩,
   ⟨{ State.reset with
        dkc := { State.reset.dkc with stopPulse := none, cfg := { State.reset.dkc.cfg with external := true } } },
    by decide⟩,
   ⟨State.reset, by decide⟩,
   ⟨{ State.reset with
        pins := { State.reset.pins with running := true }
        dkc := { State.reset.dkc with deck := .playing } }, by decide⟩,
   ⟨{ State.reset with
        dkc := { State.reset.dkc with deck := .pausing }
        pins := { State.reset.pins with running := true } }, by decide⟩,
   ⟨{ State.reset with dkc := { State.reset.dkc with deck := .playing } }, by decide⟩,
   ⟨{ State.reset with
        crn := { State.reset.crn with queue := ([⟨.link, .step 100, 7⟩]) }
        shc := { State.reset.shc with phase := .running }
        dkc := { State.reset.dkc with deck := .playing } }, by decide⟩,
   ⟨State.reset, by decide⟩,
   ⟨{ State.reset with dkc := { State.reset.dkc with deck := .starting } }, by decide⟩,
   ⟨{ State.reset with dkc := { State.reset.dkc with deck := .playing, stall := (some 500) } }, by decide⟩,
   ⟨{ State.reset with dkc := { State.reset.dkc with deck := .pausing } }, by decide⟩,
   ⟨State.reset, by decide⟩,
   ⟨State.reset, by decide⟩,
   ⟨State.reset, by decide⟩⟩

theorem test_hyps_AudioClockAndDeckSettings :
    (∃ (s : State) (l : Byte) (f : Byte), Awake s ∧ l.toNat ≤ 63 ∧ f.toNat ≤ 99)
    ∧ (∃ (s : State) (l : Byte) (f : Byte), Awake s ∧ (63 < l.toNat ∨ 99 < f.toNat))
    ∧ (∃ (s : State), Awake s ∧ s.dkc.audio.elapsed < s.dkc.audio.duration)
    ∧ (∃ (s : State), Awake s ∧ s.dkc.deck = .playing)
    ∧ (∃ (s : State), Powered s ∧ s.dkc.deck ≠ .playing)
    ∧ (∃ (s : State), Powered s ∧ (s.pnp.power = .standby ∨ s.pnp.power = .resetHeld))
    ∧ (∃ (s : State) (x : Byte) (h : Byte) (a : Byte) (e : Bool) (k : Bool), Awake s ∧ onOff x = some e ∧ onOff h = some k
      ∧ a.toNat ≤ 63)
    ∧ (∃ (s : State) (x : Byte) (h : Byte) (a : Byte), Awake s ∧ (1 < x.toNat ∨ 1 < h.toNat ∨ 63 < a.toNat))
    ∧ (∃ (s : State), Awake s)
    ∧ (∃ (s : State), Powered s ∧ (s.dkc.deck = .stopped ∨ s.dkc.deck = .ended ∨ s.dkc.deck = .fault))
    ∧ (∃ (s : State), Powered s ∧ (s.dkc.deck = .starting ∨ s.dkc.deck = .playing))
    ∧ (∃ (s : State), Powered s ∧ (s.dkc.deck = .pausing ∨ s.dkc.deck = .paused))
    ∧ (∃ (s : State), Powered s) :=
  ⟨⟨State.reset, 7, 7, by decide⟩,
   ⟨State.reset, 81, 9, by decide⟩,
   ⟨{ State.reset with dkc := { State.reset.dkc with audio := (⟨0, 63, 5, 4, 0⟩) } }, by decide⟩,
   ⟨{ State.reset with dkc := { State.reset.dkc with deck := .playing } }, by decide⟩,
   ⟨State.reset, by decide⟩,
   ⟨{ State.reset with pnp := { State.reset.pnp with power := .standby } }, by decide⟩,
   ⟨State.reset, 0, 0, 3, false, false, by decide⟩,
   ⟨State.reset, 254, 2, 240, by decide⟩,
   ⟨State.reset, by decide⟩,
   ⟨State.reset, by decide⟩,
   ⟨{ State.reset with dkc := { State.reset.dkc with deck := .playing } }, by decide⟩,
   ⟨{ State.reset with dkc := { State.reset.dkc with deck := .pausing } }, by decide⟩,
   ⟨State.reset, by decide⟩⟩

theorem test_hyps_MuteStandsOnThreeConditions :
    (∃ (s : State), Powered s) :=
  ⟨State.reset, by decide⟩

theorem test_hyps_ToneClassFollowsThePeriods :
    (∃ (s : State), Awake s)
    ∧ (∃ (s : State), Powered s ∧ (s.pnp.power = .standby ∨ s.pnp.power = .resetHeld))
    ∧ (∃ (s : State), Awake s ∧ s.cdc.risen = false)
    ∧ (∃ (s : State) (n : Nat), Awake s ∧ s.cdc.risen = true ∧ (judge (s.cdc.highUs + n)).tone = s.cdc.tone)
    ∧ (∃ (s : State) (n : Nat), Awake s ∧ s.cdc.risen = true ∧ (judge (s.cdc.highUs + n)).tone ≠ s.cdc.tone ∧
      (s.cdc.candidate ≠ judge (s.cdc.highUs + n) ∨ s.cdc.count < 3))
    ∧ (∃ (s : State) (n : Nat), Awake s ∧ s.cdc.risen = true ∧ judge (s.cdc.highUs + n) = .a ∧ s.cdc.tone = .none ∧
      s.cdc.candidate = .a ∧ 3 ≤ s.cdc.count)
    ∧ (∃ (s : State) (n : Nat), Awake s ∧ s.cdc.risen = true ∧ judge (s.cdc.highUs + n) = .b ∧ s.cdc.tone = .none ∧
      s.cdc.candidate = .b ∧ 3 ≤ s.cdc.count ∧ s.cdc.cfg.mode ≠ .off ∧ s.cdc.word = .idle ∧ s.cdc.waitQuiet = false
      ∧ s.cdc.cfg.wordOn = true)
    ∧ (∃ (s : State) (n : Nat), Awake s ∧ s.cdc.risen = true ∧ judge (s.cdc.highUs + n) = .a ∧ s.cdc.tone = .toneB ∧
      s.cdc.candidate = .a ∧ 3 ≤ s.cdc.count)
    ∧ (∃ (s : State) (n : Nat), Awake s ∧ s.cdc.risen = true ∧ judge (s.cdc.highUs + n) = .out ∧ s.cdc.tone = .toneB ∧
      s.cdc.candidate = .out ∧ 3 ≤ s.cdc.count)
    ∧ (∃ (s : State) (n : Nat), Awake s ∧ s.cdc.risen = true ∧ judge (s.cdc.highUs + n) = .out ∧ s.cdc.tone = .toneA ∧
      s.cdc.candidate = .out ∧ 3 ≤ s.cdc.count)
    ∧ (∃ (s : State) (n : Nat), Awake s ∧ s.cdc.risen = true ∧ judge (s.cdc.highUs + n) = .b ∧ s.cdc.tone = .toneA ∧
      s.cdc.candidate = .b ∧ 3 ≤ s.cdc.count) :=
  ⟨⟨State.reset, by decide⟩,
   ⟨{ State.reset with pnp := { State.reset.pnp with power := .standby } }, by decide⟩,
   ⟨State.reset, by decide⟩,
   ⟨{ State.reset with cdc := { State.reset.cdc with risen := true } }, 63, by decide⟩,
   ⟨{ State.reset with cdc := { State.reset.cdc with highUs := 625, risen := true } }, 499, by decide⟩,
   ⟨{ State.reset with cdc := { State.reset.cdc with risen := true, highUs := 400, candidate := .a, count := 3 } },
    501, by decide⟩,
   ⟨{ State.reset with
        cdc := { State.reset.cdc with waitQuiet := false, count := 3, risen := true, candidate := .b } }, 499, by
    decide⟩,
   ⟨{ State.reset with
        cdc := { State.reset.cdc with tone := .toneB, highUs := 400, candidate := .a, count := 3, risen := true } },
    400, by decide⟩,
   ⟨{ State.reset with cdc := { State.reset.cdc with risen := true, tone := .toneB, highUs := 625, count := 3 } }, 900,
    by decide⟩,
   ⟨{ State.reset with cdc := { State.reset.cdc with count := 3, risen := true, tone := .toneA } }, 1, by decide⟩,
   ⟨{ State.reset with
        cdc := { State.reset.cdc with tone := .toneA, candidate := .b, risen := true, count := 3 } }, 500, by
    decide⟩⟩

theorem test_hyps_PulsesAndWordsBecomeCues :
    (∃ (s : State), Awake s ∧ s.cdc.tone ≠ .toneA)
    ∧ (∃ (s : State) (ms : Nat) (lo : Nat) (hi : Nat) (hold : Nat), Awake s ∧ s.cdc.tone = .toneA ∧ s.cdc.pulse =
      .measuring ms lo hi hold ∧ ms < hold ∧ (ms < lo ∨ hi < ms))
    ∧ (∃ (s : State) (ms : Nat) (lo : Nat) (hi : Nat) (hold : Nat), Awake s ∧ s.cdc.tone = .toneA ∧ s.cdc.pulse =
      .measuring ms lo hi hold ∧ ms < hold ∧ lo ≤ ms ∧ ms ≤ hi)
    ∧ (∃ (s : State) (ms : Nat) (lo : Nat) (hi : Nat) (hold : Nat), Awake s ∧ s.cdc.tone = .toneA ∧ s.cdc.pulse =
      .measuring ms lo hi hold ∧ hold ≤ ms ∧ s.shc.phase = .stopped)
    ∧ (∃ (s : State) (ms : Nat) (lo : Nat) (hi : Nat) (hold : Nat), Awake s ∧ s.cdc.tone = .toneA ∧ s.cdc.pulse =
      .measuring ms lo hi hold ∧ hold ≤ ms ∧ (s.shc.phase = .running ∨ s.shc.phase = .ending))
    ∧ (∃ (s : State) (ms : Nat) (lo : Nat) (hi : Nat) (hold : Nat), Powered s ∧ s.cdc.pulse = .measuring ms lo hi hold ∧
      s.shc.phase = .stopped)
    ∧ (∃ (s : State) (ms : Nat) (lo : Nat) (hi : Nat) (hold : Nat), Awake s ∧ s.cdc.pulse = .measuring ms lo hi hold ∧
      (s.shc.phase = .running ∨ s.shc.phase = .ending))
    ∧ (∃ (s : State), Powered s ∧ (s.cdc.pulse = .none ∨ s.cdc.pulse = .spent))
    ∧ (∃ (s : State), Powered s ∧ s.cdc.word = .startCheck ∧ s.cdc.tone = .toneB)
    ∧ (∃ (s : State), Powered s ∧ s.cdc.word = .startCheck ∧ s.cdc.tone ≠ .toneB)
    ∧ (∃ (s : State), Powered s ∧ s.cdc.word ≠ .startCheck)
    ∧ (∃ (s : State), Powered s ∧ s.cdc.word = .data ∧ s.cdc.tone ≠ .none)
    ∧ (∃ (s : State), Powered s ∧ (s.cdc.word = .data ∨ s.cdc.word = .parity) ∧ s.cdc.tone = .none)
    ∧ (∃ (s : State), Powered s ∧ s.cdc.word = .parity ∧ s.cdc.tone ≠ .none ∧ s.cdc.wordParity ≠ .none)
    ∧ (∃ (s : State), Powered s ∧ s.cdc.word = .stop ∧ s.cdc.tone ≠ .toneA)
    ∧ (∃ (s : State), Powered s ∧ s.cdc.word = .stop ∧ s.cdc.tone = .toneA ∧ (bitsValue s.cdc.bits = 0 ∨ 254 < bitsValue
      s.cdc.bits))
    ∧ (∃ (s : State), Powered s ∧ s.cdc.word = .stop ∧ s.cdc.tone = .toneA ∧ 1 ≤ bitsValue s.cdc.bits ∧ bitsValue
      s.cdc.bits ≤ 254) :=
  ⟨⟨State.reset, by decide⟩,
   ⟨{ State.reset with cdc := { State.reset.cdc with tone := .toneA, pulse := (.measuring 249 250 1500 3000) } }, 249,
    250, 1500, 3000, by decide⟩,
   ⟨{ State.reset with cdc := { State.reset.cdc with tone := .toneA, pulse := (.measuring 1500 250 1500 3000) } },
    1500, 250, 1500, 3000, by decide⟩,
   ⟨{ State.reset with cdc := { State.reset.cdc with tone := .toneA, pulse := (.measuring 3000 250 1500 3000) } },
    3000, 250, 1500, 3000, by decide⟩,
   ⟨{ State.reset with
        cdc := { State.reset.cdc with tone := .toneA, pulse := (.measuring 3000 250 1500 3000) }
        shc := { State.reset.shc with phase := .running } }, 3000, 250, 1500, 3000, by decide⟩,
   ⟨{ State.reset with cdc := { State.reset.cdc with tone := .toneA, pulse := (.measuring 2999 250 1500 3000) } },
    2999, 250, 1500, 3000, by decide⟩,
   ⟨{ State.reset with
        cdc := { State.reset.cdc with tone := .toneA, pulse := (.measuring 3000 250 1500 3000) }
        shc := { State.reset.shc with phase := .ending } }, 3000, 250, 1500, 3000, by decide⟩,
   ⟨State.reset, by decide⟩,
   ⟨{ State.reset with cdc := { State.reset.cdc with word := .startCheck, tone := .toneB } }, by decide⟩,
   ⟨{ State.reset with cdc := { State.reset.cdc with word := .startCheck } }, by decide⟩,
   ⟨State.reset, by decide⟩,
   ⟨{ State.reset with cdc := { State.reset.cdc with tone := .toneA, word := .data } }, by decide⟩,
   ⟨{ State.reset with cdc := { State.reset.cdc with word := .data } }, by decide⟩,
   ⟨{ State.reset with cdc := { State.reset.cdc with tone := .toneB, word := .parity } }, by decide⟩,
   ⟨{ State.reset with cdc := { State.reset.cdc with word := .stop } }, by decide⟩,
   ⟨{ State.reset with cdc := { State.reset.cdc with word := .stop, tone := .toneA } }, by decide⟩,
   ⟨{ State.reset with
        cdc := { State.reset.cdc with bits := ((false :: List.replicate 7 true)), tone := .toneA, word := .stop } },
    by decide⟩⟩

theorem test_hyps_DecoderSettingsAndRead :
    (∃ (s : State) (b : DecoderBytes) (v : DecoderSettings), Awake s ∧ DecoderSettings.parse b = some v ∧ v.mode =
      s.cdc.cfg.mode)
    ∧ (∃ (s : State) (b : DecoderBytes) (v : DecoderSettings), Awake s ∧ DecoderSettings.parse b = some v ∧ v.mode ≠
      s.cdc.cfg.mode)
    ∧ (∃ (s : State) (b : DecoderBytes), Awake s ∧ DecoderSettings.parse b = none)
    ∧ (∃ (s : State), Awake s) :=
  ⟨⟨State.reset, ⟨1, 3, 10, 0, 50, 2500, 10000⟩, ⟨.direct, true, true, 10, .none, 50, 2500, 10000⟩, by decide⟩,
   ⟨State.reset, ⟨2, 0, 50, 2, 1000, 1001, 1002⟩, ⟨.program, false, false, 50, .odd, 1000, 1001, 1002⟩, by decide⟩,
   ⟨State.reset, ⟨3, 0, 50, 2, 1000, 1001, 1002⟩, by decide⟩,
   ⟨State.reset, by decide⟩⟩

theorem test_hyps_CueTableAndQueueCommands :
    (∃ (s : State) (n : Byte) (bs : List Byte) (r : Option StepRec), Awake s ∧ 1 ≤ n.toNat ∧ n.toNat ≤ 200 ∧
      StepRec.parse bs = some r)
    ∧ (∃ (s : State) (n : Byte) (bs : List Byte), Awake s ∧ (n.toNat = 0 ∨ 200 < n.toNat ∨ StepRec.parse bs = none))
    ∧ (∃ (s : State) (n : Byte), Awake s ∧ 1 ≤ n.toNat ∧ n.toNat ≤ 200)
    ∧ (∃ (s : State) (n : Byte), Awake s ∧ (n.toNat = 0 ∨ 200 < n.toNat))
    ∧ (∃ (s : State) (a : Byte) (b : Byte), Awake s ∧ 1 ≤ a.toNat ∧ a.toNat ≤ b.toNat ∧ b.toNat ≤ 200)
    ∧ (∃ (s : State) (a : Byte) (b : Byte), Awake s ∧ (a.toNat = 0 ∨ 200 < b.toNat ∨ b.toNat < a.toNat))
    ∧ (∃ (bs : List Byte), bs.length ≠ 16)
    ∧ (∃ (bs : List Byte), bs.length = 16 ∧ (bs.getD 0 0).getLsbD 0 = false)
    ∧ (∃ (bs : List Byte), bs.length = 16 ∧ (bs.getD 0 0).getLsbD 0 = true)
    ∧ (∃ (s : State) (n : Byte), Awake s ∧ classOk .panel .shows s = true ∧ 1 ≤ n.toNat ∧ n.toNat ≤ 254 ∧ s.shc.phase ≠
      .stopped ∧ s.crn.queue.length < 8)
    ∧ (∃ (s : State) (n : Byte), Awake s ∧ classOk .panel .shows s = true ∧ 1 ≤ n.toNat ∧ n.toNat ≤ 254 ∧ (s.shc.phase =
      .stopped ∨ 8 ≤ s.crn.queue.length))
    ∧ (∃ (s : State) (n : Byte), Awake s ∧ classOk .panel .shows s = true ∧ (n.toNat = 0 ∨ n.toNat = 255))
    ∧ (∃ (s : State), Awake s ∧ classOk .panel .shows s = false)
    ∧ (∃ (s : State), Awake s)
    ∧ (∃ (s : State), Powered s ∧ s.pnp.power = .run ∧ s.crn.dwell ≠ none ∧ (s.shc.phase = .running ∨ s.shc.phase =
      .ending))
    ∧ (∃ (s : State), Powered s ∧ (s.crn.dwell = none ∨ s.shc.phase = .stopped ∨ s.shc.phase = .held)) :=
  ⟨⟨State.reset, 200, (StepRec.bytes ⟨.none, 5, none, none, .none, 0, none, none⟩), some ⟨.none, 5, none, none, .none,
    0, none, none⟩, by decide⟩,
   ⟨State.reset, 16, [99, 0, 0, 0, 0], by decide⟩,
   ⟨State.reset, 3, by decide⟩,
   ⟨State.reset, 201, by decide⟩,
   ⟨State.reset, 118, 150, by decide⟩,
   ⟨State.reset, 150, 80, by decide⟩,
   ⟨[1, 255], by decide⟩,
   ⟨(List.replicate 16 0), by decide⟩,
   ⟨(1 :: List.replicate 15 0), by decide⟩,
   ⟨{ State.reset with shc := { State.reset.shc with phase := .held } }, 63, by decide⟩,
   ⟨State.reset, 2, by decide⟩,
   ⟨State.reset, 255, by decide⟩,
   ⟨{ State.reset with
        sar := { State.reset.sar with sources := { State.reset.sar.sources with panel := (⟨false, 0, true, true, true, true, 0, 99, 0, .here, .all⟩) } } },
    by decide⟩,
   ⟨State.reset, by decide⟩,
   ⟨{ State.reset with
        shc := { State.reset.shc with phase := .ending }
        crn := { State.reset.crn with dwell := (some 0) } }, by decide⟩,
   ⟨State.reset, by decide⟩⟩

theorem test_hyps_CueTakeStartsTheNamedStep :
    (∃ (s : State), Powered s ∧ (s.crn.queue = [] ∨ s.takeWait ≠ 0))
    ∧ (∃ (s : State), s.crn.queue ≠ [])
    ∧ (∃ (s : State) (k : CueRec) (rest : List CueRec), Powered s ∧ s.crn.queue = k :: rest ∧ s.takeWait = 0 ∧
      s.cdc.cfg.mode ≠ .direct ∧ s.crn.step (namedStep s.crn k.kind) = none)
    ∧ (∃ (s : State) (k : CueRec) (rest : List CueRec) (r : StepRec), Powered s ∧ s.crn.queue = k :: rest ∧ s.takeWait = 0
      ∧ s.cdc.cfg.mode ≠ .direct ∧ s.crn.step (namedStep s.crn k.kind) = some r ∧ r.action = .none ∧ r.level = none
      ∧ r.audio = none ∧ r.deck = .none ∧ r.link = none)
    ∧ (∃ (s : State) (k : CueRec) (rest : List CueRec) (r : StepRec), Powered s ∧ s.crn.queue = k :: rest ∧ s.takeWait = 0
      ∧ s.cdc.cfg.mode ≠ .direct ∧ s.crn.step (namedStep s.crn k.kind) = some r)
    ∧ (∃ (s : State) (o : CueOrigin) (n : Nat) (x : Nat) (rest : List CueRec), Powered s ∧ s.crn.queue = ⟨o, .step n, x⟩
      :: rest ∧ s.takeWait = 0 ∧ s.cdc.cfg.mode = .direct ∧ (n = 0 ∨ 99 < n))
    ∧ (∃ (s : State) (k : CueRec) (rest : List CueRec), Powered s ∧ s.crn.queue = k :: rest ∧ s.takeWait = 0 ∧
      s.cdc.cfg.mode = .direct ∧ classOk .program .transport s = false ∧ k.kind = .next)
    ∧ (∃ (s : State) (o : CueOrigin) (n : Nat) (x : Nat) (rest : List CueRec), Powered s ∧ s.crn.queue = ⟨o, .step n, x⟩
      :: rest ∧ s.takeWait = 0 ∧ s.cdc.cfg.mode = .direct ∧ 1 ≤ n ∧ n ≤ 99 ∧ s.pnp.power = .run ∧ s.csq.state =
      .idle ∧ classOk .program .transport s = true ∧ s.sar.sources.program.route = .here ∧ s.tru.present = true ∧
      s.tru.position ≠ none ∧ s.csq.orphaned = false ∧ (s.tru.slot n).retired = false ∧ s.sar.sources.program.base ≤
      n ∧ n ≤ s.sar.sources.program.limit) :=
  ⟨⟨State.reset, by decide⟩,
   ⟨{ State.reset with crn := { State.reset.crn with queue := ((List.replicate 8 ⟨.tape, .next, 0⟩)) } }, by decide⟩,
   ⟨{ State.reset with
        shc := { State.reset.shc with phase := .running }
        crn := { State.reset.crn with queue := ([⟨.link, .step 100, 7⟩]) }
        cdc := { State.reset.cdc with cfg := { State.reset.cdc.cfg with mode := .program } } }, ⟨.link, .step 100,
    7⟩, [], by decide⟩,
   ⟨{ State.reset with
        crn := { State.reset.crn with table := ((updAt (fun _ => some ⟨.none, 5, none, none, .none, 0, none, none⟩) 0 Crn.reset.table)), queue := ([⟨.tape, .step 1, 0⟩]) }
        shc := { State.reset.shc with phase := .ending }
        cdc := { State.reset.cdc with cfg := { State.reset.cdc.cfg with mode := .off } } }, ⟨.tape, .step 1, 0⟩, [],
    ⟨.none, 5, none, none, .none, 0, none, none⟩, by decide⟩,
   ⟨{ State.reset with
        cdc := { State.reset.cdc with cfg := { State.reset.cdc.cfg with mode := .off } }
        crn := { State.reset.crn with queue := ([⟨.tape, .step 1, 0⟩]), table := ((updAt (fun _ => some ⟨.none, 5, none, none, .none, 0, none, none⟩) 0 Crn.reset.table)) }
        shc := { State.reset.shc with phase := .running } }, ⟨.tape, .step 1, 0⟩, [], ⟨.none, 5, none, none, .none,
    0, none, none⟩, by decide⟩,
   ⟨{ State.reset with
        crn := { State.reset.crn with queue := ([⟨.link, .step 100, 7⟩]) }
        shc := { State.reset.shc with phase := .running } }, .link, 100, 7, [], by decide⟩,
   ⟨{ State.reset with
        shc := { State.reset.shc with phase := .ending }
        sar := { State.reset.sar with sources := { State.reset.sar.sources with program := (⟨true, 2, false, false, false, false, 0, 99, 0, .here, .all⟩) } }
        crn := { State.reset.crn with queue := ([⟨.tape, .next, 0⟩]) } }, ⟨.tape, .next, 0⟩, [], by decide⟩,
   ⟨{ State.reset with
        shc := { State.reset.shc with phase := .ending }
        tru := { State.reset.tru with present := true, position := (some 1) }
        crn := { State.reset.crn with queue := ([⟨.tape, .step 1, 0⟩]) } }, .tape, 1, 0, [], by decide⟩⟩

theorem test_hyps_ShowStartAndStop :
    (∃ (s : State), Awake s ∧ classOk .panel .shows s = false)
    ∧ (∃ (s : State), Awake s ∧ classOk .panel .shows s = true ∧ s.shc.phase ≠ .stopped)
    ∧ (∃ (s : State), Awake s ∧ classOk .panel .shows s = true ∧ s.shc.phase = .stopped ∧ s.shc.causes ≠ Causes.empty)
    ∧ (∃ (s : State), Awake s ∧ classOk .panel .shows s = true ∧ s.shc.phase = .stopped ∧ s.shc.causes = Causes.empty ∧
      s.pnp.power = .standbyPending)
    ∧ (∃ (s : State), Awake s ∧ classOk .panel .shows s = true ∧ s.shc.phase = .stopped ∧ s.shc.causes = Causes.empty ∧
      s.pnp.power = .run ∧ s.dkc.deck = .fault)
    ∧ (∃ (s : State), Awake s ∧ classOk .panel .shows s = true ∧ s.shc.phase = .stopped ∧ s.shc.causes = Causes.empty ∧
      s.pnp.power = .run ∧ s.dkc.deck = .ended ∧ s.pins.tapeEnd = true)
    ∧ (∃ (s : State), Awake s ∧ classOk .panel .shows s = true ∧ s.shc.phase = .stopped ∧ s.shc.causes = Causes.empty ∧
      s.pnp.power = .run ∧ s.dkc.deck ≠ .fault ∧ ((s.dkc.deck = .ended → s.pins.tapeEnd = false)))
    ∧ (∃ (s : State), Awake s ∧ classOk .panel .shows s = true ∧ (∀ w ∈ s.sar.waiting, w.source ≠ .program))
    ∧ (∃ (s : State) (w : Waiting), Awake s ∧ classOk .panel .shows s = true ∧ s.sar.waiting = some w ∧ w.source =
      .program) :=
  ⟨⟨{ State.reset with
        sar := { State.reset.sar with sources := { State.reset.sar.sources with panel := (⟨true, 0, false, false, false, false, 0, 99, 0, .here, .all⟩) } } },
    by decide⟩,
   ⟨{ State.reset with shc := { State.reset.shc with phase := .ending } }, by decide⟩,
   ⟨{ State.reset with shc := { State.reset.shc with causes := (⟨false, false, false, false, true, false⟩) } }, by
    decide⟩,
   ⟨{ State.reset with pnp := { State.reset.pnp with power := .standbyPending } }, by decide⟩,
   ⟨{ State.reset with dkc := { State.reset.dkc with deck := .fault } }, by decide⟩,
   ⟨{ State.reset with
        pins := { State.reset.pins with tapeEnd := true }
        dkc := { State.reset.dkc with deck := .ended } }, by decide⟩,
   ⟨State.reset, by decide⟩,
   ⟨State.reset, by decide⟩,
   ⟨{ State.reset with sar := { State.reset.sar with waiting := (some ⟨.program, .seek, 0, 7, 5⟩) } }, ⟨.program,
    .seek, 0, 7, 5⟩, by decide⟩⟩

theorem test_hyps_HoldsAndTheirEnd :
    (∃ (s : State), Awake s ∧ classOk .panel .shows s = true ∧ (s.shc.phase = .stopped ∨ s.shc.phase = .held))
    ∧ (∃ (s : State), Awake s ∧ classOk .panel .shows s = true ∧ (s.shc.phase = .running ∨ s.shc.phase = .ending))
    ∧ (∃ (s : State), Awake s ∧ classOk .panel .shows s = false)
    ∧ (∃ (s : State), Awake s ∧ classOk .panel .shows s = true ∧ (s.shc.phase ≠ .held ∨ s.shc.causes.transport = true ∨
      s.shc.causes.lamp = true ∨ s.shc.causes.deck = true))
    ∧ (∃ (s : State), Awake s ∧ classOk .panel .shows s = true ∧ s.shc.phase = .held ∧ s.shc.causes.transport = false ∧
      s.shc.causes.lamp = false ∧ s.shc.causes.deck = false ∧ s.shc.ended = false ∧ s.dkc.deck ≠ .ended ∧ s.dkc.deck
      = .paused ∧ s.pins.tapeEnd = false ∧ s.pins.running = false)
    ∧ (∃ (s : State), Awake s ∧ classOk .panel .shows s = true ∧ s.shc.phase = .held ∧ s.shc.causes.transport = false ∧
      s.shc.causes.lamp = false ∧ s.shc.causes.deck = false ∧ s.shc.ended = true ∧ s.dkc.deck ≠ .paused ∧ s.dkc.deck
      ≠ .pausing ∧ s.crn.queue ≠ [])
    ∧ (∃ (s : State) (a : Byte) (v : Bool), Awake s ∧ onOff a = some v ∧ (v = false ∨ s.shc.phase ≠ .held ∨ s.shc.causes ≠
      Causes.empty))
    ∧ (∃ (s : State) (a : Byte), Awake s ∧ a.toNat = 1 ∧ s.shc.phase = .held ∧ s.shc.causes = Causes.empty ∧ s.shc.ended =
      false ∧ s.dkc.deck = .stopped)
    ∧ (∃ (s : State) (a : Byte), Awake s ∧ 1 < a.toNat)
    ∧ (∃ (s : State), Awake s)
    ∧ (∃ (s : State), Powered s ∧ s.shc.phase = .ending ∧ s.crn.queue = [] ∧ s.crn.progress = none ∧ s.crn.dwell = none)
    ∧ (∃ (s : State), Powered s ∧ (s.shc.phase ≠ .ending ∨ s.crn.queue ≠ [] ∨ s.crn.progress ≠ none ∨ s.crn.dwell ≠ none))
    ∧ (∃ (s : State), s.shc.phase = .held ∧ s.pnp.power ≠ .resetHeld ∧ s.shc.autoResume = false) :=
  ⟨⟨State.reset, by decide⟩,
   ⟨{ State.reset with shc := { State.reset.shc with phase := .running } }, by decide⟩,
   ⟨{ State.reset with
        sar := { State.reset.sar with sources := { State.reset.sar.sources with panel := (⟨false, 0, true, true, true, true, 0, 99, 0, .here, .all⟩) } } },
    by decide⟩,
   ⟨State.reset, by decide⟩,
   ⟨{ State.reset with
        shc := { State.reset.shc with phase := .held }
        dkc := { State.reset.dkc with deck := .paused } }, by decide⟩,
   ⟨{ State.reset with
        shc := { State.reset.shc with ended := true, phase := .held }
        crn := { State.reset.crn with queue := ([⟨.tape, .step 1, 0⟩]) } }, by decide⟩,
   ⟨State.reset, 1, true, by decide⟩,
   ⟨{ State.reset with shc := { State.reset.shc with phase := .held } }, 1, by decide⟩,
   ⟨State.reset, 255, by decide⟩,
   ⟨State.reset, by decide⟩,
   ⟨{ State.reset with shc := { State.reset.shc with phase := .ending } }, by decide⟩,
   ⟨State.reset, by decide⟩,
   ⟨{ State.reset with shc := { State.reset.shc with phase := .held } }, by decide⟩⟩

theorem test_hyps_LinesKeysDigitsAndFocusEnds :
    (∃ (s : State), Powered s ∧ (s.pnp.power = .resetHeld ∨ s.rmi.test = true))
    ∧ (∃ (s : State) (l : Line) (v : Bool), Powered s ∧ s.pnp.power ≠ .resetHeld ∧ s.rmi.test = false ∧ (∀ n, (s.rmi.line
      l).reading ≠ .first n) ∧ (s.rmi.line l).pressed = v)
    ∧ (∃ (s : State) (l : Line) (n : Nat), Powered s ∧ s.pnp.power ≠ .resetHeld ∧ s.rmi.test = false ∧ (s.rmi.line
      l).reading = .first n)
    ∧ (∃ (s : State) (l : Line) (m : RepeatMode), Awake s ∧ s.rmi.test = false ∧ (s.rmi.line l).pressed = false ∧ (∀ n,
      (s.rmi.line l).reading ≠ .first n) ∧ s.rmi.entry (lineCode l) = ⟨.report, m⟩)
    ∧ (∃ (s : State) (l : Line) (m : RepeatMode), Powered s ∧ s.pnp.power = .standby ∧ s.rmi.test = false ∧ (s.rmi.line
      l).pressed = false ∧ (∀ n, (s.rmi.line l).reading ≠ .first n) ∧ s.rmi.entry (lineCode l) = ⟨.report, m⟩ ∧
      s.rmi.cfg.wakeAny = false)
    ∧ (∃ (s : State) (l : Line), Powered s ∧ s.pnp.power ≠ .resetHeld ∧ s.rmi.test = false ∧ (s.rmi.line l).pressed = true
      ∧ (∀ n, (s.rmi.line l).reading ≠ .first n))
    ∧ (∃ (s : State) (l : Line) (m : RepeatMode), Awake s ∧ s.rmi.test = false ∧ (s.rmi.line l).pressed = false ∧ (∀ n,
      (s.rmi.line l).reading ≠ .first n) ∧ (s.rmi.entry (lineCode l) = ⟨.advance, m⟩ ∨ s.rmi.entry (lineCode l) =
      ⟨.home, m⟩) ∧ classOk .remote .transport s = false)
    ∧ (∃ (s : State) (k : Nat) (p : Press), Powered s ∧ pressOf k s = some p ∧ p.spent = false ∧ p.mode ≠ .once ∧ p.mode ≠
      .whileHeld ∧ p.action = .report)
    ∧ (∃ (s : State) (k : Nat) (p : Press), Powered s ∧ pressOf k s = some p ∧ (p.spent = true ∨ p.mode = .once ∨ p.mode =
      .whileHeld))
    ∧ (∃ (s : State) (k : Nat), Powered s ∧ pressOf k s = none)
    ∧ (∃ (s : State) (l : Line) (a : KeyAction) (m : RepeatMode), Awake s ∧ Pressing l a m s)
    ∧ (∃ (s : State) (a : KeyAction) (c : ReqClass), (a, c) ∈ [(KeyAction.advance, ReqClass.transport), (.reverse,
      .transport), (.home, .transport), (.clearJam, .transport), (.lampOn, .lamp), (.lampOff, .lamp), (.hold,
      .shows), (.resume, .shows), (.showStart, .shows), (.showStop, .shows), (.nextStep, .shows), (.standby,
      .power)] ∧ classOk .remote c s = false)
    ∧ (∃ (s : State) (l : Line) (d : Bool) (m : RepeatMode), Awake s ∧ Pressing l (if d then .focusIn else .focusOut) m s
      ∧ (if d then s.pins.fsi else s.pins.fso) = false)
    ∧ (∃ (s : State) (l : Line) (d : Bool) (m : RepeatMode), Awake s ∧ Pressing l (if d then .focusIn else .focusOut) m s
      ∧ (if d then s.pins.fsi else s.pins.fso) = true)
    ∧ (∃ (s : State) (l : Line) (m : RepeatMode), Powered s ∧ s.pnp.power = .run ∧ Pressing l .lampOn m s ∧ classOk
      .remote .lamp s = true ∧ (s.lmc.lamp = .off ∨ s.lmc.lamp = .cooling) ∧ s.lmc.trip = false ∧ s.lmc.temp.getD 60
      < 60 ∧ s.lmc.dim = false)
    ∧ (∃ (s : State) (l : Line) (m : RepeatMode), Awake s ∧ Pressing l .lampOff m s ∧ classOk .remote .lamp s = true ∧
      (s.lmc.lamp = .preheat ∨ s.lmc.lamp = .lit))
    ∧ (∃ (s : State) (l : Line) (m : RepeatMode), Awake s ∧ Pressing l .hold m s ∧ classOk .remote .shows s = true)
    ∧ (∃ (s : State) (l : Line) (m : RepeatMode), Awake s ∧ Pressing l .resume m s ∧ classOk .remote .shows s = true)
    ∧ (∃ (s : State) (l : Line) (m : RepeatMode), Powered s ∧ s.pnp.power = .run ∧ Pressing l .showStart m s ∧ classOk
      .remote .shows s = true ∧ s.shc.phase = .stopped ∧ s.shc.causes = Causes.empty ∧ (s.dkc.deck = .stopped ∨
      s.dkc.deck = .playing))
    ∧ (∃ (s : State) (l : Line) (m : RepeatMode), Awake s ∧ Pressing l .showStop m s ∧ classOk .remote .shows s = true)
    ∧ (∃ (s : State) (l : Line) (m : RepeatMode), Awake s ∧ Pressing l .nextStep m s ∧ classOk .remote .shows s = true ∧
      s.shc.phase ≠ .stopped ∧ s.crn.queue.length < 8)
    ∧ (∃ (s : State) (l : Line) (m : RepeatMode), Awake s ∧ Pressing l .standby m s ∧ classOk .remote .power s = true ∧
      s.shc.phase = .stopped)
    ∧ (∃ (s : State) (l : Line) (m : RepeatMode), Awake s ∧ Pressing l .clearJam m s ∧ classOk .remote .transport s = true
      ∧ s.csq.state = .jammed ∧ s.pins.sensed = .clear)
    ∧ (∃ (s : State) (l : Line) (m : RepeatMode), Powered s ∧ Pressing l .wake m s ∧ (s.pnp.power = .standby ∨ s.pnp.power
      = .standbyPending))
    ∧ (∃ (s : State) (l : Line) (a : KeyAction) (m : RepeatMode), Powered s ∧ Pressing l a m s ∧ s.pnp.power = .standby ∧
      a ≠ .wake ∧ a ≠ .lampOn)
    ∧ (∃ (s : State) (l : Line) (m : RepeatMode), Powered s ∧ Pressing l .lampOn m s ∧ s.pnp.power = .standby)
    ∧ (∃ (s : State) (l : Line) (m : RepeatMode) (q : Nat), Powered s ∧ s.pnp.power = .run ∧ Pressing l .advance m s ∧
      classOk .remote .transport s = true ∧ s.sar.sources.remote.route = .here ∧ s.tru.present = true ∧
      s.tru.position ≠ none ∧ s.csq.orphaned = false ∧ s.tru.resolve .advance 1 ((expected s).getD 0) = .ok q ∧
      s.sar.sources.remote.base ≤ q ∧ q ≤ s.sar.sources.remote.limit ∧ s.csq.state = .idle ∧ s.sar.holder = none ∧
      s.sar.waiting = none)
    ∧ (∃ (s : State) (k : Nat) (n : Nat) (p : Press), Powered s ∧ pressOf k s = some p ∧ p.spent = false ∧ p.mode = .auto
      n)
    ∧ (∃ (s : State) (k : Nat) (n : Nat) (c : Nat) (q : Nat) (r : Nat) (p : Press) (f : Flight) (u : Nat), Awake s ∧
      pressOf k s = some p ∧ p.spent = false ∧ p.mode = .auto n ∧ p.action = .advance ∧ classOk .remote .transport s
      = true ∧ s.sar.sources.remote.route = .here ∧ s.tru.present = true ∧ s.tru.position ≠ none ∧ s.csq.orphaned =
      false ∧ s.csq.flight = some f ∧ s.csq.state.active = true ∧ s.sar.waiting = some ⟨.remote, .advance, c, u,
      s.sar.cfg.fade⟩ ∧ c < 15 ∧ s.tru.resolve .advance 1 f.target = .ok q ∧ s.tru.resolve .advance (c + 1) f.target
      = .ok r ∧ s.sar.sources.remote.base ≤ q ∧ q ≤ s.sar.sources.remote.limit ∧ s.sar.sources.remote.base ≤ r ∧ r ≤
      s.sar.sources.remote.limit)
    ∧ (∃ (s : State), Powered s)
    ∧ (∃ (s : State), s.rmi.digit = none)
    ∧ (∃ (s : State) (e : Nat), s.rmi.digit = some e)
    ∧ (∃ (s : State) (d : Bool) (t : Nat) (n : Nat), Powered s ∧ s.rmi.focus = .run d (.timed t) n)
    ∧ (∃ (s : State) (d : Bool) (k : Nat) (n : Nat), Powered s ∧ s.rmi.focus = .run d (.key k) n)
    ∧ (∃ (s : State) (d : Bool) (e : FocusEnd) (n : Nat), Powered s ∧ s.rmi.focus = .run d e n)
    ∧ (∃ (s : State), s.rmi.focus = .stopped) :=
  ⟨⟨{ State.reset with rmi := { State.reset.rmi with test := true } }, by decide⟩,
   ⟨{ State.reset with rmi := { State.reset.rmi with rev := (⟨false, false, false, none, .resumed 19⟩) } }, .rev,
    false, by decide, by decide, by decide, nofun, by decide⟩,
   ⟨State.reset, .fout, 0, by decide⟩,
   ⟨{ State.reset with
        rmi := { State.reset.rmi with keys := ((List.replicate 64 ⟨.report, .once⟩)), rev := (⟨false, false, false, none, .watched⟩) } },
    .rev, .once, by decide, by decide, by decide, nofun, by decide⟩,
   ⟨{ State.reset with
        rmi := { State.reset.rmi with keys := ((List.replicate 64 ⟨.report, .once⟩)), fout := (⟨false, false, false, none, .resumed 19⟩) }
        pnp := { State.reset.pnp with power := .standby } }, .fout, .once, by decide, by decide, by decide, by
    decide, nofun, by decide, by decide⟩,
   ⟨{ State.reset with
        rmi := { State.reset.rmi with fwd := (⟨true, true, false, some ⟨.report, .auto 2, 200, false⟩, .watched⟩) } },
    .fwd, by decide, by decide, by decide, by decide, nofun⟩,
   ⟨{ State.reset with
        rmi := { State.reset.rmi with keys := ((List.replicate 64 ⟨.advance, .once⟩)), fwd := (⟨false, false, false, none, .watched⟩) }
        sar := { State.reset.sar with sources := { State.reset.sar.sources with remote := (⟨false, 1, true, true, true, true, 0, 99, 30, .here, .all⟩) } } },
    .fwd, .once, by decide, by decide, by decide, nofun, by decide, by decide⟩,
   ⟨{ State.reset with
        rmi := { State.reset.rmi with fout := (⟨true, true, false, some ⟨.report, .auto 2, 200, false⟩, .watched⟩) } },
    63, ⟨.report, .auto 2, 200, false⟩, by decide⟩,
   ⟨{ State.reset with
        rmi := { State.reset.rmi with fwd := (⟨true, true, false, some ⟨.advance, .once, 0, true⟩, .watched⟩) } },
    60, ⟨.advance, .once, 0, true⟩, by decide⟩,
   ⟨State.reset, 300, by decide⟩,
   ⟨{ State.reset with
        rmi := { State.reset.rmi with rev := (⟨false, false, false, none, .watched⟩), keys := ((List.replicate 64 ⟨.showStart, .once⟩)) } },
    .rev, .showStart, .once, by decide, ⟨by decide, by decide, nofun, by decide⟩⟩,
   ⟨{ State.reset with
        sar := { State.reset.sar with sources := { State.reset.sar.sources with remote := (⟨false, 1, true, true, true, true, 0, 99, 30, .here, .all⟩) } } },
    .lampOn, .lamp, by decide⟩,
   ⟨{ State.reset with
        rmi := { State.reset.rmi with fwd := (⟨false, false, false, none, .watched⟩), keys := ((List.replicate 64 ⟨.focusOut, .whileHeld⟩)) } },
    .fwd, false, .whileHeld, by decide, ⟨by decide, by decide, nofun, by decide⟩, by decide⟩,
   ⟨{ State.reset with
        pins := { State.reset.pins with fsi := true }
        rmi := { State.reset.rmi with fin := (⟨false, false, false, none, .watched⟩) } }, .fin, true, .whileHeld, by
    decide, ⟨by decide, by decide, nofun, by decide⟩, by decide⟩,
   ⟨{ State.reset with
        rmi := { State.reset.rmi with fout := (⟨false, false, false, none, .watched⟩), keys := ((List.replicate 64 ⟨.lampOn, .once⟩)) }
        lmc := { State.reset.lmc with temp := (some 20) } }, .fout, .once, by decide, by decide, ⟨by decide, by
    decide, nofun, by decide⟩, by decide, by decide, by decide, by decide, by decide⟩,
   ⟨{ State.reset with
        rmi := { State.reset.rmi with fin := (⟨false, false, false, none, .watched⟩), keys := ((List.replicate 64 ⟨.lampOff, .once⟩)) }
        lmc := { State.reset.lmc with lamp := .lit } }, .fin, .once, by decide, ⟨by decide, by decide, nofun, by
    decide⟩, by decide, by decide⟩,
   ⟨{ State.reset with
        rmi := { State.reset.rmi with fin := (⟨false, false, false, none, .watched⟩), keys := ((List.replicate 64 ⟨.hold, .once⟩)) } },
    .fin, .once, by decide, ⟨by decide, by decide, nofun, by decide⟩, by decide⟩,
   ⟨{ State.reset with
        rmi := { State.reset.rmi with fwd := (⟨false, false, false, none, .watched⟩), keys := ((List.replicate 64 ⟨.resume, .once⟩)) } },
    .fwd, .once, by decide, ⟨by decide, by decide, nofun, by decide⟩, by decide⟩,
   ⟨{ State.reset with
        rmi := { State.reset.rmi with fwd := (⟨false, false, false, none, .resumed 19⟩), keys := ((List.replicate 64 ⟨.showStart, .once⟩)) } },
    .fwd, .once, by decide, by decide, ⟨by decide, by decide, nofun, by decide⟩, by decide, by decide, by decide, by
    decide⟩,
   ⟨{ State.reset with
        rmi := { State.reset.rmi with fin := (⟨false, false, false, none, .watched⟩), keys := ((List.replicate 64 ⟨.showStop, .once⟩)) } },
    .fin, .once, by decide, ⟨by decide, by decide, nofun, by decide⟩, by decide⟩,
   ⟨{ State.reset with
        shc := { State.reset.shc with phase := .ending }
        rmi := { State.reset.rmi with rev := (⟨false, false, false, none, .resumed 19⟩), keys := ((List.replicate 64 ⟨.nextStep, .once⟩)) } },
    .rev, .once, by decide, ⟨by decide, by decide, nofun, by decide⟩, by decide, by decide, by decide⟩,
   ⟨{ State.reset with
        rmi := { State.reset.rmi with rev := (⟨false, false, false, none, .watched⟩), keys := ((List.replicate 64 ⟨.standby, .once⟩)) } },
    .rev, .once, by decide, ⟨by decide, by decide, nofun, by decide⟩, by decide, by decide⟩,
   ⟨{ State.reset with
        rmi := { State.reset.rmi with fin := (⟨false, false, false, none, .watched⟩), keys := ((List.replicate 64 ⟨.clearJam, .once⟩)) }
        csq := { State.reset.csq with state := .jammed } }, .fin, .once, by decide, ⟨by decide, by decide, nofun, by
    decide⟩, by decide, by decide, by decide⟩,
   ⟨{ State.reset with
        rmi := { State.reset.rmi with rev := (⟨false, false, false, none, .resumed 19⟩), keys := ((List.replicate 64 ⟨.wake, .once⟩)) }
        pnp := { State.reset.pnp with power := .standby } }, .rev, .once, by decide, ⟨by decide, by decide, nofun,
    by decide⟩, by decide⟩,
   ⟨{ State.reset with
        rmi := { State.reset.rmi with rev := (⟨false, false, false, none, .resumed 19⟩), keys := ((List.replicate 64 ⟨.hold, .once⟩)) }
        pnp := { State.reset.pnp with power := .standby } }, .rev, .hold, .once, by decide, ⟨by decide, by decide,
    nofun, by decide⟩, by decide, by decide, by decide⟩,
   ⟨{ State.reset with
        pnp := { State.reset.pnp with power := .standby }
        rmi := { State.reset.rmi with fin := (⟨false, false, false, none, .watched⟩), keys := ((List.replicate 64 ⟨.lampOn, .once⟩)) } },
    .fin, .once, by decide, ⟨by decide, by decide, nofun, by decide⟩, by decide⟩,
   ⟨{ State.reset with
        csq := { State.reset.csq with origin := (some 5), flight := (some ⟨.seek, .panel, 99, 5, .reverse, 0, 99, false, true, false, 1⟩) }
        tru := { State.reset.tru with present := true, position := (some 5) }
        rmi := { State.reset.rmi with fin := (⟨false, false, false, none, .watched⟩), keys := ((List.replicate 64 ⟨.advance, .once⟩)) } },
    .fin, .once, 1, by decide, by decide, ⟨by decide, by decide, nofun, by decide⟩, by decide, by decide, by decide,
    by decide, by decide, okOf (by decide), by decide, by decide, by decide, by decide, by decide⟩,
   ⟨{ State.reset with
        rmi := { State.reset.rmi with irHeld := (some 59), irPress := (some ⟨.report, .auto 2, 200, false⟩) } }, 59,
    2, ⟨.report, .auto 2, 200, false⟩, by decide⟩,
   ⟨{ State.reset with
        tru := { State.reset.tru with present := true, position := (some 5), map := Tru.clearedMap }
        csq := { State.reset.csq with flight := (some ⟨.seek, .program, 7, 5, .forward, 0, 99, false, false, false, 1⟩), state := .lifting }
        sar := { State.reset.sar with waiting := (some ⟨.remote, .advance, 14, 21, 5⟩) }
        rmi := { State.reset.rmi with irHeld := (some 59), irPress := (some ⟨.advance, .auto 2, 200, false⟩) } },
    59, 2, 14, 8, 22, ⟨.advance, .auto 2, 200, false⟩, ⟨.seek, .program, 7, 5, .forward, 0, 99, false, false, false,
    1⟩, 21, by decide, by decide, by decide, by decide, by decide, by decide, by decide, by decide, by decide, by
    decide, by decide, by decide, by decide, by decide, okOf (by decide), okOf (by decide), by decide, by decide, by
    decide, by decide⟩,
   ⟨State.reset, by decide⟩,
   ⟨State.reset, by decide⟩,
   ⟨{ State.reset with rmi := { State.reset.rmi with digit := (some 0) } }, 0, by decide⟩,
   ⟨{ State.reset with rmi := { State.reset.rmi with focus := (.run true (.timed 100) 0) } }, true, 100, 0, by decide⟩,
   ⟨{ State.reset with rmi := { State.reset.rmi with focus := (.run true (.key 59) 0) } }, true, 59, 0, by decide⟩,
   ⟨{ State.reset with rmi := { State.reset.rmi with focus := (.run true (.timed 100) 0) } }, true, .timed 100, 0, by
    decide⟩,
   ⟨State.reset, by decide⟩⟩

theorem test_hyps_InfraRedFramesPressTheirKey :
    (∃ (c : Nat) (k : Nat), c < 16 ∧ k < 64)
    ∧ (∃ (s : State), Powered s ∧ (s.pnp.power = .resetHeld ∨ s.rmi.test = true))
    ∧ (∃ (s : State) (bits : List Bool) (ps : List IrPulse) (k : Nat) (m : RepeatMode), Awake s ∧ s.rmi.test = false ∧
      s.rmi.irRx = .waitLeader ∧ irSpells bits ps = true ∧ bits.length = 16 ∧ irKey s.rmi.cfg.channel bits = some k
      ∧ s.rmi.irHeld = none ∧ s.rmi.entry k = ⟨.report, m⟩)
    ∧ (∃ (s : State) (bits : List Bool) (ps : List IrPulse) (k : Nat), Powered s ∧ s.pnp.power ≠ .resetHeld ∧ s.rmi.test =
      false ∧ s.rmi.irRx = .waitLeader ∧ irSpells bits ps = true ∧ bits.length = 16 ∧ irKey s.rmi.cfg.channel bits =
      some k ∧ s.rmi.irHeld = some k)
    ∧ (∃ (s : State) (bits : List Bool) (ps : List IrPulse), Powered s ∧ s.pnp.power ≠ .resetHeld ∧ s.rmi.test = false ∧
      s.rmi.irRx = .waitLeader ∧ irSpells bits ps = true ∧ bits.length = 16 ∧ irKey s.rmi.cfg.channel bits = none)
    ∧ (∃ (s : State) (a : Nat) (g : Nat) (t : Nat), Powered s ∧ s.pnp.power ≠ .resetHeld ∧ s.rmi.test = false ∧ s.rmi.irRx
      = .waitLeader ∧ 1800 ≤ a ∧ a ≤ 3000 ∧ 1800 ≤ g ∧ g ≤ 3000 ∧ 300 ≤ t ∧ t ≤ 500)
    ∧ (∃ (s : State) (a : Nat) (g : Nat), Powered s ∧ s.pnp.power ≠ .resetHeld ∧ s.rmi.test = false ∧ s.rmi.irRx =
      .waitLeader ∧ 1800 ≤ a ∧ a ≤ 3000 ∧ (g < 900 ∨ (1500 < g ∧ g < 1800) ∨ 3000 < g))
    ∧ (∃ (s : State) (k : Nat), Powered s ∧ s.rmi.irHeld = some k ∧ k < 60 ∧ s.rmi.injected = false)
    ∧ (∃ (s : State), Powered s ∧ (s.rmi.irHeld = none ∨ s.rmi.injected = true)) :=
  ⟨⟨2, 3, by decide⟩,
   ⟨{ State.reset with rmi := { State.reset.rmi with test := true } }, by decide⟩,
   ⟨{ State.reset with rmi := { State.reset.rmi with keys := ((List.replicate 64 ⟨.report, .once⟩)) } }, (irCode 0 0),
    ([.mark 1800, .space 1500] ++ (irCode 0 0).flatMap (fun b => [.mark 500, .space (if b then 900 else 300)]) ++
    [.mark 300]), 0, .once, by decide⟩,
   ⟨{ State.reset with rmi := { State.reset.rmi with irHeld := (some 59) } }, (irCode 15 59), ([.mark 1800, .space
    1500] ++ (irCode 15 59).flatMap (fun b => [.mark 500, .space (if b then 900 else 300)]) ++ [.mark 300]), 59, by
    decide⟩,
   ⟨State.reset, (irCode 3 63), ([.mark 1800, .space 1500] ++ (irCode 3 63).flatMap (fun b => [.mark 500, .space (if b
    then 900 else 300)]) ++ [.mark 300]), by decide⟩,
   ⟨State.reset, 3000, 1800, 500, by decide⟩,
   ⟨State.reset, 2400, 99, by decide⟩,
   ⟨{ State.reset with rmi := { State.reset.rmi with irHeld := (some 0) } }, 0, by decide⟩,
   ⟨State.reset, by decide⟩⟩

theorem test_hyps_FocusCommandStartsATimedRun :
    (∃ (s : State) (d : Byte) (n : Byte), Awake s ∧ (2 < d.toNat ∨ (d.toNat ≠ 0 ∧ (n.toNat = 0 ∨ 80 < n.toNat))))
    ∧ (∃ (s : State), Awake s)
    ∧ (∃ (s : State) (d : Byte) (n : Byte), Awake s ∧ (d.toNat = 1 ∨ d.toNat = 2) ∧ 1 ≤ n.toNat ∧ n.toNat ≤ 80 ∧ (if
      d.toNat = 1 then s.pins.fsi else s.pins.fso) = false)
    ∧ (∃ (s : State) (d : Byte) (n : Byte), Awake s ∧ (d.toNat = 1 ∨ d.toNat = 2) ∧ 1 ≤ n.toNat ∧ n.toNat ≤ 80 ∧ (if
      d.toNat = 1 then s.pins.fsi else s.pins.fso) = true) :=
  ⟨⟨State.reset, 200, 255, by decide⟩,
   ⟨State.reset, by decide⟩,
   ⟨State.reset, 1, 59, by decide⟩,
   ⟨{ State.reset with pins := { State.reset.pins with fso := true } }, 2, 8, by decide⟩⟩

theorem test_hyps_RemoteCommands :
    (∃ (s : State), Awake s)
    ∧ (∃ (s : State) (c : Byte) (a : Byte) (m : Byte) (e : KeyEntry), Awake s ∧ c.toNat ≤ 63 ∧ KeyEntry.parse a m = some
      e)
    ∧ (∃ (s : State) (c : Byte) (a : Byte) (m : Byte), Awake s ∧ (63 < c.toNat ∨ KeyEntry.parse a m = none))
    ∧ (∃ (a : Byte) (m : Byte) (e : KeyEntry), KeyEntry.parse a m = some e)
    ∧ (∃ (s : State) (a : Byte) (n : Byte), Awake s ∧ a.toNat ≤ 63 ∧ 1 ≤ n.toNat ∧ n.toNat ≤ 32 ∧ s.rmi.keys.length = 64)
    ∧ (∃ (s : State) (a : Byte) (n : Byte), Awake s ∧ (63 < a.toNat ∨ n.toNat = 0 ∨ 32 < n.toNat))
    ∧ (∃ (s : State) (c : Byte) (e : Byte) (w : Byte) (v : Bool) (u : Bool), Awake s ∧ c.toNat ≤ 16 ∧ onOff e = some v ∧
      onOff w = some u)
    ∧ (∃ (s : State) (c : Byte) (e : Byte) (w : Byte), Awake s ∧ (16 < c.toNat ∨ 1 < e.toNat ∨ 1 < w.toNat))
    ∧ (∃ (s : State), Awake s ∧ s.rmi.test = true)
    ∧ (∃ (s : State), Awake s ∧ s.rmi.test = false)
    ∧ (∃ (s : State) (b : Byte), Awake s ∧ s.rmi.test = true ∧ b.getLsbD 0 = s.rmi.fwd.pressed ∧ b.getLsbD 1 =
      s.rmi.rev.pressed ∧ b.getLsbD 2 = s.rmi.fin.pressed ∧ b.getLsbD 3 = s.rmi.fout.pressed)
    ∧ (∃ (s : State) (b : Byte) (a : KeyAction) (m : RepeatMode), Awake s ∧ s.rmi.test = true ∧ s.rmi.fwd.pressed = false
      ∧ b.getLsbD 0 = true ∧ b.getLsbD 1 = s.rmi.rev.pressed ∧ b.getLsbD 2 = s.rmi.fin.pressed ∧ b.getLsbD 3 =
      s.rmi.fout.pressed ∧ s.rmi.entry 60 = ⟨a, m⟩)
    ∧ (∃ (s : State) (b : Byte), Awake s ∧ s.rmi.test = true ∧ b.toNat ≤ 59)
    ∧ (∃ (s : State) (b : Byte), Awake s ∧ s.rmi.test = true ∧ 59 < b.toNat)
    ∧ (∃ (s : State) (k : Nat), Awake s ∧ s.rmi.test = true ∧ s.rmi.irHeld = some k ∧ k < 60)
    ∧ (∃ (s : State), Awake s ∧ s.rmi.test = true ∧ s.rmi.irHeld = none) :=
  ⟨⟨State.reset, by decide⟩,
   ⟨State.reset, 3, 17, 7, ⟨.report, .once⟩, by decide⟩,
   ⟨State.reset, 17, 51, 51, by decide⟩,
   ⟨17, 63, ⟨.report, .once⟩, by decide⟩,
   ⟨State.reset, 16, 3, by decide⟩,
   ⟨State.reset, 126, 3, by decide⟩,
   ⟨State.reset, 4, 0, 1, false, true, by decide⟩,
   ⟨State.reset, 7, 2, 150, by decide⟩,
   ⟨{ State.reset with rmi := { State.reset.rmi with test := true } }, by decide⟩,
   ⟨State.reset, by decide⟩,
   ⟨{ State.reset with rmi := { State.reset.rmi with test := true } }, 240, by decide⟩,
   ⟨{ State.reset with
        rmi := { State.reset.rmi with test := true, keys := ((List.replicate 64 ⟨.report, .once⟩)) } }, 1, .report,
    .once, by decide⟩,
   ⟨{ State.reset with rmi := { State.reset.rmi with test := true } }, 15, by decide⟩,
   ⟨{ State.reset with rmi := { State.reset.rmi with test := true } }, 81, by decide⟩,
   ⟨{ State.reset with rmi := { State.reset.rmi with test := true, irHeld := (some 59) } }, 59, by decide⟩,
   ⟨{ State.reset with rmi := { State.reset.rmi with test := true } }, by decide⟩⟩

/-- Table 10.4 at the ends of its ranges: what a frame may carry, and what makes it a bad one. -/
theorem test_frameOk_at_the_ends :
    ([(14, 4, []), (0x41, 5, []), (0x48, 7, []), (0x80, 10, []), (3, 11, []), (3, 1, [1, 0, 0]), (3, 1, [4, 0, 0]),
      (3, 2, [0, 0]), (3, 3, [0]), (3, 3, [1]), (3, 6, [1]), (3, 6, [254]), (3, 8, List.replicate 5 0), (3, 9, []),
      (3, 9, List.replicate 8 0)] : List (Byte × Byte × List Byte)).all (fun f => frameOk f.1 f.2.1 f.2.2) = true
    ∧ ([(15, 4, []), (0x40, 4, []), (0x49, 4, []), (0xC0, 4, []), (3, 0, []), (3, 12, []), (3, 4, [0]), (3, 1, [0, 0, 0]),
      (3, 1, [5, 0, 0]), (3, 1, [1, 0]), (3, 2, [0]), (3, 3, [2]), (3, 6, [0]), (3, 6, [255]), (3, 8, List.replicate 4 0),
      (3, 9, List.replicate 9 0)] : List (Byte × Byte × List Byte)).all (fun f => !frameOk f.1 f.2.1 f.2.2) = true := by
  decide

theorem test_hyps_TheReceiverJudgesFrames :
    (∃ bs f, LinkFrame.parse bs = some f)
    ∧ (∃ bs : List Byte, bs.sum ≠ 0) ∧ (∃ bs : List Byte, bs.length ≠ 6 + (bs.getD 4 0).toNat)
    ∧ (∃ lead : Byte, lead ≠ 0x7E)
    ∧ (∃ (s : State), Hearing s ∧ s.lkc.rx = .waitIdle)
    ∧ (∃ (s : State), Hearing s ∧ s.lkc.rx = .waitLead)
    ∧ (∃ (s : State) (c : Byte) (b : Bool), Hearing s ∧ s.lkc.rx = .waitLead ∧ (c ≠ 0x7E ∨ b = false))
    ∧ (∃ (s : State) (got : List Byte), Hearing s ∧ s.lkc.rx = .inFrame got)
    ∧ (∃ (s : State) (c : Byte) (got : List Byte), Hearing s ∧ s.lkc.rx = .inFrame got ∧ (got.length < 4 ∨ ((got ++
      [c]).getD 4 0).toNat ≤ 8 ∧ got.length < 5 + ((got ++ [c]).getD 4 0).toNat))
    ∧ (∃ (s : State) (c : Byte) (got : List Byte), Hearing s ∧ s.lkc.rx = .inFrame got ∧ 4 ≤ got.length ∧ 8 < ((got ++
      [c]).getD 4 0).toNat)
    ∧ (∃ (s : State) (c : Byte) (got : List Byte), Hearing s ∧ s.lkc.rx = .inFrame got ∧ 5 ≤ got.length ∧ ((got ++
      [c]).getD 4 0).toNat ≤ 8 ∧ got.length = 5 + ((got ++ [c]).getD 4 0).toNat ∧ LinkFrame.parse (got ++ [c]) =
      none)
    ∧ (∃ (s : State) (c : Byte) (got : List Byte) (f : LinkFrame), Hearing s ∧ s.lkc.rx = .inFrame got ∧ 5 ≤ got.length ∧
      got.length = 5 + f.payload.length ∧ LinkFrame.parse (got ++ [c]) = some f)
    ∧ (∃ (s : State), Powered s ∧ s.lkc.enable = true ∧ s.pnp.power ≠ .resetHeld ∧ s.lkc.access ≠ .sending ∧
      s.lkc.lineIdle = false)
    ∧ (∃ (s : State), Hearing s ∧ s.lkc.rx ≠ .waitIdle)
    ∧ (∃ (s : State) (h : FrameHead), Hearing s ∧ h.src ≤ 14 ∧ LinkDest.ofByte h.dest ≠ none ∧ s.lkc.accepts h.dest =
      false)
    ∧ (∃ (n : Nat) (g : Nat), n ≤ 14 ∧ 1 ≤ g ∧ g ≤ 8)
    ∧ (∃ (s : State) (h : FrameHead) (k : Byte) (p : List Byte), Reaches h s ∧ (k.toNat = 8 ∨ k.toNat = 9) ∧ frameOk
      h.dest k p = true ∧ s.pnp.power ≠ .standby ∧ s.lkc.rxbuf.length < 4)
    ∧ (∃ (s : State) (h : FrameHead) (k : Byte) (p : List Byte), Reaches h s ∧ (k.toNat = 8 ∨ k.toNat = 9) ∧ frameOk
      h.dest k p = true ∧ s.pnp.power ≠ .standby ∧ 4 ≤ s.lkc.rxbuf.length)
    ∧ (∃ (s : State) (h : FrameHead) (k : Byte) (p : List Byte), Reaches h s ∧ (k.toNat = 8 ∨ k.toNat = 9) ∧ frameOk
      h.dest k p = true ∧ s.pnp.power = .standby)
    ∧ (∃ (s : State) (d : Byte) (k : Byte) (p : List Byte), Hearing s ∧ s.lkc.rx ≠ .waitIdle ∧ s.lkc.node ≤ 14 ∧
      s.lkc.cfg.level ≤ 15 ∧ s.lkc.accepts d = true ∧ frameOk d k p = true ∧ s.lkc.rxbuf.length < 4)
    ∧ (∃ (s : State) (d : Byte) (f : LinkFrame), Powered s ∧ s.lkc.enable = true ∧ s.pnp.power ≠ .resetHeld ∧
      s.lkc.cfg.loopback = true ∧ s.lkc.looped = some f ∧ s.lkc.accepts d = true ∧ s.lkc.rxbuf.length < 4) :=
  ⟨⟨[0x7E, 0x81, 0x02, 0x02, 0x02, 0xFF, 0x14, 0xE8], _, rfl⟩, ⟨[1], by decide⟩, ⟨[], by decide⟩, ⟨0x7F, by decide⟩,
   ⟨State.reset, by decide⟩,
   ⟨{ State.reset with lkc := { State.reset.lkc with rx := .waitLead } }, by decide⟩,
   ⟨{ State.reset with lkc := { State.reset.lkc with rx := .waitLead } }, 17, false, by decide⟩,
   ⟨{ State.reset with lkc := { State.reset.lkc with rx := (.inFrame [0x7E]) } }, [0x7E], by decide⟩,
   ⟨{ State.reset with lkc := { State.reset.lkc with rx := (.inFrame [0x7E, 0x83, 128, 9, 8]) } }, 0x00, [0x7E, 0x83,
    128, 9, 8], by decide⟩,
   ⟨{ State.reset with lkc := { State.reset.lkc with rx := (.inFrame [0x7E, 0x83, 128, 9]) } }, 9, [0x7E, 0x83, 128,
    9], by decide⟩,
   ⟨{ State.reset with lkc := { State.reset.lkc with rx := (.inFrame [0x7E, 0x83, 128, 9, 0]) } }, 0x77, [0x7E, 0x83,
    128, 9, 0], by decide⟩,
   ⟨{ State.reset with lkc := { State.reset.lkc with rx := (.inFrame [0x7E, 0x83, 128, 9, 0]) } }, 0x76, [0x7E, 0x83,
    128, 9, 0], ⟨8, 3, 128, 9, []⟩, by decide⟩,
   ⟨State.reset, by decide⟩,
   ⟨{ State.reset with lkc := { State.reset.lkc with rx := .waitLead } }, by decide⟩,
   ⟨State.reset, ⟨8, 3, 14⟩, by decide⟩,
   ⟨9, 5, by decide⟩,
   ⟨{ State.reset with
        lkc := { State.reset.lkc with rx := (.inFrame [0x7E, 0x83, 128, 9, 8, 1, 2, 3, 4, 5, 6, 7]) } }, ⟨0, 3,
    128⟩, 9, [], by decide⟩,
   ⟨{ State.reset with
        lkc := { State.reset.lkc with rxbuf := ((List.replicate 4 ⟨3, 128, 9, []⟩)), rx := (.inFrame [0x7E, 0x83, 128, 9]) } },
    ⟨0, 3, 128⟩, 8, [99, 0, 0, 0, 0], by decide⟩,
   ⟨{ State.reset with
        lkc := { State.reset.lkc with rx := (.inFrame [0x7E]) }
        pnp := { State.reset.pnp with power := .standby } }, ⟨0, 3, 128⟩, 9, [0, 0, 0, 0, 0, 0, 0, 0], by decide⟩,
   ⟨{ State.reset with lkc := { State.reset.lkc with node := 0, rx := (.inFrame [0x7E, 0x83, 128, 9, 0]) } }, 0, 8, [1,
    2, 3, 4, 5], by decide⟩,
   ⟨{ State.reset with
        lkc := { State.reset.lkc with cfg := { State.reset.lkc.cfg with loopback := true }, node := 14, looped := (some ⟨8, 14, 128, 9, []⟩) } },
    14, ⟨8, 14, 128, 9, []⟩, by decide⟩⟩

theorem test_hyps_LinkFramesBecomeRequests :
    (∃ (s : State) (h : FrameHead), Reaches h s ∧ s.pnp.power ≠ .standby)
    ∧ (∃ (s : State) (h : FrameHead) (a : Byte) (f : Byte), Reaches h s ∧ s.pnp.power = .run ∧ classOk .link .transport s
      = true ∧ s.sar.sources.link.route = .here ∧ a.toNat ≤ 99 ∧ f.toNat ≤ 99 ∧ s.tru.present = true ∧
      s.tru.position ≠ none ∧ s.csq.orphaned = false ∧ (s.tru.slot a.toNat).retired = false ∧
      s.sar.sources.link.base ≤ a.toNat ∧ a.toNat ≤ s.sar.sources.link.limit ∧ s.csq.state = .idle ∧ s.sar.holder =
      none ∧ s.sar.waiting = none)
    ∧ (∃ (s : State) (h : FrameHead) (k : Byte), Reaches h s ∧ 1 ≤ k.toNat ∧ k.toNat ≤ 4 ∧ s.pnp.power ≠ .standby ∧
      classOk .link .transport s = false)
    ∧ (∃ (s : State) (h : FrameHead) (l : Byte) (f : Byte), Reaches h s ∧ s.pnp.power ≠ .standby ∧ classOk .link .lamp s =
      true ∧ (f.toNat ≤ 99 ∨ f = 0xFF) ∧ s.lmc.lamp ≠ .lit ∧ 200 < l.toNat)
    ∧ (∃ (s : State) (h : FrameHead), Reaches h s ∧ s.pnp.power = .run ∧ classOk .link .lamp s = true ∧ s.lmc.lamp = .off
      ∧ s.lmc.trip = false ∧ s.lmc.temp.getD 60 < 60 ∧ s.lmc.dim = false)
    ∧ (∃ (s : State) (h : FrameHead), Reaches h s ∧ s.pnp.power ≠ .standby ∧ classOk .link .lamp s = true ∧ (s.lmc.lamp =
      .preheat ∨ s.lmc.lamp = .lit))
    ∧ (∃ (s : State) (h : FrameHead), Reaches h s ∧ s.pnp.power ≠ .standby ∧ classOk .link .shows s = true ∧ (s.shc.phase
      = .running ∨ s.shc.phase = .ending))
    ∧ (∃ (s : State) (h : FrameHead), Reaches h s ∧ s.pnp.power ≠ .standby ∧ classOk .link .shows s = true ∧ s.shc.phase ≠
      .held)
    ∧ (∃ (s : State) (h : FrameHead), Reaches h s ∧ s.pnp.power ≠ .standby ∧ classOk .link .shows s = true ∧ (s.shc.phase
      = .stopped ∨ s.shc.phase = .held))
    ∧ (∃ (s : State) (h : FrameHead), Reaches h s ∧ s.pnp.power ≠ .standby ∧ classOk .link .shows s = true ∧ s.shc.phase =
      .held ∧ (s.shc.causes.transport = true ∨ s.shc.causes.lamp = true ∨ s.shc.causes.deck = true))
    ∧ (∃ (s : State) (h : FrameHead), Reaches h s ∧ s.pnp.power ≠ .standby ∧ classOk .link .shows s = true ∧ s.shc.phase =
      .held ∧ s.shc.causes.transport = false ∧ s.shc.causes.lamp = false ∧ s.shc.causes.deck = false ∧ s.shc.ended =
      false ∧ s.dkc.deck = .paused ∧ s.pins.tapeEnd = false ∧ s.pins.running = false)
    ∧ (∃ (s : State) (h : FrameHead), Reaches h s ∧ s.pnp.power ≠ .standby ∧ classOk .link .shows s = true ∧ s.shc.phase =
      .held ∧ s.shc.causes.transport = false ∧ s.shc.causes.lamp = false ∧ s.shc.causes.deck = false ∧ s.shc.ended =
      true ∧ s.dkc.deck ≠ .paused ∧ s.dkc.deck ≠ .pausing ∧ s.crn.queue ≠ [])
    ∧ (∃ (s : State) (h : FrameHead) (n : Byte), Reaches h s ∧ s.pnp.power ≠ .standby ∧ classOk .link .shows s = true ∧ 1
      ≤ n.toNat ∧ n.toNat ≤ 254 ∧ s.shc.phase ≠ .stopped ∧ s.crn.queue.length < 8)
    ∧ (∃ (s : State) (h : FrameHead) (n : Byte), Reaches h s ∧ s.pnp.power ≠ .standby ∧ classOk .link .shows s = true ∧ 1
      ≤ n.toNat ∧ n.toNat ≤ 254 ∧ s.shc.phase ≠ .stopped ∧ 8 ≤ s.crn.queue.length)
    ∧ (∃ (s : State) (h : FrameHead), Reaches h s ∧ s.pnp.power = .run ∧ classOk .link .power s = true ∧ s.shc.phase =
      .stopped ∧ (s.lmc.lamp = .off ∨ s.lmc.lamp = .cooling ∨ s.lmc.lamp = .fault) ∧ s.lmc.owed = false ∧
      s.lmc.claim ≠ .fade)
    ∧ (∃ (s : State) (h : FrameHead), Reaches h s ∧ (s.pnp.power = .standby ∨ s.pnp.power = .standbyPending))
    ∧ (∃ (s : State) (h : FrameHead) (w : Waiting) (q : Nat), Reaches h s ∧ (s.pnp.power = .standby ∨ s.pnp.power =
      .standbyPending) ∧ s.sar.waiting = some w ∧ DueAtRun s w ∧ startCheck w s = .ok q)
    ∧ (∃ (s : State) (h : FrameHead), Reaches h s ∧ s.lkc.node ≤ 14 ∧ s.lkc.txq.length < 4)
    ∧ (∃ (s : State) (h : FrameHead), Reaches h s ∧ (s.lkc.node = 15 ∨ 4 ≤ s.lkc.txq.length))
    ∧ (∃ (s : State) (h : FrameHead) (a : Byte), Reaches h s ∧ s.pnp.power = .standby ∧ 1 ≤ a.toNat ∧ a.toNat ≤ 4)
    ∧ (∃ (s : State), Hearing s ∧ s.lkc.rx = .waitIdle)
    ∧ (∃ (s : State), Powered s)
    ∧ (∃ (s : State) (k : Byte), Powered s ∧ (k.toNat = 8 ∨ k.toNat = 9)) :=
  ⟨⟨{ State.reset with lkc := { State.reset.lkc with rx := (.inFrame [0x7E, 0x83, 128, 9, 0]) } }, ⟨0, 3, 128⟩, by
    decide⟩,
   ⟨{ State.reset with
        tru := { State.reset.tru with position := (some 50), present := true }
        csq := { State.reset.csq with origin := (some 5) }
        lkc := { State.reset.lkc with rx := (.inFrame [0x7E, 0x83, 128, 9]) } }, ⟨0, 3, 128⟩, 4, 14, by decide⟩,
   ⟨{ State.reset with
        lkc := { State.reset.lkc with rx := (.inFrame [0x7E, 0x83, 128, 9]), node := 14 }
        sar := { State.reset.sar with sources := { State.reset.sar.sources with link := (⟨false, 3, true, true, true, true, 0, 99, 0, .here, .all⟩) } } },
    ⟨8, 3, 14⟩, 3, by decide⟩,
   ⟨{ State.reset with lkc := { State.reset.lkc with rx := (.inFrame [0x7E, 0x83, 128, 9]) } }, ⟨15, 0, 128⟩, 254, 80,
    by decide⟩,
   ⟨{ State.reset with
        lkc := { State.reset.lkc with rx := (.inFrame [0x7E, 0x83, 128, 9, 8, 1, 2, 3, 4, 5, 6, 7]) }
        lmc := { State.reset.lmc with temp := (some 45) } }, ⟨15, 0, 128⟩, by decide⟩,
   ⟨{ State.reset with
        lkc := { State.reset.lkc with rx := (.inFrame [0x7E]) }
        lmc := { State.reset.lmc with lamp := .preheat } }, ⟨15, 0, 128⟩, by decide⟩,
   ⟨{ State.reset with
        lkc := { State.reset.lkc with rx := (.inFrame [0x7E, 0x83, 128, 9, 0]) }
        shc := { State.reset.shc with phase := .running } }, ⟨15, 0, 128⟩, by decide⟩,
   ⟨{ State.reset with
        lkc := { State.reset.lkc with rx := (.inFrame [0x7E, 0x83, 128, 9, 8, 1, 2, 3, 4, 5, 6, 7]) } }, ⟨0, 3,
    128⟩, by decide⟩,
   ⟨{ State.reset with
        lkc := { State.reset.lkc with rx := (.inFrame [0x7E, 0x83, 128, 9, 8, 1, 2, 3, 4, 5, 6, 7]) } }, ⟨15, 0,
    128⟩, by decide⟩,
   ⟨{ State.reset with
        lkc := { State.reset.lkc with rx := (.inFrame [0x7E, 0x83, 128, 9, 8, 1, 2, 3, 4, 5, 6, 7]) }
        shc := { State.reset.shc with causes := (⟨false, false, false, false, true, false⟩), phase := .held } }, ⟨0,
    3, 128⟩, by decide⟩,
   ⟨{ State.reset with
        lkc := { State.reset.lkc with rx := (.inFrame [0x7E]) }
        shc := { State.reset.shc with phase := .held }
        dkc := { State.reset.dkc with deck := .paused } }, ⟨0, 3, 128⟩, by decide⟩,
   ⟨{ State.reset with
        lkc := { State.reset.lkc with node := 0, rx := (.inFrame [0x7E, 0x83, 128, 9]) }
        crn := { State.reset.crn with queue := ([⟨.link, .step 99, 7⟩]) }
        shc := { State.reset.shc with phase := .held, ended := true } }, ⟨8, 14, 0⟩, by decide⟩,
   ⟨{ State.reset with
        shc := { State.reset.shc with phase := .held }
        lkc := { State.reset.lkc with rx := (.inFrame [0x7E, 0x83, 128, 9]) } }, ⟨0, 3, 128⟩, 8, by decide⟩,
   ⟨{ State.reset with
        lkc := { State.reset.lkc with node := 14, rx := .waitLead }
        shc := { State.reset.shc with phase := .ending }
        crn := { State.reset.crn with queue := ((List.replicate 8 ⟨.tape, .next, 0⟩)) } }, ⟨8, 3, 14⟩, 180, by
    decide⟩,
   ⟨{ State.reset with
        sar := { State.reset.sar with sources := { State.reset.sar.sources with link := (⟨true, 3, true, true, true, true, 0, 99, 0, .here, .all⟩) } }
        lkc := { State.reset.lkc with rx := (.inFrame [0x7E, 0x83, 128, 9, 0]) } }, ⟨15, 0, 128⟩, by decide⟩,
   ⟨{ State.reset with
        lkc := { State.reset.lkc with rx := .waitLead, node := 14 }
        pnp := { State.reset.pnp with power := .standbyPending } }, ⟨8, 3, 14⟩, by decide⟩,
   ⟨{ State.reset with
        pnp := { State.reset.pnp with power := .standbyPending }
        tru := { State.reset.tru with position := (some 99), present := true }
        sar := { State.reset.sar with waiting := (some ⟨.panel, .advance, 3, 4, 5⟩) }
        lkc := { State.reset.lkc with rx := (.inFrame [0x7E, 0x83, 128, 9, 8, 1, 2, 3, 4, 5, 6, 7]) } }, ⟨15, 0,
    128⟩, ⟨.panel, .advance, 3, 4, 5⟩, 3, by decide, by decide, by decide, by decide, okOf (by decide)⟩,
   ⟨{ State.reset with lkc := { State.reset.lkc with node := 0, rx := .waitLead } }, ⟨8, 14, 0⟩, by decide⟩,
   ⟨{ State.reset with lkc := { State.reset.lkc with rx := .waitLead } }, ⟨15, 0, 128⟩, by decide⟩,
   ⟨{ State.reset with
        lkc := { State.reset.lkc with rx := (.inFrame [0x7E, 0x83, 128, 9]) }
        pnp := { State.reset.pnp with power := .standby } }, ⟨15, 0, 128⟩, 3, by decide⟩,
   ⟨State.reset, by decide⟩,
   ⟨State.reset, by decide⟩,
   ⟨State.reset, 8, by decide⟩⟩

theorem test_hyps_FramesAreSentAndLinkSettings :
    (∃ (s : State) (d : Byte) (k : Byte) (n : Byte) (p : List Byte), Awake s ∧ n.toNat = p.length ∧ frameOk d k p = true
      ∧ s.lkc.enable = true ∧ s.lkc.node ≠ 15 ∧ s.lkc.txq.length < 4)
    ∧ (∃ (s : State) (d : Byte) (k : Byte) (n : Byte) (p : List Byte), Awake s ∧ (n.toNat ≠ p.length ∨ frameOk d k p =
      false))
    ∧ (∃ (s : State) (d : Byte) (k : Byte) (n : Byte) (p : List Byte), Awake s ∧ n.toNat = p.length ∧ frameOk d k p = true
      ∧ (s.lkc.enable = false ∨ s.lkc.node = 15))
    ∧ (∃ (s : State) (d : Byte) (k : Byte) (n : Byte) (p : List Byte), Awake s ∧ n.toNat = p.length ∧ frameOk d k p = true
      ∧ s.lkc.enable = true ∧ s.lkc.node ≠ 15 ∧ 4 ≤ s.lkc.txq.length)
    ∧ (∃ (s : State) (f : LinkFrame), Powered s ∧ s.lkc.enable = true ∧ s.pnp.power ≠ .resetHeld ∧ s.lkc.access =
      .waitSlots ∧ s.lkc.lineIdle = true ∧ s.lkc.txq.head? = some f)
    ∧ (∃ (s : State), Powered s ∧ s.lkc.access = .sending ∧ s.lkc.txq.length ≤ 1)
    ∧ (∃ (s : State), Powered s ∧ s.lkc.access = .sending ∧ 1 < s.lkc.txq.length)
    ∧ (∃ (s : State), Powered s ∧ s.lkc.access = .sending ∧ s.lkc.cfg.loopback = false ∧ s.lkc.retry <
      s.lkc.cfg.retryLimit)
    ∧ (∃ (s : State), Powered s ∧ s.lkc.access = .sending ∧ s.lkc.cfg.loopback = false ∧ s.lkc.cfg.retryLimit ≤
      s.lkc.retry)
    ∧ (∃ (s : State), Powered s ∧ s.lkc.access ≠ .sending)
    ∧ (∃ (s : State) (a : Byte), Awake s ∧ a.toNat ≤ 14 ∧ s.lkc.lock = false)
    ∧ (∃ (s : State) (a : Byte), Awake s ∧ a.toNat ≤ 14 ∧ s.lkc.lock = true)
    ∧ (∃ (s : State) (a : Byte), Awake s ∧ 14 < a.toNat)
    ∧ (∃ (s : State), Awake s)
    ∧ (∃ (s : State) (a : Byte) (v : Bool), Awake s ∧ onOff a = some v ∧ v = s.lkc.enable)
    ∧ (∃ (s : State) (a : Byte), Awake s ∧ a.toNat = 1 ∧ s.lkc.enable = false)
    ∧ (∃ (s : State) (a : Byte), Awake s ∧ a.toNat = 0 ∧ s.lkc.enable = true)
    ∧ (∃ (s : State) (a : Byte), Awake s ∧ 1 < a.toNat)
    ∧ (∃ (s : State), Awake s ∧ s.lkc.enable = true)
    ∧ (∃ (s : State) (r : Byte) (l : Byte) (n : Byte) (b : Byte) (v : Bool), Awake s ∧ s.lkc.enable = false ∧ r.toNat ≤ 3
      ∧ l.toNat ≤ 15 ∧ (n.toNat = 1 ∨ n.toNat = 3 ∨ n.toNat = 7 ∨ n.toNat = 15) ∧ onOff b = some v)
    ∧ (∃ (s : State) (r : Byte) (l : Byte) (n : Byte) (b : Byte), Awake s ∧ s.lkc.enable = false ∧ (3 < r.toNat ∨ 15 <
      l.toNat ∨ (n.toNat ≠ 1 ∧ n.toNat ≠ 3 ∧ n.toNat ≠ 7 ∧ n.toNat ≠ 15) ∨ 1 < b.toNat)) :=
  ⟨⟨{ State.reset with lkc := { State.reset.lkc with node := 14 } }, 1, 3, 1, [1], by decide⟩,
   ⟨State.reset, 1, 150, 255, [], by decide⟩,
   ⟨State.reset, 51, 9, 8, [0, 0, 0, 0, 0, 0, 0, 0], by decide⟩,
   ⟨{ State.reset with
        lkc := { State.reset.lkc with txq := ((List.replicate 4 ⟨8, 14, 128, 9, []⟩)), node := 0 } }, 50, 9, 2, [1,
    255], by decide⟩,
   ⟨{ State.reset with
        lkc := { State.reset.lkc with lineIdle := true, txq := ((List.replicate 4 ⟨8, 14, 128, 9, []⟩)), access := .waitSlots } },
    ⟨8, 14, 128, 9, []⟩, by decide⟩,
   ⟨{ State.reset with lkc := { State.reset.lkc with access := .sending } }, by decide⟩,
   ⟨{ State.reset with
        lkc := { State.reset.lkc with access := .sending, txq := ((List.replicate 4 ⟨8, 14, 128, 9, []⟩)) } }, by
    decide⟩,
   ⟨{ State.reset with lkc := { State.reset.lkc with access := .sending } }, by decide⟩,
   ⟨{ State.reset with lkc := { State.reset.lkc with access := .sending, retry := 3 } }, by decide⟩,
   ⟨State.reset, by decide⟩,
   ⟨State.reset, 4, by decide⟩,
   ⟨{ State.reset with lkc := { State.reset.lkc with lock := true } }, 14, by decide⟩,
   ⟨State.reset, 50, by decide⟩,
   ⟨State.reset, by decide⟩,
   ⟨State.reset, 1, true, by decide⟩,
   ⟨{ State.reset with lkc := { State.reset.lkc with enable := false } }, 1, by decide⟩,
   ⟨State.reset, 0, by decide⟩,
   ⟨State.reset, 201, by decide⟩,
   ⟨State.reset, by decide⟩,
   ⟨{ State.reset with lkc := { State.reset.lkc with enable := false } }, 0, 9, 1, 1, true, by decide⟩,
   ⟨{ State.reset with lkc := { State.reset.lkc with enable := false } }, 3, 201, 16, 7, by decide⟩⟩

theorem test_hyps_ThePanelPortAnswers :
    (∃ (s : State), Powered s ∧ s.pnp.resp = none)
    ∧ (∃ (s : State) (n : Nat) (r : Response), Powered s ∧ s.pnp.resp = some r ∧ r.payload.length + 2 ≤ n)
    ∧ (∃ (s : State) (n : Nat) (r : Response), Powered s ∧ s.pnp.resp = some r ∧ n < r.payload.length + 2)
    ∧ (∃ (s : State) (c : Byte), Powered s ∧ c ≠ 0 ∧ codeKnown c = false)
    ∧ (∃ (s : State) (c : Byte) (bs : List Byte), Awake s ∧ c ≠ 0 ∧ codeKnown c = true ∧ frameBody (c :: bs) = none)
    ∧ (∃ (s : State) (c : Byte), Powered s ∧ s.pnp.power = .standby ∧ codeKnown c = true ∧ c ∉ [0x01, 0x02, 0x03, 0x08,
      0x09, 0x30] ∧ c ≠ 0)
    ∧ (∃ (s : State) (c : Byte), Powered s ∧ s.pnp.power = .resetHeld ∧ codeKnown c = true ∧ c ∉ [0x01, 0x02, 0x0A] ∧ c ≠
      0)
    ∧ (∃ (s : State), Powered s) :=
  ⟨⟨State.reset, by decide⟩,
   ⟨{ State.reset with pnp := { State.reset.pnp with resp := (some ⟨.ok, []⟩) } }, 1500, ⟨.ok, []⟩, by decide⟩,
   ⟨{ State.reset with pnp := { State.reset.pnp with resp := (some ⟨.ok, [1, 2]⟩) } }, 2, ⟨.ok, [1, 2]⟩, by decide⟩,
   ⟨State.reset, 255, by decide⟩,
   ⟨State.reset, 51, [1, 2, 3, 4, 5], by decide⟩,
   ⟨{ State.reset with pnp := { State.reset.pnp with power := .standby } }, 59, by decide⟩,
   ⟨{ State.reset with pnp := { State.reset.pnp with power := .resetHeld } }, 17, by decide⟩,
   ⟨State.reset, by decide⟩⟩

theorem test_hyps_AttentionIsRankedAndMasked :
    (∃ (s : State), Powered s)
    ∧ (∃ (s : State), Powered s ∧ s.pnp.power ≠ .resetHeld)
    ∧ (∃ (s : State), Awake s)
    ∧ (∃ (s : State) (d : Byte) (v : Bool), Awake s ∧ onOff d = some v)
    ∧ (∃ (s : State) (d : Byte), Awake s ∧ 1 < d.toNat)
    ∧ (∃ (s : State) (m : Byte), Awake s ∧ m.toNat ≤ 240)
    ∧ (∃ (s : State) (m : Byte), Awake s ∧ 240 < m.toNat) :=
  ⟨⟨State.reset, by decide⟩,
   ⟨State.reset, by decide⟩,
   ⟨State.reset, by decide⟩,
   ⟨State.reset, 1, true, by decide⟩,
   ⟨State.reset, 99, by decide⟩,
   ⟨State.reset, 15, by decide⟩,
   ⟨State.reset, 255, by decide⟩⟩

theorem test_hyps_StandbyAndWake :
    (∃ (s : State), Awake s ∧ classOk .panel .power s = false)
    ∧ (∃ (s : State), Awake s ∧ classOk .panel .power s = true ∧ s.pnp.power = .run ∧ s.shc.phase ≠ .stopped)
    ∧ (∃ (s : State), Awake s ∧ classOk .panel .power s = true ∧ s.pnp.power = .standbyPending)
    ∧ (∃ (s : State), Awake s ∧ classOk .panel .power s = true ∧ s.pnp.power = .run ∧ s.shc.phase = .stopped)
    ∧ (∃ (s : State), Powered s ∧ s.pnp.power = .standbyPending ∧ s.csq.state = .idle ∧ s.lmc.lamp = .off ∧ s.lkc.txq =
      [])
    ∧ (∃ (s : State), Powered s ∧ (s.pnp.power ≠ .standbyPending ∨ s.csq.state ≠ .idle ∨ s.lmc.lamp ≠ .off ∨ s.lkc.txq ≠
      []))
    ∧ (∃ (s : State), Powered s ∧ s.pnp.power = .run)
    ∧ (∃ (s : State), Powered s ∧ s.pnp.power = .standbyPending ∧ NoneDue s)
    ∧ (∃ (s : State), Powered s ∧ s.pnp.power = .standby)
    ∧ (∃ (s : State) (w : Waiting) (q : Nat), Powered s ∧ (s.pnp.power = .standby ∨ s.pnp.power = .standbyPending) ∧
      s.sar.waiting = some w ∧ DueAtRun s w ∧ startCheck w s = .ok q)
    ∧ (∃ (s : State) (w : Waiting) (st : Status), Powered s ∧ (s.pnp.power = .standby ∨ s.pnp.power = .standbyPending) ∧
      s.sar.waiting = some w ∧ DueAtRun s w ∧ s.csq.flight = none ∧ startCheck w s = .error st)
    ∧ (∃ (s : State), Powered s ∧ s.pnp.power = .run ∧ s.pnp.idleSetting ≠ 0 ∧ s.lmc.lamp = .off ∧ s.shc.phase = .stopped
      ∧ s.csq.state = .idle)
    ∧ (∃ (s : State), Powered s ∧ (s.pnp.power ≠ .run ∨ s.pnp.idleSetting = 0 ∨ s.lmc.lamp ≠ .off ∨ s.shc.phase ≠ .stopped
      ∨ s.csq.state ≠ .idle)) :=
  ⟨⟨{ State.reset with
        sar := { State.reset.sar with sources := { State.reset.sar.sources with panel := (⟨true, 0, false, false, false, false, 0, 99, 0, .here, .all⟩) } } },
    by decide⟩,
   ⟨{ State.reset with shc := { State.reset.shc with phase := .ending } }, by decide⟩,
   ⟨{ State.reset with pnp := { State.reset.pnp with power := .standbyPending } }, by decide⟩,
   ⟨State.reset, by decide⟩,
   ⟨{ State.reset with pnp := { State.reset.pnp with power := .standbyPending } }, by decide⟩,
   ⟨State.reset, by decide⟩,
   ⟨State.reset, by decide⟩,
   ⟨{ State.reset with
        csq := { State.reset.csq with state := .jammed }
        pnp := { State.reset.pnp with power := .standbyPending } }, by decide⟩,
   ⟨{ State.reset with pnp := { State.reset.pnp with power := .standby } }, by decide⟩,
   ⟨{ State.reset with
        tru := { State.reset.tru with present := true, position := (some 2) }
        pnp := { State.reset.pnp with power := .standby }
        sar := { State.reset.sar with waiting := (some ⟨.panel, .advance, 3, 4, 5⟩) } }, ⟨.panel, .advance, 3, 4,
    5⟩, 5, by decide, by decide, by decide, by decide, okOf (by decide)⟩,
   ⟨{ State.reset with
        csq := { State.reset.csq with origin := (some 5) }
        sar := { State.reset.sar with waiting := (some ⟨.panel, .advance, 15, 15, 5⟩) }
        tru := { State.reset.tru with map := ((Tru.clearedMap.map (fun r => { r with retired := true }))), present := true, position := (some 0) }
        pnp := { State.reset.pnp with power := .standby } }, ⟨.panel, .advance, 15, 15, 5⟩, .noSlide, by decide, by
    decide, by decide, by decide, by decide, errorOf (by decide)⟩,
   ⟨{ State.reset with pnp := { State.reset.pnp with idleSetting := 240 } }, by decide⟩,
   ⟨State.reset, by decide⟩⟩

theorem test_hyps_ResetsRestoreTheBlocks :
    (∃ (s : State), Powered s ∧ s.pnp.power ≠ .resetHeld)
    ∧ (∃ (s : State), Powered s ∧ (s.pnp.power = .run ∨ s.pnp.power = .standbyPending))
    ∧ (∃ (s : State), Powered s ∧ s.pnp.power = .resetHeld) :=
  ⟨⟨State.reset, by decide⟩,
   ⟨State.reset, by decide⟩,
   ⟨{ State.reset with pnp := { State.reset.pnp with power := .resetHeld } }, by decide⟩⟩

theorem test_hyps_TheMemoryOperations :
    (∃ (s : State), Awake s ∧ s.pnp.store = none ∧ s.pnp.load = false)
    ∧ (∃ (s : State), Awake s ∧ (s.pnp.store ≠ none ∨ s.pnp.load = true))
    ∧ (∃ (s : State) (v : Settings) (n : Nat), Powered s ∧ s.pnp.store = some v ∧ s.pnp.hoursWrite = none ∧ 3526 ≤ n)
    ∧ (∃ (s : State) (v : Settings) (n : Nat), Powered s ∧ s.pnp.store = some v ∧ s.pnp.hoursWrite = none ∧ n < 3526)
    ∧ (∃ (s : State) (v : Settings) (n : Nat), Powered s ∧ s.pnp.store = some v ∧ s.pnp.hoursWrite = none ∧ s.mem.wf ∧ 2 ≤
      n ∧ n < 3526)
    ∧ (∃ (s : State), Powered s ∧ (s.pnp.store = none ∨ s.pnp.hoursWrite ≠ none))
    ∧ (∃ (s : State), Awake s ∧ s.pnp.store = none ∧ s.pnp.load = false ∧ s.csq.state = .idle ∧ s.sar.waiting = none ∧
      s.shc.phase = .stopped ∧ s.lkc.txq = [])
    ∧ (∃ (s : State), Awake s ∧ (s.csq.state ≠ .idle ∨ s.sar.waiting ≠ none ∨ s.shc.phase ≠ .stopped ∨ s.lkc.txq ≠ []))
    ∧ (∃ (s : State) (k : Bool), Powered s ∧ s.pnp.load = true ∧ s.pnp.hoursWrite = none ∧ imageRead k s.mem = none)
    ∧ (∃ (s : State) (k : Bool) (v : Settings), Powered s ∧ s.pnp.load = true ∧ s.pnp.hoursWrite = none ∧ imageRead k
      s.mem = some v ∧ (s.csq.state ≠ .idle ∨ s.sar.waiting ≠ none ∨ s.shc.phase ≠ .stopped ∨ s.lkc.txq ≠ []))
    ∧ (∃ (s : State) (k : Bool) (v : Settings), Powered s ∧ s.pnp.load = true ∧ s.pnp.hoursWrite = none ∧ imageRead k
      s.mem = some v ∧ s.csq.state = .idle ∧ s.sar.waiting = none ∧ s.shc.phase = .stopped ∧ s.lkc.txq = [])
    ∧ (∃ (s : State), Powered s ∧ (s.pnp.load = false ∨ s.pnp.hoursWrite ≠ none))
    ∧ (∃ (s : State) (h : Nat), Powered s ∧ s.pnp.hoursWaiting = some h ∧ s.pnp.store = none ∧ s.pnp.load = false ∧
      s.pnp.hoursWrite = none)
    ∧ (∃ (s : State), Powered s ∧ (s.pnp.hoursWaiting = none ∨ s.pnp.store ≠ none ∨ s.pnp.load = true ∨ s.pnp.hoursWrite ≠
      none))
    ∧ (∃ (s : State) (h : Nat) (n : Nat), Powered s ∧ s.pnp.hoursWrite = some h ∧ 4 ≤ n)
    ∧ (∃ (s : State) (h : Nat) (n : Nat), Powered s ∧ s.pnp.hoursWrite = some h ∧ n < 4)
    ∧ (∃ (s : State), Powered s ∧ s.pnp.hoursWrite = none) :=
  ⟨⟨State.reset, by decide⟩,
   ⟨{ State.reset with pnp := { State.reset.pnp with store := (some Settings.builtIn) } }, by decide⟩,
   ⟨{ State.reset with pnp := { State.reset.pnp with store := (some Settings.builtIn) } }, Settings.builtIn, 3526, by
    decide⟩,
   ⟨{ State.reset with pnp := { State.reset.pnp with store := (some Settings.builtIn) } }, Settings.builtIn, 1501, by
    decide⟩,
   ⟨{ State.reset with pnp := { State.reset.pnp with store := (some Settings.builtIn) } }, Settings.builtIn, 625, by
    decide⟩,
   ⟨State.reset, by decide⟩,
   ⟨State.reset, by decide⟩,
   ⟨{ State.reset with csq := { State.reset.csq with state := .indexing } }, by decide⟩,
   ⟨{ State.reset with pnp := { State.reset.pnp with load := true } }, true, by decide⟩,
   ⟨{ State.reset with
        pnp := { State.reset.pnp with load := true }
        mem := sampleImage
        csq := { State.reset.csq with state := .stalled } }, true, Settings.builtIn, by decide, by decide, by
    decide, sampleImage_read, by decide⟩,
   ⟨{ State.reset with pnp := { State.reset.pnp with load := true }, mem := sampleImage }, true, Settings.builtIn, by
    decide, by decide, by decide, sampleImage_read, by decide, by decide, by decide, by decide⟩,
   ⟨State.reset, by decide⟩,
   ⟨{ State.reset with pnp := { State.reset.pnp with hoursWaiting := (some 65535) } }, 65535, by decide⟩,
   ⟨State.reset, by decide⟩,
   ⟨{ State.reset with pnp := { State.reset.pnp with hoursWrite := (some 65535) } }, 65535, 4, by decide⟩,
   ⟨{ State.reset with pnp := { State.reset.pnp with hoursWrite := (some 65535) } }, 65535, 3, by decide⟩,
   ⟨State.reset, by decide⟩⟩

/-! ## The hypotheses of the statements are met: clauses with an outcome or a record among them -/

/-- PARTIAL while REVEALING (log 44). -/
theorem test_hyps_TrayPresenceFollowsTprs_partialWhileRevealing :
    let f : Flight := ⟨.advance, .panel, 6, 5, .forward, 0, 99, false, true, false, 1⟩
    let s := { moving 6 6 .forward with
      csq := { (moving 6 6 .forward).csq with state := .revealing, flight := some f, gate := .seated }
      pins := { State.reset.pins with seat := false, clear := false } }
    Powered s ∧ s.tru.present = true ∧ s.csq.state.active = true ∧ s.csq.flight = some f ∧ s.pins.sensed = .partway
      ∧ Jammed f .partialAtLoss s (after (exec .trayRemoval s)) := by decide

/-- A panel whose route is BOTH. -/
def bothWays : State :=
  { State.reset with
    tru := { State.reset.tru with present := true, position := some 5, map := Tru.clearedMap }
    sar := { State.reset.sar with sources := { State.reset.sar.sources with
      panel := { State.reset.sar.sources.panel with route := .both } } } }

/-- The same with route HERE. -/
def hereOnly : State :=
  { bothWays with sar := { bothWays.sar with sources := { bothWays.sar.sources with
      panel := { bothWays.sar.sources.panel with route := .here } } } }

theorem test_hyps_TransportRefusalsAndForwarding_bothWays :
    (∃ u : State, Awake bothWays ∧ bothWays.sar.sources.panel.route = .both
      ∧ exec (panelChangeOf .seek 99 5) hereOnly = .next u ∧ u.pnp.resp = some ⟨.ok, [0, 99, 0]⟩)
    ∧ (∃ u : State, Awake bothWays ∧ bothWays.sar.sources.panel.route = .both
      ∧ exec (panelChangeOf .seek 100 5) hereOnly = .next u ∧ u.pnp.resp = some ⟨.range, []⟩) :=
  ⟨⟨after (exec (panelChangeOf .seek 99 5) hereOnly), by decide, rfl, rfl, by decide⟩,
   ⟨after (exec (panelChangeOf .seek 100 5) hereOnly), by decide, rfl, rfl, by decide⟩⟩

theorem test_hyps_CueTableAndQueueCommands_records :
    (∃ (bs : List Byte) (r : StepRec) (b : Nat → Byte), (b = fun i => bs.getD i 0) ∧ StepRec.parse bs = some (some r)) :=
  ⟨1 :: 3 :: 99 :: List.replicate 13 0, ⟨.slot 99, 0, none, none, .none, 0, none, none⟩, _, rfl, by decide⟩

end Sys2Proof.Tests
end

section
/-! The tray: which positions are eligible, and how ADVANCE and REVERSE find theirs (01 R10, R11, R12). -/

namespace Sys2Proof.Machine

/-! ## Positions round the tray -/

theorem stepsFrom_lt (forward : Bool) (p k : Nat) : stepsFrom forward p k < 100 :=
  Nat.mod_lt _ (by decide)

/-- `NextEligible` writes 99 `k` steps onward as `100 - k`, which is the same position. -/
theorem stepsFrom_eq (forward : Bool) (p : Nat) {k : Nat} (h : k ≤ 99) :
    stepsFrom forward p k = (if forward then p + k else p + (100 - k)) % 100 := by
  cases forward
  case true => rfl
  case false =>
    simp only [stepsFrom, Bool.false_eq_true, if_false]
    omega

/-- 99 steps either way pass each position but the one they start from. -/
theorem exists_stepsFrom_eq_iff (forward : Bool) (p r : Nat) :
    (∃ k, 1 ≤ k ∧ k ≤ 99 ∧ stepsFrom forward p k = r) ↔ r < 100 ∧ r ≠ p % 100 := by
  constructor
  · rintro ⟨k, hk, hk', rfl⟩
    refine ⟨stepsFrom_lt forward p k, ?_⟩
    rw [stepsFrom_eq forward p hk']
    split <;> omega
  · rintro ⟨hr, hne⟩
    cases forward
    case true =>
      refine ⟨(r + 100 - p % 100) % 100, by omega, by omega, ?_⟩
      simp only [stepsFrom, if_true]
      omega
    case false =>
      refine ⟨(p % 100 + 100 - r) % 100, by omega, by omega, ?_⟩
      simp only [stepsFrom, Bool.false_eq_true, if_false]
      omega

/-! ## Eligibility and one search -/

theorem eligible_iff (t : Tru) (p : Nat) :
    t.eligible p = true ↔ (p ≠ 0 ∧ (t.slot p).skip = false ∧ (t.slot p).retired = false
      ∧ (t.cfg.skipEmpty = true → (t.slot p).content ≠ .empty)) := by
  cases h : t.cfg.skipEmpty <;> simp [Tru.eligible, h, and_assoc]

theorem NextEligible.eligible {t : Tru} {forward : Bool} {p q : Nat} (h : NextEligible t forward p q) :
    t.eligible q = true := by
  obtain ⟨_, _, _, _, he, _⟩ := h
  exact he

theorem NextEligible.lt {t : Tru} {forward : Bool} {p q : Nat} (h : NextEligible t forward p q) : q < 100 := by
  obtain ⟨_, _, _, rfl, _⟩ := h
  exact Nat.mod_lt _ (by decide)

theorem search_eq_some_iff_nextEligible (t : Tru) (forward : Bool) (p q : Nat) :
    t.search forward 99 p = some q ↔ NextEligible t forward p q := by
  rw [search_eq_some_iff, NextEligible]
  refine exists_congr fun k => and_congr_right fun _ => and_congr_right fun hk => ?_
  rw [stepsFrom_eq forward p hk]
  refine and_congr_right fun _ => and_congr_right fun _ => forall₂_congr fun j hj => ?_
  rw [stepsFrom_eq forward p (by omega)]

/-- A search of 99 positions fails exactly where no other position of the tray is eligible. -/
theorem search_eq_none_iff_others (t : Tru) (forward : Bool) (p : Nat) :
    t.search forward 99 p = none ↔ ∀ r < 100, r ≠ p % 100 → t.eligible r = false := by
  rw [search_eq_none_iff]
  constructor
  · intro hall r hr hne
    obtain ⟨k, hk, hk', rfl⟩ := (exists_stepsFrom_eq_iff forward p r).mpr ⟨hr, hne⟩
    exact hall k hk hk'
  · intro hall k hk hk'
    obtain ⟨hr, hne⟩ := (exists_stepsFrom_eq_iff forward p _).mp ⟨k, hk, hk', rfl⟩
    exact hall _ hr hne

/-! ## The steps of ADVANCE and REVERSE -/

theorem nth_one (t : Tru) (forward : Bool) (b : Nat) : t.nth forward 1 b = t.search forward 99 b := by
  rw [nth_succ, Tru.nth, Option.bind_some]

theorem nth_succ_eq_some_iff (t : Tru) (forward : Bool) (n b q : Nat) :
    t.nth forward (n + 1) b = some q ↔ ∃ p, t.nth forward n b = some p ∧ NextEligible t forward p q := by
  simp only [nth_succ, Option.bind_eq_some_iff, search_eq_some_iff_nextEligible]

/-- A step that is taken ends at an eligible position, found by the last search. -/
theorem nextEligible_of_nth {t : Tru} {forward : Bool} {n b q : Nat} (hn : 1 ≤ n) (h : t.nth forward n b = some q) :
    ∃ p, NextEligible t forward p q := by
  obtain ⟨m, rfl⟩ := Nat.exists_eq_add_of_le' hn
  obtain ⟨p, -, hp⟩ := (nth_succ_eq_some_iff t forward m b q).mp h
  exact ⟨p, hp⟩

theorem nth_succ_eq_none_iff (t : Tru) (forward : Bool) {n : Nat} (b : Nat) (hn : 1 ≤ n) :
    t.nth forward (n + 1) b = none
      ↔ t.nth forward n b = none ∨ ∃ p, t.nth forward n b = some p ∧ ∀ r < 100, r ≠ p → t.eligible r = false := by
  rw [nth_succ]
  cases h : t.nth forward n b with
  | none => simp
  | some p =>
    obtain ⟨_, hp⟩ := nextEligible_of_nth hn h
    simp [search_eq_none_iff_others, Nat.mod_eq_of_lt hp.lt]

/-! ## Their targets, refusals and direction -/

/-- The kind of a change that steps in a direction: ADVANCE or REVERSE. -/
def steppingKind (forward : Bool) : ChangeKind := if forward then .advance else .reverse

theorem eq_steppingKind {k : ChangeKind} {forward : Bool}
    (h : (k, forward) = (.advance, true) ∨ (k, forward) = (.reverse, false)) : k = steppingKind forward := by
  rcases h with h | h <;> cases h <;> rfl

theorem resolve_stepping (t : Tru) (forward : Bool) (n b : Nat) :
    t.resolve (steppingKind forward) n b
      = (t.nth forward n b).elim (.error .noSlide) .ok := by
  cases h : t.nth forward n b <;> cases forward <;> simp [Tru.resolve, steppingKind, h]

theorem resolve_stepping_eq_ok_iff (t : Tru) (forward : Bool) (n b q : Nat) :
    t.resolve (steppingKind forward) n b = .ok q ↔ t.nth forward n b = some q := by
  rw [resolve_stepping]
  cases t.nth forward n b <;> simp

theorem resolve_stepping_eq_error_iff (t : Tru) (forward : Bool) (n b : Nat) (st : Status) :
    t.resolve (steppingKind forward) n b = .error st ↔ t.nth forward n b = none ∧ st = .noSlide := by
  rw [resolve_stepping]
  cases t.nth forward n b <;> simp [eq_comm]

theorem resolve_stepping_eq_noSlide_iff (t : Tru) (forward : Bool) (n b : Nat) :
    t.resolve (steppingKind forward) n b = .error .noSlide ↔ t.nth forward n b = none := by
  simp [resolve_stepping_eq_error_iff]

theorem resolve_stepping_eligible {t : Tru} {forward : Bool} {n b q : Nat} (hn : 1 ≤ n)
    (h : t.resolve (steppingKind forward) n b = .ok q) : t.eligible q = true := by
  obtain ⟨_, hp⟩ := nextEligible_of_nth hn ((resolve_stepping_eq_ok_iff t forward n b q).mp h)
  exact hp.eligible

/-- The count is checked before the fade (log 14), so a bad fade does not hide RANGE. -/
theorem argRefusal_stepping_eq_range_iff (forward : Bool) (n : Nat) (fade : Byte) :
    argRefusal (steppingKind forward) n fade = some .range ↔ (n < 1 ∨ 15 < n) := by
  have hsteps : (steppingKind forward).steps = true := by cases forward <;> rfl
  have hseek : steppingKind forward ≠ .seek := by cases forward <;> decide
  by_cases hn : n < 1 ∨ 15 < n
  · rw [argRefusal, if_pos ⟨hsteps, hn⟩]
    exact iff_of_true rfl hn
  · simp only [argRefusal, hsteps, hseek, hn, and_false, false_and, if_false, iff_false]
    split <;> simp

/-- BLANKING and the phases it may enter at once keep the flight that the start has set. -/
theorem startChange_stepping_dir (src : Source) (forward : Bool) (target fade : Nat) (s : State) :
    (startChange src (steppingKind forward) target fade s).csq.flight.map (·.dir)
      = some (if forward then .forward else .reverse) := by
  cases forward <;> simp [startChange, steppingKind]

/-- Settles O20: a search of 99 positions finds the next eligible one (`search_eq_some_iff_nextEligible`) or there is no
other (`search_eq_none_iff_others`), and ADVANCE and REVERSE are such searches one after the other (`nth_succ`). -/
theorem eligiblePositions : Obligations.EligiblePositions := by
  intro t
  refine ⟨eligible_iff t, ?_, ?_, fun _ _ => rfl, fun _ _ => rfl⟩
  · rintro n b q hn (h | h)
    · exact resolve_stepping_eligible (forward := true) hn h
    · exact resolve_stepping_eligible (forward := false) hn h
  · intro k forward hk
    obtain rfl := eq_steppingKind hk
    simp only [resolve_stepping_eq_ok_iff, resolve_stepping_eq_noSlide_iff]
    refine ⟨fun b q => ?_, fun b => ?_, fun n b q _ => nth_succ_eq_some_iff t forward n b q,
      fun n b hn => nth_succ_eq_none_iff t forward b hn, fun n b st h => ?_,
      argRefusal_stepping_eq_range_iff forward, fun src => startChange_stepping_dir src forward⟩
    · rw [nth_one, search_eq_some_iff_nextEligible]
    · rw [nth_one, search_eq_none_iff_others]
    · exact ((resolve_stepping_eq_error_iff t forward n b st).mp h).2

end Sys2Proof.Machine
end

section
/-! The last-change records: READ_LAST_CHANGE and the write of a record (03 R64, R65). -/

namespace Sys2Proof.Machine

/-! ## The answer of a panel command while the part is awake -/

theorem powerRefusal_awake {s : State} (h : Awake s) (inStandby inReset : Bool) :
    powerRefusal inStandby inReset s.pnp.power = none := by
  obtain ⟨-, hp | hp⟩ := h <;> rw [hp] <;> rfl

/-- Checks 1 and 2 of R181 pass: only the command's own answer is left. -/
theorem quiet_panel_awake {s : State} (h : Awake s) (f : State → Answer) :
    quiet (panel f) s = .next (answered (f s).2.status (f s).2.payload (f s).1) := by
  have hpanel : panel f s = answered (f s).2.status (f s).2.payload (f s).1 := by
    simp only [panel, panelIn, powerRefusal_awake h]
    rfl
  rw [quiet, h.1, hpanel]
  rfl

/-! ## The write of a record -/

theorem PerSource.get_set_same {α : Type} (p : PerSource α) (src : Source) (x : α) :
    (p.set src x).get src = x := by
  cases src <;> rfl

theorem writeRecord_last_get (src : Source) (k : ChangeKind) (q : Nat) (o : ChangeOutcome) (f : FinalPos)
    (s : State) :
    (writeRecord src k q o f s).sar.last.get src
      = ⟨some k, some q, o, f, (s.sar.last.get src).refusals⟩ := by
  unfold writeRecord
  split <;> exact PerSource.get_set_same _ _ _

/-- A record written for a source in the mask makes CHANGE pending (R64). -/
theorem writeRecord_change {src : Source} {s : State} (h : s.sar.cfg.mask.get src = true) (k : ChangeKind)
    (q : Nat) (o : ChangeOutcome) (f : FinalPos) : (writeRecord src k q o f s).pnp.pend.change = true := by
  simp [writeRecord, h]

/-- Settles O31: the command passes its checks (`quiet_panel_awake`), the payload is the five bytes of Table 3.7 for each
record as it stood before the clearing, and a later write raises CHANGE again (`writeRecord_change`). -/
theorem readLastChangeClearsTheRefusalCounts : Obligations.ReadLastChangeClearsTheRefusalCounts := by
  refine ⟨fun s h => ⟨_, quiet_panel_awake h _, ?_⟩, fun s src k q o f hmask =>
    ⟨writeRecord_change hmask k q o f, writeRecord_last_get src k q o f s⟩⟩
  refine congrArg₂ (answered .ok) (congrArg List.flatten (List.map_congr_left fun r _ => ?_)) rfl
  obtain ⟨kind, target, outcome, final, refusals⟩ := r
  simp only [LastChange.bytes, List.cons.injEq, and_true]
  refine ⟨?_, ?_, ?_, ?_⟩
  · rcases kind with _ | kind
    · rfl
    · cases kind <;> rfl
  · cases target <;> rfl
  · cases outcome <;> rfl
  · cases final <;> rfl

end Sys2Proof.Machine
end

section
/-! The sound outputs: MUTE and the audio level (05 R103). -/

namespace Sys2Proof.Machine

/-! ## While PORST is high the part drives what its blocks hold (R191) -/

theorem outputs_mute_powered {s : State} (h : Powered s) : s.outputs.mute = s.mute := by
  rw [State.outputs, h]
  rfl

theorem outputs_aud_powered {s : State} (h : Powered s) : s.outputs.aud = s.dkc.audio.level := by
  rw [State.outputs, h]
  rfl

/-! ## The conditions of MUTE -/

theorem mute_eq_true_iff (s : State) :
    s.mute = true ↔ (s.shc.phase = .held ∧ s.dkc.cfg.holdMute = true) ∨ s.dkc.deck = .fault
      ∨ s.pnp.power = .standby ∨ s.pnp.power = .resetHeld := by
  simp only [State.mute, Bool.or_eq_true, Bool.and_eq_true, decide_eq_true_eq, or_assoc]

/-- Settles O41: PORST is high, so MUTE and the audio output are driven (`outputs_mute_powered`,
`outputs_aud_powered`), and MUTE is the disjunction of R103 (`mute_eq_true_iff`). -/
theorem muteStandsOnThreeConditions : Obligations.MuteStandsOnThreeConditions := by
  intro s h
  refine ⟨?_, outputs_aud_powered h⟩
  rw [outputs_mute_powered h]
  exact mute_eq_true_iff s

end Sys2Proof.Machine
end

section
/-! The focus drive by command: FOCUS and FOCUS_STOP, and the byte of READ_REMOTE that shows the drive (09 R159, R160,
R162). -/

namespace Sys2Proof.Machine

/-! ## A start of the drive (R159) -/

/-- Nothing bars the direction: the run starts, and replaces any run there is. -/
theorem startFocus_of_free {s : State} {inward : Bool} (h : stopActive s.pins inward = false) (e : FocusEnd) :
    startFocus inward e s = { s with rmi := { s.rmi with focus := .run inward e 0 } } := by
  rw [startFocus, h]
  rfl

/-- The end stop of the direction is active: no run starts, and one in that direction ends. -/
theorem startFocus_of_stopActive {s : State} {inward : Bool} (h : stopActive s.pins inward = true) (e : FocusEnd) :
    startFocus inward e s
      = { s with rmi := { s.rmi with focus := if s.rmi.focus.runs inward then .stopped else s.rmi.focus } } := by
  rw [startFocus, if_pos h]
  split <;> rfl

/-! ## The answer of FOCUS (R160) -/

/-- What FOCUS answers by its direction byte: STOP, IN, OUT, or none of them. -/
theorem execFocus_awake {s : State} (h : Awake s) (d n : Byte) :
    execFocus d n s = .next (
      if d.toNat = 0 then answered .ok [] (stopFocus s)
      else if d.toNat ≤ 2 ∧ 1 ≤ n.toNat ∧ n.toNat ≤ 80 then
        answered .ok [] (startFocus (d.toNat = 1) (.timed (100 * n.toNat)) s)
      else answered .badArg [] s) := by
  rw [execFocus, quiet_panel_awake h]
  rcases d.toNat with _ | _ | _ | k
  case zero => rfl
  case succ.succ.succ => simp [reply, Response.of]
  all_goals by_cases hn : 1 ≤ n.toNat ∧ n.toNat ≤ 80 <;> simp [reply, Response.of, hn]

theorem execFocus_badArg {s : State} (h : Awake s) {d n : Byte}
    (hbad : 2 < d.toNat ∨ (d.toNat ≠ 0 ∧ (n.toNat = 0 ∨ 80 < n.toNat))) :
    execFocus d n s = .next (answered .badArg [] s) := by
  rw [execFocus_awake h, if_neg (by omega), if_neg (by omega)]

theorem execFocus_starts {s : State} (h : Awake s) {d n : Byte} (hd : d.toNat = 1 ∨ d.toNat = 2)
    (hlo : 1 ≤ n.toNat) (hhi : n.toNat ≤ 80) :
    execFocus d n s = .next (answered .ok [] (startFocus (d.toNat = 1) (.timed (100 * n.toNat)) s)) := by
  rw [execFocus_awake h, if_neg (by omega), if_pos ⟨by omega, hlo, hhi⟩]

/-- The end stop that bars the direction of FOCUS: FSI for IN, FSO for OUT. -/
theorem stopActive_direction (p : Pins) (d : Byte) :
    stopActive p (d.toNat = 1) = if d.toNat = 1 then p.fsi else p.fso := by
  simp [stopActive]

/-! ## The drive in READ_REMOTE (Table 9.6) -/

theorem remotePayload_focus (r : Rmi) : (remotePayload r)[6]? = some (b8 r.focus.code) := rfl

/-- Settles O51: FOCUS answers by its two bytes (`execFocus_awake`), its run starts or is barred as R159 says
(`startFocus_of_free`, `startFocus_of_stopActive`), and READ_REMOTE gives the code of the drive. -/
theorem focusCommandStartsATimedRun : Obligations.FocusCommandStartsATimedRun := by
  refine ⟨fun s d n h hbad => execFocus_badArg h hbad,
    fun s n h => ⟨execFocus_awake h 0 n, quiet_panel_awake h _⟩,
    fun s d n h hd hlo hhi hfree => ?_, fun s d n h hd hlo hhi hstop => ?_,
    fun s h => ⟨_, _, quiet_panel_awake h _, rfl, ?_⟩⟩
  · rw [← stopActive_direction] at hfree
    rw [← startFocus_of_free hfree]
    exact execFocus_starts h hd hlo hhi
  · rw [← stopActive_direction] at hstop
    rw [← startFocus_of_stopActive hstop (.timed (100 * n.toNat))]
    exact execFocus_starts h hd hlo hhi
  · refine (remotePayload_focus s.rmi).trans (congrArg some ?_)
    rcases s.rmi.focus with _ | ⟨_ | _, _, _⟩ <;> rfl

end Sys2Proof.Machine
end


section
/-! What keeps a property: the commands that press a key of the remote or bring a frame of the link make the requests of
03, 04, 07, 08 and 11, so a property that each request keeps is kept by all of them. -/

namespace Sys2Proof.Machine

open Sys2Proof

/-! ## The outcome of an event -/

theorem run_eq_next_iff {f : State → State} {s t : State} :
    run f s = .next t ↔ (if s.pins.porstLow then s else finish (f s)) = t := by
  simp [run]

theorem quiet_eq_next_iff {f : State → State} {s t : State} :
    quiet f s = .next t ↔ (if s.pins.porstLow then s else f s) = t := by
  simp [quiet]

theorem runPin_eq_next_iff {pin f : State → State} {s t : State} :
    runPin pin f s = .next t ↔ (if s.pins.porstLow then pin s else finish (f s)) = t := by
  simp [runPin]

/-! ## Properties that every request keeps -/

/-- A property that what follows an event and each request of the remote and the link keep, and that says
nothing of the remote's records, the receiver, or a queue that LKC may lengthen. -/
structure Kept (P : State → Prop) : Prop where
  finish : ∀ s, P s → P (finish s)
  idleZero : ∀ s, P s → P (idleZero s)
  refusal : ∀ src s, P s → P (countRefusal src s)
  rmi : ∀ f s, (∀ r, (f r).keys = r.keys ∧ (f r).cfg = r.cfg) → P s → P (setRmi f s)
  lkc : ∀ f s, (∀ l, (f l).txq = l.txq ∧ (f l).node = l.node ∧ (f l).groups = l.groups ∧ (f l).enable = l.enable
      ∧ (f l).cfg = l.cfg ∧ (l.rxbuf.length ≤ Config.rxBufferMax → (f l).rxbuf.length ≤ Config.rxBufferMax)) →
    P s → P (setLkc f s)
  offer : ∀ d k p s, P s → P (offerFrame d k p s).1
  change : ∀ src k a f s, P s → P (changeRequest src k a f s).1
  halt : ∀ src s, P s → P (haltFrom src s).1
  clearJam : ∀ s, P s → P (clearJamAt s).1
  lampOn : ∀ s, P s → P (lampOnTaken s).1
  lampOff : ∀ s, P s → P (lampOffTaken s).1
  level : ∀ l f s, P s → P (setLevelByte l f s).1
  hold : ∀ c s, P s → P (holdTaken c s).1
  resume : ∀ s, P s → P (resumeTaken s).1
  startShow : ∀ s, P s → P (startShow s).1
  showStop : ∀ s, P s → P (showStopTaken s).1
  cue : ∀ o k s, P s → P (offerFrom o k s).1
  standby : ∀ s, P s → P (requestStandby s).1
  wake : ∀ s, P s → P (wakeUp s)

namespace Kept

variable {P : State → Prop} (K : Kept P)
include K

theorem sourced (src : Source) (c : ReqClass) {f : State → State × Status} (hf : ∀ s, P s → P (f s).1) (s : State)
    (h : P s) : P (sourced src c f s).1 := by
  simp only [Machine.sourced]
  split
  · exact K.refusal _ _ h
  · split
    · exact K.idleZero _ (hf _ h)
    · exact K.refusal _ _ (hf _ h)

/-! ## Keys of the remote (09) -/

theorem focusStart (inward : Bool) (e : FocusEnd) (s : State) (h : P s) : P (startFocus inward e s) := by
  unfold startFocus stopFocus
  (repeat' split)
  · exact K.rmi _ _ (fun _ => ⟨rfl, rfl⟩) h
  · exact h
  · exact K.rmi _ _ (fun _ => ⟨rfl, rfl⟩) h

theorem digit (d : Option Nat) (s : State) (h : P s) : P (setDigit d s) := K.rmi _ _ (fun _ => ⟨rfl, rfl⟩) h

theorem fireKey (a : KeyAction) (m : RepeatMode) (code : Nat) (s : State) (h : P s) : P (fireKey a m code s) := by
  cases a with
  | none => exact h
  | advance => exact K.change _ _ _ _ _ h
  | reverse => exact K.change _ _ _ _ _ h
  | home => exact K.change _ _ _ _ _ h
  | focusIn => exact K.focusStart _ _ _ h
  | focusOut => exact K.focusStart _ _ _ h
  | hold => exact K.sourced _ _ (K.hold _) _ h
  | resume => exact K.sourced _ _ K.resume _ h
  | showStart => exact K.sourced _ _ K.startShow _ h
  | showStop => exact K.sourced _ _ K.showStop _ h
  | lampOn => exact K.sourced _ _ K.lampOn _ h
  | lampOff => exact K.sourced _ _ K.lampOff _ h
  | clearJam => exact K.sourced _ _ K.clearJam _ h
  | nextStep => exact K.sourced _ _ (K.cue _ _) _ h
  | standby => exact K.sourced _ _ K.standby _ h
  | wake => exact K.wake _ h
  | report => exact K.rmi (fun r => { r with lastKey := some code, unread := true }) _ (fun _ => ⟨rfl, rfl⟩) h
  | enter =>
    simp only [Machine.fireKey, enterKey]
    split
    · exact h
    · exact K.change _ _ _ _ _ (K.digit _ _ h)
  | digit d =>
    simp only [Machine.fireKey, digitKey]
    split
    · exact K.digit _ _ h
    · exact K.change _ _ _ _ _ (K.digit _ _ h)

/-! ### Presses, releases and lines -/

omit K in
theorem setLine_keeps (r : Rmi) (l : Line) (x : LineRec) :
    (r.setLine l x).keys = r.keys ∧ (r.setLine l x).cfg = r.cfg := by
  cases l <;> exact ⟨rfl, rfl⟩

theorem lineRecord (l : Line) (x : Rmi → LineRec) (s : State) (h : P s) :
    P (setRmi (fun r => r.setLine l (x r)) s) := K.rmi _ _ (fun _ => setLine_keeps _ _ _) h

theorem press (code : Nat) (p : Option Press) (s : State) (h : P s) : P (setPress code p s) := by
  unfold setPress
  split
  · exact K.lineRecord _ _ _ h
  · exact K.rmi _ _ (fun _ => ⟨rfl, rfl⟩) h

theorem pressKey (code : Nat) (s : State) (h : P s) : P (pressKey code s) := by
  simp only [Machine.pressKey]
  split
  · have hp := K.press code (some ⟨(s.rmi.entry code).action, (s.rmi.entry code).mode, 0, true⟩) s h
    unfold standbyKey
    (repeat' split)
    · exact K.wake _ hp
    · exact K.sourced _ _ K.lampOn _ hp
    · exact hp
    · exact K.wake _ hp
    · exact hp
  · exact K.fireKey _ _ _ _ (K.press _ _ _ h)

theorem releaseKey (code : Nat) (s : State) (h : P s) : P (releaseKey code s) := by
  simp only [Machine.releaseKey]
  split
  · exact K.rmi _ _ (fun _ => ⟨rfl, rfl⟩) (K.press _ _ _ h)
  · exact K.press _ _ _ h

theorem lineEvent (l : Line) (v : Bool) (s : State) (h : P s) : P (lineEvent l v s) := by
  simp only [Machine.lineEvent]
  (repeat' split)
  · exact h
  · exact K.pressKey _ _ (K.lineRecord l (fun _ => _) _ h)
  · exact K.releaseKey _ _ (K.lineRecord l (fun _ => _) _ h)

theorem lineLevels (f : Line → Bool) (s : State) (h : P s) : P (lineLevels f s) :=
  K.lineEvent _ _ _ (K.lineEvent _ _ _ (K.lineEvent _ _ _ (K.lineEvent _ _ _ h)))

theorem lineReading (l : Line) (v : Bool) (s : State) (h : P s) : P (lineReading l v s) := by
  unfold Machine.lineReading
  split
  · exact K.lineRecord _ _ _ h
  · exact K.lineEvent _ _ _ (K.lineRecord _ _ _ h)

theorem keyRepeat (code : Nat) (s : State) (h : P s) : P (keyRepeat code s) := by
  unfold Machine.keyRepeat
  (repeat' split)
  · exact h
  · exact K.fireKey _ _ _ _ (K.press _ _ _ h)
  · exact h
  · exact h

/-! ### Infra-red frames and test mode -/

theorem irPressed (key : Nat) (s : State) (h : P s) : P (irPressed key s) := by
  simp only [Machine.irPressed]
  (repeat' split)
  · exact K.pressKey _ _ (K.rmi _ _ (fun _ => ⟨rfl, rfl⟩) h)
  · exact K.rmi _ _ (fun _ => ⟨rfl, rfl⟩) h
  · exact K.pressKey _ _ (K.rmi _ _ (fun _ => ⟨rfl, rfl⟩) (K.rmi _ _ (fun _ => ⟨rfl, rfl⟩) (K.releaseKey _ _ h)))

theorem irReleased (s : State) (h : P s) : P (irReleased s) := by
  unfold Machine.irReleased
  split
  · exact h
  · exact K.rmi _ _ (fun _ => ⟨rfl, rfl⟩) (K.releaseKey _ _ h)

theorem irTake (e : IrEvent) (s : State) (h : P s) : P (irTake e s) := by
  unfold Machine.irTake irDrop
  (repeat' split)
  · exact h
  · exact K.rmi _ _ (fun _ => ⟨rfl, rfl⟩) h
  · exact h
  · exact K.rmi _ _ (fun _ => ⟨rfl, rfl⟩) h
  · exact K.irPressed _ _ h
  · exact K.rmi _ _ (fun _ => ⟨rfl, rfl⟩) h

theorem irWalk (ps : List IrPulse) (s : State) (h : P s) : P (irWalk ps s) := by
  induction ps generalizing s with
  | nil => exact h
  | cons p ps ih => exact ih _ (K.irTake _ _ (K.rmi _ _ (fun _ => ⟨rfl, rfl⟩) h))

theorem irSignal (ps : List IrPulse) (s : State) (h : P s) : P (irSignal ps s) := by
  unfold Machine.irSignal
  split
  · exact h
  · exact K.irWalk _ _ h

theorem enterTest (s : State) (h : P s) : P (enterTest s) := by
  unfold Machine.enterTest
  split
  · exact h
  · exact K.rmi _ _ (fun _ => ⟨rfl, rfl⟩) (K.irReleased _ (K.lineLevels _ _ h))

theorem leaveTest (s : State) (h : P s) : P (leaveTest s) := by
  unfold Machine.leaveTest
  split
  · exact K.rmi _ _ (fun _ => ⟨rfl, rfl⟩) (K.lineLevels _ _ (K.irReleased _ h))
  · exact h

/-! ## Frames of the link (10) -/

theorem frameTaken (s : State) (h : P s) : P (setLkc Lkc.frameTaken s) :=
  K.lkc _ _ (fun l => by simp) h

omit K in
theorem store_length (e : RxEntry) (l : Lkc) (h : l.rxbuf.length ≤ Config.rxBufferMax) :
    (l.store e).rxbuf.length ≤ Config.rxBufferMax := by
  unfold Lkc.store
  split <;> simp <;> omega

theorem stored (e : RxEntry) (s : State) (h : P s) : P (setLkc (·.store e) s) :=
  K.lkc _ _ (fun l => by simpa using store_length e l) h

theorem badFrame (s : State) (h : P s) : P (setLkc Lkc.badFrame s) := K.lkc _ _ (fun l => by simp) h

theorem onFrame {f : State → State} (hf : ∀ s, P s → P (f s)) (hd : FrameHead) (kind : Byte) (p : List Byte)
    (s : State) (h : P s) : P (onFrame hd kind p f s) := by
  unfold Machine.onFrame
  split
  · exact h
  · exact K.badFrame _ (K.frameTaken _ h)
  · exact K.frameTaken _ h
  · exact K.stored _ _ (K.frameTaken _ h)
  · exact hf _ (K.frameTaken _ h)

omit K in
theorem unlessStandby {f : State → State} (hf : ∀ s, P s → P (f s)) (s : State) (h : P s) :
    P (unlessStandby f s) := by
  unfold Machine.unlessStandby
  split
  · exact h
  · exact hf _ h

theorem linkRequest (c : ReqClass) {f : State → State × Status} (hf : ∀ s, P s → P (f s).1) (s : State) (h : P s) :
    P (linkRequest c f s) := K.sourced _ _ hf _ h

theorem linkChange (kind arg fade : Byte) (s : State) (h : P s) : P (linkChange kind arg fade s) := by
  unfold Machine.linkChange
  split
  · exact K.change _ _ _ _ _ h
  · exact K.change _ _ _ _ _ h
  · exact K.change _ _ _ _ _ h
  · exact K.change _ _ _ _ _ h
  · exact h

theorem changeFrame (hd : FrameHead) (kind arg fade : Byte) (s : State) (h : P s) : P (changeFrame hd kind arg fade s) :=
  K.onFrame (unlessStandby (K.linkChange _ _ _)) _ _ _ _ h

theorem levelFrame (hd : FrameHead) (level fade : Byte) (s : State) (h : P s) : P (levelFrame hd level fade s) :=
  K.onFrame (unlessStandby (K.linkRequest _ (K.level _ _))) _ _ _ _ h

theorem lampFrame (hd : FrameHead) (on : Byte) (s : State) (h : P s) : P (lampFrame hd on s) := by
  refine K.onFrame (unlessStandby (K.linkRequest _ ?_)) _ _ _ _ h
  split
  · exact K.lampOn
  · exact K.lampOff

theorem holdFrame (hd : FrameHead) (s : State) (h : P s) : P (holdFrame hd s) :=
  K.onFrame (unlessStandby (K.linkRequest _ (K.hold _))) _ _ _ _ h

theorem resumeFrame (hd : FrameHead) (s : State) (h : P s) : P (resumeFrame hd s) :=
  K.onFrame (unlessStandby (K.linkRequest _ K.resume)) _ _ _ _ h

theorem stepFrame (hd : FrameHead) (n : Byte) (s : State) (h : P s) : P (stepFrame hd n s) :=
  K.onFrame (unlessStandby (K.linkRequest _ (K.cue _ _))) _ _ _ _ h

theorem standbyFrame (hd : FrameHead) (s : State) (h : P s) : P (standbyFrame hd s) :=
  K.onFrame (unlessStandby (K.linkRequest _ K.standby)) _ _ _ _ h

theorem wakeFrame (hd : FrameHead) (s : State) (h : P s) : P (wakeFrame hd s) := K.onFrame K.wake _ _ _ _ h

theorem answerAsk (src : Nat) (s : State) (h : P s) : P (answerAsk src s) := by
  simp only [Machine.answerAsk]
  split
  · exact K.offer _ _ _ _ h
  · exact K.lkc _ _ (fun l => by simp) (K.offer _ _ _ _ h)

theorem askFrame (hd : FrameHead) (s : State) (h : P s) : P (askFrame hd s) := K.onFrame (K.answerAsk _) _ _ _ _ h

theorem dataFrame (hd : FrameHead) (kind : Byte) (p : List Byte) (s : State) (h : P s) :
    P (dataFrame hd kind p s) := by
  unfold Machine.dataFrame
  split
  · exact K.onFrame (unlessStandby (K.stored _)) _ _ _ _ h
  · exact h

theorem takeFrame (f : LinkFrame) (s : State) (h : P s) : P (takeFrame f s) := by
  simp only [Machine.takeFrame]
  split
  · exact K.changeFrame _ _ _ _ _ h
  · exact K.levelFrame _ _ _ _ h
  · exact K.lampFrame _ _ _ h
  · exact K.holdFrame _ _ h
  · exact K.resumeFrame _ _ h
  · exact K.stepFrame _ _ _ h
  · exact K.askFrame _ _ h
  · exact K.standbyFrame _ _ h
  · exact K.wakeFrame _ _ h
  · exact K.dataFrame _ _ _ _ h

theorem hearChar (c : Byte) (stop : Bool) (s : State) (h : P s) : P (hearChar c stop s) := by
  unfold Machine.hearChar takeBytes
  refine K.lkc _ _ (fun l => by simp) ?_
  (repeat' split)
  · exact K.lkc _ _ (fun l => by simp) h
  · exact K.badFrame _ h
  · exact K.takeFrame _ _ h
  · exact K.badFrame _ h

theorem ownFrame (dest kind : Byte) (p : List Byte) (s : State) (h : P s) : P (ownFrame dest kind p s) := by
  unfold Machine.ownFrame
  (repeat' split)
  · exact h
  · refine K.lkc (fun l => l.takeLooped.store ⟨l.node, dest, kind, p⟩) _ (fun l => ?_) h
    simpa using store_length ⟨l.node, dest, kind, p⟩ l.takeLooped
  · exact K.onFrame (fun _ h => h) _ _ _ _ h

/-! ## The take of a cue (07) -/

omit K in
theorem stepComplete (hcrn : ∀ f s, (∀ c, (f c).table = c.table ∧ (f c).queue = c.queue) → P s → P (setCrn f s))
    (s : State) (h : P s) : P (stepComplete s) := by
  have hdone : P (setCrn (fun c => { c with progress := none, awaited := .none }) s) := hcrn _ _ (fun _ => ⟨rfl, rfl⟩) h
  unfold Machine.stepComplete
  (repeat' split)
  · exact h
  · exact hdone
  · next r _ _ _ => exact hcrn (fun c => { c with dwell := some r.dwell, dwellMs := 0 }) _ (fun _ => ⟨rfl, rfl⟩) hdone
  · exact hdone

/-- What the take of a cue adds to the requests: CRN's own records, the audio ramp, the deck and a link frame. -/
theorem takeCue (hcrn : ∀ f s, (∀ c, (f c).table = c.table ∧ (f c).queue = c.queue) → P s → P (setCrn f s))
    (hqueue : ∀ s, P s → P (setCrn (fun c => { c with queue := c.queue.tail }) s))
    (haudio : ∀ l f s, P s → P (startAudio l f s)) (hstop : ∀ s, P s → P (deckStopAll s))
    (hplay : ∀ s, P s → P (deckPlayFrom false s).1) (hlevel : ∀ l f s, P s → P (setLevelTaken l f s).1)
    (hover : ∀ s, P s → P (setLkc (fun l => { l with overflow := true }) s)) (s : State) (h : P s) :
    P (takeCue s) := by
  have done := stepComplete hcrn
  have fault : ∀ n st s, P s → P (setStepFault n st s) := fun n st s h =>
    hcrn (fun c => { c with stepFault := true, faultStep := n, faultStatus := some st }) s (fun _ => ⟨rfl, rfl⟩) h
  have empty : ∀ n s, P s → P (setStepEmpty n s) := fun n s h =>
    hcrn (fun c => { c with stepEmpty := true, faultStep := n, faultStatus := none }) s (fun _ => ⟨rfl, rfl⟩) h
  have request : ∀ n k a f s, P s → P (runnerRequest n k a f s) := by
    intro n k a f s h
    simp only [runnerRequest, awaitAnswer]
    (repeat' split)
    · exact done _ (fault _ _ _ (K.change _ _ _ _ _ h))
    · exact hcrn _ _ (fun _ => ⟨rfl, rfl⟩) (K.change _ _ _ _ _ h)
    · exact hcrn _ _ (fun _ => ⟨rfl, rfl⟩) (K.change _ _ _ _ _ h)
    · exact hcrn _ _ (fun _ => ⟨rfl, rfl⟩) (K.change _ _ _ _ _ h)
    · exact done _ (K.change _ _ _ _ _ h)
  have level : ∀ n r s, P s → P (stepLevel n r s) := by
    intro n r s h
    simp only [stepLevel]
    (repeat' split)
    · exact h
    · exact K.sourced _ _ (hlevel _ _) _ h
    · exact fault _ _ _ (K.sourced _ _ (hlevel _ _) _ h)
  have audio : ∀ r s, P s → P (stepAudio r s) := by
    intro r s h
    unfold stepAudio
    split
    · exact h
    · exact haudio _ _ _ h
  have link : ∀ r s, P s → P (stepLink r s) := by
    intro r s h
    simp only [stepLink, offerOrOverflow]
    (repeat' split)
    · exact h
    · exact K.offer _ _ _ _ h
    · exact hover _ (K.offer _ _ _ _ h)
  have deck : ∀ n r s, P s → P (stepDeck n r s) := by
    intro n r s h
    simp only [stepDeck]
    (repeat' split)
    · exact h
    · exact hstop _ h
    · exact hplay _ h
    · exact fault _ _ _ (hplay _ h)
  have transport : ∀ n r s, P s → P (stepTransport n r s) := by
    intro n r s h
    unfold stepTransport
    split
    · exact done _ h
    · exact request _ _ _ _ _ h
    · exact request _ _ _ _ _ h
    · exact request _ _ _ _ _ h
    · exact request _ _ _ _ _ h
  unfold Machine.takeCue
  split
  · exact h
  · next r rest hq =>
    split
    · exact h
    · have taken : P (stopDwell (setCrn (fun c => { c with queue := rest }) s)) := by
        have := hqueue s h
        rw [setCrn, hq] at this
        exact hcrn (fun c => { c with dwell := none, dwellMs := 0 }) _ (fun _ => ⟨rfl, rfl⟩) this
      dsimp only
      (repeat' split)
      · unfold takeDirect directRequest
        (repeat' split)
        · exact request _ _ _ _ _ (hcrn _ _ (fun _ => ⟨rfl, rfl⟩) taken)
        · exact request _ _ _ _ _ (hcrn _ _ (fun _ => ⟨rfl, rfl⟩) taken)
        · exact fault _ _ _ taken
      · simp only [takeProgram, startStep]
        split
        · exact transport _ _ _ (deck _ _ _ (link _ _ (audio _ _ (level _ _ _ (hcrn _ _ (fun _ => ⟨rfl, rfl⟩) taken)))))
        · exact empty _ _ taken

/-! ## The commands that make requests -/

end Kept

/-- The commands that make a request of the panel, press or release a key of the remote, or bring a frame or a character
of the link. -/
def bringsRequest : Instr → Bool
  | .advance _ _ | .reverse _ _ | .seek _ _ | .home _ | .halt | .clearJam | .lampOn | .lampOff | .setLevel _ _
  | .runStep _ | .showStart | .showStop | .hold | .resume | .standby | .wake | .idleTimerExpiry
  | .wiredLineChange _ _ | .irFrame _ | .irRepeat _ | .irFrameDrop _ | .irReleaseTimeout | .keyRepeatExpiry _
  | .remoteTestEnter | .remoteTestLeave | .remoteTestSetLines _ | .remoteTestPressKey _ | .remoteTestReleaseKey | .lineBusy _ _
  | .linkChangeFrame _ _ _ _ | .linkLevelFrame _ _ _ | .linkLampFrame _ _ | .linkHoldFrame _ | .linkResumeFrame _
  | .linkStepFrame _ _ | .linkStandbyFrame _ | .linkWakeFrame _ | .linkAskFrame _ | .linkStateOrDataFrame _ _ _
  | .ownAddressFrame _ _ _ => true
  | _ => false

namespace Kept

variable {P : State → Prop} (K : Kept P)
include K

theorem of_run {f : State → State} (hf : ∀ s, P s → P (f s)) {s t : State} (h : run f s = .next t) (hs : P s) : P t := by
  rw [run_eq_next_iff] at h
  subst h
  split
  · exact hs
  · exact K.finish _ (hf _ hs)

omit K in
theorem of_quiet {f : State → State} (hf : ∀ s, P s → P (f s)) {s t : State} (h : quiet f s = .next t) (hs : P s) :
    P t := by
  rw [quiet_eq_next_iff] at h
  subst h
  split
  · exact hs
  · exact hf _ hs

theorem panelIn (hr : ∀ r s, P s → P (writeResponse r s)) (a b : Bool) {f : State → Answer}
    (hf : ∀ s, P s → P (f s).1) (s : State) (h : P s) : P (panelIn a b f s) := by
  unfold Machine.panelIn
  split
  · exact hr _ _ h
  · exact hr _ _ (K.idleZero _ (hf _ h))

theorem panelRequest (c : ReqClass) {f : State → State × Status} (hf : ∀ s, P s → P (f s).1) (s : State) (h : P s) :
    P (panelRequest c f s).1 := K.sourced _ _ hf _ h

theorem panelChange (kind : ChangeKind) (arg : Nat) (fade : Byte) (s : State) (h : P s) :
    P (panelChange kind arg fade s).1 := by
  simp only [Machine.panelChange]
  split <;> exact K.change _ _ _ _ _ h

omit K in
theorem inTest {f : State → Answer} (hf : ∀ s, P s → P (f s).1) (s : State) (h : P s) : P (inTest f s).1 := by
  unfold Machine.inTest
  split
  · exact hf _ h
  · exact h

/-- A property that the requests keep is kept by every command that makes requests; the response counts where
the command is one of the panel's, and the pin where it is a wired line's. -/
theorem signal {c : Instr} (hc : bringsRequest c = true)
    (hr : (panelParts c).isSome = true → ∀ r s, P s → P (writeResponse r s))
    (hp : ∀ l v, c = .wiredLineChange l v → ∀ s, P s → P (setLinePin l v s)) {s t : State} (h : exec c s = .next t)
    (hs : P s) : P t := by
  cases c <;> try exact absurd hc Bool.false_ne_true
  case advance n f => exact K.of_run (K.panelIn (hr rfl) _ _ (K.panelChange _ _ _)) h hs
  case reverse n f => exact K.of_run (K.panelIn (hr rfl) _ _ (K.panelChange _ _ _)) h hs
  case seek n f => exact K.of_run (K.panelIn (hr rfl) _ _ (K.panelChange _ _ _)) h hs
  case home f => exact K.of_run (K.panelIn (hr rfl) _ _ (K.panelChange _ _ _)) h hs
  case halt => exact K.of_run (K.panelIn (hr rfl) _ _ (K.panelRequest _ (K.halt _))) h hs
  case clearJam => exact K.of_run (K.panelIn (hr rfl) _ _ (K.panelRequest _ K.clearJam)) h hs
  case lampOn => exact K.of_run (K.panelIn (hr rfl) _ _ (K.panelRequest _ K.lampOn)) h hs
  case lampOff => exact K.of_run (K.panelIn (hr rfl) _ _ (K.panelRequest _ K.lampOff)) h hs
  case setLevel l f => exact K.of_run (K.panelIn (hr rfl) _ _ (K.panelRequest _ (K.level _ _))) h hs
  case showStart => exact K.of_run (K.panelIn (hr rfl) _ _ (K.panelRequest _ K.startShow)) h hs
  case showStop => exact K.of_run (K.panelIn (hr rfl) _ _ (K.panelRequest _ K.showStop)) h hs
  case hold => exact K.of_run (K.panelIn (hr rfl) _ _ (K.panelRequest _ (K.hold _))) h hs
  case resume => exact K.of_run (K.panelIn (hr rfl) _ _ (K.panelRequest _ K.resume)) h hs
  case standby => exact K.of_run (K.panelIn (hr rfl) _ _ (K.panelRequest _ K.standby)) h hs
  case wake => exact K.of_run (K.panelIn (hr rfl) _ _ (f := fun s => reply (wakeUp s) .ok) K.wake) h hs
  case runStep n =>
    refine of_quiet (K.panelIn (hr rfl) _ _ (K.panelRequest _ fun s hs => ?_)) h hs
    split
    · exact K.cue _ _ _ hs
    · exact hs
  case idleTimerExpiry =>
    change execIdleTimerExpiry s = _ at h
    unfold execIdleTimerExpiry at h
    refine K.of_run (fun s hs => ?_) h hs
    split
    · exact K.standby _ (K.idleZero _ hs)
    · exact hs
  case wiredLineChange l v =>
    change execWiredLineChange l v s = _ at h
    rw [execWiredLineChange, runPin_eq_next_iff] at h
    subst h
    (repeat' split)
    · exact hp _ _ rfl _ hs
    · exact K.finish _ (K.lineReading _ _ _ (hp _ _ rfl _ hs))
    · exact K.finish _ (hp _ _ rfl _ hs)
  case irFrame ps => exact K.of_run (K.irSignal ps) h hs
  case irRepeat ps => exact K.of_run (K.irSignal ps) h hs
  case irFrameDrop ps => exact K.of_run (K.irSignal ps) h hs
  case irReleaseTimeout =>
    change execIrReleaseTimeout s = _ at h
    unfold execIrReleaseTimeout at h
    refine K.of_run (fun s hs => ?_) h hs
    split
    · exact hs
    · exact K.irReleased _ hs
  case keyRepeatExpiry code => exact K.of_run (K.keyRepeat code) h hs
  case remoteTestEnter =>
    exact K.of_run (K.panelIn (hr rfl) _ _ (f := fun s => reply (Machine.enterTest s) .ok) K.enterTest) h hs
  case remoteTestLeave =>
    exact K.of_run (K.panelIn (hr rfl) _ _ (f := fun s => reply (Machine.leaveTest s) .ok) K.leaveTest) h hs
  case remoteTestSetLines lines => exact K.of_run (K.panelIn (hr rfl) _ _ (inTest (K.lineLevels _))) h hs
  case remoteTestPressKey code =>
    refine K.of_run (K.panelIn (hr rfl) _ _ (inTest fun s hs => ?_)) h hs
    split
    · exact K.rmi (fun r => { r with injected := true }) _ (fun _ => ⟨rfl, rfl⟩) (K.irPressed _ _ hs)
    · exact hs
  case remoteTestReleaseKey => exact K.of_run (K.panelIn (hr rfl) _ _ (inTest K.irReleased)) h hs
  case lineBusy c stop =>
    change execLineBusy s c stop = _ at h
    unfold execLineBusy at h
    refine K.of_run (fun s hs => ?_) h hs
    split
    · exact K.hearChar _ _ _ hs
    · exact hs
  case linkChangeFrame hd k a f => exact K.of_run (K.changeFrame _ _ _ _) h hs
  case linkLevelFrame hd l f => exact K.of_run (K.levelFrame _ _ _) h hs
  case linkLampFrame hd on => exact K.of_run (K.lampFrame _ _) h hs
  case linkHoldFrame hd => exact K.of_run (K.holdFrame _) h hs
  case linkResumeFrame hd => exact K.of_run (K.resumeFrame _) h hs
  case linkStepFrame hd n => exact K.of_run (K.stepFrame _ _) h hs
  case linkStandbyFrame hd => exact K.of_run (K.standbyFrame _) h hs
  case linkWakeFrame hd => exact K.of_run (K.wakeFrame _) h hs
  case linkAskFrame hd => exact of_quiet (K.askFrame _) h hs
  case linkStateOrDataFrame hd k p => exact of_quiet (K.dataFrame _ _ _) h hs
  case ownAddressFrame d k p => exact of_quiet (K.ownFrame _ _ _) h hs

end Kept

end Sys2Proof.Machine
end

section
/-! What the commands leave: the frame of every command over the queue, the memory, the serial output, the pins, the
settings and the records (O12, O13). -/

namespace Sys2Proof.Machine
open Sys2Proof

/-! ## Settings that the frame laws do not name -/

@[simp] theorem offerFrame_groups (d k : Byte) (p : List Byte) (s : State) :
    (offerFrame d k p s).1.lkc.groups = s.lkc.groups := by
  unfold offerFrame
  split <;> simp

@[simp] theorem offerOrOverflow_groups (d k : Byte) (p : List Byte) (s : State) :
    (offerOrOverflow d k p s).1.lkc.groups = s.lkc.groups := by
  unfold offerOrOverflow
  dsimp only
  split <;> simp

@[simp] theorem requestRouted_groups (src : Source) (k : ChangeKind) (a f : Nat) (s : State) :
    (requestRouted src k a f s).1.lkc.groups = s.lkc.groups := by
  unfold requestRouted
  dsimp only
  (repeat' split) <;> simp

@[simp] theorem changeRequest_groups (src : Source) (k : ChangeKind) (a : Nat) (f : Byte) (s : State) :
    (changeRequest src k a f s).1.lkc.groups = s.lkc.groups := by
  unfold changeRequest
  dsimp only
  (repeat' split) <;> simp

@[simp] theorem restart_cfg (c : Cdc) : c.restart.cfg = c.cfg := rfl

@[simp] theorem wakeUp_decoder (s : State) : (wakeUp s).cdc.cfg = s.cdc.cfg := by
  unfold wakeUp
  split <;> simp

@[simp] theorem lampOnTaken_decoder (s : State) : (lampOnTaken s).1.cdc.cfg = s.cdc.cfg := by
  unfold lampOnTaken
  dsimp only
  (repeat' split) <;> simp

@[simp] theorem update_present (f : SlotRec → SlotRec) (a b : Nat) (t : Tru) : (t.update f a b).present = t.present :=
  rfl

@[simp] theorem update_position (f : SlotRec → SlotRec) (a b : Nat) (t : Tru) : (t.update f a b).position = t.position :=
  rfl

@[simp] theorem update_cfg (f : SlotRec → SlotRec) (a b : Nat) (t : Tru) : (t.update f a b).cfg = t.cfg := rfl

@[simp] theorem endCooling_cfg (s : State) : (endCooling s).lmc.cfg = s.lmc.cfg := by
  simp only [endCooling, setLmc]
  (repeat' split) <;> rfl

@[simp] theorem endCooling_hours (s : State) : (endCooling s).lmc.hours = s.lmc.hours := by
  simp only [endCooling, setLmc]
  (repeat' split) <;> rfl

@[simp] theorem endCooling_temp (s : State) : (endCooling s).lmc.temp = s.lmc.temp := by
  simp only [endCooling, setLmc]
  (repeat' split) <;> rfl

theorem sampleTrip_cfg (t : Nat) (first : Bool) (s : State) : (sampleTrip t first s).lmc.cfg = s.lmc.cfg := by
  unfold sampleTrip
  (repeat' split) <;> simp

theorem sampleTrip_hours (t : Nat) (first : Bool) (s : State) : (sampleTrip t first s).lmc.hours = s.lmc.hours := by
  unfold sampleTrip
  (repeat' split) <;> simp

theorem sampleRestrike_cfg (t : Nat) (s : State) : (sampleRestrike t s).lmc.cfg = s.lmc.cfg := by
  unfold sampleRestrike
  (repeat' split) <;> simp

theorem sampleRestrike_hours (t : Nat) (s : State) : (sampleRestrike t s).lmc.hours = s.lmc.hours := by
  unfold sampleRestrike
  (repeat' split) <;> simp

theorem residualCooling_cfg (t : Nat) (first : Bool) (s : State) :
    (residualCooling t first s).lmc.cfg = s.lmc.cfg := by
  unfold residualCooling
  split <;> simp [Lmc.stopCooling, Lmc.darken, Lmc.clearGuard]

theorem residualCooling_hours (t : Nat) (first : Bool) (s : State) :
    (residualCooling t first s).lmc.hours = s.lmc.hours := by
  unfold residualCooling
  split <;> simp [Lmc.stopCooling, Lmc.darken, Lmc.clearGuard]

@[simp] theorem takeSample_cfg (r : Option Nat) (s : State) : (takeSample r s).lmc.cfg = s.lmc.cfg := by
  simp [takeSample, sampleRestrike_cfg, residualCooling_cfg, sampleTrip_cfg, Lmc.rederate]

@[simp] theorem takeSample_hours (r : Option Nat) (s : State) : (takeSample r s).lmc.hours = s.lmc.hours := by
  simp [takeSample, sampleRestrike_hours, residualCooling_hours, sampleTrip_hours, Lmc.rederate]

/-! ### The decoder's settings -/

@[simp] theorem deliverCue_decoder (l : LastCue) (k : CueKind) (s : State) :
    (deliverCue l k s).cdc.cfg = s.cdc.cfg := by
  unfold deliverCue
  dsimp only
  split <;> simp

@[simp] theorem yieldHold_decoder (s : State) : (yieldHold s).cdc.cfg = s.cdc.cfg := by
  unfold yieldHold
  dsimp only
  split <;> simp

@[simp] theorem endPulse_decoder (s : State) : (endPulse s).cdc.cfg = s.cdc.cfg := by
  unfold endPulse
  dsimp only
  (repeat' split) <;> simp

@[simp] theorem startPulseRun_cfg (c : Cdc) : (startPulseRun c).cfg = c.cfg := by
  unfold startPulseRun
  split <;> rfl

@[simp] theorem startWord_cfg (c : Cdc) : (startWord c).cfg = c.cfg := by
  unfold startWord
  split <;> rfl

@[simp] theorem sampleData_cfg (b : Bool) (c : Cdc) : (sampleData b c).cfg = c.cfg := by
  unfold sampleData
  dsimp only
  split <;> rfl

@[simp] theorem changeTone_decoder (n : Tone) (s : State) : (changeTone n s).cdc.cfg = s.cdc.cfg := by
  unfold changeTone
  dsimp only
  (repeat' split) <;> simp

@[simp] theorem takeJudgment_decoder (j : Judgment) (s : State) : (takeJudgment j s).cdc.cfg = s.cdc.cfg := by
  unfold takeJudgment
  dsimp only
  (repeat' split) <;> simp

@[simp] theorem risingEdge_decoder (n : Nat) (s : State) : (risingEdge n s).cdc.cfg = s.cdc.cfg := by
  unfold risingEdge
  dsimp only
  split <;> simp

@[simp] theorem edgeWatch_decoder (s : State) : (edgeWatch s).cdc.cfg = s.cdc.cfg := by
  unfold edgeWatch
  dsimp only
  split <;> simp

@[simp] theorem discardWord_decoder (f : CdcFlags → CdcFlags) (s : State) : (discardWord f s).cdc.cfg = s.cdc.cfg := by
  simp [discardWord]

@[simp] theorem completeWord_decoder (s : State) : (completeWord s).cdc.cfg = s.cdc.cfg := by
  unfold completeWord
  dsimp only
  split <;> simp

@[simp] theorem sampleWord_decoder (s : State) : (sampleWord s).cdc.cfg = s.cdc.cfg := by
  unfold sampleWord
  dsimp only
  (repeat' split) <;> simp

@[simp] theorem notAccepted_groups (h : FrameHead) (s : State) : (notAccepted h s).lkc.groups = s.lkc.groups := by
  unfold notAccepted
  (repeat' split) <;> simp

@[simp] theorem enterStandby_decoder (s : State) : (enterStandby s).cdc.cfg = s.cdc.cfg := by
  simp [enterStandby]

@[simp] theorem enterStandby_keys (s : State) : (enterStandby s).rmi.keys = s.rmi.keys := by
  simp [enterStandby, Rmi.sleep]

@[simp] theorem enterStandby_remote (s : State) : (enterStandby s).rmi.cfg = s.rmi.cfg := by
  simp [enterStandby, Rmi.sleep]

/-! ## What every request leaves -/

theorem kept_pending (x : List Instr) : Kept (fun u => u.pending = x) := by
  constructor <;> intros <;> simp_all

theorem kept_mem (x : Memory) : Kept (fun u => u.mem = x) := by
  constructor <;> intros <;> simp_all

theorem kept_pins (x : Pins) : Kept (fun u => u.pins = x) := by
  constructor <;> intros <;> simp_all

theorem kept_psdo (x : List Byte) : Kept (fun u => u.psdo = x) := by
  constructor <;> intros <;> simp_all

theorem kept_present (x : Bool) : Kept (fun u => u.tru.present = x) := by
  constructor <;> intros <;> simp_all

theorem kept_position (x : Option Nat) : Kept (fun u => u.tru.position = x) := by
  constructor <;> intros <;> simp_all

theorem kept_hours (x : Nat) : Kept (fun u => u.lmc.hours = x) := by
  constructor <;> intros <;> simp_all

theorem kept_temp (x : Option Nat) : Kept (fun u => u.lmc.temp = x) := by
  constructor <;> intros <;> simp_all

theorem kept_audio (x : Ramp) : Kept (fun u => u.dkc.audio = x) := by
  constructor <;> intros <;> simp_all

theorem kept_settings (x : Settings) : Kept (fun u => u.settings = { x with hours := u.lmc.hours }) := by
  constructor <;> intros <;> simp_all [State.settings]

/-! ## What every command leaves -/

theorem exec_pending (c : Instr) (s t : State) (h : exec c s = .next t) : t.pending = s.pending := by
  by_cases hc : bringsRequest c = true
  · have := (kept_pending _).signal hc (fun _ _ _ h => by simpa using h) (fun _ _ _ _ h => by simpa using h) h rfl
    exact this
  · cases c <;> (try exact absurd rfl hc) <;> injection h with h <;> subst h
    all_goals
      (try simp only [panel, panelIn, setting, panelDeck, panelRequest, panelChange, reply, replyOk, Response.of]) <;>
        (repeat' split) <;> simp

theorem exec_mem (c : Instr) (s t : State) : exec c s = .next t → match c with
      | .storeComplete _ | .hoursWriteComplete _ | .resetControl _ | .resetHold _ | .release _
      | .powerOnReset _ => True
      | _ => t.mem = s.mem := by
  intro h
  by_cases hc : bringsRequest c = true
  · have := (kept_mem _).signal hc (fun _ _ _ h => by simpa using h) (fun _ _ _ _ h => by simpa using h) h rfl
    cases c <;> (try exact this) <;> exact True.intro
  · cases c <;> (try exact absurd rfl hc) <;> injection h with h <;> subst h
    all_goals
      (try simp only [panel, panelIn, setting, panelDeck, panelRequest, panelChange, reply, replyOk, Response.of]) <;>
        (repeat' split) <;> simp

theorem exec_pins (c : Instr) (s t : State) : exec c s = .next t → match c with
      | .trayInsertion | .trayRemoval | .gateSensorChange _ _ _ | .shutterClosed | .shutterClosedLost
      | .shutterOpened | .liftSuccess | .dropSeated | .runningRise _ | .runningFall _ | .endRise
      | .wiredLineChange _ _ | .focusEndStop _ _ | .lcurActive _ | .porstLow | .powerOnReset _ => True
      | _ => t.pins = s.pins := by
  intro h
  by_cases hw : ∃ l v, c = .wiredLineChange l v
  · obtain ⟨l, v, rfl⟩ := hw
    trivial
  · by_cases hc : bringsRequest c = true
    · have := (kept_pins _).signal hc (fun _ _ _ h => by simpa using h) (fun l v e => absurd ⟨l, v, e⟩ hw) h rfl
      cases c <;> (try exact this) <;> exact True.intro
    · cases c <;> (try exact absurd rfl hc) <;> injection h with h <;> subst h
      all_goals
        (try simp only [panel, panelIn, setting, panelDeck, panelRequest, panelChange, reply, replyOk, Response.of]) <;>
          (repeat' split) <;> simp

theorem kept_settings_takeCue (x : Settings) (s : State)
    (h : (fun u => u.settings = { x with hours := u.lmc.hours }) s) :
    (fun u => u.settings = { x with hours := u.lmc.hours }) (takeCue s) := by
  refine (kept_settings x).takeCue ?_ ?_ ?_ ?_ ?_ ?_ ?_ s h <;> intros <;> simp_all [State.settings]

theorem exec_settings (c : Instr) (s t : State) : exec c s = .next t → match c with
      | .setTray _ _ | .setSequencer _ _ _ | .setArbiter _ _ | .setSource _ _ | .setLamp _ | .setDeck _ _ _
      | .setDecoder _ | .setShow _ | .setRemote _ _ _ | .setKey _ _ _ | .setNode _ | .setGroups _ | .enableLink _
      | .setLink _ _ _ _ | .setAttention _ _ | .setPower _ | .writeStep _ _ | .eraseSteps _ _ | .loadComplete _
      | .resetControl _ | .resetHold _ | .release _ | .powerOnReset _ => True
      | _ => t.settings = { s.settings with hours := t.lmc.hours } := by
  intro h
  by_cases hc : bringsRequest c = true
  · have := (kept_settings s.settings).signal hc (fun _ _ _ h => h) (fun l v _ _ h => by cases l <;> exact h) h rfl
    cases c <;> (try exact this) <;> exact True.intro
  · by_cases hq : c = .cueTake
    · subst hq
      exact (kept_settings s.settings).of_run (kept_settings_takeCue s.settings) h rfl
    cases c <;> (try exact absurd rfl hc) <;> (try exact absurd rfl hq) <;> injection h with h <;> subst h
    all_goals
      (try simp only [panel, panelIn, setting, panelDeck, panelRequest, panelChange, reply, replyOk, Response.of]) <;>
        (repeat' split) <;> simp [State.settings]

theorem kept_hours_takeCue (x : Nat) (s : State) (h : (fun u => u.lmc.hours = x) s) :
    (fun u => u.lmc.hours = x) (takeCue s) := by
  refine (kept_hours x).takeCue ?_ ?_ ?_ ?_ ?_ ?_ ?_ s h <;> intros <;> simp_all

theorem exec_hours (c : Instr) (s t : State) : exec c s = .next t → match c with
      | .lampHoursTick | .lampReplaced | .powerOnReset _ => True
      | _ => t.lmc.hours = s.lmc.hours := by
  intro h
  by_cases hc : bringsRequest c = true
  · have := (kept_hours _).signal hc (fun _ _ _ h => by simpa using h) (fun _ _ _ _ h => by simpa using h) h rfl
    cases c <;> (try exact this) <;> exact True.intro
  · by_cases hq : c = .cueTake
    · subst hq
      exact (kept_hours _).of_run (kept_hours_takeCue _) h rfl
    cases c <;> (try exact absurd rfl hc) <;> (try exact absurd rfl hq) <;> injection h with h <;> subst h
    all_goals
      (try simp only [panel, panelIn, setting, panelDeck, panelRequest, panelChange, reply, replyOk, Response.of]) <;>
        (repeat' split) <;> simp

theorem kept_temp_takeCue (x : Option Nat) (s : State) (h : (fun u => u.lmc.temp = x) s) :
    (fun u => u.lmc.temp = x) (takeCue s) := by
  refine (kept_temp x).takeCue ?_ ?_ ?_ ?_ ?_ ?_ ?_ s h <;> intros <;> simp_all

theorem exec_temp (c : Instr) (s t : State) : exec c s = .next t → match c with
      | .temperatureSample _ | .powerOnReset _ => True
      | _ => t.lmc.temp = s.lmc.temp := by
  intro h
  by_cases hc : bringsRequest c = true
  · have := (kept_temp _).signal hc (fun _ _ _ h => by simpa using h) (fun _ _ _ _ h => by simpa using h) h rfl
    cases c <;> (try exact this) <;> exact True.intro
  · by_cases hq : c = .cueTake
    · subst hq
      exact (kept_temp _).of_run (kept_temp_takeCue _) h rfl
    cases c <;> (try exact absurd rfl hc) <;> (try exact absurd rfl hq) <;> injection h with h <;> subst h
    all_goals
      (try simp only [panel, panelIn, setting, panelDeck, panelRequest, panelChange, reply, replyOk, Response.of]) <;>
        (repeat' split) <;> simp

theorem exec_present (c : Instr) (s t : State) : exec c s = .next t → match c with
      | .trayInsertion | .trayRemoval | .powerOnReset _ => True
      | _ => t.tru.present = s.tru.present := by
  intro h
  by_cases hc : bringsRequest c = true
  · have := (kept_present _).signal hc (fun _ _ _ h => by simpa using h) (fun _ _ _ _ h => by simpa using h) h rfl
    cases c <;> (try exact this) <;> exact True.intro
  · cases c <;> (try exact absurd rfl hc) <;> injection h with h <;> subst h
    all_goals
      (try simp only [panel, panelIn, setting, panelDeck, panelRequest, panelChange, reply, replyOk, Response.of]) <;>
        (repeat' split) <;> simp

theorem exec_position (c : Instr) (s t : State) : exec c s = .next t → match c with
      | .trayRemoval | .indexPulse | .homePulse | .stepTimeout | .resetControl _ | .resetHold _ | .release _
      | .powerOnReset _ => True
      | _ => t.tru.position = s.tru.position := by
  intro h
  by_cases hc : bringsRequest c = true
  · have := (kept_position _).signal hc (fun _ _ _ h => by simpa using h) (fun _ _ _ _ h => by simpa using h) h rfl
    cases c <;> (try exact this) <;> exact True.intro
  · cases c <;> (try exact absurd rfl hc) <;> injection h with h <;> subst h
    all_goals
      (try simp only [panel, panelIn, setting, panelDeck, panelRequest, panelChange, reply, replyOk, Response.of]) <;>
        (repeat' split) <;> simp

theorem exec_audio (c : Instr) (s t : State) : exec c s = .next t → match c with
      | .setAudio _ _ | .audioRampTick | .cueTake | .resetControl _ | .resetHold _ | .release _
      | .powerOnReset _ => True
      | _ => t.dkc.audio = s.dkc.audio := by
  intro h
  by_cases hc : bringsRequest c = true
  · have := (kept_audio _).signal hc (fun _ _ _ h => by simpa using h) (fun _ _ _ _ h => by simpa using h) h rfl
    cases c <;> (try exact this) <;> exact True.intro
  · cases c <;> (try exact absurd rfl hc) <;> injection h with h <;> subst h
    all_goals
      (try simp only [panel, panelIn, setting, panelDeck, panelRequest, panelChange, reply, replyOk, Response.of]) <;>
        (repeat' split) <;> simp

end Sys2Proof.Machine
end

section
/-! The fault flags: which operations leave them, which set one, and that no command but READ_FAULTS and a power-on
reset clears one (11 R183). -/

namespace Sys2Proof.Machine
open Sys2Proof

@[simp] theorem holdIdle_faults (s : State) :
    (holdIdle s).pnp.faults = s.pnp.faults := by
  simp only [holdIdle]
  (repeat' split) <;> simp

@[simp] theorem finish_faults (s : State) :
    (finish s).pnp.faults = s.pnp.faults := by
  simp only [finish]
  (repeat' split) <;> simp

@[simp] theorem setPhase_faults (p : Show) (s : State) :
    (setPhase p s).pnp.faults = s.pnp.faults := by
  simp only [setPhase]
  (repeat' split) <;> simp

@[simp] theorem endShow_faults (s : State) :
    (endShow s).pnp.faults = s.pnp.faults := by
  simp only [endShow]
  (repeat' split) <;> simp

@[simp] theorem endCheck_faults (s : State) :
    (endCheck s).pnp.faults = s.pnp.faults := by
  simp only [endCheck]
  (repeat' split) <;> simp

@[simp] theorem enterHeld_faults (s : State) :
    (enterHeld s).pnp.faults = s.pnp.faults := by
  simp only [enterHeld]
  (repeat' split) <;> simp

@[simp] theorem leaveHeld_faults (s : State) :
    (leaveHeld s).pnp.faults = s.pnp.faults := by
  simp only [leaveHeld]
  (repeat' split) <;> simp

@[simp] theorem addCause_faults (c : Cause) (s : State) :
    (addCause c s).pnp.faults = s.pnp.faults := by
  simp only [addCause]
  (repeat' split) <;> simp

@[simp] theorem removeCause_faults (c : Cause) (s : State) :
    (removeCause c s).pnp.faults = s.pnp.faults := by
  simp only [removeCause]
  (repeat' split) <;> simp

@[simp] theorem resumeShow_faults (s : State) :
    (resumeShow s).pnp.faults = s.pnp.faults := by
  simp only [resumeShow]
  (repeat' split) <;> simp

@[simp] theorem deckEnded_faults (s : State) :
    (deckEnded s).pnp.faults = s.pnp.faults := by
  simp only [deckEnded]
  (repeat' split) <;> simp

@[simp] theorem reportDeck_faults (d : Deck) (s : State) :
    (reportDeck d s).pnp.faults = s.pnp.faults := by
  simp only [reportDeck]
  (repeat' split) <;> simp

@[simp] theorem deckPlayFrom_faults (b : Bool) (s : State) :
    (deckPlayFrom b s).1.pnp.faults = s.pnp.faults := by
  simp only [deckPlayFrom]
  (repeat' split) <;> simp

@[simp] theorem deckStopAll_faults (s : State) :
    (deckStopAll s).pnp.faults = s.pnp.faults := by
  simp only [deckStopAll]
  (repeat' split) <;> simp

@[simp] theorem startShow_faults (s : State) :
    (startShow s).1.pnp.faults = s.pnp.faults := by
  simp only [startShow]
  (repeat' split) <;> simp

@[simp] theorem handHours_faults (s : State) :
    (handHours s).pnp.faults = s.pnp.faults := by
  simp only [handHours]
  (repeat' split) <;> simp

@[simp] theorem enterCooling_faults (s : State) :
    (enterCooling s).pnp.faults = s.pnp.faults := by
  simp only [enterCooling]
  (repeat' split) <;> simp

@[simp] theorem enterLit_faults (s : State) :
    (enterLit s).pnp.faults = s.pnp.faults := by
  simp only [enterLit]
  (repeat' split) <;> simp

@[simp] theorem lampOut_faults (s : State) :
    (lampOut s).pnp.faults = s.pnp.faults := by
  simp only [lampOut]
  (repeat' split) <;> simp

@[simp] theorem resetHours_faults (s : State) :
    (resetHours s).pnp.faults = s.pnp.faults := by
  simp only [resetHours]
  (repeat' split) <;> simp

@[simp] theorem endOfReveal_faults (s : State) :
    (endOfReveal s).pnp.faults = s.pnp.faults := by
  simp only [endOfReveal]
  (repeat' split) <;> simp

@[simp] theorem writeRecord_faults (src : Source) (k : ChangeKind) (q : Nat) (o : ChangeOutcome) (p : FinalPos) (s : State) :
    (writeRecord src k q o p s).pnp.faults = s.pnp.faults := by
  simp only [writeRecord]
  (repeat' split) <;> simp

@[simp] theorem dropWaiting_faults (o : ChangeOutcome) (s : State) :
    (dropWaiting o s).pnp.faults = s.pnp.faults := by
  simp only [dropWaiting]
  (repeat' split) <;> simp

@[simp] theorem changeEnd_faults (o : ChangeOutcome) (p : FinalPos) (s : State) :
    (changeEnd o p s).pnp.faults = s.pnp.faults := by
  simp only [changeEnd]
  (repeat' split) <;> simp

@[simp] theorem toTarget_faults (s : State) :
    (toTarget s).pnp.faults = s.pnp.faults := by
  simp only [toTarget]
  (repeat' split) <;> simp

@[simp] theorem blankingEnd_faults (s : State) :
    (blankingEnd s).pnp.faults = s.pnp.faults := by
  simp only [blankingEnd]
  (repeat' split) <;> simp

@[simp] theorem startBlanking_faults (f : Flight) (s : State) :
    (startBlanking f s).pnp.faults = s.pnp.faults := by
  simp only [startBlanking]
  (repeat' split) <;> simp

@[simp] theorem startChange_faults (src : Source) (k : ChangeKind) (q d : Nat) (s : State) :
    (startChange src k q d s).pnp.faults = s.pnp.faults := by
  simp only [startChange]
  (repeat' split) <;> simp

@[simp] theorem refuseStart_faults (w : Waiting) (st : Status) (s : State) :
    (refuseStart w st s).pnp.faults = s.pnp.faults := by
  simp only [refuseStart]
  (repeat' split) <;> simp

@[simp] theorem startPending_faults (s : State) :
    (startPending s).pnp.faults = s.pnp.faults := by
  simp only [startPending]
  (repeat' split) <;> simp

@[simp] theorem endReveal_faults (s : State) :
    (endReveal s).pnp.faults = s.pnp.faults := by
  simp only [endReveal]
  (repeat' split) <;> simp

@[simp] theorem revealCheck_faults (s : State) :
    (revealCheck s).pnp.faults = s.pnp.faults := by
  simp only [revealCheck]
  (repeat' split) <;> simp

@[simp] theorem enterRevealing_faults (s : State) :
    (enterRevealing s).pnp.faults = s.pnp.faults := by
  simp only [enterRevealing]
  (repeat' split) <;> simp

@[simp] theorem releaseBlanking_faults (n : Nat) (s : State) :
    (releaseBlanking n s).pnp.faults = s.pnp.faults := by
  simp only [releaseBlanking]
  (repeat' split) <;> simp

@[simp] theorem enterJammed_faults (c : StopCause) (s : State) :
    (enterJammed c s).pnp.faults = s.pnp.faults := by
  simp only [enterJammed]
  (repeat' split) <;> simp

@[simp] theorem positionReport_faults (s : State) :
    (positionReport s).pnp.faults = s.pnp.faults := by
  simp only [positionReport]
  (repeat' split) <;> simp

@[simp] theorem skipOn_faults (s : State) :
    (skipOn s).pnp.faults = s.pnp.faults := by
  simp only [skipOn]
  (repeat' split) <;> simp

@[simp] theorem liftDone_faults (s : State) :
    (liftDone s).pnp.faults = s.pnp.faults := by
  simp only [liftDone]
  (repeat' split) <;> simp

@[simp] theorem liftFails_faults (s : State) :
    (liftFails s).pnp.faults = s.pnp.faults := by
  simp only [liftFails]
  (repeat' split) <;> simp

@[simp] theorem dropFails_faults (b : Bool) (s : State) :
    (dropFails b s).pnp.faults = s.pnp.faults := by
  simp only [dropFails]
  (repeat' split) <;> simp

@[simp] theorem liftLimit_faults (s : State) :
    (liftLimit s).pnp.faults = s.pnp.faults := by
  simp only [liftLimit]
  (repeat' split) <;> simp

@[simp] theorem dropLands_faults (s : State) :
    (dropLands s).pnp.faults = s.pnp.faults := by
  simp only [dropLands]
  (repeat' split) <;> simp

@[simp] theorem dropLimit_faults (s : State) :
    (dropLimit s).pnp.faults = s.pnp.faults := by
  simp only [dropLimit]
  (repeat' split) <;> simp

@[simp] theorem lampReports_faults (s : State) :
    (lampReports s).pnp.faults = s.pnp.faults := by
  simp only [lampReports]
  (repeat' split) <;> simp

@[simp] theorem revealReplaced_faults (s : State) :
    (revealReplaced s).pnp.faults = s.pnp.faults := by
  simp only [revealReplaced]
  (repeat' split) <;> simp

@[simp] theorem shutterActive_faults (s : State) :
    (shutterActive s).pnp.faults = s.pnp.faults := by
  simp only [shutterActive]
  (repeat' split) <;> simp

@[simp] theorem haltChange_faults (s : State) :
    (haltChange s).pnp.faults = s.pnp.faults := by
  simp only [haltChange]
  (repeat' split) <;> simp

@[simp] theorem clearJamAt_faults (s : State) :
    (clearJamAt s).1.pnp.faults = s.pnp.faults := by
  simp only [clearJamAt]
  (repeat' split) <;> simp

@[simp] theorem lossToIdle_faults (s : State) :
    (lossToIdle s).pnp.faults = s.pnp.faults := by
  simp only [lossToIdle]
  (repeat' split) <;> simp

@[simp] theorem lossToJam_faults (s : State) :
    (lossToJam s).pnp.faults = s.pnp.faults := by
  simp only [lossToJam]
  (repeat' split) <;> simp

@[simp] theorem trayLost_faults (s : State) :
    (trayLost s).pnp.faults = s.pnp.faults := by
  simp only [trayLost]
  (repeat' split) <;> simp

@[simp] theorem followSensors_faults (o : Sensed) (s : State) :
    (followSensors o s).pnp.faults = s.pnp.faults := by
  simp only [followSensors]
  (repeat' split) <;> simp

@[simp] theorem merge_faults (w : Waiting) (src : Source) (c : Int) (d : Nat) (s : State) :
    (merge w src c d s).1.pnp.faults = s.pnp.faults := by
  simp only [merge]
  (repeat' split) <;> simp

@[simp] theorem pend_faults (src : Source) (k : ChangeKind) (a q d : Nat) (s : State) :
    (pend src k a q d s).1.pnp.faults = s.pnp.faults := by
  simp only [pend]
  (repeat' split) <;> simp

@[simp] theorem place_faults (src : Source) (k : ChangeKind) (a q d : Nat) (s : State) :
    (place src k a q d s).1.pnp.faults = s.pnp.faults := by
  simp only [place]
  (repeat' split) <;> simp

@[simp] theorem requestHere_faults (src : Source) (k : ChangeKind) (a d : Nat) (s : State) :
    (requestHere src k a d s).1.pnp.faults = s.pnp.faults := by
  simp only [requestHere]
  (repeat' split) <;> simp

@[simp] theorem requestRouted_faults (src : Source) (k : ChangeKind) (a d : Nat) (s : State) :
    (requestRouted src k a d s).1.pnp.faults = s.pnp.faults := by
  simp only [requestRouted]
  (repeat' split) <;> simp

@[simp] theorem changeRequest_faults (src : Source) (k : ChangeKind) (a : Nat) (d : Byte) (s : State) :
    (changeRequest src k a d s).1.pnp.faults = s.pnp.faults := by
  simp only [changeRequest]
  (repeat' split) <;> simp

@[simp] theorem haltFrom_faults (src : Source) (s : State) :
    (haltFrom src s).1.pnp.faults = s.pnp.faults := by
  simp only [haltFrom]
  (repeat' split) <;> simp

@[simp] theorem wakeUp_faults (s : State) :
    (wakeUp s).pnp.faults = s.pnp.faults := by
  simp only [wakeUp]
  (repeat' split) <;> simp

@[simp] theorem requestStandby_faults (s : State) :
    (requestStandby s).1.pnp.faults = s.pnp.faults := by
  simp only [requestStandby]
  (repeat' split) <;> simp

@[simp] theorem lampOnTaken_faults (s : State) :
    (lampOnTaken s).1.pnp.faults = s.pnp.faults := by
  simp only [lampOnTaken]
  (repeat' split) <;> simp

@[simp] theorem lampOffTaken_faults (s : State) :
    (lampOffTaken s).1.pnp.faults = s.pnp.faults := by
  simp only [lampOffTaken]
  (repeat' split) <;> simp

@[simp] theorem setLevelTaken_faults (l d : Nat) (s : State) :
    (setLevelTaken l d s).1.pnp.faults = s.pnp.faults := by
  simp only [setLevelTaken]
  (repeat' split) <;> simp

@[simp] theorem setLevelByte_faults (l d : Byte) (s : State) :
    (setLevelByte l d s).1.pnp.faults = s.pnp.faults := by
  simp only [setLevelByte]
  (repeat' split) <;> simp

@[simp] theorem showStopTaken_faults (s : State) :
    (showStopTaken s).1.pnp.faults = s.pnp.faults := by
  simp only [showStopTaken]
  (repeat' split) <;> simp

@[simp] theorem holdTaken_faults (c : Cause) (s : State) :
    (holdTaken c s).1.pnp.faults = s.pnp.faults := by
  simp only [holdTaken]
  (repeat' split) <;> simp

@[simp] theorem resumeTaken_faults (s : State) :
    (resumeTaken s).1.pnp.faults = s.pnp.faults := by
  simp only [resumeTaken]
  (repeat' split) <;> simp

@[simp] theorem removeTray_faults (s : State) :
    (removeTray s).pnp.faults = s.pnp.faults := by
  simp only [removeTray]
  (repeat' split) <;> simp

@[simp] theorem endActive_faults (s : State) :
    (endActive s).pnp.faults = s.pnp.faults := by
  simp only [endActive]
  (repeat' split) <;> simp

@[simp] theorem runningUp_faults (s : State) :
    (runningUp s).pnp.faults = s.pnp.faults := by
  simp only [runningUp]
  (repeat' split) <;> simp

@[simp] theorem runningDown_faults (s : State) :
    (runningDown s).pnp.faults = s.pnp.faults := by
  simp only [runningDown]
  (repeat' split) <;> simp

@[simp] theorem deckEdge_faults (a b : Bool) (s : State) :
    (deckEdge a b s).pnp.faults = s.pnp.faults := by
  simp only [deckEdge]
  (repeat' split) <;> simp

@[simp] theorem deliverCue_faults (l : LastCue) (k : CueKind) (s : State) :
    (deliverCue l k s).pnp.faults = s.pnp.faults := by
  simp only [deliverCue]
  (repeat' split) <;> simp

@[simp] theorem yieldHold_faults (s : State) :
    (yieldHold s).pnp.faults = s.pnp.faults := by
  simp only [yieldHold]
  (repeat' split) <;> simp

@[simp] theorem endPulse_faults (s : State) :
    (endPulse s).pnp.faults = s.pnp.faults := by
  simp only [endPulse]
  (repeat' split) <;> simp

@[simp] theorem changeTone_faults (n : Tone) (s : State) :
    (changeTone n s).pnp.faults = s.pnp.faults := by
  simp only [changeTone]
  (repeat' split) <;> simp

@[simp] theorem takeJudgment_faults (j : Judgment) (s : State) :
    (takeJudgment j s).pnp.faults = s.pnp.faults := by
  simp only [takeJudgment]
  (repeat' split) <;> simp

@[simp] theorem risingEdge_faults (n : Nat) (s : State) :
    (risingEdge n s).pnp.faults = s.pnp.faults := by
  simp only [risingEdge]
  (repeat' split) <;> simp

@[simp] theorem edgeWatch_faults (s : State) :
    (edgeWatch s).pnp.faults = s.pnp.faults := by
  simp only [edgeWatch]
  (repeat' split) <;> simp

@[simp] theorem holdCue_faults (s : State) :
    (holdCue s).pnp.faults = s.pnp.faults := by
  simp only [holdCue]
  (repeat' split) <;> simp

@[simp] theorem readOut_faults (n : Nat) (s : State) :
    (readOut n s).pnp.faults = s.pnp.faults := by
  simp only [readOut]
  (repeat' split) <;> simp

@[simp] theorem enterStandby_faults (s : State) :
    (enterStandby s).pnp.faults = s.pnp.faults := by
  simp only [enterStandby]
  (repeat' split) <;> simp

@[simp] theorem lampReset_faults (s : State) :
    (lampReset s).pnp.faults = s.pnp.faults := by
  simp only [lampReset]
  (repeat' split) <;> simp

@[simp] theorem abandonStore_faults (s : State) :
    (abandonStore s).pnp.faults = s.pnp.faults := by
  simp only [abandonStore]
  (repeat' split) <;> simp

@[simp] theorem controlReset_faults (k : Bool) (s : State) :
    (controlReset k s).pnp.faults = s.pnp.faults := by
  simp only [controlReset]
  (repeat' split) <;> simp

@[simp] theorem resetToRun_faults (k : Bool) (s : State) :
    (resetToRun k s).pnp.faults = s.pnp.faults := by
  simp only [resetToRun]
  (repeat' split) <;> simp

@[simp] theorem applyDecoder_faults (v : DecoderSettings) (s : State) :
    (applyDecoder v s).pnp.faults = s.pnp.faults := by
  simp only [applyDecoder]
  (repeat' split) <;> simp

@[simp] theorem applyImage_faults (v : Settings) (s : State) :
    (applyImage v s).pnp.faults = s.pnp.faults := by
  simp only [applyImage]
  (repeat' split) <;> simp

@[simp] theorem applyAutoResume_faults (v : Bool) (s : State) :
    (applyAutoResume v s).pnp.faults = s.pnp.faults := by
  simp only [applyAutoResume]
  (repeat' split) <;> simp

theorem kept_faults (x : Faults) : Kept (fun u => u.pnp.faults = x) := by
  constructor <;> intros <;> simp_all

/-! ## A fault flag that stands is left standing -/

theorem Faults.set_stands (r : Faults) (f g : FaultFlag) (h : r.set f = r) : (r.set g).set f = r.set g := by
  rw [← h]
  cases f <;> cases g <;> rfl

@[simp] theorem raiseFault_faults (g : FaultFlag) (s : State) : (raiseFault g s).pnp.faults = s.pnp.faults.set g := rfl

@[simp] theorem enterStalled_faults (c : StopCause) (s : State) :
    (enterStalled c s).pnp.faults = s.pnp.faults.set .trayStall := by
  simp [enterStalled]

@[simp] theorem shutterFallback_faults (s : State) : (shutterFallback s).pnp.faults = s.pnp.faults.set .shutter := by
  simp [shutterFallback]

@[simp] theorem takeTrip_faults (f : FaultFlag) (first : Bool) (s : State) :
    (takeTrip f first s).pnp.faults = s.pnp.faults.set f := by
  simp only [takeTrip]
  (repeat' split) <;> simp

@[simp] theorem lampFails_faults (s : State) : (lampFails s).pnp.faults = s.pnp.faults.set .lampOpen := by
  simp [lampFails]

@[simp] theorem deckFail_faults (f : FaultFlag) (s : State) : (deckFail f s).pnp.faults = s.pnp.faults.set f := by
  simp [deckFail]

/-- A fault flag stands. -/
def Stands (f : FaultFlag) (s : State) : Prop := s.pnp.faults.set f = s.pnp.faults

theorem Stands.of_eq {f : FaultFlag} {s t : State} (h : Stands f s) (ht : t.pnp.faults = s.pnp.faults) : Stands f t := by
  rw [Stands, ht]
  exact h

theorem Stands.of_set {f : FaultFlag} {s t : State} (h : Stands f s) (g : FaultFlag)
    (ht : t.pnp.faults = s.pnp.faults.set g) : Stands f t := by
  rw [Stands, ht]
  exact Faults.set_stands _ _ _ h

@[simp] theorem takeCue_faults (s : State) : (takeCue s).pnp.faults = s.pnp.faults := by
  refine (kept_faults s.pnp.faults).takeCue ?_ ?_ ?_ ?_ ?_ ?_ ?_ s rfl <;> intros <;> simp_all

section
variable {f : FaultFlag} {s : State} (h : Stands f s)
include h

theorem Stands.indexPulse : Stands f (indexPulse s) := by
  unfold Machine.indexPulse
  (repeat' split)
  · exact h
  · exact h.of_eq (by simp)
  · have slip : Stands f (raiseFault .traySlip (setPosition none s)) := h.of_set .traySlip (by simp)
    exact slip.of_set .trayStall (by simp)
  · exact h.of_eq (by simp)

theorem Stands.homePulse : Stands f (homePulse s) := by
  simp only [Machine.homePulse]
  (repeat' split)
  · exact h
  · exact h.of_eq (by simp)
  · exact h.of_eq (by simp)
  · exact h.of_set .traySlip (by simp)

theorem Stands.shutterInactive : Stands f (shutterInactive s) := by
  simp only [Machine.shutterInactive]
  (repeat' split)
  · exact h.of_eq (by simp)
  · exact h.of_set .shutter (by simp)
  · exact h.of_eq (by simp)
  · exact h.of_set .shutter (by simp)
  · exact h.of_eq (by simp)
  · exact h.of_set .shutter (by simp)
  · exact h.of_eq (by simp)
  · exact h.of_eq (by simp)

theorem Stands.shutterLimit : Stands f (shutterLimit s) := by
  unfold Machine.shutterLimit
  (repeat' split)
  · exact h
  · exact h.of_set .shutter (by simp)
  · exact h.of_set .shutter (by simp)
  · exact h

theorem Stands.sampleTrip (n : Nat) (first : Bool) : Stands f (sampleTrip n first s) := by
  unfold Machine.sampleTrip
  (repeat' split)
  · exact h.of_eq (by simp)
  · exact h.of_set .overtempTrip (by simp)
  · exact h

theorem Stands.residualCooling (n : Nat) (first : Bool) : Stands f (residualCooling n first s) := by
  unfold Machine.residualCooling
  split
  · exact h.of_eq (by simp)
  · exact h

theorem Stands.sampleRestrike (n : Nat) : Stands f (sampleRestrike n s) := by
  unfold Machine.sampleRestrike
  (repeat' split)
  · exact h.of_eq (by simp)
  · exact h.of_eq (by simp)
  · exact h

theorem Stands.setLmc (g : Lmc → Lmc) : Stands f (setLmc g s) := h.of_eq rfl

theorem Stands.endCooling : Stands f (endCooling s) := h.of_eq (by simp)

theorem Stands.takeSample (r : Option Nat) : Stands f (takeSample r s) := by
  unfold Machine.takeSample
  refine Stands.of_eq ?_ (lampReports_faults _)
  apply Stands.sampleRestrike
  apply Stands.endCooling
  apply Stands.residualCooling
  apply Stands.setLmc
  apply Stands.sampleTrip
  exact h.setLmc _

theorem Stands.finish : Stands f (finish s) := h.of_eq (finish_faults s)

/-- An event leaves a flag standing where its effect does. -/
theorem Stands.event {g : State → State} (hg : Stands f (g s)) :
    Stands f (if s.pins.porstLow then s else Machine.finish (g s)) := by
  split
  · exact h
  · exact hg.finish

theorem Stands.endStore (v : Settings) (n : Nat) : Stands f (endStore v n s) := by
  simp only [Machine.endStore]
  split
  · exact h.of_eq (by simp)
  · exact h.of_set .settings (by simp)

theorem Stands.endLoad (k : Bool) : Stands f (endLoad k s) := by
  simp only [Machine.endLoad]
  (repeat' split)
  · exact h.of_set .settings (by simp)
  · exact h.of_eq (by simp)
  · exact h.of_eq (by simp)

end

theorem exec_faults (c : Instr) (s t : State) (f : FaultFlag) : exec c s = .next t → Stands f s → match c with
      | .readFaults | .powerOnReset _ => True
      | _ => Stands f t := by
  intro h hs
  by_cases hc : bringsRequest c = true
  · have ht : t.pnp.faults = s.pnp.faults :=
      (kept_faults s.pnp.faults).signal hc (fun _ _ _ h => by simpa using h) (fun _ _ _ _ h => by simpa using h) h rfl
    have := hs.of_eq ht
    cases c <;> (try exact this) <;> exact True.intro
  · cases c <;> (try exact absurd rfl hc) <;> injection h with h <;> subst h
    case indexPulse => exact hs.event hs.indexPulse
    case homePulse => exact hs.event hs.homePulse
    case shutterTimeout => exact hs.event hs.shutterLimit
    case temperatureSample => exact hs.event (hs.takeSample _)
    all_goals
      (try simp only [panel, panelIn, setting, panelDeck, panelRequest, panelChange, reply, replyOk, Response.of]) <;>
        (repeat' split)
    all_goals try (refine hs.of_eq ?_; simp; done)
    · exact hs.shutterInactive.finish
    · exact hs.shutterInactive.finish
    · exact (hs.of_set .trayStall (by simp)).finish
    · exact (hs.of_set .lampOpen (by simp)).finish
    · exact (hs.of_set .fanStall (by simp)).finish
    · exact (hs.of_set .fanStall (by simp)).finish
    · exact (hs.of_set .deckNoStart (by simp)).finish
    · exact (hs.of_set .deckStall (by simp)).finish
    · exact (hs.of_set .deckNoPause (by simp)).finish
    · exact hs.endStore _ _
    · exact (hs.endLoad _).finish
    · exact hs.of_set .settings (by simp)
end Sys2Proof.Machine
end

section
/-! The frames of the slot map, the serial output and PORST, and the obligations that are frames (O1, O3, O11, O12, O13). -/

namespace Sys2Proof.Machine
open Sys2Proof

/-! ## The tray under frames and test mode -/

theorem lineEvent_released_tru (l : Line) (s : State) : (lineEvent l false s).tru = s.tru := by
  simp only [lineEvent]
  (repeat' split) <;> simp_all

theorem lineLevels_released_tru (s : State) : (lineLevels (fun _ => false) s).tru = s.tru := by
  simp [lineLevels, lineEvent_released_tru]

theorem enterTest_tru (s : State) : (enterTest s).tru = s.tru := by
  simp only [enterTest]
  split <;> simp [lineLevels_released_tru]

theorem leaveTest_tru (s : State) : (leaveTest s).tru = s.tru := by
  simp only [leaveTest]
  split <;> simp [lineLevels_released_tru]

theorem onFrame_tru {f : State → State} (hf : ∀ s, (f s).tru = s.tru) (hd : FrameHead) (k : Byte) (p : List Byte) (s : State) :
    (onFrame hd k p f s).tru = s.tru := onFrame_keeps (·.tru) (fun _ _ => rfl) hf _ _ _ _

theorem takeFrame_change (h : FrameHead) (k a f : Byte) (s : State) :
    takeFrame ⟨h.level, h.src, h.dest, 1, [k, a, f]⟩ s = changeFrame h k a f s := rfl

theorem takeFrame_level (h : FrameHead) (l f : Byte) (s : State) :
    takeFrame ⟨h.level, h.src, h.dest, 2, [l, f]⟩ s = levelFrame h l f s := rfl

theorem takeFrame_lamp (h : FrameHead) (on : Byte) (s : State) :
    takeFrame ⟨h.level, h.src, h.dest, 3, [on]⟩ s = lampFrame h on s := rfl

theorem takeFrame_hold (h : FrameHead) (s : State) :
    takeFrame ⟨h.level, h.src, h.dest, 4, []⟩ s = holdFrame h s := rfl

theorem takeFrame_resume (h : FrameHead) (s : State) :
    takeFrame ⟨h.level, h.src, h.dest, 5, []⟩ s = resumeFrame h s := rfl

theorem takeFrame_step (h : FrameHead) (n : Byte) (s : State) :
    takeFrame ⟨h.level, h.src, h.dest, 6, [n]⟩ s = stepFrame h n s := rfl

theorem takeFrame_ask (h : FrameHead) (s : State) :
    takeFrame ⟨h.level, h.src, h.dest, 7, []⟩ s = askFrame h s := rfl

theorem takeFrame_standby (h : FrameHead) (s : State) :
    takeFrame ⟨h.level, h.src, h.dest, 10, []⟩ s = standbyFrame h s := rfl

theorem takeFrame_wake (h : FrameHead) (s : State) :
    takeFrame ⟨h.level, h.src, h.dest, 11, []⟩ s = wakeFrame h s := rfl

theorem changeFrame_tru (h : FrameHead) (k a f : Byte) (s : State) : (changeFrame h k a f s).tru = s.tru := by
  simp [← takeFrame_change]

theorem levelFrame_tru (h : FrameHead) (l f : Byte) (s : State) : (levelFrame h l f s).tru = s.tru := by
  simp [← takeFrame_level]

theorem lampFrame_tru (h : FrameHead) (on : Byte) (s : State) : (lampFrame h on s).tru = s.tru := by
  simp [← takeFrame_lamp]

theorem holdFrame_tru (h : FrameHead) (s : State) : (holdFrame h s).tru = s.tru := by
  simp [← takeFrame_hold]

theorem resumeFrame_tru (h : FrameHead) (s : State) : (resumeFrame h s).tru = s.tru := by
  simp [← takeFrame_resume]

theorem stepFrame_tru (h : FrameHead) (n : Byte) (s : State) : (stepFrame h n s).tru = s.tru := by
  simp [← takeFrame_step]

theorem askFrame_tru (h : FrameHead) (s : State) : (askFrame h s).tru = s.tru := by
  simp [← takeFrame_ask]

theorem standbyFrame_tru (h : FrameHead) (s : State) : (standbyFrame h s).tru = s.tru := by
  simp [← takeFrame_standby]

theorem wakeFrame_tru (h : FrameHead) (s : State) : (wakeFrame h s).tru = s.tru := by
  simp [← takeFrame_wake]

theorem dataFrame_tru (h : FrameHead) (k : Byte) (p : List Byte) (s : State) : (dataFrame h k p s).tru = s.tru := by
  unfold dataFrame
  split
  · refine onFrame_tru (fun s => unlessStandby_keeps (·.tru) (fun s => ?_) s) _ _ _ _
    simp
  · rfl

theorem ownFrame_tru (d k : Byte) (p : List Byte) (s : State) : (ownFrame d k p s).tru = s.tru := by
  unfold ownFrame
  (repeat' split)
  · rfl
  · rfl
  · exact onFrame_tru (fun _ => rfl) _ _ _ _

theorem exec_map (c : Instr) (s t : State) : exec c s = .next t → match c with
      | .trayRemoval | .setSlot _ _ _ | .clearSlot _ _ | .dropSeated | .dropTimeout | .liftTimeout | .clearJam
      | .wiredLineChange _ _ | .irFrame _ | .irRepeat _ | .irFrameDrop _ | .keyRepeatExpiry _
      | .remoteTestSetLines _ | .remoteTestPressKey _ | .powerOnReset _ => True
      | _ => t.tru.map = s.tru.map := by
  intro h
  cases c <;> (try exact True.intro) <;> injection h with h <;> subst h
  all_goals
    (try simp only [panel, panelIn, setting, panelDeck, panelRequest, panelChange, reply, replyOk, Response.of, inTest]) <;>
    (repeat' split) <;> simp [enterTest_tru, leaveTest_tru, changeFrame_tru, levelFrame_tru, lampFrame_tru,
      holdFrame_tru, resumeFrame_tru, stepFrame_tru, standbyFrame_tru, wakeFrame_tru, askFrame_tru, dataFrame_tru,
      ownFrame_tru]

theorem kept_panelByte (x : List Byte) (b : Bool) : Kept (fun u => u.psdo = x ∨ (b = true ∧ u.psdo = [0xFF])) := by
  constructor <;> intros <;> simp_all

theorem exec_psdo (c : Instr) (s t : State) : exec c s = .next t → match c with
      | .panelRead _ => True
      | .unknownCommand _ => t.psdo = s.psdo ∨ t.psdo = [0xFF]
      | _ => t.psdo = s.psdo ∨ ((panelParts c).isSome = true ∧ t.psdo = [0xFF]) := by
  intro h
  by_cases hc : bringsRequest c = true
  · have := (kept_panelByte s.psdo (panelParts c).isSome).signal hc (fun hp _ _ _ => .inr ⟨hp, rfl⟩)
      (fun _ _ _ _ h => by simpa using h) h (.inl rfl)
    cases c <;> (try exact this) <;> (try exact True.intro) <;> exact absurd hc Bool.false_ne_true
  · cases c <;> (try exact absurd rfl hc) <;> (try trivial) <;> injection h with h <;> subst h
    all_goals
      (try simp only [panel, panelIn, setting, panelDeck, panelRequest, panelChange, reply, replyOk, Response.of]) <;>
        (repeat' split) <;> try simp
    all_goals exact .inr rfl

theorem kept_porstLow (x : Bool) : Kept (fun u => u.pins.porstLow = x) := by
  constructor <;> intros <;> simp_all

/-- PORST is low after a command only where it was low before, or by PORST_LOW. -/
theorem exec_porstLow (c : Instr) (s t : State) (h : exec c s = .next t) (ht : t.pins.porstLow = true) :
    s.pins.porstLow = true ∨ c = .porstLow := by
  have hp := exec_pins c s t h
  by_cases hc : bringsRequest c = true
  · have := (kept_porstLow s.pins.porstLow).signal hc (fun _ _ _ h => by simpa using h)
      (fun l _ _ _ h => by cases l <;> exact h) h rfl
    exact .inl (this ▸ ht)
  · cases c <;> (try exact absurd rfl hc) <;> (try exact .inl (hp ▸ ht)) <;> (try exact .inr rfl) <;>
      injection h with h <;> subst h <;> refine .inl (ht.symm.trans ?_ |>.symm)
    all_goals (try dsimp only) <;> (repeat' split) <;> simp_all [powerOn]

theorem exec_completes (c : Instr) (s : State) : ∃ t, exec c s = .next t := by
  cases c <;> exact ⟨_, rfl⟩

/-- Settles O3: each meaning is the outcome of one function (`exec_completes`), and the queue and PORST are in the frame of
the commands (`exec_pending`, `exec_porstLow`). -/
theorem everyCommandCompletes : Obligations.EveryCommandCompletes := by
  intro c s
  obtain ⟨t, h⟩ := exec_completes c s
  exact ⟨t, h, exec_pending c s t h, exec_porstLow c s t h⟩

/-- Settles O12: the frames of the memory, the serial output and the pins. -/
theorem memoryAndPinsChangeOnlyByTheirCommands : Obligations.MemoryAndPinsChangeOnlyByTheirCommands :=
  ⟨exec_mem, exec_psdo, exec_pins⟩

/-- Settles O13: the frame of each record that the statement names. -/
theorem recordsChangeOnlyByTheirCommands : Obligations.RecordsChangeOnlyByTheirCommands :=
  ⟨exec_settings, exec_hours, exec_temp, exec_present, exec_position, exec_map, exec_audio,
    fun c s t f h hs => exec_faults c s t f h hs⟩

/-- Settles O1: a step takes the front of the queue. -/
theorem stepRunsTheFrontCommand : Obligations.StepRunsTheFrontCommand := fun _ _ _ => rfl

/-- Settles O11: each invariant is a closed statement about one state. -/
theorem resetMeetsTheInvariants : Obligations.ResetMeetsTheInvariants := by
  unfold Obligations.ResetMeetsTheInvariants
  refine ⟨Memory.reset_wf, ⟨rfl, rfl, rfl, ?_, rfl, ?_, ?_, ?_⟩, ?_, ?_, ?_, ?_, ?_⟩
  · exact List.length_replicate
  all_goals decide

end Sys2Proof.Machine
end

section
/-! What every step keeps of the memory and the tables (O7). -/

namespace Sys2Proof.Machine
open Sys2Proof

/-! ## Tables -/

theorem mapRange_length {α : Type} (f : α → α) (lo hi i : Nat) (xs : List α) :
    (mapRange f lo hi i xs).length = xs.length := by
  induction xs generalizing i with
  | nil => rfl
  | cons x xs ih => simp [mapRange, ih]

/-- Record `p` of a table after an edit of the records `lo` to `hi`. -/
theorem mapRange_getElem? {α : Type} (f : α → α) (lo hi i : Nat) (xs : List α) (p : Nat) :
    (mapRange f lo hi i xs)[p]? = xs[p]?.map (fun x => if lo ≤ i + p ∧ i + p ≤ hi then f x else x) := by
  induction xs generalizing i p with
  | nil => simp [mapRange]
  | cons x xs ih =>
    cases p with
    | zero => simp [mapRange]
    | succ p => simp [mapRange, ih, Nat.add_assoc, Nat.add_comm 1 p]

theorem parseKeys_length (bs : List Byte) (ks : List KeyEntry) (h : parseKeys bs = some ks) :
    2 * ks.length = bs.length := by
  induction bs using parseKeys.induct generalizing ks with
  | case1 => simp_all [parseKeys]
  | case2 => simp_all [parseKeys]
  | case3 a m rest k ks' hks hk ih =>
    have hrest := ih ks' hks
    obtain rfl : k :: ks' = ks := by simpa [parseKeys, hk, hks] using h
    simp only [List.length_cons]
    omega
  | case4 => simp_all [parseKeys]

theorem parseSteps_length (n : Nat) (bs : List Byte) (rs : List (Option StepRec)) (h : parseSteps n bs = some rs) :
    rs.length = n := by
  induction n generalizing bs rs with
  | zero =>
    simp_all [parseSteps]
  | succ n ih =>
    simp only [parseSteps] at h
    split at h
    · next r rs' hr hrs =>
      injection h with h
      subst h
      simp [ih _ _ hrs]
    · simp at h

theorem imageRead_lengths {k : Bool} {m : Memory} {v : Settings} (h : imageRead k m = some v) :
    v.keys.length = 64 ∧ v.steps.length = Config.steps := by
  unfold imageRead at h
  dsimp only at h
  split at h
  · split at h
    · simp only [Settings.parse] at h
      split at h
      · split at h
        · next hkeys hsteps =>
          split at h
          · injection h with h
            subst h
            refine ⟨?_, parseSteps_length _ _ _ hsteps⟩
            have hlen := parseKeys_length _ _ hkeys
            rw [List.length_take, List.length_drop, Memory.readFrom_length] at hlen
            have hbytes : min 128 (Config.imageHoursStart - Config.imageBodyStart - 184) = 128 := rfl
            exact Nat.eq_of_mul_eq_mul_left (by decide : 0 < 2) (hlen.trans hbytes)
          · simp at h
        · simp at h
      · simp at h
    · simp at h
  · simp at h

/-! ## The cue queue -/

/-- The cue queue holds 8 records at most. -/
def CuesFit (s : State) : Prop := s.crn.queue.length ≤ Config.cueQueueMax

theorem CuesFit.of_eq {s t : State} (h : CuesFit s) (ht : t.crn.queue = s.crn.queue) : CuesFit t := by
  rw [CuesFit, ht]
  exact h

theorem CuesFit.finish {s : State} (h : CuesFit s) : CuesFit (finish s) := h.of_eq (by simp)

theorem CuesFit.of_nil {t : State} (ht : t.crn.queue = []) : CuesFit t := by
  rw [CuesFit, ht]
  exact Nat.zero_le _

theorem CuesFit.offerCue {s : State} (h : CuesFit s) (o : CueOrigin) (k : CueKind) : CuesFit (offerCue o k s).1 := by
  unfold Machine.offerCue
  split
  · exact h
  · split
    · next hroom =>
      rw [CuesFit, pushCue, List.length_append]
      exact hroom
    · exact h

theorem CuesFit.offerFrom {s : State} (h : CuesFit s) (o : CueOrigin) (k : CueKind) : CuesFit (offerFrom o k s).1 := by
  have := h.offerCue o k
  simp only [Machine.offerFrom]
  (repeat' split) <;> exact this

theorem CuesFit.startShow {s : State} (h : CuesFit s) : CuesFit (startShow s).1 := by
  simp only [Machine.startShow]
  (repeat' split)
  · exact h
  · exact h
  · exact h
  · exact h
  · exact .of_nil (by simp)

theorem showStopTaken_queue (s : State) : (showStopTaken s).1.crn.queue = [] := by
  simp only [showStopTaken]
  (repeat' split) <;> simp

theorem kept_cuesFit : Kept CuesFit where
  startShow := fun _ h => h.startShow
  showStop := fun _ _ => .of_nil (showStopTaken_queue _)
  cue := fun o k _ h => h.offerFrom o k
  finish := fun _ h => h.of_eq (by simp)
  idleZero := fun _ h => h.of_eq (by simp)
  refusal := fun _ _ h => h.of_eq (by simp)
  rmi := fun _ _ _ h => h.of_eq (by simp)
  lkc := fun _ _ _ h => h.of_eq (by simp)
  offer := fun _ _ _ _ h => h.of_eq (by simp)
  change := fun _ _ _ _ _ h => h.of_eq (by simp)
  halt := fun _ _ h => h.of_eq (by simp)
  clearJam := fun _ h => h.of_eq (by simp)
  lampOn := fun _ h => h.of_eq (by simp)
  lampOff := fun _ h => h.of_eq (by simp)
  level := fun _ _ _ h => h.of_eq (by simp)
  hold := fun _ _ h => h.of_eq (by simp)
  resume := fun _ h => h.of_eq (by simp)
  standby := fun _ h => h.of_eq (by simp)
  wake := fun _ h => h.of_eq (by simp)

theorem CuesFit.deckEdge {s : State} (h : CuesFit s) (a b : Bool) : CuesFit (deckEdge a b s) := by
  have ended : ∀ u, CuesFit u → CuesFit (endActive u) := fun u hu => hu.of_eq (by simp)
  have pins : ∀ u, CuesFit u → CuesFit (setDeckPins a b u) := fun u hu => hu.of_eq (by simp)
  have up : ∀ u, CuesFit u → CuesFit (runningUp u) := by
    intro u hu
    simp only [runningUp]
    (repeat' split)
    · exact hu
    · exact hu.of_eq (by simp)
    · exact hu.of_eq (by simp)
    · exact CuesFit.startShow (hu.of_eq (by simp))
    · exact hu.of_eq (by simp)
    · exact hu
    · exact hu
  have down : ∀ u, CuesFit u → CuesFit (runningDown u) := fun u hu => hu.of_eq (by simp)
  simp only [Machine.deckEdge]
  (repeat' split)
  · exact ended _ (pins _ h)
  · exact pins _ h
  · exact up _ (ended _ (pins _ h))
  · exact up _ (pins _ h)
  · exact down _ (ended _ (pins _ h))
  · exact down _ (pins _ h)

theorem CuesFit.deliverCue {s : State} (h : CuesFit s) (l : LastCue) (k : CueKind) : CuesFit (deliverCue l k s) := by
  have offered : CuesFit (Machine.offerCue .tape k (setCdc (fun c => { c with last := l }) s)).1 :=
    CuesFit.offerCue (h.of_eq (by simp)) _ _
  simp only [Machine.deliverCue]
  split
  · exact offered.of_eq (by simp)
  · exact offered

theorem CuesFit.changeTone {s : State} (h : CuesFit s) (n : Tone) : CuesFit (changeTone n s) := by
  have pulse : CuesFit (endPulse s) := by
    have idle : CuesFit (setCdc (fun c => { c with pulse := .none }) s) := h.of_eq (by simp)
    simp only [endPulse]
    (repeat' split)
    · exact idle.of_eq (by simp)
    · exact idle.of_eq (by simp)
    · exact idle.deliverCue _ _
    · exact idle.of_eq (by simp)
    · exact idle
  simp only [Machine.changeTone]
  (repeat' split) <;> first | exact pulse | exact h

theorem CuesFit.sampleWord {s : State} (h : CuesFit s) : CuesFit (sampleWord s) := by
  simp only [Machine.sampleWord]
  (repeat' split)
  · exact h
  · exact h
  · exact h
  · exact h
  · exact h
  · simp only [completeWord]
    split
    · exact CuesFit.deliverCue (s := setCdc (fun c => { c with word := .idle }) s) h _ _
    · exact h
  · exact h
  · exact h

theorem CuesFit.risingEdge {s : State} (h : CuesFit s) (n : Nat) : CuesFit (risingEdge n s) := by
  simp only [Machine.risingEdge, takeJudgment]
  (repeat' split)
  · exact h
  · exact CuesFit.changeTone (h.of_eq (by simp)) _
  · exact h
  · exact CuesFit.changeTone (h.of_eq (by simp)) _
  · exact h
  · exact h

theorem CuesFit.edgeWatch {s : State} (h : CuesFit s) : CuesFit (edgeWatch s) := by
  simp only [Machine.edgeWatch]
  split
  · exact h
  · exact h.changeTone _

theorem CuesFit.takeCue {s : State} (h : CuesFit s) : CuesFit (takeCue s) := by
  refine kept_cuesFit.takeCue ?_ ?_ ?_ ?_ ?_ ?_ ?_ s h
  · exact fun f s hf h => h.of_eq (hf s.crn).2
  · intro s h
    refine Nat.le_trans ?_ h
    simp [setCrn]
  all_goals
    intros
    rename_i h
    exact h.of_eq (by simp)

theorem controlReset_queue (k : Bool) (s : State) : (controlReset k s).crn.queue = [] := rfl

theorem powerOn_queue (k : Bool) (s : State) : (powerOn k s).crn.queue = [] := rfl

theorem CuesFit.applyDecoder {s : State} (h : CuesFit s) (v : DecoderSettings) : CuesFit (applyDecoder v s) := by
  unfold Machine.applyDecoder
  split
  · exact .of_nil rfl
  · exact h

theorem applyImage_crn (v : Settings) (s : State) : (applyImage v s).crn.queue
    = (applyDecoder v.decoder (setLmc (fun l => Lmc.rederate { l with cfg := v.lamp }) s)).crn.queue := rfl

theorem CuesFit.endLoad {s : State} (h : CuesFit s) (k : Bool) : CuesFit (endLoad k s) := by
  simp only [Machine.endLoad]
  split
  · exact h.of_eq (by simp)
  · split
    · refine CuesFit.of_eq (CuesFit.applyDecoder ?_ _) (applyImage_crn _ _)
      exact h.of_eq rfl
    · exact h.of_eq (by simp)

/-- The cue of a dwell comes to an empty queue (07 R134). -/
theorem CuesFit.dwellCue {s : State} (h : s.crn.queue.isEmpty = true) : CuesFit (pushCue .dwell .next s) := by
  rw [List.isEmpty_iff] at h
  simp [CuesFit, pushCue, h, Config.cueQueueMax]

theorem exec_cuesFit (c : Instr) (s t : State) (h : exec c s = .next t) (hs : CuesFit s) : CuesFit t := by
  by_cases hc : bringsRequest c = true
  · exact kept_cuesFit.signal hc (fun _ _ _ h => h) (fun l _ _ _ h => by cases l <;> exact h) h hs
  · cases c <;> (try exact absurd rfl hc) <;> injection h with h <;> subst h
    all_goals
      (try simp only [panel, panelIn, setting, panelDeck, panelRequest, panelChange, reply, replyOk, Response.of]) <;>
        (repeat' split)
    all_goals try (refine hs.of_eq ?_; simp; done)
    all_goals try (refine .of_nil ?_; simp [controlReset_queue, powerOn_queue, resetToRun]; done)
    · exact (hs.deckEdge _ _).finish
    · exact (hs.deckEdge _ _).finish
    · exact (hs.deckEdge _ _).finish
    · exact hs.risingEdge _
    · exact hs.edgeWatch
    · exact hs.sampleWord
    · exact hs.applyDecoder _
    · exact hs.takeCue.finish
    · next hq => exact .dwellCue (Bool.and_eq_true_iff.mp hq).1
    · exact (hs.endLoad _).finish
    · exact hs.sampleWord
/-! ## The link's queues -/

/-- The transmit queue and the receive buffer hold 4 frames each at most. -/
def LinkFits (s : State) : Prop := s.lkc.txq.length ≤ Config.txQueueMax ∧ s.lkc.rxbuf.length ≤ Config.rxBufferMax

theorem LinkFits.of_eq {s t : State} (h : LinkFits s) (htx : t.lkc.txq = s.lkc.txq) (hrx : t.lkc.rxbuf = s.lkc.rxbuf) :
    LinkFits t := by
  rw [LinkFits, htx, hrx]
  exact h

theorem LinkFits.finish {s : State} (h : LinkFits s) : LinkFits (finish s) := h.of_eq (by simp) (by simp)

theorem LinkFits.of_nil {t : State} (htx : t.lkc.txq = []) (hrx : t.lkc.rxbuf = []) : LinkFits t := by
  rw [LinkFits, htx, hrx]
  exact ⟨Nat.zero_le _, Nat.zero_le _⟩

theorem enqueue_txq (l : Lkc) (d k : Byte) (p : List Byte) :
    (l.enqueue d k p).txq = l.txq ++ [⟨l.cfg.level, l.node, d, k, p⟩] := by
  unfold Lkc.enqueue
  dsimp only
  split <;> simp

theorem LinkFits.enqueue {s : State} (h : LinkFits s) (hroom : s.lkc.txq.length < Config.txQueueMax) (d k : Byte)
    (p : List Byte) : LinkFits (setLkc (·.enqueue d k p) s) := by
  refine ⟨?_, ?_⟩
  · simp only [setLkc_fields, enqueue_txq, List.length_append]
    exact hroom
  · simpa using h.2

theorem LinkFits.offerFrame {s : State} (h : LinkFits s) (d k : Byte) (p : List Byte) :
    LinkFits (offerFrame d k p s).1 := by
  unfold Machine.offerFrame
  split
  · next hroom =>
    simp only [Lkc.canTake, Bool.and_eq_true, decide_eq_true_eq] at hroom
    exact h.enqueue hroom.2 d k p
  · exact h

theorem LinkFits.changeRequest {s : State} (h : LinkFits s) (src : Source) (k : ChangeKind) (a : Nat) (f : Byte) :
    LinkFits (changeRequest src k a f s).1 := by
  have here : ∀ d u, LinkFits u → LinkFits (requestHere src k a d u).1 := fun d u hu => hu.of_eq (by simp) (by simp)
  have routed : ∀ d u, LinkFits u → LinkFits (requestRouted src k a d u).1 := by
    intro d u hu
    simp only [requestRouted, offerOrOverflow]
    (repeat' split)
    · exact hu.offerFrame _ _ _
    · exact hu
    · exact here _ _ hu
    · exact here _ _ hu
    · exact here _ _ hu
    · exact (here _ _ hu).offerFrame _ _ _
    · exact (here _ _ hu).offerFrame _ _ _
    · exact (here _ _ hu).offerFrame _ _ _
  simp only [Machine.changeRequest]
  (repeat' split)
  · exact h.of_eq (by simp) (by simp)
  · exact h.of_eq (by simp) (by simp)
  · exact (routed (fadeOf s f) _ h).of_eq (by simp) (by simp)
  · exact (routed (fadeOf s f) _ h).of_eq (by simp) (by simp)

theorem kept_linkFits : Kept LinkFits where
  offer := fun _ _ _ _ h => h.offerFrame _ _ _
  change := fun _ _ _ _ _ h => h.changeRequest _ _ _ _
  lkc := fun f s hf h => by
    obtain ⟨htx, -, -, -, -, hrx⟩ := hf s.lkc
    exact ⟨by simpa [htx] using h.1, hrx h.2⟩
  startShow := fun _ h => h.of_eq (by simp) (by simp)
  showStop := fun _ h => h.of_eq (by simp) (by simp)
  cue := fun o k _ h => h.of_eq (by simp) (by simp)
  finish := fun _ h => h.of_eq (by simp) (by simp)
  idleZero := fun _ h => h.of_eq (by simp) (by simp)
  refusal := fun _ _ h => h.of_eq (by simp) (by simp)
  rmi := fun _ _ _ h => h.of_eq (by simp) (by simp)
  halt := fun _ _ h => h.of_eq (by simp) (by simp)
  clearJam := fun _ h => h.of_eq (by simp) (by simp)
  lampOn := fun _ h => h.of_eq (by simp) (by simp)
  lampOff := fun _ h => h.of_eq (by simp) (by simp)
  level := fun _ _ _ h => h.of_eq (by simp) (by simp)
  hold := fun _ _ h => h.of_eq (by simp) (by simp)
  resume := fun _ h => h.of_eq (by simp) (by simp)
  standby := fun _ h => h.of_eq (by simp) (by simp)
  wake := fun _ h => h.of_eq (by simp) (by simp)

theorem LinkFits.takeCue {s : State} (h : LinkFits s) : LinkFits (takeCue s) := by
  refine kept_linkFits.takeCue ?_ ?_ ?_ ?_ ?_ ?_ ?_ s h
  all_goals
    intros
    rename_i h
    exact h.of_eq (by simp) (by simp)

theorem LinkFits.setLkc {s : State} (h : LinkFits s) {f : Lkc → Lkc} (htx : (f s.lkc).txq.length ≤ s.lkc.txq.length)
    (hrx : (f s.lkc).rxbuf.length ≤ s.lkc.rxbuf.length) : LinkFits (setLkc f s) :=
  ⟨Nat.le_trans htx h.1, Nat.le_trans hrx h.2⟩

theorem startSend_queues (l : Lkc) : l.startSend.txq.length = l.txq.length ∧ l.startSend.rxbuf = l.rxbuf := by
  unfold Lkc.startSend
  split <;> simp_all

theorem nextFrame_queues (l : Lkc) : l.nextFrame.txq = l.txq.drop 1 ∧ l.nextFrame.rxbuf = l.rxbuf := by
  simp [Lkc.nextFrame]

theorem sent_queues (l : Lkc) : l.sent.txq = l.txq.drop 1 ∧ l.sent.rxbuf = l.rxbuf := by
  simp [Lkc.sent, nextFrame_queues]

theorem collide_queues (l : Lkc) : l.collide.txq.length ≤ l.txq.length ∧ l.collide.rxbuf = l.rxbuf := by
  simp only [Lkc.collide]
  split <;> simp [nextFrame_queues]

theorem setEnable_queues (l : Lkc) (v : Bool) :
    (l.setEnable v).txq.length ≤ l.txq.length ∧ (l.setEnable v).rxbuf = l.rxbuf := by
  unfold Lkc.setEnable
  (repeat' split) <;> simp [Lkc.listen, Lkc.flush]

theorem controlReset_queues (k : Bool) (s : State) :
    (controlReset k s).lkc.txq = [] ∧ (controlReset k s).lkc.rxbuf = [] := ⟨rfl, rfl⟩

theorem powerOn_queues (k : Bool) (s : State) : (powerOn k s).lkc.txq = [] ∧ (powerOn k s).lkc.rxbuf = [] := ⟨rfl, rfl⟩

theorem applyImage_queues (v : Settings) (s : State) :
    (applyImage v s).lkc.txq = [] ∧ (applyImage v s).lkc.rxbuf = s.lkc.rxbuf := by
  simp [applyImage, Lkc.listen, Lkc.flush]

theorem LinkFits.endLoad {s : State} (h : LinkFits s) (k : Bool) : LinkFits (endLoad k s) := by
  simp only [Machine.endLoad]
  (repeat' split)
  · exact h
  · refine ⟨?_, ?_⟩
    · simp [applyImage_queues]
    · simpa [applyImage_queues] using h.2
  · exact h

theorem LinkFits.panelResponse {s : State} (h : LinkFits s) (r : Response) : LinkFits (writeResponse r (idleZero s)) := h

theorem exec_linkFits (c : Instr) (s t : State) (h : exec c s = .next t) (hs : LinkFits s) : LinkFits t := by
  by_cases hc : bringsRequest c = true
  · exact kept_linkFits.signal hc (fun _ _ _ h => h) (fun l _ _ _ h => by cases l <;> exact h) h hs
  · cases c <;> (try exact absurd rfl hc) <;> injection h with h <;> subst h
    all_goals
      (try simp only [panel, panelIn, setting, panelDeck, panelRequest, panelChange, reply, replyOk, Response.of]) <;>
        (repeat' split)
    all_goals try (refine hs.of_eq ?_ ?_ <;> simp <;> done)
    · exact hs.takeCue.finish
    · exact hs.setLkc (startSend_queues _).1.le (congrArg List.length (startSend_queues _).2).le
    · exact hs.setLkc (by simp [sent_queues]) (by simp [sent_queues])
    · exact hs.setLkc (collide_queues _).1 (by simp [collide_queues])
    · exact (LinkFits.panelResponse (hs.setLkc (setEnable_queues _ _).1 (by simp [setEnable_queues])) _).finish
    · exact (hs.offerFrame _ _ _).panelResponse _
    · exact (hs.offerFrame _ _ _).panelResponse _
    · exact LinkFits.panelResponse (hs.setLkc (by simp) (by simp)) _
    · refine .of_nil ?_ ?_ <;> simp [resetToRun, controlReset_queues, powerOn_queues]
    · refine .of_nil ?_ ?_ <;> simp [resetToRun, controlReset_queues, powerOn_queues]
    · refine .of_nil ?_ ?_ <;> simp [resetToRun, controlReset_queues, powerOn_queues]
    · exact (hs.endLoad _).finish
    · refine .of_nil ?_ ?_ <;> simp [resetToRun, controlReset_queues, powerOn_queues]

/-! ## The slot map -/

/-- The map has its 100 records, and record 0 is that of the empty home position (01 R6). -/
def MapSound (s : State) : Prop :=
  s.tru.map.length = Config.positions ∧ (s.tru.slot 0).content = .empty ∧ (s.tru.slot 0).retired = false

theorem MapSound.of_eq {s t : State} (h : MapSound s) (ht : t.tru.map = s.tru.map) : MapSound t := by
  rw [MapSound, Tru.slot, ht]
  exact h

theorem MapSound.finish {s : State} (h : MapSound s) : MapSound (finish s) := h.of_eq (by simp)

/-- An edit that spares record 0 keeps the map sound. -/
theorem MapSound.of_mapRange {s t : State} (h : MapSound s) {f : SlotRec → SlotRec} {lo hi : Nat} (hlo : lo ≠ 0)
    (ht : t.tru.map = mapRange f lo hi 0 s.tru.map) : MapSound t := by
  have hslot : t.tru.slot 0 = s.tru.slot 0 := by
    have hmap : (mapRange f lo hi 0 s.tru.map)[0]? = s.tru.map[0]? := by
      rw [mapRange_getElem?]
      simp [hlo]
    simp only [Tru.slot, List.getD_eq_getElem?_getD, ht, hmap]
  rw [MapSound, hslot, ht, mapRange_length]
  exact h

theorem MapSound.reportContent {s : State} (h : MapSound s) (c : Content) : MapSound (reportContent c s) := by
  unfold Machine.reportContent
  (repeat' split)
  · exact h
  · exact h
  · next hp => exact h.of_mapRange hp rfl

theorem MapSound.jamReport {s : State} (h : MapSound s) : MapSound (jamReport s) := by
  unfold Machine.jamReport
  (repeat' split)
  · exact h
  · exact h
  · next hp => exact h.of_mapRange hp rfl

theorem MapSound.clearJamAt {s : State} (h : MapSound s) : MapSound (clearJamAt s).1 := by
  simp only [Machine.clearJamAt]
  (repeat' split)
  · exact h
  · exact h
  · exact h
  · exact MapSound.of_eq (MapSound.reportContent (s := setGate .empty none s) h .unknown) (by simp)
  · exact MapSound.of_eq (MapSound.reportContent (s := setGate .seated s.tru.position s) h .slide) (by simp)
  · exact h

theorem kept_mapSound : Kept MapSound where
  clearJam := fun _ h => h.clearJamAt
  offer := fun _ _ _ _ h => h.of_eq (by simp)
  change := fun _ _ _ _ _ h => h.of_eq (by simp)
  lkc := fun _ _ _ h => h.of_eq (by simp)
  startShow := fun _ h => h.of_eq (by simp)
  showStop := fun _ h => h.of_eq (by simp)
  cue := fun o k _ h => h.of_eq (by simp)
  finish := fun _ h => h.of_eq (by simp)
  idleZero := fun _ h => h.of_eq (by simp)
  refusal := fun _ _ h => h.of_eq (by simp)
  rmi := fun _ _ _ h => h.of_eq (by simp)
  halt := fun _ _ h => h.of_eq (by simp)
  lampOn := fun _ h => h.of_eq (by simp)
  lampOff := fun _ h => h.of_eq (by simp)
  level := fun _ _ _ h => h.of_eq (by simp)
  hold := fun _ _ h => h.of_eq (by simp)
  resume := fun _ h => h.of_eq (by simp)
  standby := fun _ h => h.of_eq (by simp)
  wake := fun _ h => h.of_eq (by simp)

theorem MapSound.dropLands {s : State} (h : MapSound s) : MapSound (dropLands s) := by
  refine MapSound.of_eq (MapSound.reportContent ?_ .slide) (by simp [Machine.dropLands]; rfl)
  exact h

theorem MapSound.dropFails {s : State} (h : MapSound s) (b : Bool) : MapSound (dropFails b s) := by
  have failed := h.jamReport
  simp only [Machine.dropFails]
  (repeat' split) <;> exact failed.of_eq (by simp)

theorem MapSound.dropLimit {s : State} (h : MapSound s) : MapSound (dropLimit s) := by
  unfold Machine.dropLimit
  (repeat' split)
  · exact h.dropLands
  · exact MapSound.of_eq (MapSound.reportContent (s := setGate .empty none (setCsq _ s)) h .empty) (by simp; rfl)
  · exact h.of_eq (by simp)
  · exact h.dropFails _

theorem MapSound.liftLimit {s : State} (h : MapSound s) : MapSound (liftLimit s) := by
  unfold Machine.liftLimit
  (repeat' split)
  · exact h.of_eq (by simp)
  · simp only [liftFails]
    split <;> exact h.jamReport.of_eq (by simp)
  · exact h.dropFails _
  · exact h.of_eq (by simp)
  · exact h

theorem MapSound.removeTray {s : State} (h : MapSound s) : MapSound (removeTray s) := by
  simp only [Machine.removeTray]
  split
  · have hmap : (trayLost { setTprs false s with tru := { (setTprs false s).tru with
        present := false, position := none, map := Tru.clearedMap } }).tru.map = Tru.clearedMap := by simp
    rw [MapSound, Tru.slot, hmap]
    exact ⟨rfl, rfl, rfl⟩
  · exact h

theorem exec_mapSound (c : Instr) (s t : State) (h : exec c s = .next t) (hs : MapSound s) : MapSound t := by
  have hmap := exec_map c s t h
  by_cases hc : bringsRequest c = true
  · exact kept_mapSound.signal hc (fun _ _ _ h => h) (fun l _ _ _ h => by cases l <;> exact h) h hs
  · cases c <;> (try exact hs.of_eq hmap) <;> (try exact absurd rfl hc) <;> injection h with h <;> subst h
    all_goals
      (try simp only [panel, panelIn, setting, reply]) <;> (repeat' split)
    all_goals try (refine hs.of_eq ?_; simp; done)
    · exact hs.removeTray.finish
    · exact hs.of_mapRange (Nat.ne_of_gt (Nat.le_max_right _ 1)) rfl
    · exact hs.of_mapRange (Nat.ne_of_gt (Nat.le_max_right _ 1)) rfl
    · exact hs.liftLimit.finish
    · exact MapSound.finish (MapSound.dropLands (s := setGatePins _ _ _ s) hs)
    · exact hs.dropLimit.finish
    · exact MapSound.finish ⟨rfl, rfl, rfl⟩

/-! ## Cue table and key map -/

/-- The cue table and the key map have their sizes. -/
def TableSizes (v : Settings) : Prop := v.steps.length = Config.steps ∧ v.keys.length = 64

theorem builtIn_tableSizes : TableSizes .builtIn := ⟨List.length_replicate, rfl⟩

theorem imageRead_tableSizes (k : Bool) (m : Memory) : TableSizes ((imageRead k m).getD .builtIn) := by
  cases h : imageRead k m with
  | none => exact builtIn_tableSizes
  | some v => exact ⟨(imageRead_lengths h).2, (imageRead_lengths h).1⟩

theorem TableSizes.of_eq {s t : State} (h : TableSizes s.settings) (htable : t.crn.table = s.crn.table)
    (hkeys : t.rmi.keys = s.rmi.keys) : TableSizes t.settings := by
  simp only [TableSizes, State.settings, htable, hkeys]
  exact h

theorem TableSizes.endLoad {s : State} (h : TableSizes s.settings) (k : Bool) : TableSizes (endLoad k s).settings := by
  simp only [Machine.endLoad]
  split
  · exact h
  · split
    · next v hv _ => exact ⟨(imageRead_lengths hv).2, (imageRead_lengths hv).1⟩
    · exact h

theorem TableSizes.finish {s : State} (h : TableSizes s.settings) : TableSizes (finish s).settings :=
  h.of_eq (by simp) (by simp)

theorem controlReset_tableSizes (k : Bool) (s : State) : TableSizes (controlReset k s).settings := imageRead_tableSizes _ _

theorem powerOn_tableSizes (k : Bool) (s : State) : TableSizes (powerOn k s).settings := imageRead_tableSizes _ _

theorem exec_tableSizes (c : Instr) (s t : State) (h : exec c s = .next t) (hs : TableSizes s.settings) :
    TableSizes t.settings := by
  have frame := exec_settings c s t h
  have same : t.settings = { s.settings with hours := t.lmc.hours } → TableSizes t.settings := fun e => e ▸ hs
  cases c <;> (try exact same frame) <;> injection h with h <;> subst h
  all_goals
    (try simp only [panel, panelIn, setting, reply]) <;> (repeat' split)
  all_goals try (refine hs.of_eq ?_ ?_ <;> simp <;> done)
  · exact ⟨(mapRange_length _ _ _ _ _).trans hs.1, hs.2⟩
  · exact ⟨(mapRange_length _ _ _ _ _).trans hs.1, hs.2⟩
  · exact ⟨hs.1, (mapRange_length _ _ _ _ _).trans hs.2⟩
  · rename_i k _ _ _
    exact (controlReset_tableSizes k s).of_eq (by simp [resetToRun]) (by simp [resetToRun])
  · rename_i k _ _ _
    exact (controlReset_tableSizes k s).of_eq (by simp) (by simp)
  · rename_i k _ _ _ _
    exact (controlReset_tableSizes k s).of_eq (by simp [resetToRun]) (by simp [resetToRun])
  · exact (hs.endLoad _).finish
  · exact TableSizes.finish (powerOn_tableSizes _ s)

/-! ## The memory -/

theorem MemoryCanonical.of_eq {s t : State} (h : MemoryCanonical s) (ht : t.mem = s.mem) : MemoryCanonical t := by
  rw [MemoryCanonical, ht]
  exact h

theorem MemoryCanonical.finish {s : State} (h : MemoryCanonical s) : MemoryCanonical (finish s) := h.of_eq (by simp)

theorem MemoryCanonical.controlReset {s : State} (h : MemoryCanonical s) (k : Bool) :
    MemoryCanonical (controlReset k s) := by
  have lamp : (lampReset (abandonStore s)).mem = (abandonStore s).mem := by simp
  exact MemoryCanonical.of_eq (s := lampReset (abandonStore s)) (MemoryCanonical.of_eq (abandonStore_mem h).1 lamp) rfl

theorem MemoryCanonical.powerOn {s : State} (h : MemoryCanonical s) (k : Bool) : MemoryCanonical (powerOn k s) :=
  (abandonStore_mem h).1

theorem MemoryCanonical.endStore {s : State} (h : MemoryCanonical s) (v : Settings) (n : Nat) :
    MemoryCanonical (endStore v n s) := by
  have written : (s.mem.writes (storeLanded v n)).wf := Memory.writes_wf _ h
  simp only [Machine.endStore]
  split <;> exact written

theorem exec_memoryCanonical (c : Instr) (s t : State) (h : exec c s = .next t) (hs : MemoryCanonical s) :
    MemoryCanonical t := by
  have frame := exec_mem c s t h
  have same : t.mem = s.mem → t.mem.wf := fun e => e ▸ hs
  cases c <;> (try exact same frame) <;> injection h with h <;> subst h
  all_goals
    (try simp only [panel, panelIn, setting, reply]) <;> (repeat' split)
  all_goals try (refine hs.of_eq ?_; simp; done)
  · rename_i k _ _ _
    exact (hs.controlReset k).of_eq (by simp [resetToRun])
  · rename_i k _ _ _
    exact (hs.controlReset k).of_eq (by simp)
  · rename_i k _ _ _ _
    exact (hs.controlReset k).of_eq (by simp [resetToRun])
  · exact hs.endStore _ _
  · exact Memory.writes_wf _ hs
  · exact Memory.writes_wf _ hs
  · exact MemoryCanonical.finish (hs.powerOn _)

/-! ## One step -/

/-- What the queue does not touch, and every command and every ms keep, each step keeps. -/
theorem step_keeps {P : State → Prop} (hpend : ∀ s l, P s → P { s with pending := l })
    (hexec : ∀ c s t, exec c s = .next t → P s → P t) (htick : ∀ s, P s → P (tick s)) (s t : State) (hs : P s)
    (h : step s = .next t) : P t := by
  unfold step at h
  split at h
  · exact hexec _ _ _ h (hpend s _ hs)
  · split at h
    · exact hexec _ _ _ h hs
    · injection h with h
      exact h ▸ htick s hs

theorem tick_map (s : State) : (tick s).tru.map = s.tru.map := by
  simp only [tick, tickTru]
  (repeat' split) <;> rfl

theorem tick_queue (s : State) : (tick s).crn.queue = s.crn.queue := by
  simp only [tick, tickCrn]
  (repeat' split) <;> rfl

theorem tick_table (s : State) : (tick s).crn.table = s.crn.table := by
  simp only [tick, tickCrn]
  (repeat' split) <;> rfl

theorem tick_keys (s : State) : (tick s).rmi.keys = s.rmi.keys := by
  simp only [tick, Rmi.tick]
  (repeat' split) <;> rfl

theorem tick_txq (s : State) : (tick s).lkc.txq = s.lkc.txq := by
  simp only [tick, Lkc.tick]
  (repeat' split) <;> rfl

theorem tick_rxbuf (s : State) : (tick s).lkc.rxbuf = s.lkc.rxbuf := by
  simp only [tick, Lkc.tick]
  (repeat' split) <;> rfl

theorem tablesSound_iff (s : State) :
    TablesSound s ↔ MapSound s ∧ TableSizes s.settings ∧ CuesFit s ∧ LinkFits s := by
  simp only [TablesSound, MapSound, TableSizes, CuesFit, LinkFits, State.settings, and_assoc]

theorem exec_tablesSound (c : Instr) (s t : State) (h : exec c s = .next t) (hs : TablesSound s) : TablesSound t := by
  obtain ⟨hmap, hsizes, hcues, hlink⟩ := (tablesSound_iff s).mp hs
  exact (tablesSound_iff t).mpr ⟨exec_mapSound c s t h hmap, exec_tableSizes c s t h hsizes, exec_cuesFit c s t h hcues,
    exec_linkFits c s t h hlink⟩

theorem tick_tablesSound (s : State) (hs : TablesSound s) : TablesSound (tick s) := by
  obtain ⟨hmap, hsizes, hcues, hlink⟩ := (tablesSound_iff s).mp hs
  exact (tablesSound_iff _).mpr ⟨hmap.of_eq (tick_map s), hsizes.of_eq (tick_table s) (tick_keys s),
    hcues.of_eq (tick_queue s), hlink.of_eq (tick_txq s) (tick_rxbuf s)⟩

/-- Settles O7: each table and queue has an invariant of its own that every command keeps (`exec_tablesSound`), and the
memory is written only by lists of byte writes (`exec_memoryCanonical`). -/
theorem storageKeepsItsForm : Obligations.StorageKeepsItsForm :=
  ⟨step_keeps (fun _ _ h => h) exec_memoryCanonical fun _ h => h.of_eq (by simp),
    step_keeps (fun _ _ h => h) exec_tablesSound tick_tablesSound⟩

end Sys2Proof.Machine
end

section
/-! The gate record and the tray's position (O8): a slide with an origin stands at that position, and the tray is driven
only under an EMPTY gate. -/

namespace Sys2Proof.Machine
open Sys2Proof

/-! ## What leaves the gate as it stands -/

/-- Gate record and position stand, and INDEXING is entered under an EMPTY gate only. -/
structure KeepsGate (s t : State) : Prop where
  gate : t.csq.gate = s.csq.gate
  origin : t.csq.origin = s.csq.origin
  position : t.tru.position = s.tru.position
  indexing : t.csq.state = .indexing → s.csq.state = .indexing ∨ s.csq.gate = .empty

namespace KeepsGate

theorem trans {s t u : State} (h : KeepsGate s t) (k : KeepsGate t u) : KeepsGate s u where
  gate := k.gate.trans h.gate
  origin := k.origin.trans h.origin
  position := k.position.trans h.position
  indexing := fun hu => (k.indexing hu).elim h.indexing fun hg => .inr (h.gate.symm.trans hg)

theorem of_csq {s t : State} (hcsq : t.csq = s.csq) (hpos : t.tru.position = s.tru.position) : KeepsGate s t where
  gate := by rw [hcsq]
  origin := by rw [hcsq]
  position := hpos
  indexing := fun h => .inl (hcsq ▸ h)

theorem refl (s : State) : KeepsGate s s := of_csq rfl rfl

theorem of_state {s t : State} (hg : t.csq.gate = s.csq.gate) (ho : t.csq.origin = s.csq.origin)
    (hp : t.tru.position = s.tru.position) (hs : t.csq.state = s.csq.state) : KeepsGate s t :=
  ⟨hg, ho, hp, fun h => .inl (hs ▸ h)⟩

theorem of_phase {s t : State} (hg : t.csq.gate = s.csq.gate) (ho : t.csq.origin = s.csq.origin)
    (hp : t.tru.position = s.tru.position) (hs : t.csq.state ≠ .indexing) : KeepsGate s t :=
  ⟨hg, ho, hp, fun h => absurd h hs⟩

theorem of_empty {s t : State} (hg : t.csq.gate = s.csq.gate) (ho : t.csq.origin = s.csq.origin)
    (hp : t.tru.position = s.tru.position) (he : s.csq.gate = .empty) : KeepsGate s t :=
  ⟨hg, ho, hp, fun _ => .inr he⟩

/-! ### The start of a change -/

theorem toTarget (s : State) (h : s.csq.gate = .empty) : KeepsGate s (toTarget s) :=
  of_empty (by simp) (by simp) (by simp) h

theorem blankingEnd (s : State) : KeepsGate s (blankingEnd s) := by
  refine ⟨by simp, by simp, by simp, ?_⟩
  simp only [Machine.blankingEnd]
  split
  · split
    · next h => exact fun _ => .inr h
    · exact nofun
  · exact .inl

theorem startBlanking (f : Flight) (s : State) : KeepsGate s (startBlanking f s) := by
  have start : KeepsGate s (setCsq (fun q => { q with state := .blanking }) s) := of_phase rfl rfl rfl nofun
  simp only [Machine.startBlanking]
  (repeat' split)
  · exact (start.trans (of_csq (by rfl) (by rfl))).trans (blankingEnd _)
  · exact start.trans (of_csq (by rfl) (by rfl))
  · exact (start.trans (of_state (by rfl) (by rfl) (by rfl) (by rfl))).trans (blankingEnd _)
  · exact start.trans (of_state (by rfl) (by rfl) (by rfl) (by rfl))

theorem startChange (src : Source) (k : ChangeKind) (t fade : Nat) (s : State) :
    KeepsGate s (startChange src k t fade s) := by
  have left : KeepsGate s (if s.csq.state = .stalled then removeCause .transport (endTenure s) else endTenure s) := by
    split <;> exact of_csq (by simp) (by simp)
  simp only [Machine.startChange]
  exact KeepsGate.trans (left.trans (of_state (by rfl) (by rfl) (by rfl) (by rfl))) (startBlanking _ _)

theorem startPending (s : State) : KeepsGate s (startPending s) := by
  simp only [Machine.startPending]
  (repeat' split)
  · exact refl s
  · exact refl s
  · exact of_csq (by simp) (by simp)
  · exact KeepsGate.trans (of_csq (by simp) (by simp)) (startChange _ _ _ _ _)
  · exact KeepsGate.trans (of_csq (by simp) (by simp)) (startChange _ _ _ _ _)

/-! ### Reveals, jams and stalls -/

theorem endReveal (s : State) : KeepsGate s (endReveal s) := by
  simp only [Machine.endReveal]
  refine KeepsGate.trans ?_ (startPending _)
  split <;> exact of_phase (by simp) (by simp) (by simp) (by simp)

theorem revealCheck (s : State) : KeepsGate s (revealCheck s) := by
  unfold Machine.revealCheck
  split
  · exact endReveal s
  · exact refl s

theorem enterRevealing (s : State) : KeepsGate s (enterRevealing s) := by
  have withdrawn : KeepsGate s (if s.lmc.claim = .none then s else setLmc (Lmc.reveal · (revealFade s.csq)) s) := by
    split <;> exact of_csq rfl rfl
  simp only [Machine.enterRevealing]
  exact KeepsGate.trans (withdrawn.trans (of_phase (by rfl) (by rfl) (by rfl) (by simp [setCsq]))) (revealCheck _)

theorem enterJammed_state (c : StopCause) (s : State) : (enterJammed c s).csq.state = .jammed := by
  simp [Machine.enterJammed]

theorem enterStalled_state (c : StopCause) (s : State) : (enterStalled c s).csq.state = .stalled := by
  simp [Machine.enterStalled]

theorem enterJammed (c : StopCause) (s : State) : KeepsGate s (enterJammed c s) :=
  of_phase (by simp) (by simp) (by simp) (by simp [enterJammed_state])

theorem lampReports (s : State) : KeepsGate s (lampReports s) := by
  have first : KeepsGate s
      (if s.lmc.claim = .fade ∧ s.lmc.output = 0 then Machine.blankingEnd (setLmc Lmc.holdClaim s) else s) := by
    split
    · exact KeepsGate.trans (of_csq (by rfl) (by rfl)) (blankingEnd _)
    · exact refl s
  simp only [Machine.lampReports]
  generalize (if s.lmc.claim = .fade ∧ s.lmc.output = 0 then Machine.blankingEnd (setLmc Lmc.holdClaim s) else s) = u
    at first ⊢
  split
  · exact (first.trans (of_state (by rfl) (by rfl) (by rfl) (by rfl))).trans (revealCheck _)
  · exact first

theorem revealReplaced (s : State) : KeepsGate s (revealReplaced s) := by
  unfold Machine.revealReplaced
  split
  · exact KeepsGate.trans (of_state (by rfl) (by rfl) (by rfl) (by rfl)) (revealCheck _)
  · exact refl s

/-! ### The shutter, HALT and the lift back -/

theorem shutterActive (s : State) : KeepsGate s (shutterActive s) := by
  simp only [Machine.shutterActive]
  split
  · exact KeepsGate.trans (of_csq (by rfl) (by rfl)) (blankingEnd _)
  · exact of_csq rfl rfl

theorem shutterInactive (s : State) : KeepsGate s (shutterInactive s) := by
  simp only [Machine.shutterInactive]
  split
  · exact KeepsGate.trans (of_state (by rfl) (by rfl) (by rfl) (by rfl)) (revealCheck _)
  all_goals try split
  all_goals exact of_state (by simp) (by simp) (by simp) (by simp)

theorem shutterLimit (s : State) : KeepsGate s (shutterLimit s) := by
  simp only [Machine.shutterLimit]
  (repeat' split)
  · exact refl s
  · exact KeepsGate.trans (of_state (by simp) (by simp) (by simp) (by simp)) (blankingEnd _)
  · exact KeepsGate.trans (of_state (by simp) (by simp) (by simp) (by simp)) (revealCheck _)
  · exact refl s

theorem haltChange (s : State) : KeepsGate s (haltChange s) := by
  simp only [Machine.haltChange]
  (repeat' split)
  · exact refl s
  · exact KeepsGate.trans (of_state (by rfl) (by rfl) (by rfl) (by rfl)) (enterRevealing _)
  · exact of_state rfl rfl rfl rfl
  · exact of_state rfl rfl rfl rfl
  · exact refl s

theorem skipOn (s : State) (h : s.csq.gate = .empty) : KeepsGate s (skipOn s) :=
  of_empty (by simp) (by simp) (by simp) h

/-! ### Requests -/

theorem changeRequest (src : Source) (k : ChangeKind) (a : Nat) (f : Byte) (s : State) :
    KeepsGate s (changeRequest src k a f s).1 := by
  have placed : ∀ t d u, KeepsGate u (place src k a t d u).1 := by
    intro t d u
    unfold place
    split
    · exact startChange _ _ _ _ _
    · exact of_csq (by simp) (by simp)
  have here : ∀ d u, KeepsGate u (requestHere src k a d u).1 := by
    intro d u
    unfold requestHere
    split
    · exact refl u
    · exact placed _ _ u
  have routed : ∀ d u, KeepsGate u (requestRouted src k a d u).1 := by
    intro d u
    simp only [requestRouted]
    (repeat' split)
    · exact of_csq (by simp) (by simp)
    · exact refl u
    · exact here _ u
    · exact here _ u
    · exact here _ u
    · exact (here d u).trans (of_csq (by simp) (by simp))
    · exact (here d u).trans (of_csq (by simp) (by simp))
  simp only [Machine.changeRequest]
  (repeat' split)
  · exact of_csq (by simp) (by simp)
  · exact of_csq (by simp) (by simp)
  · exact (routed (fadeOf s f) s).trans (of_csq (by simp) (by simp))
  · exact (routed (fadeOf s f) s).trans (of_csq (by simp) (by simp))

theorem haltFrom (src : Source) (s : State) : KeepsGate s (haltFrom src s).1 := by
  have taken : KeepsGate s (Machine.haltChange (dropWaiting .halted s)) :=
    KeepsGate.trans (of_csq (by simp) (by simp)) (haltChange _)
  simp only [Machine.haltFrom]
  (repeat' split)
  · exact refl s
  · exact taken
  · exact refl s
  · exact taken

theorem wakeUp (s : State) : KeepsGate s (wakeUp s) := by
  unfold Machine.wakeUp
  split
  · exact KeepsGate.trans (of_csq (by simp) (by simp)) (startPending _)
  · exact KeepsGate.trans (of_csq (by simp) (by simp)) (startPending _)
  · exact refl s

theorem requestStandby (s : State) : KeepsGate s (requestStandby s).1 := by
  simp only [Machine.requestStandby]
  (repeat' split)
  · exact refl s
  · exact KeepsGate.trans (of_csq (by simp) (by simp)) (lampReports _)
  · exact refl s

theorem lampOnTaken (s : State) : KeepsGate s (lampOnTaken s).1 := by
  have woken := wakeUp s
  simp only [Machine.lampOnTaken]
  (repeat' split)
  · exact woken
  · exact woken
  · exact woken
  · exact woken.trans (of_csq (by rfl) (by rfl))
  · exact woken.trans (of_csq (by rfl) (by rfl))
  · exact woken.trans (of_csq (by simp) (by simp))

theorem lampOffTaken (s : State) : KeepsGate s (lampOffTaken s).1 :=
  KeepsGate.trans (of_csq (by simp) (by simp)) (lampReports _)

theorem setLevelTaken (l f : Nat) (s : State) : KeepsGate s (setLevelTaken l f s).1 := by
  simp only [Machine.setLevelTaken]
  split
  · exact KeepsGate.trans (of_csq (by simp) (by simp)) (revealReplaced _)
  · exact of_csq (by simp) (by simp)

theorem setLevelByte (l f : Byte) (s : State) : KeepsGate s (setLevelByte l f s).1 := by
  unfold Machine.setLevelByte
  split
  · exact setLevelTaken _ _ _
  · exact refl s

theorem takeSample (r : Option Nat) (s : State) : KeepsGate s (takeSample r s) := by
  simp only [Machine.takeSample]
  exact KeepsGate.trans (of_csq (by simp) (by simp)) (lampReports _)

end KeepsGate

/-! ## The gate record -/

/-- The part of `GateSound` that says nothing of the phase. -/
def OriginSound (s : State) : Prop :=
  (s.csq.gate = .empty → s.csq.origin = none) ∧ (s.csq.origin ≠ none → s.tru.position = s.csq.origin)

theorem GateSound.origin {s : State} (h : GateSound s) : OriginSound s := ⟨h.1, h.2.1⟩

theorem OriginSound.of_eq {s t : State} (h : OriginSound s) (hg : t.csq.gate = s.csq.gate)
    (ho : t.csq.origin = s.csq.origin) (hp : t.tru.position = s.tru.position) : OriginSound t := by
  rw [OriginSound, hg, ho, hp]
  exact h

/-- Outside INDEXING the origin is all that matters. -/
theorem OriginSound.gateSound {s t : State} (h : OriginSound s) (hg : t.csq.gate = s.csq.gate)
    (ho : t.csq.origin = s.csq.origin) (hp : t.tru.position = s.tru.position) (hs : t.csq.state ≠ .indexing) :
    GateSound t := by
  obtain ⟨hempty, hposition⟩ := h.of_eq hg ho hp
  exact ⟨hempty, hposition, fun h => absurd h hs⟩

/-- With no origin the record is sound. -/
theorem OriginSound.of_none {s : State} (h : s.csq.origin = none) : OriginSound s :=
  ⟨fun _ => h, fun hne => absurd h hne⟩

/-- Under an EMPTY gate with no origin every position and phase is sound. -/
theorem GateSound.of_empty {s : State} (hg : s.csq.gate = .empty) (ho : s.csq.origin = none) : GateSound s :=
  ⟨fun _ => ho, fun h => absurd ho h, fun _ => hg⟩

/-- A slide that stands where the tray stands is sound. -/
theorem OriginSound.here {s : State} (hg : s.csq.gate ≠ .empty) (ho : s.csq.origin = s.tru.position) : OriginSound s :=
  ⟨fun h => absurd h hg, fun _ => ho.symm⟩

theorem KeepsGate.sound {s t : State} (k : KeepsGate s t) (h : GateSound s) : GateSound t := by
  obtain ⟨hempty, hposition⟩ := h.origin.of_eq k.gate k.origin k.position
  exact ⟨hempty, hposition, fun ht => k.gate.trans ((k.indexing ht).elim h.2.2 id)⟩

theorem GateSound.of_csq {s t : State} (h : GateSound s) (hcsq : t.csq = s.csq)
    (hpos : t.tru.position = s.tru.position) : GateSound t := (KeepsGate.of_csq hcsq hpos).sound h

theorem GateSound.of_state {s t : State} (h : GateSound s) (hg : t.csq.gate = s.csq.gate)
    (ho : t.csq.origin = s.csq.origin) (hp : t.tru.position = s.tru.position) (hs : t.csq.state = s.csq.state) :
    GateSound t := (KeepsGate.of_state hg ho hp hs).sound h

theorem GateSound.removeCause {s : State} (h : GateSound s) (c : Cause) : GateSound (removeCause c s) :=
  h.of_csq (by simp) (by simp)

theorem GateSound.finish {s : State} (h : GateSound s) : GateSound (finish s) := h.of_csq (by simp) (by simp)

theorem OriginSound.enterRevealing {s : State} (h : OriginSound s) : GateSound (enterRevealing s) := by
  have withdrawn : OriginSound (if s.lmc.claim = .none then s else setLmc (Lmc.reveal · (revealFade s.csq)) s) := by
    split <;> exact h
  simp only [Machine.enterRevealing]
  exact (KeepsGate.revealCheck _).sound (withdrawn.gateSound (by rfl) (by rfl) (by rfl) (by simp [setCsq]))

theorem OriginSound.enterJammed {s : State} (h : OriginSound s) (c : StopCause) : GateSound (enterJammed c s) :=
  h.gateSound (by simp) (by simp) (by simp) (by simp [KeepsGate.enterJammed_state])

/-- A stall leaves the tray at no position: the gate has no origin (02 R34). -/
theorem enterStalled_gateSound {s : State} (h : s.csq.origin = none) (c : StopCause) : GateSound (enterStalled c s) := by
  have none : OriginSound (enterStalled c s) := .of_none (by simpa using h)
  exact none.gateSound rfl rfl rfl (by simp [KeepsGate.enterStalled_state])

/-! ### Lift and drop -/

theorem GateSound.liftDone {s : State} (h : GateSound s) : GateSound (liftDone s) := by
  have clear : GateSound (setGate .empty none s) := .of_empty rfl rfl
  simp only [Machine.liftDone]
  (repeat' split)
  · exact .of_empty rfl rfl
  · exact .of_empty (by simp [setGate]) (by simp [setGate])
  · exact .of_empty rfl rfl
  · exact .of_empty rfl rfl
  · exact .of_empty (by simp [setGate]) (by simp [setGate])
  · exact h

theorem GateSound.dropFails {s : State} (b : Bool) : GateSound (dropFails b s) := by
  have caught : OriginSound (setGate .partway s.tru.position (Machine.jamReport s)) :=
    .here nofun (by simp [setGate, setCsq])
  simp only [Machine.dropFails]
  (repeat' split)
  · exact caught.gateSound rfl rfl rfl nofun
  · exact caught.enterJammed _
  · exact caught.enterJammed _

theorem liftFails_gateSound (s : State) : GateSound (liftFails s) := by
  simp only [liftFails]
  refine OriginSound.enterJammed ?_ _
  split
  · exact .of_none rfl
  · exact .here nofun (by simp [setGate, setCsq])
  · exact .here nofun (by simp [setGate, setCsq])

theorem GateSound.liftLimit {s : State} (h : GateSound s) : GateSound (liftLimit s) := by
  unfold Machine.liftLimit
  (repeat' split)
  · exact h
  · exact liftFails_gateSound s
  · exact GateSound.dropFails _
  · exact h.origin.enterJammed _
  · exact h

theorem dropLands_gateSound (s : State) : GateSound (dropLands s) := by
  refine OriginSound.enterRevealing (OriginSound.here ?_ ?_) <;> simp [setGate, setCsq]

theorem GateSound.dropLimit {s : State} (h : GateSound s) : GateSound (dropLimit s) := by
  unfold Machine.dropLimit
  (repeat' split)
  · exact dropLands_gateSound s
  · exact OriginSound.enterRevealing (.of_none (by simp [setGate]))
  · exact h
  · exact GateSound.dropFails _

/-! ### The tray -/

/-- The tray is driven in INDEXING only. -/
theorem driveStep_some {s : State} {f : Nat → Nat} (h : driveStep s = some f) : s.csq.state = .indexing := by
  simp only [driveStep] at h
  (repeat' split at h)
  · next hd =>
    simp only [Csq.tdf, Bool.and_eq_true, decide_eq_true_eq] at hd
    exact hd.1
  · next hd =>
    simp only [Csq.tdr, Bool.and_eq_true, decide_eq_true_eq] at hd
    exact hd.1
  · cases h

theorem positionReport_gateSound {s : State} (hg : s.csq.gate = .empty) (ho : s.csq.origin = none) :
    GateSound (positionReport s) := .of_empty (by simpa using hg) (by simpa using ho)

theorem GateSound.indexPulse {s : State} (h : GateSound s) : GateSound (indexPulse s) := by
  have driven : ∀ f, driveStep s = some f → s.csq.gate = .empty ∧ s.csq.origin = none := fun f hf =>
    have hg := h.2.2 (driveStep_some hf)
    ⟨hg, h.1 hg⟩
  unfold Machine.indexPulse
  (repeat' split)
  · exact h
  · exact h.of_state (by simp) (by simp) (by simp) (by simp)
  · next hf _ _ => exact enterStalled_gateSound (by simpa using (driven _ hf).2) _
  · next hf _ _ => exact positionReport_gateSound (driven _ hf).1 (driven _ hf).2

theorem GateSound.homePulse {s : State} (h : GateSound s) : GateSound (homePulse s) := by
  have driven : ∀ f, driveStep s = some f → s.csq.gate = .empty ∧ s.csq.origin = none := fun f hf =>
    have hg := h.2.2 (driveStep_some hf)
    ⟨hg, h.1 hg⟩
  simp only [Machine.homePulse]
  (repeat' split)
  · exact h
  · next hf _ => exact positionReport_gateSound (driven _ hf).1 (driven _ hf).2
  · next hf _ _ => exact positionReport_gateSound (driven _ hf).1 (driven _ hf).2
  · next hf _ _ => exact positionReport_gateSound (by simpa using (driven _ hf).1) (by simpa using (driven _ hf).2)

theorem GateSound.followSensors {s : State} (h : GateSound s) (o : Sensed) : GateSound (followSensors o s) := by
  have idle : s.csq.state = .idle → s.csq.state ≠ .indexing := fun e => by simp [e]
  simp only [Machine.followSensors]
  split
  · exact h
  · split
    · next hi =>
      split
      · exact .of_empty rfl rfl
      · by_cases he : s.csq.gate = .empty
        · rw [if_pos he]
          exact OriginSound.gateSound (.of_none rfl) rfl rfl rfl (idle hi.1)
        · rw [if_neg he]
          exact OriginSound.gateSound (s := setGate .seated s.csq.origin s) ⟨nofun, h.2.1⟩ rfl rfl rfl (idle hi.1)
      · exact OriginSound.gateSound (s := setGate .partway s.csq.origin s) ⟨nofun, h.2.1⟩ rfl rfl rfl (idle hi.1)
    · split
      · exact .of_empty rfl rfl
      · exact h

theorem lossToJam_gateSound {s : State} (h : s.csq.origin = none) : GateSound (lossToJam s) := by
  have none : OriginSound (lossToJam s) := .of_none (by simpa using h)
  exact none.gateSound rfl rfl rfl (by simp [lossToJam])

theorem lossToIdle_gateSound {s : State} (h : s.csq.origin = none) : GateSound (lossToIdle s) := by
  simp only [lossToIdle]
  refine (KeepsGate.startPending _).sound ?_
  split
  all_goals
    refine OriginSound.gateSound (.of_none ?_) rfl rfl rfl ?_
    · split <;> simpa using h
    · simp

theorem removeTray_gateSound {s : State} (h : GateSound s) : GateSound (removeTray s) := by
  simp only [removeTray]
  split
  · simp only [trayLost]
    (repeat' split)
    · exact lossToJam_gateSound rfl
    · exact lossToIdle_gateSound rfl
    · next hactive =>
      refine OriginSound.gateSound (.of_none rfl) rfl rfl rfl fun hi => hactive ?_
      rw [show (setTprs false s).csq.state = .indexing from hi]
      rfl
  · exact h

/-! ### CLEAR JAM and the resets -/

theorem GateSound.clearJamAt {s : State} (h : GateSound s) : GateSound (clearJamAt s).1 := by
  simp only [Machine.clearJamAt]
  (repeat' split)
  · exact h
  · exact h
  · exact h
  · exact (KeepsGate.startPending _).sound (.of_empty (by simp [setGate]) (by simp [setGate]))
  · refine GateSound.removeCause (OriginSound.enterRevealing (.here ?_ ?_)) _ <;> simp [setGate, setCsq]
  · exact h

theorem atReset_state (q : Csq) (d : Sensed) (k : Bool) (v : SeqSettings) : (q.atReset d k v).state ≠ .indexing := by
  cases d <;> exact nofun

theorem atReset_originSound {q : Csq} {d : Sensed} {k : Bool} {v : SeqSettings} {p : Option Nat}
    (h : k = true → q.origin ≠ none → p = q.origin) :
    ((q.atReset d k v).gate = .empty → (q.atReset d k v).origin = none) ∧
      ((q.atReset d k v).origin ≠ none → p = (q.atReset d k v).origin) := by
  cases d with
  | clear => exact ⟨fun _ => rfl, fun h => absurd rfl h⟩
  | partway => exact ⟨nofun, fun h => absurd rfl h⟩
  | seated =>
    refine ⟨nofun, ?_⟩
    cases k with
    | true => exact h rfl
    | false => exact fun h => absurd rfl h

theorem powerOn_gateSound (k : Bool) (s : State) : GateSound (powerOn k s) := by
  obtain ⟨hempty, hposition⟩ := atReset_originSound (q := (abandonStore s).csq) (d := (abandonStore s).pins.sensed)
    (v := ((imageRead k (abandonStore s).mem).getD .builtIn).seq) (p := none) (k := false) nofun
  exact ⟨hempty, hposition, fun h => absurd h (atReset_state _ _ _ _)⟩

theorem GateSound.controlReset {s : State} (h : GateSound s) (k : Bool) : GateSound (controlReset k s) := by
  have hcsq : (lampReset (abandonStore s)).csq = s.csq := by simp
  have hpos : (lampReset (abandonStore s)).tru.position = s.tru.position := by simp
  generalize hu : lampReset (abandonStore s) = u at hcsq hpos
  have kept : (decide (u.csq.state = .idle) && decide (u.csq.gate = .seated)) = true → u.csq.origin ≠ none →
      (if u.csq.state = .indexing then none else u.tru.position) = u.csq.origin := by
    intro hk ho
    simp only [Bool.and_eq_true, decide_eq_true_eq] at hk
    rw [hk.1, if_neg nofun, hpos, hcsq]
    exact h.2.1 (hcsq ▸ ho)
  obtain ⟨hempty, hposition⟩ := atReset_originSound (d := u.pins.sensed)
    (v := ((imageRead k u.mem).getD .builtIn).seq) kept
  subst hu
  exact ⟨hempty, hposition, fun h => absurd h (atReset_state _ _ _ _)⟩

/-! ## Every command -/

theorem kept_gateSound : Kept GateSound where
  finish := fun _ h => h.finish
  idleZero := fun _ h => h.of_csq (by simp) (by simp)
  refusal := fun _ _ h => h.of_csq (by simp) (by simp)
  rmi := fun _ _ _ h => h.of_csq (by simp) (by simp)
  lkc := fun _ _ _ h => h.of_csq (by simp) (by simp)
  offer := fun _ _ _ _ h => h.of_csq (by simp) (by simp)
  change := fun _ _ _ _ _ h => (KeepsGate.changeRequest _ _ _ _ _).sound h
  halt := fun _ _ h => (KeepsGate.haltFrom _ _).sound h
  clearJam := fun _ h => h.clearJamAt
  lampOn := fun _ h => (KeepsGate.lampOnTaken _).sound h
  lampOff := fun _ h => (KeepsGate.lampOffTaken _).sound h
  level := fun _ _ _ h => (KeepsGate.setLevelByte _ _ _).sound h
  hold := fun _ _ h => h.of_csq (by simp) (by simp)
  resume := fun _ h => h.of_csq (by simp) (by simp)
  startShow := fun _ h => h.of_csq (by simp) (by simp)
  showStop := fun _ h => h.of_csq (by simp) (by simp)
  cue := fun _ _ _ h => h.of_csq (by simp) (by simp)
  standby := fun _ h => (KeepsGate.requestStandby _).sound h
  wake := fun _ h => (KeepsGate.wakeUp _).sound h

theorem GateSound.takeCue {s : State} (h : GateSound s) : GateSound (takeCue s) := by
  refine kept_gateSound.takeCue ?_ ?_ ?_ ?_ ?_ ?_ ?_ s h
  case refine_6 => exact fun _ _ _ h => (KeepsGate.setLevelTaken _ _ _).sound h
  all_goals
    intros
    rename_i h
    exact h.of_csq (by simp) (by simp)

theorem ite_keeps {P : State → Prop} {c : Prop} [Decidable c] {s t : State} (hs : P s) (ht : c → P t) :
    P (if c then t else s) := by
  split
  · next h => exact ht h
  · exact hs

/-- The commands that change CSQ with no request. -/
def movesCsq : Instr → Bool
  | .trayRemoval | .indexPulse | .homePulse | .gateSensorChange _ _ _ | .shutterClosed | .shutterTimeout
  | .shutterClosedLost | .shutterOpened | .liftSuccess | .liftTimeout | .liftRetryDropEnd | .stepTimeout | .dropSeated
  | .dropTimeout | .clearFaultShutter | .setSequencer _ _ _ | .tenureExpiry | .pendingChangeStart
  | .temperatureSample _ | .lampRampTick | .lampOpenDetect | .fanStallExpiry | .cueTake | .loadComplete _
  | .resetControl _ | .resetHold _ | .release _ | .powerOnReset _ => true
  | _ => false

/-- Every other command leaves CSQ and the tray's position as they stand. -/
theorem exec_csq {c : Instr} {s t : State} (hc : bringsRequest c = false) (hm : movesCsq c = false)
    (h : exec c s = .next t) : t.csq = s.csq ∧ t.tru.position = s.tru.position := by
  have hpos := exec_position c s t h
  cases c <;> (try exact absurd hc.symm Bool.false_ne_true) <;> (try exact absurd hm.symm Bool.false_ne_true) <;>
    refine ⟨?_, hpos⟩ <;> injection h with h <;> subst h
  all_goals
    (try simp only [panel, panelIn, setting, panelDeck, panelRequest, panelChange, reply, replyOk, Response.of]) <;>
      (repeat' split) <;> simp

/-- A property that the requests and the events of the transport keep. The reports of LMC come after a change of a
ramp, a trip, a failure and a sample; a pin follows its sensor while PORST is low. -/
structure Moved (P : State → Prop) : Prop extends Kept P where
  response : ∀ r s, P s → P (writeResponse r s)
  pins : ∀ (f : Pins → Pins) s, s.pins.porstLow = true → (f s.pins).porstLow = true → P s →
    P { s with pins := f s.pins }
  reading : ∀ n s, P s → P { s with tru := { s.tru with readingMs := n } }
  removeTray : ∀ s, P s → P (removeTray s)
  indexPulse : ∀ s, P s → P (indexPulse s)
  homePulse : ∀ s, P s → P (homePulse s)
  sensors : ∀ a b c o s, P s → P (followSensors o (setGatePins a b c s))
  shutterActive : ∀ s, P s → P (shutterActive s)
  shutterInactive : ∀ s, P s → P (shutterInactive s)
  shutterLimit : ∀ s, P s → P (shutterLimit s)
  clearShutter : ∀ s, P s → P (setCsq (fun q => { q with shutFault := false }) s)
  settings : ∀ v s, P s → P (setCsq (fun q => { q with cfg := v }) s)
  liftDone : ∀ s, P s → P (liftDone (setGatePins false true true s))
  liftLimit : ∀ s, P s → P (liftLimit s)
  liftAgain : ∀ s, s.csq.drive = .retryDrop → P s → P (setCsq (fun q => { q with drive := .lift, timerMs := 0 }) s)
  stepLimit : ∀ s, s.csq.state = .indexing → P s → P (enterStalled .stepLimit s)
  dropLands : ∀ s, P s → P (dropLands (setGatePins true false s.pins.liftUp s))
  dropLimit : ∀ s, s.csq.drive = .drop → P s → P (dropLimit s)
  tenure : ∀ s, P s → P (endTenure s)
  pending : ∀ s, P s → P (startPending s)
  sample : ∀ r s, P s → P (takeSample r s)
  lampReports : ∀ s, P s → P (lampReports s)
  lampStep : ∀ s, P s →
    P (setLmc (fun l => { l with ramp := { l.ramp with elapsed := l.ramp.elapsed + 1, ms := 0 } }) s)
  lampFails : ∀ s, P s → P (lampFails s)
  fanStalls : ∀ s, P s → P (setLmc (fun l => { l with fanStall := true, stallMs := Config.fanStallMs }) s)
  fanTrip : ∀ s, P s → P (takeTrip .fanStall false s)
  fanFault : ∀ s, P s → P (raiseFault .fanStall s)
  takeCue : ∀ s, P s → P (takeCue s)
  load : ∀ k s, P s → P (endLoad k s)
  reset : ∀ k s, P s → P (resetToRun k s)
  resetHold : ∀ k s, P s → P (setPower .resetHeld (controlReset k s))
  powerOn : ∀ k s, P s → P (powerOn k s)

/-- Such a property is kept by every command of `movesCsq`. -/
theorem Moved.exec {P : State → Prop} (M : Moved P) {c : Instr} {s t : State} (hm : movesCsq c = true)
    (h : exec c s = .next t) (hs : P s) : P t := by
  have K := M.toKept
  have pinned : ∀ {pin f : State → State}, (∀ u, u.pins.porstLow = true → P u → P (pin u)) →
      (∀ u, P u → P (f u)) → ∀ {s t}, runPin pin f s = .next t → P s → P t := by
    intro pin f hp hf s t h hs
    rw [runPin_eq_next_iff] at h
    subst h
    split
    · next hlow => exact hp _ hlow hs
    · exact K.finish _ (hf _ hs)
  have response : ∀ a b {f : State → Answer}, (∀ u, P u → P (f u).1) → ∀ u, P u → P (panelIn a b f u) :=
    fun a b _ hf => K.panelIn M.response a b hf
  cases c <;> (try exact absurd hm Bool.false_ne_true) <;>
    dsimp only [Machine.exec, execTrayRemoval, execIndexPulse, execHomePulse, execGateSensorChange, execShutterClosed,
      execShutterTimeout, execShutterClosedLost, execShutterOpened, execLiftSuccess, execLiftTimeout,
      execLiftRetryDropEnd, execStepTimeout, execDropSeated, execDropTimeout, execClearFaultShutter,
      execSetSequencer, execTenureExpiry, execPendingChangeStart, execTemperatureSample, execLampRampTick,
      execLampOpenDetect, execFanStallExpiry, execCueTake, execLoadComplete, execResetControl, execResetHold,
      execRelease, execPowerOnReset] at h
  case trayRemoval =>
    refine pinned (fun u hlow hu => ?_) M.removeTray h hs
    exact M.reading 0 _ (M.pins (fun p => { p with tprs := false }) u hlow hlow hu)
  case indexPulse => exact K.of_run M.indexPulse h hs
  case homePulse => exact K.of_run M.homePulse h hs
  case gateSensorChange a b c =>
    refine pinned (fun u hlow hu => ?_) (fun u hu => M.sensors a b c _ u hu) h hs
    exact M.pins (fun p => { p with seat := a, clear := b, liftUp := c }) u hlow hlow hu
  case shutterClosed =>
    exact pinned (fun u hlow hu => M.pins (fun p => { p with shcl := true }) u hlow hlow hu) M.shutterActive h hs
  case shutterTimeout => exact K.of_run M.shutterLimit h hs
  case shutterClosedLost =>
    exact pinned (fun u hlow hu => M.pins (fun p => { p with shcl := false }) u hlow hlow hu) M.shutterInactive h hs
  case shutterOpened =>
    exact pinned (fun u hlow hu => M.pins (fun p => { p with shcl := false }) u hlow hlow hu) M.shutterInactive h hs
  case liftSuccess =>
    refine K.of_run ?_ h hs
    exact fun u hu => ite_keeps hu fun _ => M.liftDone u hu
  case liftTimeout => exact K.of_run M.liftLimit h hs
  case liftRetryDropEnd =>
    refine K.of_run ?_ h hs
    exact fun u hu => ite_keeps hu fun hd => M.liftAgain u hd hu
  case stepTimeout =>
    refine K.of_run ?_ h hs
    exact fun u hu => ite_keeps hu fun hi => M.stepLimit u hi hu
  case dropSeated =>
    refine K.of_run ?_ h hs
    exact fun u hu => ite_keeps hu fun _ => M.dropLands u hu
  case dropTimeout =>
    refine K.of_run ?_ h hs
    exact fun u hu => ite_keeps hu fun hd => M.dropLimit u hd hu
  case clearFaultShutter => exact Kept.of_quiet (response false false M.clearShutter) h hs
  case setSequencer m a r =>
    refine Kept.of_quiet (response false false fun u hu => ?_) h hs
    unfold setting
    split
    · exact M.settings _ u hu
    · exact hu
  case tenureExpiry =>
    refine K.of_run ?_ h hs
    exact fun u hu => ite_keeps hu fun _ => M.pending _ (M.tenure u hu)
  case pendingChangeStart => exact K.of_run M.pending h hs
  case temperatureSample r => exact K.of_run (M.sample r) h hs
  case lampRampTick =>
    refine K.of_run ?_ h hs
    exact fun u hu => ite_keeps hu fun _ => M.lampReports _ (M.lampStep u hu)
  case lampOpenDetect =>
    refine K.of_run ?_ h hs
    exact fun u hu => ite_keeps hu fun _ => M.lampReports _ (M.lampFails u hu)
  case fanStallExpiry =>
    refine K.of_run ?_ h hs
    refine fun u hu => ite_keeps hu fun _ => ?_
    split
    · exact M.lampReports _ (M.fanTrip _ (M.fanStalls u hu))
    · exact M.fanFault _ (M.fanStalls u hu)
  case cueTake => exact K.of_run M.takeCue h hs
  case loadComplete k =>
    refine K.of_run ?_ h hs
    exact fun u hu => ite_keeps hu fun _ => M.load k u hu
  case resetControl k => exact K.of_run (response true false (M.reset k)) h hs
  case resetHold k => exact K.of_run (response true false (M.resetHold k)) h hs
  case release k =>
    refine K.of_run (response false true ?_) h hs
    exact fun u hu => ite_keeps hu fun _ => M.reset k u hu
  case powerOnReset k =>
    injection h with h
    exact h ▸ K.finish _ (M.powerOn k s hs)

theorem moved_gateSound : Moved GateSound where
  toKept := kept_gateSound
  response := fun _ _ h => h
  pins := fun _ _ _ _ h => h
  reading := fun _ _ h => h
  removeTray := fun _ h => removeTray_gateSound h
  indexPulse := fun _ h => h.indexPulse
  homePulse := fun _ h => h.homePulse
  sensors := fun a b c o s h => GateSound.followSensors (s := setGatePins a b c s) h o
  shutterActive := fun s => (KeepsGate.shutterActive s).sound
  shutterInactive := fun s => (KeepsGate.shutterInactive s).sound
  shutterLimit := fun s => (KeepsGate.shutterLimit s).sound
  clearShutter := fun _ h => h
  settings := fun _ _ h => h
  liftDone := fun s h => GateSound.liftDone (s := setGatePins _ _ _ s) h
  liftLimit := fun _ h => h.liftLimit
  liftAgain := fun _ _ h => h
  stepLimit := fun _ hi h => enterStalled_gateSound (h.1 (h.2.2 hi)) _
  dropLands := fun _ _ => dropLands_gateSound _
  dropLimit := fun _ _ h => h.dropLimit
  tenure := fun _ h => h
  pending := fun s => (KeepsGate.startPending s).sound
  sample := fun r s => (KeepsGate.takeSample r s).sound
  lampReports := fun s => (KeepsGate.lampReports s).sound
  lampStep := fun _ h => h
  lampFails := fun _ h => h.of_csq (by simp) (by simp)
  fanStalls := fun _ h => h
  fanTrip := fun _ h => h.of_csq (by simp) (by simp)
  fanFault := fun _ h => h.of_csq (by simp) (by simp)
  takeCue := fun _ h => h.takeCue
  load := fun _ _ h => h.of_state (by simp) (by simp) (by simp) (by simp)
  reset := fun k _ h => (h.controlReset k).of_csq (by simp [resetToRun]) (by simp [resetToRun])
  resetHold := fun k _ h => (h.controlReset k).of_csq (by simp) (by simp)
  powerOn := fun k s _ => powerOn_gateSound k s

theorem exec_gateSound (c : Instr) (s t : State) (h : exec c s = .next t) (hs : GateSound s) : GateSound t := by
  cases hc : bringsRequest c with
  | true => exact kept_gateSound.signal hc (fun _ _ _ h => h) (fun l _ _ _ h => by cases l <;> exact h) h hs
  | false =>
    cases hm : movesCsq c with
    | true => exact moved_gateSound.exec hm h hs
    | false =>
      obtain ⟨hcsq, hpos⟩ := exec_csq hc hm h
      exact hs.of_csq hcsq hpos

theorem tick_gateSound (s : State) (hs : GateSound s) : GateSound (tick s) := by
  refine hs.of_state ?_ ?_ ?_ ?_ <;> (simp only [tick, tickCsq, tickTru]; (repeat' split) <;> rfl)

/-- Settles O8: INDEXING is entered under an EMPTY gate only (`KeepsGate`), and every command that writes the gate record
writes the origin NONE or the tray's position. -/
theorem seatedOriginIsThePosition : Obligations.SeatedOriginIsThePosition :=
  step_keeps (fun _ _ h => h) exec_gateSound tick_gateSound

end Sys2Proof.Machine
end

section
/-! The mechanism moves in the dark (O9): what each operation of CSQ makes of `DarkWhileMoving`. -/

namespace Sys2Proof.Machine
open Sys2Proof

/-- The end of a change leaves nothing in flight; CSQ's other records stand. -/
@[simp] theorem changeEnd_csq (o : ChangeOutcome) (p : FinalPos) (s : State) :
    (changeEnd o p s).csq = { s.csq with flight := none } := by
  simp only [changeEnd]
  split
  · next hf => rw [← hf]
  · (repeat' split) <;> simp

@[simp] theorem releaseBlanking_shutMs (fade : Nat) (s : State) : (releaseBlanking fade s).csq.shutMs = none := by
  simp [releaseBlanking]

@[simp] theorem endCooling_claim (s : State) : (endCooling s).lmc.claim = s.lmc.claim := by
  simp only [endCooling, setLmc]
  (repeat' split) <;> rfl

@[simp] theorem runningUp_pins (s : State) : (runningUp s).pins = s.pins := by
  simp only [runningUp]
  (repeat' split) <;> simp

@[simp] theorem endActive_pins (s : State) : (endActive s).pins = s.pins := by
  unfold endActive
  split <;> simp

@[simp] theorem runningDown_pins (s : State) : (runningDown s).pins = s.pins := by
  unfold runningDown
  (repeat' split) <;> simp

theorem deckEdge_pins (a b : Bool) (s : State) :
    (deckEdge a b s).pins = { s.pins with running := a, tapeEnd := b } := by
  simp only [deckEdge]
  (repeat' split) <;> simp <;> rfl

theorem endStop_pins (a b : Bool) (s : State) : (endStop a b s).pins = { s.pins with fsi := a, fso := b } := by
  simp only [endStop]
  split <;> simp <;> rfl

/-! ## The phases of a change -/

/-- The blanking of a change that may move: the hold, or the shutter of a SHUTTER change closed by command and
sensor. -/
def Blanked (s : State) : Prop :=
  s.lmc.claim = .hold ∨ (s.csq.shutClosed = true ∧ s.csq.shutterBlanked = true ∧ s.pins.shcl = true)

namespace DarkWhileMoving

/-- No change is in flight and nothing is driven. -/
theorem of_rest {s : State} (hs : s.csq.state.active = false) (hf : s.csq.flight = none) (hd : s.csq.drive = .none)
    (hm : s.csq.shutMs = none) : DarkWhileMoving s := by
  refine ⟨fun _ => hf, fun h => absurd hd h, fun h => absurd hm h, .inr fun hmoving => ?_⟩
  rcases hmoving with h | h | h <;> rw [h] at hs <;> cases hs

theorem of_revealing {s : State} (hs : s.csq.state = .revealing) (hd : s.csq.drive = .none) : DarkWhileMoving s := by
  refine ⟨?_, fun h => absurd hd h, fun _ => .inl hs, .inr ?_⟩ <;> simp [hs, SeqState.active, Moving]

theorem of_blanking {s : State} (hs : s.csq.state = .blanking) (hd : s.csq.drive = .none)
    (hm : s.csq.shutMs ≠ none → s.csq.shutClosed = true ∧ s.csq.shutterBlanked = true) : DarkWhileMoving s := by
  refine ⟨?_, fun h => absurd hd h, fun h => .inr ⟨hs, hm h⟩, .inr ?_⟩ <;> simp [hs, SeqState.active, Moving]

theorem of_moving {s : State} (hs : Moving s.csq)
    (hd : s.csq.drive ≠ .none → s.csq.state = .lifting ∨ s.csq.state = .dropping)
    (hm : s.csq.shutMs = none) (hb : s.pins.porstLow = true ∨ Blanked s) : DarkWhileMoving s := by
  refine ⟨fun h => ?_, hd, fun h => absurd hm h, hb.imp_right fun h _ => h⟩
  rcases hs with hs | hs | hs <;> rw [hs] at h <;> cases h

theorem of_eq {s t : State} (h : DarkWhileMoving s) (hcsq : t.csq = s.csq) (hclaim : t.lmc.claim = s.lmc.claim)
    (hshcl : t.pins.shcl = s.pins.shcl) (hporst : t.pins.porstLow = s.pins.porstLow) : DarkWhileMoving t := by
  rw [DarkWhileMoving, hcsq, hclaim, hshcl, hporst]
  exact h

theorem of_pins {s t : State} (h : DarkWhileMoving s) (hcsq : t.csq = s.csq) (hclaim : t.lmc.claim = s.lmc.claim)
    (hpins : t.pins = s.pins) : DarkWhileMoving t := h.of_eq hcsq hclaim (by rw [hpins]) (by rw [hpins])

theorem removeCause {s : State} (h : DarkWhileMoving s) (c : Cause) : DarkWhileMoving (removeCause c s) :=
  h.of_pins (by simp) (by simp) (by simp)

/-- What the property reads of a state. -/
theorem of_fields {s t : State} (h : DarkWhileMoving s) (hstate : t.csq.state = s.csq.state)
    (hflight : t.csq.flight = s.csq.flight) (hdrive : t.csq.drive = s.csq.drive)
    (hm : t.csq.shutMs = none ↔ s.csq.shutMs = none) (hclosed : t.csq.shutClosed = s.csq.shutClosed)
    (hclaim : t.lmc.claim = s.lmc.claim) (hpins : t.pins = s.pins) : DarkWhileMoving t := by
  have hblanked : t.csq.shutterBlanked = s.csq.shutterBlanked := by rw [Csq.shutterBlanked, hflight]; rfl
  obtain ⟨hf, hd, hs, hdark⟩ := h
  rw [DarkWhileMoving, Moving, hstate, hflight, hdrive, hclosed, hclaim, hpins, hblanked]
  exact ⟨hf, hd, fun hne => hs fun hn => hne (hm.mpr hn), hdark⟩

/-- The facts of a moving phase. -/
theorem moving {s : State} (h : DarkWhileMoving s) (hs : Moving s.csq) :
    s.csq.shutMs = none ∧ (s.pins.porstLow = true ∨ Blanked s) := by
  obtain ⟨-, -, hshut, hdark⟩ := h
  refine ⟨?_, hdark.imp_right fun h => h hs⟩
  by_contra hm
  rcases hs with hs | hs | hs <;> simp [hs] at hshut <;> exact hm hshut

theorem of_drive {s : State} (h : DarkWhileMoving s) (hd : s.csq.drive ≠ .none) : Moving s.csq :=
  (h.2.1 hd).elim .inl fun hs => .inr (.inr hs)

/-- A phase that moves goes over to another under the same blanking. -/
theorem onward {s t : State} (h : DarkWhileMoving s) (hs : Moving s.csq) (ht : Moving t.csq)
    (hd : t.csq.drive ≠ .none → t.csq.state = .lifting ∨ t.csq.state = .dropping)
    (hm : t.csq.shutMs = s.csq.shutMs) (hclosed : t.csq.shutClosed = s.csq.shutClosed)
    (hblanked : t.csq.shutterBlanked = s.csq.shutterBlanked) (hclaim : t.lmc.claim = s.lmc.claim)
    (hpins : t.pins = s.pins) : DarkWhileMoving t := by
  obtain ⟨hshut, hdark⟩ := h.moving hs
  refine of_moving ht hd (hm.trans hshut) ?_
  rw [Blanked, hclosed, hblanked, hclaim, hpins]
  exact hdark

/-! ### The end of BLANKING and the start of a change -/

theorem toTarget {s : State} (hs : Moving s.csq ∨ s.csq.state = .blanking) (hd : s.csq.drive = .none)
    (hm : s.csq.shutMs = none) (hb : s.pins.porstLow = true ∨ Blanked s) : DarkWhileMoving (toTarget s) := by
  unfold Machine.toTarget
  (repeat' split)
  · exact of_moving (.inr (.inr rfl)) (fun _ => .inr rfl) hm hb
  · exact of_moving (.inr (.inl rfl)) (fun h => absurd rfl h) hm hb
  · rcases hs with hs | hs
    · exact of_moving hs (fun h => absurd hd h) hm hb
    · exact of_blanking hs hd fun h => absurd hm h

theorem blankingEnd {s : State} (h : s.csq.state = .blanking → s.csq.drive = .none ∧ Blanked s)
    (hs : s.csq.state ≠ .blanking → DarkWhileMoving s) : DarkWhileMoving (blankingEnd s) := by
  simp only [Machine.blankingEnd]
  split
  · next hstate =>
    obtain ⟨hd, hb⟩ := h hstate
    split
    · exact DarkWhileMoving.toTarget (s := setCsq _ s) (.inr hstate) hd rfl (.inr hb)
    · exact of_moving (.inl rfl) (fun _ => .inl rfl) rfl (.inr hb)
  · next hstate => exact hs hstate

theorem startBlanking {f : Flight} {s : State} (hf : s.csq.flight = some f) (hd : s.csq.drive = .none)
    (hm : s.csq.shutMs = none) : DarkWhileMoving (startBlanking f s) := by
  simp only [Machine.startBlanking]
  split
  · split
    · exact blankingEnd (fun _ => ⟨hd, .inl rfl⟩) fun h => absurd rfl h
    · exact of_blanking rfl hd fun h => absurd hm h
  · next hdim =>
    have blanked : ∀ t : State, t.csq.flight = s.csq.flight → t.csq.shutterBlanked = true := by
      intro t ht
      simp [Csq.shutterBlanked, ht, hf, hdim]
    split
    · next hshcl => exact blankingEnd (fun _ => ⟨hd, .inr ⟨rfl, blanked _ rfl, hshcl⟩⟩) fun h => absurd rfl h
    · exact of_blanking rfl hd fun _ => ⟨rfl, blanked _ rfl⟩

theorem startChange {s : State} (h : DarkWhileMoving s) (hs : s.csq.state = .idle ∨ s.csq.state = .stalled)
    (src : Source) (k : ChangeKind) (t fade : Nat) : DarkWhileMoving (startChange src k t fade s) := by
  have hm : s.csq.shutMs = none := by
    obtain ⟨-, -, hshut, -⟩ := h
    by_contra hm
    rcases hs with hs | hs <;> simp [hs] at hshut <;> exact hm hshut
  have left :
      (if s.csq.state = .stalled then Machine.removeCause .transport (endTenure s) else endTenure s).csq.shutMs
        = none := by
    split <;> simpa using hm
  simp only [Machine.startChange]
  exact startBlanking rfl rfl left

theorem startPending {s : State} (h : DarkWhileMoving s) : DarkWhileMoving (startPending s) := by
  simp only [Machine.startPending]
  (repeat' split)
  · exact h
  · exact h
  · exact h.of_pins (by simp) (by simp) (by simp)
  all_goals
    next w hw hready _ _ _ _ =>
      have can : canStart w.kind s = true := by
        simp only [pendingReady, hw, Bool.not_eq_false, Bool.and_eq_true] at hready
        exact hready.1
      simp only [canStart, Bool.and_eq_true, Bool.or_eq_true, decide_eq_true_eq] at can
      refine startChange (of_pins h (by rfl) (by rfl) (by rfl)) ?_ _ _ _ _
      exact can.2.imp_right And.left

/-! ### Reveals, jams and stalls -/

theorem endReveal (s : State) : DarkWhileMoving (endReveal s) := by
  simp only [Machine.endReveal]
  refine startPending ?_
  split
  · exact of_rest (by simp [SeqState.active]) (by simp) (by simp) (by simp)
  · next hf => exact of_rest (by simp [SeqState.active]) (by simpa using hf) (by simp) (by simp)

theorem revealCheck {s : State} (h : DarkWhileMoving s) : DarkWhileMoving (revealCheck s) := by
  unfold Machine.revealCheck
  split
  · exact endReveal s
  · exact h

theorem enterRevealing (s : State) : DarkWhileMoving (enterRevealing s) := by
  simp only [Machine.enterRevealing]
  exact revealCheck (of_revealing rfl rfl)

theorem enterJammed (c : StopCause) (s : State) : DarkWhileMoving (enterJammed c s) := by
  refine of_rest ?_ ?_ ?_ ?_ <;> simp [Machine.enterJammed, SeqState.active]

theorem enterStalled {s : State} (h : s.csq.shutMs = none) (c : StopCause) : DarkWhileMoving (enterStalled c s) := by
  refine of_rest ?_ ?_ ?_ ?_ <;> simp [Machine.enterStalled, SeqState.active, h]

/-! ### Lift and drop -/

/-- The actuator's command changes within a phase that drives it. -/
theorem driven {s : State} (h : DarkWhileMoving s) (hd : s.csq.drive ≠ .none) {t : State}
    (hstate : t.csq.state = s.csq.state) (hflight : t.csq.flight = s.csq.flight) (hm : t.csq.shutMs = s.csq.shutMs)
    (hclosed : t.csq.shutClosed = s.csq.shutClosed) (hclaim : t.lmc.claim = s.lmc.claim) (hpins : t.pins = s.pins) :
    DarkWhileMoving t := by
  refine h.onward (h.of_drive hd) ?_ (fun _ => ?_) hm hclosed ?_ hclaim hpins
  · rw [Moving, hstate]
    exact h.of_drive hd
  · rw [hstate]
    exact h.2.1 hd
  · rw [Csq.shutterBlanked, hflight]
    rfl

theorem skipOn {s : State} (h : DarkWhileMoving s) (hs : Moving s.csq) (hd : s.csq.drive = .none) :
    DarkWhileMoving (skipOn s) := by
  simp only [Machine.skipOn]
  split
  · exact h
  · next f hf =>
    (repeat' split)
    · exact enterRevealing s
    · refine h.onward hs (.inr (.inl rfl)) (fun h => absurd rfl h) rfl rfl ?_ rfl rfl
      simp [enterIndexing, setCsq, Csq.shutterBlanked, hf]
    · exact enterJammed _ s

theorem liftDone {s : State} (h : DarkWhileMoving s) : DarkWhileMoving (liftDone s) := by
  simp only [Machine.liftDone]
  split
  · next hd =>
    have hs := h.of_drive (by simp [hd])
    obtain ⟨hm, hb⟩ := h.moving hs
    have rest : DarkWhileMoving (setCsq (fun q => { q with drive := .none }) (setGate .empty none s)) :=
      of_moving hs (fun h => absurd rfl h) hm hb
    (repeat' split)
    · exact h.onward hs (.inr (.inr rfl)) (fun _ => .inr rfl) rfl rfl rfl rfl rfl
    · exact toTarget (.inl hs) rfl hm hb
    · exact rest
  · next hd => exact h.driven (by simp [hd]) rfl rfl rfl rfl rfl rfl
  · next hd =>
    have hs := h.of_drive (by simp [hd])
    obtain ⟨hm, hb⟩ := h.moving hs
    exact skipOn (of_moving hs (fun h => absurd rfl h) hm hb) hs rfl
  · exact h

theorem dropFails {s : State} (h : DarkWhileMoving s) (hs : Moving s.csq) (b : Bool) :
    DarkWhileMoving (dropFails b s) := by
  simp only [Machine.dropFails]
  (repeat' split)
  · exact h.onward hs (.inl rfl) (fun _ => .inl rfl) (by simp [setGate, setCsq]) (by simp [setGate, setCsq])
      (by simp [setGate, setCsq, Csq.shutterBlanked]) (by simp [setGate]) (by simp [setGate])
  · exact enterJammed _ _
  · exact enterJammed _ _

theorem liftLimit {s : State} (h : DarkWhileMoving s) : DarkWhileMoving (liftLimit s) := by
  unfold Machine.liftLimit
  split
  · next hd =>
    split
    · exact h.driven (by simp [hd]) rfl rfl rfl rfl rfl rfl
    · exact enterJammed _ _
  · next hd => exact h.dropFails (h.of_drive (by simp [hd])) _
  · exact enterJammed _ _
  · exact h

theorem dropLimit {s : State} (h : DarkWhileMoving s) (hd : s.csq.drive = .drop) : DarkWhileMoving (dropLimit s) := by
  unfold Machine.dropLimit
  (repeat' split)
  · exact enterRevealing _
  · exact enterRevealing _
  · exact h.driven (by simp [hd]) rfl rfl rfl rfl rfl rfl
  · exact h.dropFails (h.of_drive (by simp [hd])) _

/-! ### The tray -/

theorem positionReport {s : State} (h : DarkWhileMoving s) : DarkWhileMoving (positionReport s) := by
  unfold Machine.positionReport
  split
  · next hs _ =>
    split
    · exact h.onward (.inr (.inl hs)) (.inr (.inr rfl)) (fun _ => .inr rfl) rfl rfl rfl rfl rfl
    · exact h
  · exact h

theorem indexPulse {s : State} (h : DarkWhileMoving s) : DarkWhileMoving (indexPulse s) := by
  unfold Machine.indexPulse
  (repeat' split)
  · exact h
  · unfold restartStep
    split <;> exact h
  · next hf _ _ =>
    have hm : s.csq.shutMs = none := (h.moving (.inr (.inl (driveStep_some hf)))).1
    exact enterStalled (by simpa using hm) _
  · exact positionReport (s := setPosition _ s) h

theorem homePulse {s : State} (h : DarkWhileMoving s) : DarkWhileMoving (homePulse s) := by
  simp only [Machine.homePulse]
  (repeat' split)
  · exact h
  · exact positionReport (s := setPosition _ s) h
  · exact positionReport (s := setPosition _ s) h
  · exact positionReport (of_pins h (by simp) (by simp) (by simp))

theorem lossToIdle (s : State) : DarkWhileMoving (lossToIdle s) := by
  have ended : ∀ u : State, u.csq.flight = none → ∀ d,
      DarkWhileMoving (if s.csq.state = .revealing then
        endOfReveal (setCsq (fun q => { q with shutMs := none }) (setLmc (fun l => { l with owed := false })
          (setCsq (fun q => { q with state := .idle, drive := .none, timerMs := 0, retry := 0 }) u)))
      else releaseBlanking d
        (setCsq (fun q => { q with state := .idle, drive := .none, timerMs := 0, retry := 0 }) u)) := by
    intro u hu d
    split <;> refine of_rest ?_ ?_ ?_ ?_ <;> simp [SeqState.active, setCsq, hu]
  simp only [Machine.lossToIdle]
  refine startPending (ended _ ?_ _)
  split
  · simp
  · next hf => simpa using hf

theorem lossToJam (s : State) : DarkWhileMoving (lossToJam s) := by
  refine of_rest ?_ ?_ ?_ ?_ <;> simp [Machine.lossToJam, SeqState.active]

theorem removeTray {s : State} (h : DarkWhileMoving s) : DarkWhileMoving (removeTray s) := by
  simp only [Machine.removeTray]
  split
  · simp only [trayLost]
    (repeat' split)
    · exact lossToJam _
    · exact lossToIdle _
    · exact h
  · exact h

/-! ### The shutter, the lamp's reports, HALT and CLEAR JAM -/

theorem undriven {s : State} (h : DarkWhileMoving s) (hl : s.csq.state ≠ .lifting) (hd : s.csq.state ≠ .dropping) :
    s.csq.drive = .none := by
  by_contra hne
  exact (h.2.1 hne).elim hl hd

/-- Outside the moving phases claim and shutter are free. -/
theorem of_still {s t : State} (h : DarkWhileMoving s) (hs : ¬ Moving s.csq) (hcsq : t.csq = s.csq) :
    DarkWhileMoving t := by
  obtain ⟨hflight, hdrive, hshut, -⟩ := h
  rw [DarkWhileMoving, hcsq]
  exact ⟨hflight, hdrive, hshut, .inr fun hm => absurd hm hs⟩

/-- More blanking harms nothing. -/
theorem of_blanked {s t : State} (h : DarkWhileMoving s) (hb : Blanked s → Blanked t) (hcsq : t.csq = s.csq)
    (hporst : t.pins.porstLow = s.pins.porstLow) : DarkWhileMoving t := by
  obtain ⟨hflight, hdrive, hshut, hdark⟩ := h
  rw [DarkWhileMoving, hporst]
  refine ⟨by rwa [hcsq], by rwa [hcsq], by rwa [hcsq], hdark.imp_right fun hd hm => hb (hd ?_)⟩
  rwa [← hcsq]

theorem shutterActive {s : State} (h : DarkWhileMoving s) : DarkWhileMoving (shutterActive s) := by
  have closed : DarkWhileMoving (setShcl true s) :=
    h.of_blanked (fun hb => hb.imp_right fun ⟨hc, hf, _⟩ => ⟨hc, hf, rfl⟩) rfl rfl
  simp only [Machine.shutterActive]
  split
  · next hb =>
    obtain ⟨hstate, hm⟩ := hb
    refine blankingEnd (fun _ => ⟨h.undriven (by simp [hstate]) (by simp [hstate]), .inr ?_⟩) fun _ => closed
    rcases h.2.2.1 hm with hr | ⟨-, hc, hf⟩
    · simp [hstate] at hr
    · exact ⟨hc, hf, rfl⟩
  · exact closed

theorem shutterInactive {s : State} (h : DarkWhileMoving s) : DarkWhileMoving (shutterInactive s) := by
  have open_moving : Moving s.csq → DarkWhileMoving
      (if s.csq.shutClosed = true ∧ s.csq.shutterBlanked = true ∧ s.pins.shcl = true then
        shutterFallback (setShcl false s) else setShcl false s) := by
    intro hs
    obtain ⟨hm, hb⟩ := h.moving hs
    split
    · exact of_moving (by simpa [shutterFallback, setCsq, Moving] using hs)
        (by simpa [shutterFallback, setCsq] using h.2.1) (by simpa [shutterFallback, setCsq] using hm)
        (.inr (.inl (by simp [shutterFallback, Lmc.holdClaim])))
    · next hopen => exact of_moving hs h.2.1 hm (hb.imp_right fun hb => .inl (hb.resolve_right hopen))
  simp only [Machine.shutterInactive]
  split
  · next hs => exact revealCheck (of_revealing hs (h.undriven (by simp [hs]) (by simp [hs])))
  · next hs => exact open_moving (.inl hs)
  · next hs => exact open_moving (.inr (.inl hs))
  · next hs => exact open_moving (.inr (.inr hs))
  · next hr hl hi hd =>
    refine h.of_still ?_ rfl
    rintro (hs | hs | hs)
    · exact hl hs
    · exact hi hs
    · exact hd hs

theorem shutterLimit {s : State} (h : DarkWhileMoving s) : DarkWhileMoving (shutterLimit s) := by
  simp only [Machine.shutterLimit]
  (repeat' split)
  · exact h
  · next hs =>
    have hd := h.undriven (by simp [hs]) (by simp [hs])
    refine blankingEnd (fun _ => ⟨by simpa [shutterFallback, setCsq] using hd, .inl ?_⟩) fun hne => ?_
    · simp [shutterFallback, Lmc.holdClaim]
    · simp [hs] at hne
  · next hs =>
    have hd := h.undriven (by simp [hs]) (by simp [hs])
    exact revealCheck (of_revealing (by simpa [setCsq] using hs) (by simpa [setCsq] using hd))
  · exact h

theorem lampReports {s : State} (h : DarkWhileMoving s) : DarkWhileMoving (lampReports s) := by
  have first : DarkWhileMoving
      (if s.lmc.claim = .fade ∧ s.lmc.output = 0 then Machine.blankingEnd (setLmc Lmc.holdClaim s) else s) := by
    have held : DarkWhileMoving (setLmc Lmc.holdClaim s) := h.of_blanked (fun _ => .inl rfl) rfl rfl
    refine ite_keeps h fun _ => blankingEnd (fun hs => ⟨?_, .inl rfl⟩) fun _ => held
    have hs : s.csq.state = .blanking := hs
    exact h.undriven (by simp [hs]) (by simp [hs])
  simp only [Machine.lampReports]
  exact ite_keeps first fun _ => revealCheck (s := setCsq _ (setLmc _ _)) first

theorem revealReplaced {s : State} (h : DarkWhileMoving s) : DarkWhileMoving (revealReplaced s) := by
  unfold Machine.revealReplaced
  split
  · exact revealCheck (s := setCsq _ (setLmc _ s)) h
  · exact h

theorem haltChange {s : State} (h : DarkWhileMoving s) : DarkWhileMoving (haltChange s) := by
  have halted : ∀ f, s.csq.flight = some f → Moving s.csq →
      DarkWhileMoving (setCsq (fun q => { q with flight := some { f with halt := true } }) s) := fun f hf hs =>
    h.onward hs hs h.2.1 rfl rfl (by simp [setCsq, Csq.shutterBlanked, hf]) rfl rfl
  simp only [Machine.haltChange]
  (repeat' split)
  · exact h
  · exact enterRevealing _
  · next f hf _ hs => exact halted f hf (.inl hs)
  · next f hf _ hs => exact halted f hf (.inr (.inl hs))
  · exact h

theorem clearJamAt {s : State} (h : DarkWhileMoving s) : DarkWhileMoving (clearJamAt s).1 := by
  simp only [Machine.clearJamAt]
  (repeat' split)
  · exact h
  · exact h
  · exact h
  · next hs _ _ =>
    have hf := h.1 (by simp [hs, SeqState.active])
    have hd := h.undriven (by simp [hs]) (by simp [hs])
    refine startPending (of_rest ?_ ?_ ?_ ?_) <;>
      simp [SeqState.active, setCsq, setGate, hf, hd]
  · exact removeCause (enterRevealing _) _
  · exact h

/-! ### Requests -/

theorem changeRequest {s : State} (h : DarkWhileMoving s) (src : Source) (k : ChangeKind) (a : Nat) (f : Byte) :
    DarkWhileMoving (changeRequest src k a f s).1 := by
  have placed : ∀ t d u, DarkWhileMoving u → DarkWhileMoving (place src k a t d u).1 := by
    intro t d u hu
    unfold place
    split
    · next hready =>
      simp only [canStart, Bool.and_eq_true, Bool.or_eq_true, decide_eq_true_eq] at hready
      exact startChange hu (hready.1.2.imp_right And.left) _ _ _ _
    · exact hu.of_pins (by simp) (by simp) (by simp)
  have here : ∀ d u, DarkWhileMoving u → DarkWhileMoving (requestHere src k a d u).1 := by
    intro d u hu
    unfold requestHere
    split
    · exact hu
    · exact placed _ _ u hu
  have routed : ∀ d u, DarkWhileMoving u → DarkWhileMoving (requestRouted src k a d u).1 := by
    intro d u hu
    simp only [requestRouted]
    (repeat' split)
    · exact hu.of_pins (by simp) (by simp) (by simp)
    · exact hu
    · exact here _ u hu
    · exact here _ u hu
    · exact here _ u hu
    · exact (here d u hu).of_pins (by simp) (by simp) (by simp)
    · exact (here d u hu).of_pins (by simp) (by simp) (by simp)
  simp only [Machine.changeRequest]
  (repeat' split)
  · exact h.of_pins (by simp) (by simp) (by simp)
  · exact h.of_pins (by simp) (by simp) (by simp)
  · exact (routed (fadeOf s f) s h).of_pins (by simp) (by simp) (by simp)
  · exact (routed (fadeOf s f) s h).of_pins (by simp) (by simp) (by simp)

theorem haltFrom {s : State} (h : DarkWhileMoving s) (src : Source) : DarkWhileMoving (haltFrom src s).1 := by
  have taken : DarkWhileMoving (Machine.haltChange (dropWaiting .halted s)) :=
    haltChange (h.of_pins (by simp) (by simp) (by simp))
  simp only [Machine.haltFrom]
  (repeat' split)
  · exact h
  · exact taken
  · exact h
  · exact taken

theorem wakeUp {s : State} (h : DarkWhileMoving s) : DarkWhileMoving (wakeUp s) := by
  unfold Machine.wakeUp
  split
  · exact startPending (h.of_pins (by simp) (by simp) (by simp))
  · exact startPending (h.of_pins (by simp) (by simp) (by simp))
  · exact h

theorem lampOut {s : State} (h : DarkWhileMoving s) : DarkWhileMoving (lampOut s) :=
  h.of_pins (by simp) (by simp) (by simp)

theorem requestStandby {s : State} (h : DarkWhileMoving s) : DarkWhileMoving (requestStandby s).1 := by
  simp only [Machine.requestStandby]
  (repeat' split)
  · exact h
  · exact lampReports (lampOut (s := setPower _ s) h)
  · exact h

theorem lampOnTaken {s : State} (h : DarkWhileMoving s) : DarkWhileMoving (lampOnTaken s).1 := by
  have woken := wakeUp h
  simp only [Machine.lampOnTaken]
  (repeat' split)
  · exact woken
  · exact woken
  · exact woken
  · exact woken.of_pins rfl rfl rfl
  · exact woken.of_pins rfl rfl rfl
  · exact woken.of_pins (by simp) (by simp) (by simp)

theorem setLevelTaken {s : State} (h : DarkWhileMoving s) (l f : Nat) : DarkWhileMoving (setLevelTaken l f s).1 := by
  have level : ∀ r : Lmc → Lmc, (∀ m, (r m).claim = m.claim) → DarkWhileMoving (setLmc r (setLmc (fun m =>
      if l ≤ Config.heatLevel then { m with showLevel := l }.clearGuard else { m with showLevel := l }) s)) := by
    intro r hr
    refine h.of_pins rfl ?_ rfl
    simp only [setLmc, hr]
    split <;> rfl
  simp only [Machine.setLevelTaken]
  split
  · exact revealReplaced (level _ fun _ => rfl)
  · exact level id fun _ => rfl

theorem setLevelByte {s : State} (h : DarkWhileMoving s) (l f : Byte) : DarkWhileMoving (setLevelByte l f s).1 := by
  unfold Machine.setLevelByte
  split
  · exact setLevelTaken h _ _
  · exact h

theorem takeSample {s : State} (h : DarkWhileMoving s) (r : Option Nat) : DarkWhileMoving (takeSample r s) := by
  simp only [Machine.takeSample]
  refine lampReports (h.of_pins (by simp) ?_ (by simp))
  simp [Lmc.rederate, sampleTrip_frame]

/-! ### The resets -/

theorem atReset {s : State} {d : Sensed} {k : Bool} {v : SeqSettings} {q : Csq} (hq : s.csq = q.atReset d k v) :
    DarkWhileMoving s := by
  refine of_rest ?_ ?_ ?_ ?_ <;> rw [hq] <;> cases d <;> rfl

theorem controlReset (k : Bool) (s : State) : DarkWhileMoving (controlReset k s) := atReset rfl

theorem powerOn (k : Bool) (s : State) : DarkWhileMoving (powerOn k s) := atReset rfl

theorem endLoad {s : State} (h : DarkWhileMoving s) (k : Bool) : DarkWhileMoving (endLoad k s) := by
  refine h.of_fields (by simp) (by simp) (by simp) ?_ (by simp) (by simp) (by simp)
  have image : ∀ (v : Settings) u, (applyImage v u).csq.shutMs = u.csq.shutMs := fun v u => by simp [applyImage]
  simp only [Machine.endLoad]
  (repeat' split) <;> simp [image]

end DarkWhileMoving

/-! ## Every command -/

theorem kept_darkWhileMoving : Kept DarkWhileMoving where
  finish := fun _ h => h.of_pins (by simp) (by simp) (by simp)
  idleZero := fun _ h => h.of_pins (by simp) (by simp) (by simp)
  refusal := fun _ _ h => h.of_pins (by simp) (by simp) (by simp)
  rmi := fun _ _ _ h => h.of_pins (by simp) (by simp) (by simp)
  lkc := fun _ _ _ h => h.of_pins (by simp) (by simp) (by simp)
  offer := fun _ _ _ _ h => h.of_pins (by simp) (by simp) (by simp)
  change := fun _ _ _ _ _ h => h.changeRequest _ _ _ _
  halt := fun _ _ h => h.haltFrom _
  clearJam := fun _ h => h.clearJamAt
  lampOn := fun _ h => h.lampOnTaken
  lampOff := fun _ h => h.lampOut.lampReports
  level := fun _ _ _ h => h.setLevelByte _ _
  hold := fun _ _ h => h.of_pins (by simp) (by simp) (by simp)
  resume := fun _ h => h.of_pins (by simp) (by simp) (by simp)
  startShow := fun _ h => h.of_pins (by simp) (by simp) (by simp)
  showStop := fun _ h => h.of_pins (by simp) (by simp) (by simp)
  cue := fun _ _ _ h => h.of_pins (by simp) (by simp) (by simp)
  standby := fun _ h => h.requestStandby
  wake := fun _ h => h.wakeUp

theorem DarkWhileMoving.takeCue {s : State} (h : DarkWhileMoving s) : DarkWhileMoving (takeCue s) := by
  refine kept_darkWhileMoving.takeCue ?_ ?_ ?_ ?_ ?_ ?_ ?_ s h
  case refine_6 => exact fun _ _ _ h => h.setLevelTaken _ _
  all_goals
    intros
    rename_i h
    exact h.of_pins (by simp) (by simp) (by simp)

theorem moved_darkWhileMoving : Moved DarkWhileMoving where
  toKept := kept_darkWhileMoving
  response := fun _ _ h => h
  pins := fun f s _ hf h => ⟨h.1, h.2.1, h.2.2.1, .inl hf⟩
  reading := fun _ _ h => h
  removeTray := fun _ h => h.removeTray
  indexPulse := fun _ h => h.indexPulse
  homePulse := fun _ h => h.homePulse
  sensors := fun a b c o s h => by
    simp only [followSensors]
    (repeat' split) <;> exact h
  shutterActive := fun _ h => h.shutterActive
  shutterInactive := fun _ h => h.shutterInactive
  shutterLimit := fun _ h => h.shutterLimit
  clearShutter := fun _ h => h
  settings := fun _ _ h => h
  liftDone := fun s h => DarkWhileMoving.liftDone (s := setGatePins _ _ _ s) h
  liftLimit := fun _ h => h.liftLimit
  liftAgain := fun _ hd h => h.driven (by simp [hd]) rfl rfl rfl rfl rfl rfl
  stepLimit := fun _ hi h => .enterStalled (h.moving (.inr (.inl hi))).1 _
  dropLands := fun _ _ => .enterRevealing _
  dropLimit := fun _ hd h => h.dropLimit hd
  tenure := fun _ h => h
  pending := fun _ h => h.startPending
  sample := fun r _ h => h.takeSample r
  lampReports := fun _ h => h.lampReports
  lampStep := fun _ h => h
  lampFails := fun _ h => h.of_pins (by simp) (by simp) (by simp)
  fanStalls := fun _ h => h
  fanTrip := fun _ h => h.of_pins (by simp) (by simp) (by simp)
  fanFault := fun _ h => h.of_pins (by simp) (by simp) (by simp)
  takeCue := fun _ h => h.takeCue
  load := fun k _ h => h.endLoad k
  reset := fun k s _ =>
    (DarkWhileMoving.controlReset k s).of_pins (by simp [resetToRun]) (by simp [resetToRun]) (by simp [resetToRun])
  resetHold := fun k s _ => (DarkWhileMoving.controlReset k s).of_pins (by simp) (by simp) (by simp)
  powerOn := fun k s _ => .powerOn k s

/-- Claim, CLOSED sensor and PORST are left by every command that moves nothing, but for PORST_LOW. -/
theorem exec_blanking {c : Instr} {s t : State} (hc : bringsRequest c = false) (hm : movesCsq c = false)
    (h : exec c s = .next t) : c = .porstLow ∨ t.lmc.claim = s.lmc.claim ∧ t.pins.shcl = s.pins.shcl
      ∧ t.pins.porstLow = s.pins.porstLow := by
  cases c <;> (try exact absurd hc.symm Bool.false_ne_true) <;> (try exact absurd hm.symm Bool.false_ne_true) <;>
    (try exact .inl rfl) <;> injection h with h <;> subst h <;> right
  all_goals
    (try simp only [panel, panelIn, setting, panelDeck, panelRequest, panelChange, reply, replyOk, Response.of]) <;>
      (repeat' split) <;> simp [insertTray, setTprs, deckEdge_pins, endStop_pins]

theorem exec_darkWhileMoving (c : Instr) (s t : State) (h : exec c s = .next t) (hs : DarkWhileMoving s) :
    DarkWhileMoving t := by
  cases hc : bringsRequest c with
  | true => exact kept_darkWhileMoving.signal hc (fun _ _ _ h => h) (fun l _ _ _ h => by cases l <;> exact h) h hs
  | false =>
    cases hm : movesCsq c with
    | true => exact moved_darkWhileMoving.exec hm h hs
    | false =>
      rcases exec_blanking hc hm h with rfl | ⟨hclaim, hshcl, hporst⟩
      · injection h with h
        exact h ▸ ⟨hs.1, hs.2.1, hs.2.2.1, .inl rfl⟩
      · exact hs.of_eq (exec_csq hc hm h).1 hclaim hshcl hporst

/-- No claim changes with time. -/
theorem tickLmc_claim (s : State) : (tickLmc s).claim = s.lmc.claim := by
  have sample : ∀ l : Lmc, l.tickSample.claim = l.claim := fun l => by unfold Lmc.tickSample; split <;> rfl
  have cooling : ∀ a (l : Lmc), (l.tickCooling a).claim = l.claim := fun a l => by
    unfold Lmc.tickCooling; split <;> rfl
  have burning : ∀ a (l : Lmc), (l.tickBurning a).claim = l.claim := fun a l => by
    unfold Lmc.tickBurning; split <;> rfl
  simp [tickLmc, burning, cooling, sample]

theorem tick_darkWhileMoving (s : State) (hs : DarkWhileMoving s) : DarkWhileMoving (tick s) := by
  unfold tick
  split
  · exact hs
  · exact hs.of_fields rfl rfl rfl (by simp [tickCsq]) rfl (tickLmc_claim s) rfl

/-- A motion output belongs to a moving phase. -/
theorem moving_of_outputs {s : State} (h : DarkWhileMoving s)
    (hout : s.csq.lft = true ∨ s.csq.drp = true ∨ s.csq.tdf = true ∨ s.csq.tdr = true) : Moving s.csq := by
  rcases hout with hl | hd | hf | hr
  · refine h.of_drive fun hn => ?_
    simp [Csq.lft, hn] at hl
  · refine h.of_drive fun hn => ?_
    simp [Csq.drp, hn] at hd
  · simp only [Csq.tdf, Bool.and_eq_true, decide_eq_true_eq] at hf
    exact .inr (.inl hf.1)
  · simp only [Csq.tdr, Bool.and_eq_true, decide_eq_true_eq] at hr
    exact .inr (.inl hr.1)

/-- Settles O9: BLANKING ends under the hold or under a closed shutter (`DarkWhileMoving.blankingEnd`), the moving phases
follow one another under the same blanking (`DarkWhileMoving.onward`), and the reveal takes the blanking back only when
nothing moves. -/
theorem mechanismMovesInTheDark : Obligations.MechanismMovesInTheDark := by
  refine ⟨step_keeps (fun _ _ h => h) exec_darkWhileMoving tick_darkWhileMoving, fun s h hout => ?_⟩
  by_cases hlow : s.pins.porstLow = true
  · simp [State.outputs, hlow, Outputs.inactive] at hout
  · simp only [State.outputs, if_neg hlow] at hout ⊢
    rcases (h.moving (moving_of_outputs h hout)).2 with hp | hhold | ⟨hclosed, -, hshcl⟩
    · exact absurd hp hlow
    · exact .inl (by rw [Lmc.output, if_pos hhold])
    · exact .inr ⟨hclosed, hshcl⟩

/-! ## The cause TRANSPORT in RESET_HELD (O10)

`TransportCauseExact` asks for IDLE or JAMMED in RESET_HELD, but not for a released actuator. The lift timer goes by the
actuator alone, and its entry to JAMMED adds no cause in RESET_HELD (08 R150): the invariant as stated is not inductive,
though together with `DarkWhileMoving`, which no reachable state breaks, the step would be barred. -/

/-- RESET_HELD and IDLE, with the actuator driven; the lift timer has run out. -/
def strayLift : State :=
  { State.reset with
    pending := [.liftTimeout]
    csq := { State.reset.csq with drive := .lift }
    pnp := { State.reset.pnp with power := .resetHeld } }

/-- The state after the lift timer: JAMMED, without its cause. -/
def strayJam : State := finish (liftLimit { strayLift with pending := [] })

theorem step_strayLift : step strayLift = .next strayJam := rfl

theorem strayLift_sound : TransportCauseExact strayLift := by decide

theorem strayJam_state : strayJam.csq.state = .jammed := by decide

theorem strayJam_causes : strayJam.shc.causes.transport = false := by decide

/-- Refutes O10: in RESET_HELD with the actuator driven in IDLE, LIFT_TIMEOUT enters JAMMED, and SHC takes no cause. -/
theorem not_holdCausesAndDeckStayConsistent : ¬ Obligations.HoldCausesAndDeckStayConsistent := by
  rintro ⟨transport, -, -⟩
  obtain ⟨exactly, -⟩ := transport strayLift strayJam strayLift_sound step_strayLift
  have added := exactly.mpr (.inl strayJam_state)
  rw [strayJam_causes] at added
  cases added

end Sys2Proof.Machine
end

section
/-! PORST, the power states and what follows every event (O4, O5, O6). -/

namespace Sys2Proof.Machine
open Sys2Proof

/-! ## While PORST is low -/

theorem outputs_low {s : State} (h : s.pins.porstLow = true) : s.outputs = .inactive := by
  rw [State.outputs, if_pos h]

theorem run_low {f : State → State} {s : State} (h : s.pins.porstLow = true) : run f s = .next s := by
  rw [run, if_pos h]

theorem quiet_low {f : State → State} {s : State} (h : s.pins.porstLow = true) : quiet f s = .next s := by
  rw [quiet, if_pos h]

theorem runPin_low {pin f : State → State} {s : State} (h : s.pins.porstLow = true) :
    runPin pin f s = .next (pin s) := by
  rw [runPin, if_pos h]

/-- Pins, and the reading of TPRS with its pin, are all that a state takes over. -/
def PinsAlone (s t : State) : Prop :=
  t = { s with pins := t.pins, tru := { s.tru with readingMs := t.tru.readingMs } } ∧ t.pins.porstLow = true

theorem exec_low (c : Instr) {s : State} (h : s.pins.porstLow = true) (hc : ∀ a, c ≠ .powerOnReset a) :
    ∃ t, exec c s = .next t ∧ PinsAlone s t := by
  cases c
  case powerOnReset a => exact absurd rfl (hc a)
  case porstLow => exact ⟨_, rfl, rfl, rfl⟩
  case wiredLineChange l v =>
    refine ⟨_, rfl, ?_⟩
    rw [if_pos h]
    exact ⟨by cases l <;> rfl, by cases l <;> exact h⟩
  all_goals
    refine ⟨_, rfl, ?_⟩
    rw [if_pos h]
    exact ⟨rfl, h⟩

/-- Settles O4: every event but POWER_ON_RESET leaves at most its pin behind (`exec_low`), and no output is driven. -/
theorem whilePorstIsLow : Obligations.WhilePorstIsLow := by
  refine ⟨fun s => ⟨_, rfl, rfl, outputs_low rfl⟩, fun c s h hc => ?_⟩
  obtain ⟨t, ht, hpins, hlow⟩ := exec_low c h hc
  exact ⟨t, ht, hpins, outputs_low hlow⟩

/-! ## The outcome of a panel command -/

theorem run_powered {f : State → State} {s : State} (h : Powered s) : run f s = .next (finish (f s)) := by
  rw [run, h]
  rfl

theorem quiet_powered {f : State → State} {s : State} (h : Powered s) : quiet f s = .next (f s) := by
  rw [quiet, h]
  rfl

theorem runPin_powered {pin f : State → State} {s : State} (h : Powered s) :
    runPin pin f s = .next (finish (f s)) := by
  rw [runPin, h]
  rfl

theorem panelIn_refused {a b : Bool} {st : Status} {f : State → Answer} {s : State}
    (h : powerRefusal a b s.pnp.power = some st) : panelIn a b f s = turnedAway st s := by
  rw [panelIn, h]
  rfl

theorem panelIn_taken {a b : Bool} {f : State → Answer} {s : State} (h : powerRefusal a b s.pnp.power = none) :
    panelIn a b f s = answered (f s).2.status (f s).2.payload (f s).1 := by
  rw [panelIn, h]
  rfl

theorem panelIn_awake {s : State} (h : Awake s) (a b : Bool) (f : State → Answer) :
    panelIn a b f s = answered (f s).2.status (f s).2.payload (f s).1 := panelIn_taken (powerRefusal_awake h a b)

theorem run_panelIn_awake {s : State} (h : Awake s) (a b : Bool) (f : State → Answer) :
    run (panelIn a b f) s = .next (finish (answered (f s).2.status (f s).2.payload (f s).1)) := by
  rw [run_powered h.1, panelIn_awake h]

theorem run_panel_awake {s : State} (h : Awake s) (f : State → Answer) :
    run (panel f) s = .next (finish (answered (f s).2.status (f s).2.payload (f s).1)) := run_panelIn_awake h _ _ f

theorem quiet_panelIn_awake {s : State} (h : Awake s) (a b : Bool) (f : State → Answer) :
    quiet (panelIn a b f) s = .next (answered (f s).2.status (f s).2.payload (f s).1) := by
  rw [quiet_powered h.1, panelIn_awake h]

/-! ## The power states in which a command is taken (R181) -/

/-- The panel commands taken in STANDBY. -/
def inStandby : Instr → Bool
  | .wake | .readStatus | .readAttention | .readId | .lampOn | .resetControl _ | .resetHold _ => true
  | _ => false

/-- The panel commands taken in RESET_HELD. -/
def inReset : Instr → Bool
  | .readStatus | .readId | .release _ => true
  | _ => false

/-- The panel commands that the fan command, the open timer and the idle timer follow. -/
def isFollowed : Instr → Bool
  | .advance _ _ | .reverse _ _ | .seek _ _ | .home _ | .halt | .clearJam | .lampOn | .lampOff | .setLevel _ _
  | .lampReplaced | .setLamp _ | .deckPlay | .deckStop | .showStart | .showStop | .hold | .resume | .setShow _
  | .enableLink _ | .remoteTestEnter | .remoteTestLeave | .remoteTestSetLines _ | .remoteTestPressKey _
  | .remoteTestReleaseKey | .setPower _ | .standby | .wake | .resetControl _ | .resetHold _ | .release _ => true
  | _ => false

/-- A panel command is its answer behind the check of the power state. -/
theorem exec_panelForm {c : Instr} (h : (panelParts c).isSome = true) :
    ∃ f, ∀ s, exec c s = (if isFollowed c then run else quiet) (panelIn (inStandby c) (inReset c) f) s := by
  cases c <;> (try exact absurd h Bool.false_ne_true) <;> exact ⟨_, fun _ => rfl⟩

theorem exec_refused {c : Instr} (h : (panelParts c).isSome = true) {s : State} (hs : Powered s) {st : Status}
    (hp : powerRefusal (inStandby c) (inReset c) s.pnp.power = some st) :
    exec c s = .next (turnedAway st s) ∨ exec c s = .next (finish (turnedAway st s)) := by
  obtain ⟨f, hf⟩ := exec_panelForm h
  rw [hf]
  split
  · right
    rw [run_powered hs, panelIn_refused hp]
  · left
    rw [quiet_powered hs, panelIn_refused hp]

theorem inStandby_eq_false {c : Instr} (hlist : c ∉ [.wake, .readStatus, .readAttention, .readId, .lampOn])
    (hreset : ∀ a, c ≠ .resetControl a ∧ c ≠ .resetHold a) : inStandby c = false := by
  unfold inStandby
  split <;> simp_all

theorem inReset_eq_false {c : Instr} (hlist : c ∉ [.readStatus, .readId]) (hrelease : ∀ a, c ≠ .release a) :
    inReset c = false := by
  unfold inReset
  split <;> simp_all

/-- Settles O5: every panel command has the form of `exec_panelForm`, and the two lists are `inStandby` and `inReset`. -/
theorem refusedInStandbyAndResetHold : Obligations.RefusedInStandbyAndResetHold := by
  intro c s hc hs
  refine ⟨fun hp hlist hreset => exec_refused hc hs ?_, fun hp hlist hrelease => exec_refused hc hs ?_⟩
  · rw [hp, inStandby_eq_false hlist hreset]
    rfl
  · rw [hp, inReset_eq_false hlist hrelease]
    rfl

/-! ## What follows every event -/

theorem finish_eq (s : State) : finish s = { s with
    lmc := { s.lmc with
      openMs := if s.lmc.lamp = .lit ∧ 0 < s.lmc.output ∧ s.pins.lcur = false then s.lmc.openMs else 0
      fan := fanCommand s.pnp.power s.lmc
      stallMs := if s.lmc.fan = .off ∨ fanCommand s.pnp.power s.lmc = .off then 0 else s.lmc.stallMs
      fanStall := s.lmc.fanStall && fanCommand s.pnp.power s.lmc ≠ .off }
    pnp := if s.idleRuns then s.pnp else { s.pnp with idleElapsed := 0, idleMs := 0 } } := by
  have opens : s.openRuns = true ↔ s.lmc.lamp = .lit ∧ 0 < s.lmc.output ∧ s.pins.lcur = false := by
    simp [State.openRuns, and_assoc]
  have fan : fanCommand s.pnp.power (refreshOpen s).lmc = fanCommand s.pnp.power s.lmc := rfl
  have idle : (refreshFan (refreshOpen s)).idleRuns = s.idleRuns := rfl
  simp only [finish, holdIdle, idle]
  split
  · next hi =>
    simp only [refreshFan, fan, refreshOpen, opens, if_pos hi]
    rfl
  · next hi =>
    simp only [refreshFan, fan, refreshOpen, opens, idleZero, if_neg hi]
    rfl

theorem coolingOn_iff (l : Lmc) :
    l.coolingOn = true ↔ l.lamp = .cooling ∨ (l.lamp = .fault ∧ l.coolDone = false) := by
  simp [Lmc.coolingOn]

/-- The rows of Table 4.6, HIGH first. -/
theorem fanFor_high {l : Lmc} {t : Nat} (h : l.lamp = .cooling ∨ (l.lamp = .fault ∧ l.coolDone = false)
    ∨ l.cfg.warn ≤ t ∨ (l.lamp = .lit ∧ 160 < l.output)) : l.fanFor t = .high := by
  unfold Lmc.fanFor
  split
  · rfl
  · next hcool =>
    rw [coolingOn_iff, not_or] at hcool
    split
    · rfl
    · next hwarn =>
      rw [if_pos]
      exact ((h.resolve_left hcool.1).resolve_left hcool.2).resolve_left hwarn

theorem fanFor_cool {l : Lmc} {t : Nat} (hcool : l.coolingOn = false) (hwarn : t < l.cfg.warn)
    (hlit : ¬ (l.lamp = .lit ∧ 160 < l.output)) :
    l.fanFor t = if l.lamp = .preheat ∨ l.lamp = .lit ∨ 45 ≤ t then (if l.fanStall then .high else .low) else .off := by
  have hlevel : ¬ (l.lamp = .lit ∧ Config.fanLevel < l.output) := hlit
  have hdone : Config.coolDoneTemp = 45 := rfl
  rw [Lmc.fanFor, hcool, if_neg Bool.false_ne_true, if_neg (Nat.not_le.mpr hwarn), if_neg hlevel, hdone]
  by_cases hlamp : l.lamp = .preheat ∨ l.lamp = .lit
  · rw [if_pos hlamp,
      if_pos (show l.lamp = .preheat ∨ l.lamp = .lit ∨ 45 ≤ t from or_assoc.mp (.inl hlamp))]
  · rw [if_neg hlamp]
    by_cases ht : 45 ≤ t
    · rw [if_pos ht, if_pos (show l.lamp = .preheat ∨ l.lamp = .lit ∨ 45 ≤ t from .inr (.inr ht))]
    · rw [if_neg ht, if_neg fun h => (or_assoc.mpr h).elim hlamp ht]

theorem fanCommand_warm {p : Power} {l : Lmc} {t : Nat} (hp : p ≠ .standby) (ht : l.temp = some t) :
    fanCommand p l = l.fanFor t := by
  rw [fanCommand, if_neg hp, ht]

/-- Settles O6: `finish` sets the four records that follow an event (`finish_eq`), and the fan command is the first row of
Table 4.6 that holds (`fanFor_high`, `fanFor_cool`). -/
theorem finishSetsTheFanAndTheIdleTimer : Obligations.FinishSetsTheFanAndTheIdleTimer := by
  intro s
  refine ⟨finish_eq s, fun hp => ?_, fun hp ht => ?_, fun t hp ht => ?_⟩
  · rw [fanCommand, if_pos hp]
  · rw [fanCommand, if_neg hp, ht]
  · rw [fanCommand_warm hp ht]
    refine ⟨fanFor_high, fun hl hw => ?_, fun hl hw h45 => ?_, fun hl hw ho => ?_, fun hl hw h45 => ?_⟩
    · rw [fanFor_cool (by simp [Lmc.coolingOn, hl]) hw (by simp [hl]), if_pos (.inl hl)]
    · have hcool : s.lmc.coolingOn = false := by rcases hl with hl | ⟨hl, hd⟩ <;> simp [Lmc.coolingOn, *]
      rw [fanFor_cool hcool hw (by rcases hl with hl | ⟨hl, -⟩ <;> simp [hl]), if_neg]
      rcases hl with hl | ⟨hl, -⟩ <;> simpa [hl] using h45
    · rw [fanFor_cool (by simp [Lmc.coolingOn, hl]) hw (by simp [ho]), if_pos (.inr (.inl hl))]
    · have hcool : s.lmc.coolingOn = false := by rcases hl with hl | ⟨hl, hd⟩ <;> simp [Lmc.coolingOn, *]
      rw [fanFor_cool hcool hw (by rcases hl with hl | ⟨hl, -⟩ <;> simp [hl]), if_pos (.inr (.inr h45))]

end Sys2Proof.Machine
end

section
/-! Ramps and the lamp's output; the audio ramp, the show clock and the settings of deck and decoder (O34, O40, O44). -/

namespace Sys2Proof.Machine
open Sys2Proof

/-! ## Ramps and the lamp's output -/

theorem level_of_rising {r : Ramp} (hd : 0 < r.duration) (h : r.start ≤ r.target) :
    r.level = r.start + (r.target - r.start) * r.elapsed / r.duration := by
  rw [Ramp.level, if_neg (Nat.ne_of_gt hd), if_pos h]

theorem level_of_falling {r : Ramp} (hd : 0 < r.duration) (h : r.target < r.start) :
    r.level = r.start - (r.start - r.target) * r.elapsed / r.duration := by
  rw [Ramp.level, if_neg (Nat.ne_of_gt hd), if_neg (Nat.not_le.mpr h)]

theorem level_at_start {r : Ramp} (hd : 0 < r.duration) (h : r.elapsed = 0) : r.level = r.start := by
  rcases Nat.lt_or_ge r.target r.start with hlt | hle
  · rw [level_of_falling hd hlt, h, Nat.mul_zero, Nat.zero_div, Nat.sub_zero]
  · rw [level_of_rising hd hle, h, Nat.mul_zero, Nat.zero_div, Nat.add_zero]

theorem level_at_end {r : Ramp} (hd : 0 < r.duration) (h : r.elapsed = r.duration) : r.level = r.target := by
  rcases Nat.lt_or_ge r.target r.start with hlt | hle
  · rw [level_of_falling hd hlt, h, Nat.mul_div_cancel _ hd]
    omega
  · rw [level_of_rising hd hle, h, Nat.mul_div_cancel _ hd]
    omega

theorem output_of_lit {l : Lmc} (hc : l.claim ≠ .hold) (hl : l.lamp = .lit) :
    l.output = if l.guardCap then min (if l.derate then min l.ramp.level 160 else l.ramp.level) 128
      else if l.derate then min l.ramp.level 160 else l.ramp.level := by
  rw [Lmc.output, if_neg hc, hl]
  rfl

/-- Settles O34: a ramp is linear between its ends (`level_of_rising`, `level_of_falling`), and the output is the lowest of
the ramp and the caps that stand (`output_of_lit`). -/
theorem rampLevelAndOutput : Obligations.RampLevelAndOutput := by
  refine ⟨fun r h => if_pos h, fun r => level_of_rising, fun r => level_of_falling, fun r => level_at_start,
    fun r => level_at_end, fun l h => if_pos h, fun l hc hl => ?_, fun l hc hl hd hg => ?_, fun l hc hl hd hg => ?_,
    fun l hc hl hg => ?_, fun l hl => ?_⟩
  · rw [Lmc.output, if_neg hc, hl]
    rfl
  · rw [output_of_lit hc hl, hd, hg]
    rfl
  · rw [output_of_lit hc hl, hd, hg]
    rfl
  · rw [output_of_lit hc hl, hg]
    cases l.derate
    · rfl
    · show min (min l.ramp.level 160) 128 = min l.ramp.level 128
      omega
  · unfold Lmc.output
    split
    · rfl
    · rcases hl with hl | hl | hl <;> rw [hl]

/-! ## The outcome from the effect -/

theorem run_of_eq {f : State → State} {s t : State} (h : Powered s) (hf : f s = t) : run f s = .next (finish t) := by
  rw [run_powered h, hf]

theorem quiet_of_eq {f : State → State} {s t : State} (h : Powered s) (hf : f s = t) : quiet f s = .next t := by
  rw [quiet_powered h, hf]

theorem runPin_of_eq {pin f : State → State} {s t : State} (h : Powered s) (hf : f s = t) :
    runPin pin f s = .next (finish t) := by
  rw [runPin_powered h, hf]

theorem quiet_answers {f : State → Answer} {s t : State} {st : Status} {p : List Byte} (h : Awake s)
    (hf : f s = (t, ⟨st, p⟩)) : quiet (panel f) s = .next (answered st p t) := by
  rw [quiet_panel_awake h, hf]

theorem run_answers {f : State → Answer} {s t : State} {st : Status} {p : List Byte} (h : Awake s)
    (hf : f s = (t, ⟨st, p⟩)) : run (panel f) s = .next (finish (answered st p t)) := by
  rw [run_panel_awake h, hf]

/-! ## Setting commands -/

theorem setting_some {α : Type} {v : Option α} {x : α} (hv : v = some x) (f : α → State → State) (s : State) :
    setting v f s = (f x s, .of .ok) := by
  subst hv
  rfl

theorem setting_none {α : Type} {v : Option α} (hv : v = none) (f : α → State → State) (s : State) :
    setting v f s = (s, .of .badArg) := by
  subst hv
  rfl

theorem quiet_setting_some {α : Type} {v : Option α} {x : α} {s : State} (h : Awake s) (hv : v = some x)
    (f : α → State → State) : quiet (panel (setting v f)) s = .next (answered .ok [] (f x s)) := by
  rw [quiet_panel_awake h, setting_some hv]
  rfl

theorem quiet_setting_none {α : Type} {v : Option α} {s : State} (h : Awake s) (hv : v = none)
    (f : α → State → State) : quiet (panel (setting v f)) s = .next (answered .badArg [] s) := by
  rw [quiet_panel_awake h, setting_none hv]
  rfl

theorem run_setting_some {α : Type} {v : Option α} {x : α} {s : State} (h : Awake s) (hv : v = some x)
    (f : α → State → State) : run (panel (setting v f)) s = .next (finish (answered .ok [] (f x s))) := by
  rw [run_panel_awake h, setting_some hv]
  rfl

theorem run_setting_none {α : Type} {v : Option α} {s : State} (h : Awake s) (hv : v = none)
    (f : α → State → State) : run (panel (setting v f)) s = .next (finish (answered .badArg [] s)) := by
  rw [run_panel_awake h, setting_none hv]
  rfl

theorem onOff_eq_none_iff (b : Byte) : onOff b = none ↔ 1 < b.toNat := by
  unfold onOff
  split
  · simp [*]
  · split
    · simp [*]
    · simp
      omega

theorem isSome_onOff {b : Byte} (h : b.toNat ≤ 1) : ∃ v, onOff b = some v := by
  rw [← Option.isSome_iff_exists, Option.isSome_iff_ne_none, Ne, onOff_eq_none_iff]
  omega

/-! ## The deck's lines and settings -/

theorem deckSettings_parse {x h a : Byte} {e k : Bool} (hx : onOff x = some e) (hh : onOff h = some k)
    (ha : a.toNat ≤ 63) : DeckSettings.parse x h a = some ⟨e, k, a.toNat⟩ := by
  rw [DeckSettings.parse, hx, hh]
  exact if_pos ha

theorem deckSettings_parse_none {x h a : Byte} (hbad : 1 < x.toNat ∨ 1 < h.toNat ∨ 63 < a.toNat) :
    DeckSettings.parse x h a = none := by
  unfold DeckSettings.parse
  split
  · next e k hx hh =>
    rw [if_neg]
    intro ha
    rcases hbad with hb | hb | hb
    · simp [(onOff_eq_none_iff x).mpr hb] at hx
    · simp [(onOff_eq_none_iff h).mpr hb] at hh
    · omega
  · rfl

theorem outputs_deck {s : State} (h : Powered s) :
    s.outputs.play = s.dkc.deck.play ∧ s.outputs.pause = s.dkc.deck.pause
      ∧ s.outputs.stop = s.dkc.stopPulse.isSome := by
  rw [State.outputs, h]
  exact ⟨rfl, rfl, rfl⟩

theorem deckActs_awake {s : State} (h : Awake s) : deckActs s = true := by
  obtain ⟨-, hp | hp⟩ := h <;> simp [deckActs, hp]

theorem deckActs_eq_false {s : State} (h : s.pnp.power = .standby ∨ s.pnp.power = .resetHeld) :
    deckActs s = false := by
  rcases h with hp | hp <;> simp [deckActs, hp]

/-- Settles O40: each tick runs where the deck acts (`deckActs_awake`), and the lines are the deck's own
(`outputs_deck`). -/
theorem audioClockAndDeckSettings : Obligations.AudioClockAndDeckSettings := by
  refine ⟨fun s l f h hl hf => ?_, fun s l f h hbad => ?_, fun s h hr => ?_, fun s h hd => ?_, fun s h hd => ?_,
    fun s h hp => ?_, fun s x b a e k h hx hb ha => quiet_setting_some h (deckSettings_parse hx hb ha) _,
    fun s x b a h hbad => quiet_setting_none h (deckSettings_parse_none hbad) _, fun s h => ?_, fun s h hd => ?_,
    fun s h hd => ?_, fun s h hd => ?_, fun s h => ?_⟩
  · exact quiet_answers h (if_pos ⟨hl, hf⟩)
  · exact quiet_answers h (if_neg (by omega))
  · exact quiet_of_eq h.1 (if_pos ⟨hr, deckActs_awake h⟩)
  · exact quiet_of_eq h.1 (if_pos ⟨hd, deckActs_awake h⟩)
  · exact quiet_of_eq h (if_neg fun hc => hd hc.1)
  · exact quiet_of_eq h (if_neg fun hc => by simp [deckActs_eq_false hp] at hc)
  · refine quiet_answers h (Prod.ext rfl (congrArg (Response.mk .ok) ?_))
    obtain ⟨hplay, hpause, hstop⟩ := outputs_deck h.1
    rw [hplay, hpause, hstop, outputs_mute_powered h.1]
    cases hd : s.dkc.deck <;> simp [deckPayload, Deck.code, hd, le16] <;> rfl
  · obtain ⟨hplay, hpause, -⟩ := outputs_deck h
    rw [hplay, hpause]
    rcases hd with hd | hd | hd <;> rw [hd] <;> exact ⟨rfl, rfl⟩
  · obtain ⟨hplay, hpause, -⟩ := outputs_deck h
    rw [hplay, hpause]
    rcases hd with hd | hd <;> rw [hd] <;> exact ⟨rfl, rfl⟩
  · obtain ⟨hplay, hpause, -⟩ := outputs_deck h
    rw [hplay, hpause]
    rcases hd with hd | hd <;> rw [hd] <;> exact ⟨rfl, rfl⟩
  · rw [(outputs_deck h).2.2, Option.isSome_iff_ne_none]

/-! ## The decoder's settings -/

/-- The cue mode and the parity that a byte names. -/
def cueModeOf : Nat → Option CueMode
  | 0 => some .off
  | 1 => some .direct
  | 2 => some .program
  | _ => none

def parityOf : Nat → Option Parity
  | 0 => some .none
  | 1 => some .even
  | 2 => some .odd
  | _ => none

theorem cueModeOf_eq_some_iff (n : Nat) (m : CueMode) : cueModeOf n = some m ↔ n = m.code := by
  rcases n with _ | _ | _ | n <;> cases m <;> simp [cueModeOf, CueMode.code]

theorem parityOf_eq_some_iff (n : Nat) (p : Parity) : parityOf n = some p ↔ n = p.code := by
  rcases n with _ | _ | _ | n <;> cases p <;> simp [parityOf, Parity.code]

theorem decoderSettings_parse_eq (b : DecoderBytes) : DecoderSettings.parse b =
    (cueModeOf b.mode.toNat).bind fun mode => (parityOf b.parity.toNat).bind fun parity =>
      if 10 ≤ b.element.toNat ∧ b.element.toNat ≤ 50 ∧ 50 ≤ b.pulseMin.toNat ∧ b.pulseMin.toNat ≤ 1000
          ∧ b.pulseMin.toNat < b.pulseMax.toNat ∧ b.pulseMax.toNat ≤ 2500 ∧ b.pulseMax.toNat < b.holdMin.toNat
          ∧ b.holdMin.toNat ≤ 10000 then
        some ⟨mode, b.cues.getLsbD 0, b.cues.getLsbD 1, b.element.toNat, parity, b.pulseMin.toNat, b.pulseMax.toNat,
          b.holdMin.toNat⟩
      else none := by
  simp only [DecoderSettings.parse, cueModeOf, parityOf]
  rcases b.mode.toNat with _ | _ | _ | m <;> rcases b.parity.toNat with _ | _ | _ | p <;> rfl

theorem decoderSettings_parse_iff (b : DecoderBytes) (v : DecoderSettings) : DecoderSettings.parse b = some v ↔
    (b.mode.toNat = v.mode.code ∧ b.parity.toNat = v.parity.code ∧ b.cues.getLsbD 0 = v.pulseOn
      ∧ b.cues.getLsbD 1 = v.wordOn ∧ b.element.toNat = v.element ∧ b.pulseMin.toNat = v.pulseMin
      ∧ b.pulseMax.toNat = v.pulseMax ∧ b.holdMin.toNat = v.holdMin ∧ 10 ≤ v.element ∧ v.element ≤ 50
      ∧ 50 ≤ v.pulseMin ∧ v.pulseMin ≤ 1000 ∧ v.pulseMin < v.pulseMax ∧ v.pulseMax ≤ 2500
      ∧ v.pulseMax < v.holdMin ∧ v.holdMin ≤ 10000) := by
  rw [decoderSettings_parse_eq]
  simp only [Option.bind_eq_some_iff, cueModeOf_eq_some_iff, parityOf_eq_some_iff, Option.ite_none_right_eq_some,
    Option.some.injEq]
  constructor
  · rintro ⟨mode, hmode, parity, hparity, hrange, rfl⟩
    exact ⟨hmode, hparity, rfl, rfl, rfl, rfl, rfl, rfl, hrange⟩
  · rintro ⟨hmode, hparity, hpulse, hword, helement, hmin, hmax, hhold, hrange⟩
    refine ⟨v.mode, hmode, v.parity, hparity, ?_, ?_⟩
    · rw [helement, hmin, hmax, hhold]
      exact hrange
    · rw [hpulse, hword, helement, hmin, hmax, hhold]

/-- Settles O44: SET_DECODER takes the bytes that `decoderSettings_parse_iff` names, and READ_DECODER gives each record by
its code. -/
theorem decoderSettingsAndRead : Obligations.DecoderSettingsAndRead := by
  refine ⟨fun s b v h hv hm => ?_, fun s b v h hv hm => ?_, decoderSettings_parse_iff,
    fun s b h hv => quiet_setting_none h hv _, fun s h => ?_⟩
  · refine (quiet_setting_some h hv _).trans ?_
    rw [applyDecoder, if_neg (not_not_intro hm)]
    rfl
  · refine (quiet_setting_some h hv _).trans ?_
    rw [applyDecoder, if_pos hm]
    rfl
  · refine quiet_answers h (Prod.ext rfl (congrArg (Response.mk .ok) ?_))
    refine congrArg₂ List.cons rfl <| congrArg₂ List.cons ?tone <| congrArg₂ List.cons ?word <|
      congrArg₂ List.cons ?last <| congrArg₂ List.cons ?value <| congrArg₂ List.cons ?mode <|
      congrArg₂ List.cons rfl <| congrArg₂ List.cons rfl <| congrArg₂ List.cons ?parity rfl
    case tone => cases s.cdc.tone <;> rfl
    case word => cases s.cdc.word <;> cases s.cdc.pulse <;> rfl
    case last => cases s.cdc.last <;> rfl
    case value => cases s.cdc.last <;> rfl
    case mode => cases s.cdc.cfg.mode <;> rfl
    case parity => cases s.cdc.cfg.parity <;> rfl

end Sys2Proof.Machine
end

section
/-! The panel port: what it reads out, refuses and signals (O56, O57). -/

namespace Sys2Proof.Machine
open Sys2Proof

/-! ## Frames that are no command (R181) -/

/-- A code names its payload size or not, whatever bytes follow. -/
theorem payloadSize_isSome (code : Nat) (p q : List Byte) :
    (payloadSize code p).isSome = (payloadSize code q).isSome := by
  unfold payloadSize
  (repeat' split) <;> rfl

theorem frameBody_unknown {c : Byte} (h : codeKnown c = false) (bs : List Byte) : frameBody (c :: bs) = none := by
  unfold frameBody
  split
  · next hcons =>
    injection hcons with hc hbs
    subst hc hbs
    rw [if_neg]
    rintro ⟨-, -, hsize⟩
    have hsome := congrArg Option.isSome hsize
    rw [payloadSize_isSome _ _ []] at hsome
    simp [codeKnown, hsome] at h
  · rfl

theorem exec_unknownCommand_refused {s : State} (hs : Powered s) {c : Byte} {bs : List Byte} (hc : c ≠ 0)
    (hbad : frameBody (c :: bs) = none ∨ codeRefusal c s.pnp.power ≠ none) :
    exec (.unknownCommand (c :: bs)) s = .next (turnedAway (badFrameStatus c s.pnp.power) s) := by
  change execUnknownCommand (c :: bs) s = _
  rw [execUnknownCommand, quiet_powered hs]
  refine congrArg _ ?_
  dsimp only
  rw [if_neg hc, if_neg]
  · rfl
  · rintro ⟨hbody, hpower⟩
    rcases hbad with hn | hn
    · simp [hn] at hbody
    · exact hn hpower

theorem badFrameStatus_unknown {c : Byte} (h : codeKnown c = false) (p : Power) :
    badFrameStatus c p = .unknownCommand := by
  rw [badFrameStatus, if_pos h]

theorem badFrameStatus_known {c : Byte} (h : codeKnown c = true) (p : Power) :
    badFrameStatus c p = (codeRefusal c p).getD .badArg := by
  rw [badFrameStatus, h, if_neg (by decide)]
  cases codeRefusal c p <;> rfl

theorem codeRefusal_awake {s : State} (h : Awake s) (c : Byte) : codeRefusal c s.pnp.power = none :=
  powerRefusal_awake h _ _

theorem codeRefusal_standby {c : Byte} (h : c ∉ [0x01, 0x02, 0x03, 0x08, 0x09, 0x30]) :
    codeRefusal c .standby = some .standby := by
  have hc : c.toNat ∉ [0x08, 0x02, 0x03, 0x01, 0x09, 0x30] := by
    simp only [List.mem_cons, List.not_mem_nil, or_false, not_or, BitVec.toNat_eq, BitVec.reduceToNat] at h ⊢
    omega
  simp only [codeRefusal, powerRefusal, hc]
  rfl

theorem codeRefusal_resetHeld {c : Byte} (h : c ∉ [0x01, 0x02, 0x0A]) :
    codeRefusal c .resetHeld = some .resetHeld := by
  have hc : c.toNat ∉ [0x0A, 0x02, 0x01] := by
    simp only [List.mem_cons, List.not_mem_nil, or_false, not_or, BitVec.toNat_eq, BitVec.reduceToNat] at h ⊢
    omega
  simp only [codeRefusal, powerRefusal, hc]
  rfl

/-! ## The response buffer (R180) -/

theorem exec_panelRead {s : State} (h : Powered s) (n : Nat) : exec (.panelRead n) s = .next (readOut n s) :=
  quiet_powered h

theorem response_bytes_length (r : Response) : r.bytes.length = r.payload.length + 2 := by
  simp [Response.bytes]

/-- Settles O56: a frame that is no command is refused by the first of its three checks (`exec_unknownCommand_refused`),
and a read takes the bytes of the response from their first (`readOut`). -/
theorem thePanelPortAnswers : Obligations.ThePanelPortAnswers := by
  refine ⟨fun s n h hr => ?_, fun s n r h hr hn => ?_, fun s n r h hr hn => ?_, fun s c bs h hc hk => ?_,
    fun s c bs h hc hk hb => ?_, fun s c bs h hp hk hlist hc => ?_, fun s c bs h hp hk hlist hc => ?_, fun s h => ?_,
    fun s h => ?_⟩
  · rw [exec_panelRead h, readOut, hr]
  · rw [exec_panelRead h, readOut, hr]
    have hlen : r.bytes.length ≤ n := by rw [response_bytes_length]; exact hn
    simp only [hlen, decide_true, if_true, List.take_of_length_le hlen]
    rfl
  · rw [exec_panelRead h, readOut, hr]
    have hlen : ¬ r.bytes.length ≤ n := by rw [response_bytes_length]; exact Nat.not_le.mpr hn
    simp only [hlen, decide_false, Bool.false_eq_true, if_false, ← hr]
    rfl
  · rw [exec_unknownCommand_refused h hc (.inl (frameBody_unknown hk bs)), badFrameStatus_unknown hk]
  · rw [exec_unknownCommand_refused h.1 hc (.inl hb), badFrameStatus_known hk, codeRefusal_awake h]
    rfl
  · have href := codeRefusal_standby hlist
    rw [exec_unknownCommand_refused h hc (.inr (by simp [hp, href])), badFrameStatus_known hk, hp, href]
    rfl
  · have href := codeRefusal_resetHeld hlist
    rw [exec_unknownCommand_refused h hc (.inr (by simp [hp, href])), badFrameStatus_known hk, hp, href]
    rfl
  · refine quiet_of_eq h ?_
    rw [panelIn_taken (by cases s.pnp.power <;> rfl)]
    rfl
  · rw [State.outputs, h]
    simp [State.rdy, h, Option.isSome_iff_ne_none]

/-! ## The pending set and its ranks (R183, R184) -/

/-- The bits of a byte written from eight flags. -/
theorem flagByte_getLsbD (a b c d e f g h : Bool) :
    let w := b8 (bit a 0 + bit b 1 + bit c 2 + bit d 3 + bit e 4 + bit f 5 + bit g 6 + bit h 7)
    w.getLsbD 0 = a ∧ w.getLsbD 1 = b ∧ w.getLsbD 2 = c ∧ w.getLsbD 3 = d ∧ w.getLsbD 4 = e ∧ w.getLsbD 5 = f
      ∧ w.getLsbD 6 = g ∧ w.getLsbD 7 = h := by
  revert a b c d e f g h
  decide

theorem lowestBit_eq_zero_iff (w : Byte) : lowestBit w = 0 ↔ w = 0 := by
  revert w
  decide

/-- The rank less 1 is the number of the lowest bit. -/
theorem lowestBit_spec {w : Byte} (h : lowestBit w ≠ 0) :
    w.getLsbD (lowestBit w - 1) = true ∧ ∀ i < lowestBit w - 1, w.getLsbD i = false := by
  unfold lowestBit at h ⊢
  split at h
  · next i hi =>
    obtain ⟨hset, -, hlower⟩ := List.find?_range_eq_some.mp hi
    exact ⟨hset, fun j hj => by simpa using hlower j hj⟩
  · exact absurd rfl h

theorem outputs_attn {s : State} (h : Powered s) :
    s.outputs.attn = true ↔ s.pendingSet &&& s.pnp.cfg.enable ≠ 0 ∧ s.pnp.cfg.off = false := by
  rw [State.outputs, h]
  simp [State.attn, h, State.topCause, lowestBit_eq_zero_iff]

theorem pendingSet_bits (s : State) :
    (s.pendingSet.getLsbD 0 = s.pnp.pend.fault) ∧ (s.pendingSet.getLsbD 1 = s.pnp.pend.jam)
      ∧ (s.pendingSet.getLsbD 2 = s.pnp.pend.showChg) ∧ (s.pendingSet.getLsbD 3 = (s.cdc.part || s.crn.part))
      ∧ (s.pendingSet.getLsbD 4 = s.pnp.pend.change) ∧ (s.pendingSet.getLsbD 5 = s.lkc.part)
      ∧ (s.pendingSet.getLsbD 6 = s.rmi.part) ∧ (s.pendingSet.getLsbD 7 = s.pnp.pend.power) :=
  flagByte_getLsbD _ _ _ _ _ _ _ _

theorem faultsAny_iff (f : Faults) : f.any = decide (f ≠ Faults.clear) := by
  obtain ⟨a, b, c, d, e, f, g, h, i, j⟩ := f
  revert a b c d e f g h i j
  decide

/-- A command taken in STANDBY is taken outside RESET_HELD. -/
theorem powerRefusal_standby {p : Power} (h : p ≠ .resetHeld) (b : Bool) : powerRefusal true b p = none := by
  cases p with
  | resetHeld => exact absurd rfl h
  | run | standbyPending | standby => rfl

/-- Settles O57: the pending set is a byte of flags (`pendingSet_bits`), the top cause is its lowest enabled bit
(`lowestBit_spec`), and the reads give both before they clear their own flag. -/
theorem attentionIsRankedAndMasked : Obligations.AttentionIsRankedAndMasked := by
  refine ⟨fun s h => outputs_attn h, fun s => ?_, fun s => ⟨lowestBit_eq_zero_iff _, lowestBit_spec⟩,
    fun s h hp => ?_, fun s h => ?_, fun s h => ?_, fun s e d v h hv => ?_, fun s e d h hbad => ?_, fun s m h hm => ?_,
    fun s m h hm => ?_⟩
  · obtain ⟨hfault, hjam, hshow, hcue, hchange, hlink, hremote, hpower⟩ := pendingSet_bits s
    refine ⟨hfault, hjam, hshow, ?_, hchange, ?_, ?_, hpower⟩
    · rw [hcue]
      simp [Cdc.part, Crn.part, Bool.or_assoc]
    · rw [hlink, Lkc.part]
      cases s.lkc.rxbuf <;> rfl
    · rw [hremote, Rmi.part, Bool.or_comm]
      simp only [Rmi.anyMark, LineRec.marked, Bool.or_assoc]
  · refine quiet_of_eq h ?_
    rw [panelIn_taken (powerRefusal_standby hp false)]
    cases s.pnp.cfg.off <;> rfl
  · refine quiet_of_eq h ?_
    rw [panelIn_taken (by cases s.pnp.power <;> rfl)]
    refine congrArg (fun p => answered .ok p _) ?_
    simp only [statusPayload, faultsAny_iff]
    cases s.pnp.power <;> cases s.pnp.event <;> rfl
  · exact quiet_panel_awake h _
  · exact quiet_setting_some h (by rw [AttnSettings.parse, hv]; rfl) _
  · exact quiet_setting_none h (by rw [AttnSettings.parse, (onOff_eq_none_iff d).mpr hbad]; rfl) _
  · refine (run_panel_awake h _).trans ?_
    rw [if_pos hm]
    rfl
  · exact run_answers h (if_neg (Nat.not_le.mpr hm))

end Sys2Proof.Machine
end

section
/-! The slot map's commands and reads (O19). -/

namespace Sys2Proof.Machine
open Sys2Proof

/-! ## The range of SET SLOT and CLEAR SLOT -/

theorem rangeOk_eq_true {a b : Byte} (h : a.toNat ≤ b.toNat) (hb : b.toNat ≤ 99) : rangeOk a b = true := by
  simp [rangeOk, h, hb]

theorem rangeOk_eq_false {a b : Byte} (h : 99 < a.toNat ∨ 99 < b.toNat ∨ b.toNat < a.toNat) : rangeOk a b = false := by
  simp only [rangeOk, Bool.and_eq_false_iff, decide_eq_false_iff_not]
  omega

/-- The record at a position after an edit of a range, which spares record 0 (R6). -/
theorem update_getElem? (f : SlotRec → SlotRec) (a b : Nat) {t : Tru} {p : Nat} {r : SlotRec} (h : t.map[p]? = some r) :
    (t.update f a b).map[p]? = some (if a ≤ p ∧ p ≤ b ∧ p ≠ 0 then f r else r) := by
  have hrange : max a 1 ≤ 0 + p ∧ 0 + p ≤ b ↔ a ≤ p ∧ p ≤ b ∧ p ≠ 0 := by omega
  simp only [Tru.update, mapRange_getElem?, h, Option.map_some, hrange]

theorem update_length (f : SlotRec → SlotRec) (a b : Nat) (t : Tru) : (t.update f a b).map.length = t.map.length :=
  mapRange_length _ _ _ _ _

/-! ## READ TRAY -/

theorem trayPayload_record (t : Tru) (a n i : Nat) (ht : t.map.length = 100) (hi : i < min n (100 - a)) :
    (trayPayload t a n)[6 + i]? = some (t.slot (a + i)).byte := by
  have hin : a + i < t.map.length := by omega
  have hslot : t.slot (a + i) = t.map[a + i] := by
    rw [Tru.slot, List.getD_eq_getElem?_getD, List.getElem?_eq_getElem hin]
    rfl
  have hrange : i < min n (Config.positions - a) := hi
  rw [trayPayload, List.getElem?_append_right (by simp)]
  simp [List.getElem?_take, List.getElem?_drop, hrange, List.getElem?_eq_getElem hin, hslot]

/-- Settles O19: the two editing commands change the records of their range but 0 (`update_getElem?`), and READ TRAY gives
the records from its first (`trayPayload_record`). -/
theorem slotCommandsAndReads : Obligations.SlotCommandsAndReads := by
  refine ⟨fun s a b v k h hab hb hv hp => ⟨_, quiet_answers (t := { s with tru := s.tru.update _ _ _ }) h ?_,
      update_length _ _ _ _, fun p r hr => update_getElem? _ _ _ hr⟩,
    fun s a b h hab hb hp => ⟨_, quiet_answers (t := { s with tru := s.tru.update _ _ _ }) h ?_,
      update_length _ _ _ _, fun p r hr => update_getElem? _ _ _ hr⟩,
    fun s a b v h hbad => ⟨quiet_answers h ?_, quiet_answers h ?_⟩, fun s a b v h hab hb hv => quiet_answers h ?_,
    fun s a b v h hab hb hv hp => ⟨quiet_answers h ?_, quiet_answers h ?_⟩, fun s a n h ha hn hn' hl => ?_,
    fun s a n h hbad => quiet_answers h (if_neg (by omega)), fun s l e v h hl hv => quiet_setting_some h ?_ _,
    fun s l e h hbad => quiet_setting_none h ?_ _⟩
  · rw [rangeOk_eq_true hab hb, hv]
    exact if_pos hp
  · rw [rangeOk_eq_true hab hb, if_neg (by decide)]
    exact if_pos hp
  · rw [rangeOk_eq_false hbad]
    rfl
  · exact if_pos (rangeOk_eq_false hbad)
  · rw [rangeOk_eq_true hab hb, (onOff_eq_none_iff v).mpr hv]
    rfl
  · obtain ⟨k, hk⟩ := isSome_onOff hv
    rw [rangeOk_eq_true hab hb, hk, hp]
    rfl
  · rw [rangeOk_eq_true hab hb, hp]
    rfl
  · refine ⟨_, quiet_answers h (if_pos ⟨ha, hn, hn'⟩), ?_, ?_, fun i hi => trayPayload_record _ _ _ i hl hi⟩
    · simp [trayPayload, b8, Config.positions]
    · simp only [trayPayload, List.length_append, List.length_map, List.length_take, List.length_drop, hl]
      simp [Config.positions]
  · rw [TraySettings.parse, hv]
    exact if_pos hl
  · unfold TraySettings.parse
    split
    · next e' he =>
      rw [if_neg]
      rcases hbad with hb | hb
      · exact Nat.not_le.mpr hb
      · simp [(onOff_eq_none_iff e).mpr hb] at he
    · rfl

end Sys2Proof.Machine
end

section
/-! The settings memory: a STORE reads back, and the operations on the image (O16, O60). -/

namespace Sys2Proof.Machine
open Sys2Proof

/-! ## Runs of bytes written and read -/

theorem Memory.writes_append (m : Memory) (a b : List (Nat × Byte)) : m.writes (a ++ b) = (m.writes a).writes b := by
  induction a generalizing m with
  | nil => rfl
  | cons w a ih => exact ih _

theorem placed_lt {a : Nat} {bs : List Byte} {c : Nat × Byte} (h : c ∈ placed a bs) : c.1 < a + bs.length := by
  induction bs generalizing a with
  | nil => simp [placed] at h
  | cons b bs ih =>
    simp only [placed, List.mem_cons] at h
    rcases h with rfl | h
    · simp
    · have := ih h
      simp only [List.length_cons]
      omega

theorem Memory.readFrom_eq_of_range {m k : Memory} {a n : Nat} (h : ∀ x, a ≤ x → x < a + n → m.read x = k.read x) :
    m.readFrom a n = k.readFrom a n := by
  induction n generalizing a with
  | zero => rfl
  | succ n ih =>
    rw [Memory.readFrom, Memory.readFrom, h a (Nat.le_refl a) (by omega), ih fun x hx hx' => h x (by omega) (by omega)]

theorem Memory.readFrom_writes_placed {m : Memory} (h : m.wf) (a : Nat) (bs : List Byte) :
    (m.writes (placed a bs)).readFrom a bs.length = bs := by
  induction bs generalizing a m with
  | nil => rfl
  | cons b bs ih =>
    have hwf := Memory.write_wf a b h
    have above : ∀ c ∈ placed (a + 1) bs, c.1 ≠ a := fun c hc => Nat.ne_of_gt (placed_ge hc)
    rw [List.length_cons, Memory.readFrom, placed, Memory.writes, ih hwf, Memory.read_writes_of_ne hwf a _ above,
      Memory.read_write h, if_pos rfl]

/-- A run written below the bytes that are read leaves them. -/
theorem Memory.readFrom_writes_below {m : Memory} (h : m.wf) {a b n : Nat} {bs : List Byte} (hb : b + bs.length ≤ a) :
    (m.writes (placed b bs)).readFrom a n = m.readFrom a n :=
  Memory.readFrom_eq_of_range fun x hx _ => Memory.read_writes_of_ne h x _ fun c hc => by
    have := placed_lt hc
    omega

/-! ## The image -/

theorem imageHeader_length (checked : List Byte) : (imageHeader checked).length = 8 := rfl

theorem of16_le16 {n : Nat} (h : n ≤ 65535) : of16 (b8 n) (b8 (n / 256)) = n := by
  simp only [of16, b8, BitVec.toNat_ofNat]
  omega

/-- Settles O16: header, sections and hours are read back where they were written (`Memory.readFrom_writes_placed`), and
hours with their complement pass the check of R185. -/
theorem aStoreReadsBack : Obligations.AStoreReadsBack := by
  intro v m hm hlen hhours hparse
  have hbody : Memory.wf (m.writes [(0, 0), (1, 0)]) := Memory.writes_wf _ hm
  have hwritten : Memory.wf ((m.writes [(0, 0), (1, 0)]).writes (placed 8 (v.checked ++ hoursBytes v.hours))) :=
    Memory.writes_wf _ hbody
  have hstore : m.writes (storeWrites v) = ((m.writes [(0, 0), (1, 0)]).writes
      (placed 8 (v.checked ++ hoursBytes v.hours))).writes (placed 0 (imageHeader v.checked)) := by
    rw [storeWrites, storeBody, Memory.writes_append, Memory.writes_append]
    rfl
  have hsections : (m.writes (storeWrites v)).readFrom 8 (3512 + 4) = v.checked ++ hoursBytes v.hours := by
    have hread := Memory.readFrom_writes_placed hbody 8 (v.checked ++ hoursBytes v.hours)
    rw [List.length_append, hlen] at hread
    rw [hstore, Memory.readFrom_writes_below hwritten (by rw [imageHeader_length])]
    exact hread
  obtain ⟨hchecked, hhoursBytes⟩ := Memory.readFrom_take hsections hlen
  refine imageRead_of ?_ hchecked ?_
  · rw [hstore]
    exact Memory.readFrom_writes_placed hwritten 0 (imageHeader v.checked)
  · rw [imageHours_of hhoursBytes, of16_le16 hhours, of16_le16 (Nat.sub_le _ _), if_pos (by omega)]
    exact hparse

/-! ## STORE, LOAD and the lamp hours -/

theorem loadAllowed_eq_true {s : State} (hq : s.csq.state = .idle) (hw : s.sar.waiting = none)
    (hp : s.shc.phase = .stopped) (ht : s.lkc.txq = []) : loadAllowed s = true := by
  simp [loadAllowed, hq, hw, hp, ht]

theorem loadAllowed_eq_false {s : State} (h : s.csq.state ≠ .idle ∨ s.sar.waiting ≠ none ∨ s.shc.phase ≠ .stopped
    ∨ s.lkc.txq ≠ []) : loadAllowed s = false := by
  rw [Bool.eq_false_iff]
  intro hall
  simp only [loadAllowed, Bool.and_eq_true, decide_eq_true_eq, Option.isNone_iff_eq_none, List.isEmpty_iff] at hall
  obtain ⟨⟨⟨hq, hw⟩, hp⟩, ht⟩ := hall
  rcases h with h | h | h | h
  · exact h hq
  · exact h hw
  · exact h hp
  · exact h ht

/-- A STORE in flight ends, unless an hours write is in flight before it. -/
theorem exec_storeComplete_running {s : State} (h : Powered s) {v : Settings} (hst : s.pnp.store = some v)
    (hh : s.pnp.hoursWrite = none) (n : Nat) : exec (.storeComplete n) s = .next (endStore v n s) := by
  change execStoreComplete n s = _
  rw [execStoreComplete, quiet_powered h]
  simp only [hst, hh, if_true]

theorem exec_storeComplete_waiting {s : State} (h : Powered s) (hno : s.pnp.store = none ∨ s.pnp.hoursWrite ≠ none)
    (n : Nat) : exec (.storeComplete n) s = .next s := by
  change execStoreComplete n s = _
  rw [execStoreComplete, quiet_powered h]
  refine congrArg _ ?_
  split
  · next v hst =>
    rw [hst] at hno
    exact if_neg (hno.resolve_left nofun)
  · rfl

theorem exec_hoursWriteComplete_running {s : State} (h : Powered s) {x : Nat} (hh : s.pnp.hoursWrite = some x)
    (n : Nat) : exec (.hoursWriteComplete n) s = .next (
      if 4 ≤ n then
        { s with mem := s.mem.writes ((hoursWrites x).take n), pnp := { s.pnp with hoursWrite := none } }
      else raiseFault .settings
        { s with mem := s.mem.writes ((hoursWrites x).take n), pnp := { s.pnp with hoursWrite := none } }) := by
  change execHoursWriteComplete n s = _
  rw [execHoursWriteComplete, quiet_powered h]
  simp only [hh]

theorem exec_hoursWriteComplete_idle {s : State} (h : Powered s) (hh : s.pnp.hoursWrite = none) (n : Nat) :
    exec (.hoursWriteComplete n) s = .next s := by
  change execHoursWriteComplete n s = _
  rw [execHoursWriteComplete, quiet_powered h]
  simp only [hh]

/-- The settings that a LOAD applies are the image's, with the node address and the hours of the part. -/
theorem applyImage_settings (v : Settings) (s : State) :
    (applyImage v s).settings = { v with node := s.lkc.node, hours := s.lmc.hours } := by
  unfold applyImage applyDecoder
  split <;> rfl

theorem applyImage_dkc (v : Settings) (s : State) : (applyImage v s).dkc = { s.dkc with cfg := v.deck } := by
  unfold applyImage applyDecoder
  split <;> rfl

theorem applyImage_showLevel (v : Settings) (s : State) : (applyImage v s).lmc.showLevel = s.lmc.showLevel := by
  unfold applyImage applyDecoder
  split <;> rfl

/-- A LOAD that changes the decoder's mode empties the cue queue and ends the dwell. -/
theorem applyImage_queue {v : Settings} {s : State} (h : v.decoder.mode ≠ s.cdc.cfg.mode) :
    (applyImage v s).crn.queue = [] ∧ (applyImage v s).crn.dwell = none := by
  have hflush (u : State) (hu : v.decoder.mode ≠ u.cdc.cfg.mode) :
      (applyDecoder v.decoder u).crn.queue = [] ∧ (applyDecoder v.decoder u).crn.dwell = none := by
    rw [applyDecoder, if_pos hu]
    exact ⟨rfl, rfl⟩
  exact hflush (setLmc (fun l => Lmc.rederate { l with cfg := v.lamp }) s) h

theorem finish_settings (s : State) : (finish s).settings = s.settings := by
  simp only [State.settings, finish_frame]

theorem finish_pend (s : State) : (finish s).pnp.pend = s.pnp.pend ∧ (finish s).pnp.defaulted = s.pnp.defaulted := by
  rw [finish_eq]
  dsimp only
  split <;> exact ⟨rfl, rfl⟩

theorem finish_showLevel (s : State) : (finish s).lmc.showLevel = s.lmc.showLevel := by
  rw [finish_eq]

theorem endLoad_unread {s : State} {k : Bool} (h : imageRead k s.mem = none) :
    endLoad k s = powerEvent .loadFailed (raiseFault .settings
      { s with pnp := { s.pnp with load := false, memPresent := k } }) := by
  simp only [endLoad, h]

theorem endLoad_abandoned {s : State} {k : Bool} {v : Settings} (h : imageRead k s.mem = some v)
    (hno : loadAllowed s = false) : endLoad k s = powerEvent .loadAbandoned
      { s with pnp := { s.pnp with load := false, memPresent := k } } := by
  simp only [endLoad, h]
  exact if_neg (ne_true_of_eq_false hno)

theorem endLoad_done {s : State} {k : Bool} {v : Settings} (h : imageRead k s.mem = some v)
    (ha : loadAllowed s = true) : endLoad k s = powerEvent .loadDone
      (applyImage v { s with pnp := { s.pnp with load := false, memPresent := k } }) := by
  simp only [endLoad, h]
  exact if_pos ha

theorem hoursReady_eq_false {s : State} (h : s.pnp.hoursWaiting = none ∨ s.pnp.store ≠ none ∨ s.pnp.load = true
    ∨ s.pnp.hoursWrite ≠ none) : hoursReady s = false := by
  rw [Bool.eq_false_iff]
  intro hall
  simp only [hoursReady, Bool.and_eq_true, Option.isNone_iff_eq_none, Option.isSome_iff_ne_none,
    Bool.not_eq_eq_eq_not, Bool.not_true] at hall
  obtain ⟨⟨⟨hx, hst⟩, hl⟩, hh⟩ := hall
  rcases h with h | h | h | h
  · exact hx h
  · exact h hst
  · exact Bool.false_ne_true (hl.symm.trans h)
  · exact h hh

theorem storeBusy_of {s : State} (h : s.pnp.store ≠ none ∨ s.pnp.load = true) :
    (s.pnp.store.isSome || s.pnp.load) = true := by
  rw [Bool.or_eq_true, Option.isSome_iff_ne_none]
  exact h

/-- A STORE that lands its signature and no more leaves a signature of zeros. -/
theorem writes_storeLanded_signature {v : Settings} {n : Nat} {m : Memory} (hm : m.wf) (h2 : 2 ≤ n)
    (hn : n < storeLength) :
    (m.writes (storeLanded v n)).read 0 = 0 ∧ (m.writes (storeLanded v n)).read 1 = 0 := by
  have hwf0 := Memory.write_wf 0 0 hm
  have hwf := Memory.write_wf 1 0 hwf0
  have above : ∀ x < 8, ∀ c ∈ (placed 8 (v.checked ++ hoursBytes v.hours)).take (n - 2), c.1 ≠ x :=
    fun x hx c hc => Nat.ne_of_gt (Nat.lt_of_lt_of_le hx (placed_ge (List.mem_of_mem_take hc)))
  rw [storeLanded_signature h2 hn]
  constructor
  · exact (Memory.read_writes_of_ne hwf 0 _ (above 0 (by omega))).trans
      ((Memory.read_write hwf0 ..).trans ((if_neg (by omega)).trans ((Memory.read_write hm ..).trans (if_pos rfl))))
  · exact (Memory.read_writes_of_ne hwf 1 _ (above 1 (by omega))).trans ((Memory.read_write hwf0 ..).trans (if_pos rfl))

theorem endStore_whole {v : Settings} {n : Nat} (h : storeLength ≤ n) (s : State) :
    endStore v n s = { s with
      mem := s.mem.writes (storeWrites v)
      pnp := { s.pnp with store := none, defaulted := false, event := .storeDone,
                          pend := { s.pnp.pend with power := true } } } := by
  simp only [endStore, storeLanded_whole h, h, if_true, powerEvent]

theorem endStore_short {v : Settings} {n : Nat} (h : n < storeLength) (s : State) :
    endStore v n s = { s with
      mem := s.mem.writes ((storeBody v).take n)
      pnp := { s.pnp with store := none, event := .storeFailed, faults := { s.pnp.faults with settings := true },
                          pend := { s.pnp.pend with fault := true, power := true } } } := by
  have hno : ¬ storeLength ≤ n := Nat.not_le.mpr h
  simp only [endStore, storeLanded_short h, hno, if_false]
  rfl

theorem hoursWrites_length (x : Nat) : (hoursWrites x).length = 4 := rfl

/-- Settles O60: each operation is its equation of execution (`quiet_answers`, `run_of_eq`) with the model's function on
the image reduced by its case (`endStore_whole`, `endStore_short`, `endLoad_unread`, `endLoad_abandoned`,
`endLoad_done`). -/
theorem theMemoryOperations : Obligations.TheMemoryOperations := by
  refine ⟨fun s h hst hl => quiet_answers h ?_, fun s h hbusy => ⟨quiet_answers h ?_, quiet_answers h ?_⟩,
    fun s v n h hst hh hn => ?_, fun s v n h hst hh hn => ?_, fun s v n h hst hh hm hn hn' => ?_,
    fun s n h hno => exec_storeComplete_waiting h hno n, fun s h hst hl hq hw hp ht => quiet_answers h ?_,
    fun s h hno => quiet_answers h (if_pos ?_), fun s k h hl hh hi => run_of_eq h ((if_pos ⟨hl, hh⟩).trans ?_),
    fun s k v h hl hh hi hno => run_of_eq h ((if_pos ⟨hl, hh⟩).trans ?_),
    fun s k v h hl hh hi hq hw hp ht => ⟨_, run_of_eq h (if_pos ⟨hl, hh⟩), ?_⟩,
    fun s k h hno => run_of_eq h (if_neg ?_), fun s x h hx hst hl hh => quiet_of_eq h ?_,
    fun s h hno => quiet_of_eq h (if_neg ?_), fun s x n h hh hn => ?_, fun s x n h hh hn => ?_,
    fun s n h hh => exec_hoursWriteComplete_idle h hh n⟩
  · rw [hst, hl]
    rfl
  · exact if_pos (storeBusy_of hbusy)
  · exact if_pos (by rw [storeBusy_of hbusy]; rfl)
  · rw [exec_storeComplete_running h hst hh, endStore_whole hn]
    rfl
  · rw [exec_storeComplete_running h hst hh, endStore_short hn]
    rfl
  · refine ⟨_, exec_storeComplete_running h hst hh n, ?_⟩
    rw [endStore_short hn', ← storeLanded_short hn']
    exact writes_storeLanded_signature hm hn hn'
  · rw [hst, hl, loadAllowed_eq_true hq hw hp ht]
    rfl
  · rw [loadAllowed_eq_false hno, Bool.not_false, Bool.or_true]
  · rw [endLoad_unread hi]
    rfl
  · rw [endLoad_abandoned hi (loadAllowed_eq_false hno)]
    rfl
  · rw [endLoad_done hi (loadAllowed_eq_true hq hw hp ht)]
    simp only [finish_frame, finish_settings, finish_pend, finish_showLevel, powerEvent_fields]
    refine ⟨by simp only [applyImage_frame], trivial, trivial, rfl, applyImage_settings .., applyImage_showLevel ..,
      applyImage_dkc .., ?_⟩
    simp only [applyImage_frame]
    refine ⟨trivial, rfl, rfl, trivial, trivial, fun hm => applyImage_queue hm⟩
  · exact fun hall => hno.elim (fun hf => Bool.false_ne_true (hf.symm.trans hall.1)) (fun hf => hf hall.2)
  · rw [if_pos (by simp [hoursReady, hx, hst, hl, hh]), hx]
  · exact ne_true_of_eq_false (hoursReady_eq_false hno)
  · rw [exec_hoursWriteComplete_running h hh, if_pos hn, List.take_of_length_le (by rw [hoursWrites_length]; exact hn)]
    rfl
  · rw [exec_hoursWriteComplete_running h hh, if_neg (by omega)]
    rfl

end Sys2Proof.Machine
end

section
/-! The decoder reads back what the encoder writes (O14). -/

namespace Sys2Proof
open Sys2Proof

theorem joinHalf_split (h : Half) : joinHalf (BitVec.ofNat 8 h.toNat) (BitVec.ofNat 8 (h.toNat / 256)) = h := by
  apply BitVec.eq_of_toNat_eq
  simp only [joinHalf, BitVec.toNat_ofNat]
  omega

/-- A frame of the right length is decoded from its code and payload. -/
theorem panelDecode_frame {m : Bool} {k : Byte} {p : List Byte} {c : Instr} (hk : k ≠ 0) (hp : p.length ≤ 64)
    (hsize : payloadSize k.toNat p = some p.length) (hc : panelCommand m k.toNat p = some c) :
    panelDecode m (k :: BitVec.ofNat 8 p.length :: p) = c := by
  have hlen : (BitVec.ofNat 8 p.length).toNat = p.length := by
    rw [BitVec.toNat_ofNat]
    omega
  have hbody : frameBody (k :: BitVec.ofNat 8 p.length :: p) = some (k.toNat, p) := by
    simp only [frameBody, hlen, hsize, hp, Nat.le_refl, and_self, if_true, List.take_length]
  simp only [panelDecode, hk, if_false, hbody, hc, Option.getD_some]

/-- A code with its payload spells the command that it was made of. -/
def Spells (c : Instr) (k : Byte) (p : List Byte) : Prop :=
  k ≠ 0 ∧ p.length ≤ 64 ∧ payloadSize k.toNat p = some p.length ∧ panelCommand (memAckOf c) k.toNat p = some c

theorem spells_setLamp (p : LampBytes) : Spells (.setLamp p) 0x35 p.list :=
  ⟨by decide, by simp [LampBytes.list, splitHalf], rfl, by
    simp only [LampBytes.list, splitHalf, List.cons_append, List.nil_append, panelCommand, joinHalf_split]
    rfl⟩

theorem spells_setDecoder (p : DecoderBytes) : Spells (.setDecoder p) 0x40 p.list :=
  ⟨by decide, by simp [DecoderBytes.list, splitHalf], rfl, by
    simp only [DecoderBytes.list, splitHalf, List.cons_append, List.nil_append, panelCommand, joinHalf_split]
    rfl⟩

theorem spells_focus {a : Byte} (b : Byte) (h : a ≠ 0) : Spells (.focus a b) 0x5B [a, b] :=
  ⟨by decide, Nat.le_add_left 2 62, rfl, if_neg h⟩

theorem spells_writeStep (a : Byte) {r : List Byte} (h : r.length = 16) : Spells (.writeStep a r) 0x48 (a :: r) := by
  refine ⟨by decide, by simp [h], by rw [List.length_cons, h]; rfl, ?_⟩
  match r, h with
  | _ :: _ :: _ :: _ :: _, _ => rfl

theorem spells_sendLink (a b c : Byte) {p : List Byte} (h : p.length = c.toNat) (hp : p.length ≤ 61) :
    Spells (.sendLink a b c p) 0x64 (a :: b :: c :: p) := by
  refine ⟨by decide, by simp only [List.length_cons]; omega, ?_, ?_⟩
  · have hsize : payloadSize 0x64 (a :: b :: c :: p) = some (3 + c.toNat) := rfl
    exact hsize.trans (congrArg some (by simp only [List.length_cons]; omega))
  · match p with
    | [] => rfl
    | [_] => rfl
    | _ :: _ :: _ => rfl

theorem panelParts_spells {c : Instr} {k : Byte} {p : List Byte} (hwf : c.wf = true)
    (h : panelParts c = some (k, p)) : Spells c k p := by
  cases c
  case setLamp s => cases h; exact spells_setLamp s
  case setDecoder s => cases h; exact spells_setDecoder s
  case focus a b => cases h; exact spells_focus b (of_decide_eq_true hwf)
  case writeStep a r => cases h; exact spells_writeStep a (of_decide_eq_true hwf)
  case sendLink a b l r =>
    obtain ⟨hl, hp⟩ := (Bool.and_eq_true_iff ..).mp hwf
    cases h
    exact spells_sendLink a b l (of_decide_eq_true hl) (of_decide_eq_true hp)
  all_goals cases h <;> exact ⟨by decide, by simp [SourceBytes.list], rfl, rfl⟩

/-- Settles O14: the code and payload of each constructor spell it (`panelParts_spells`). -/
theorem panelFramesDecodeBack : Obligations.PanelFramesDecodeBack := by
  intro c f hwf h
  obtain ⟨⟨k, p⟩, hparts, rfl⟩ := Option.map_eq_some_iff.mp h
  obtain ⟨hk, hp, hsize, hc⟩ := panelParts_spells hwf hparts
  exact panelDecode_frame hk hp hsize hc

end Sys2Proof
end

section
/-! Records and link frames, read from their bytes and read back (O15). -/

namespace Sys2Proof.Machine
open Sys2Proof

/-! ## Bytes and numbers -/

theorem b8_toNat {n : Nat} (h : n ≤ 255) : (b8 n).toNat = n := by
  rw [b8, BitVec.toNat_ofNat]
  omega

theorem b8_of_toNat (b : Byte) : b8 b.toNat = b := BitVec.eq_of_toNat_eq (b8_toNat (by omega))

theorem byte_le (b : Byte) : b.toNat ≤ 255 := Nat.le_of_lt_succ b.isLt

theorem onOff_bit (v : Bool) : onOff (b8 (bit v 0)) = some v := by
  revert v
  decide

/-! ## Link frames -/

theorem foldl_add_eq_sum (bs : List Byte) : bs.foldl (fun a b => a + b) 0 = bs.sum := List.sum_eq_foldl.symm

theorem frameOk_length {d k : Byte} {p : List Byte} (h : frameOk d k p = true) : p.length ≤ 8 := by
  simp only [frameOk, Bool.and_eq_true] at h
  obtain ⟨⟨-, hlen⟩, -⟩ := h
  revert hlen
  unfold kindLengthOk
  split <;> simp only [decide_eq_true_eq, Bool.false_eq_true, false_implies] <;> omega

/-- Table 10.3: lead byte, head, destination, kind, length, payload and check, of sum 0. -/
theorem LinkFrame.parse_eq_some_iff (bs : List Byte) (f : LinkFrame) : LinkFrame.parse bs = some f ↔
    ∃ head check : Byte, bs = [0x7E, head, f.dest, f.kind, b8 f.payload.length] ++ f.payload ++ [check]
      ∧ bs.sum = 0 ∧ f.payload.length ≤ 8 ∧ f.level = head.toNat / 16 ∧ f.src = head.toNat % 16 ∧ f.src ≠ 15
      ∧ frameOk f.dest f.kind f.payload = true := by
  constructor
  · intro h
    unfold LinkFrame.parse at h
    split at h
    · next lead head dest kind len rest =>
      dsimp only at h
      split at h
      · next hc =>
        obtain ⟨hlead, hlen, hrest, hsum, hsrc, hok⟩ := hc
        obtain rfl := Option.some.inj h
        obtain ⟨check, hcheck⟩ : ∃ check, rest.drop len.toNat = [check] :=
          List.length_eq_one_iff.mp (by rw [List.length_drop]; omega)
        have htake : (rest.take len.toNat).length = len.toNat := by rw [List.length_take]; omega
        refine ⟨head, check, ?_, foldl_add_eq_sum _ ▸ hsum, ?_, rfl, rfl, hsrc, hok⟩
        · dsimp only
          rw [htake, b8_of_toNat, hlead, List.append_assoc, ← hcheck, List.take_append_drop]
          rfl
        · exact htake.le.trans hlen
      · exact absurd h nofun
    · exact absurd h nofun
  · rintro ⟨head, check, hbs, hsum, hlen, hlevel, hsrc, hne, hok⟩
    have hn : (b8 f.payload.length).toNat = f.payload.length := b8_toNat (by omega)
    have hlist : bs = 0x7E :: head :: f.dest :: f.kind :: b8 f.payload.length :: (f.payload ++ [check]) := hbs
    rw [hsrc] at hne
    rw [← foldl_add_eq_sum] at hsum
    rw [hlist] at hsum ⊢
    unfold LinkFrame.parse
    simp only [hn, List.take_left]
    rw [if_pos ⟨trivial, hlen, by simp, hsum, hne, hok⟩, ← hlevel, ← hsrc]

theorem LinkFrame.parse_bytes {f : LinkFrame} (hlevel : f.level ≤ 15) (hsrc : f.src ≤ 14)
    (hok : frameOk f.dest f.kind f.payload = true) : LinkFrame.parse f.bytes = some f := by
  have hhead : (b8 (16 * f.level + f.src)).toNat = 16 * f.level + f.src := b8_toNat (by omega)
  refine (LinkFrame.parse_eq_some_iff ..).mpr
    ⟨b8 (16 * f.level + f.src), checkByte f.body, rfl, ?_, frameOk_length hok, ?_, ?_, by omega, hok⟩
  · rw [LinkFrame.bytes, List.sum_append, checkByte, foldl_add_eq_sum, List.sum_singleton]
    simp
  · rw [hhead]
    omega
  · rw [hhead]
    omega

/-! ## Key entries -/

theorem KeyAction.ofByte_byte {a : Byte} {k : KeyAction} (h : KeyAction.ofByte a = some k) : k.byte = a := by
  have all : ∀ a : Byte, ∀ k ∈ KeyAction.ofByte a, k.byte = a := by decide
  exact all a k h

theorem KeyEntry.parse_eq_some_iff (a m : Byte) (e : KeyEntry) : KeyEntry.parse a m = some e ↔
    KeyAction.ofByte a = some e.action ∧
      ((m.toNat / 64 = 0 ∧ e.mode = .once)
        ∨ (m.toNat / 64 = 1 ∧ (e.action = .focusIn ∨ e.action = .focusOut) ∧ e.mode = .whileHeld)
        ∨ (m.toNat / 64 = 2 ∧ 2 ≤ m.toNat % 32 ∧ m.toNat % 32 ≤ 20 ∧ e.mode = .auto (m.toNat % 32))) := by
  obtain ⟨k, mode⟩ := e
  have hrange : m.toNat / 64 = 0 ∨ m.toNat / 64 = 1 ∨ m.toNat / 64 = 2 ∨ m.toNat / 64 = 3 := by
    have := m.isLt
    omega
  unfold KeyEntry.parse
  cases KeyAction.ofByte a with
  | none => simp
  | some k' =>
    rcases hrange with h | h | h | h
    · simp [h, eq_comm]
    · simp [h]
      grind
    · simp [h]
      grind
    · simp [h]

/-- The mode that the image and READ KEYS give of an entry: bits that do not belong to it are dropped. -/
theorem RepeatMode.byte_auto {p : Nat} (h : p ≤ 20) :
    (RepeatMode.auto p).byte.toNat / 64 = 2 ∧ (RepeatMode.auto p).byte.toNat % 32 = p := by
  rw [RepeatMode.byte, b8_toNat (by omega)]
  omega

theorem KeyEntry.parse_bytes {a m : Byte} {k : KeyEntry} (h : KeyEntry.parse a m = some k) :
    KeyEntry.parse k.action.byte k.mode.byte = some k := by
  obtain ⟨hk, hmode⟩ := (KeyEntry.parse_eq_some_iff ..).mp h
  refine (KeyEntry.parse_eq_some_iff ..).mpr ⟨KeyAction.ofByte_byte hk ▸ hk, ?_⟩
  rcases hmode with ⟨-, hm⟩ | ⟨-, hf, hm⟩ | ⟨-, hlo, hhi, hm⟩
  · exact .inl ⟨by rw [hm]; rfl, hm⟩
  · exact .inr (.inl ⟨by rw [hm]; rfl, hf, hm⟩)
  · obtain ⟨hkind, hp⟩ := RepeatMode.byte_auto hhi
    rw [hm]
    exact .inr (.inr ⟨hkind, by rw [hp]; exact hlo, by rw [hp]; exact hhi, by rw [hp]⟩)

/-! ## Destinations and source records -/

theorem LinkDest.ofPair_pair {k n : Byte} {d : LinkDest} (h : LinkDest.ofPair k n = some d) :
    ∃ x y, d.pair = [x, y] ∧ LinkDest.ofPair x y = some d := by
  unfold LinkDest.ofPair at h
  split at h
  · split at h
    · next hn => cases h; exact ⟨_, _, rfl, by simp only [LinkDest.ofPair, b8_of_toNat]; exact if_pos hn⟩
    · exact absurd h nofun
  · split at h
    · next hn => cases h; exact ⟨_, _, rfl, by simp only [LinkDest.ofPair, b8_of_toNat]; exact if_pos hn⟩
    · exact absurd h nofun
  · cases h; exact ⟨_, _, rfl, rfl⟩
  · exact absurd h nofun

theorem LinkDest.ofByte_byte {b : Byte} {d : LinkDest} (h : LinkDest.ofByte b = some d) :
    LinkDest.ofByte d.byte = some d := by
  have all : ∀ b : Byte, ∀ d ∈ LinkDest.ofByte b, LinkDest.ofByte d.byte = some d := by decide
  exact all b d h

/-- The four class bits of byte 2 of Table 3.3. -/
theorem classBits (a b c d : Bool) :
    let w := b8 (bit a 0 + bit b 1 + bit c 2 + bit d 3)
    w.getLsbD 0 = a ∧ w.getLsbD 1 = b ∧ w.getLsbD 2 = c ∧ w.getLsbD 3 = d := by
  revert a b c d
  decide

/-- The record that bytes 0 to 8 of Table 3.3 give, and what they must satisfy (R46). -/
structure SourceRec.Reads (src : Source) (b : SourceBytes) (r : SourceRec) : Prop where
  enable : onOff b.enable = some r.enable
  route : b.route.toNat = r.route.code
  dest : LinkDest.ofPair b.destType b.destNum = some r.dest
  priority : b.priority.toNat = r.priority ∧ r.priority ≤ 3
  classes : b.classes.getLsbD 0 = r.transport ∧ b.classes.getLsbD 1 = r.lamp ∧ b.classes.getLsbD 2 = r.shows
    ∧ b.classes.getLsbD 3 = r.power
  range : b.base.toNat = r.base ∧ b.limit.toNat = r.limit ∧ r.base ≤ r.limit ∧ r.limit ≤ 99
  tenure : b.tenure.toNat = r.tenure
  here : src = .link → r.route = .here

theorem SourceRec.parse_eq_some_iff (src : Source) (b : SourceBytes) (r : SourceRec) :
    SourceRec.parse src b = some r ↔ SourceRec.Reads src b r := by
  constructor
  · intro h
    unfold SourceRec.parse at h
    dsimp only at h
    split at h
    · next e route dest he hr hd =>
      split at h
      · next hc =>
        obtain ⟨hp, hb, hl, hh⟩ := hc
        obtain rfl := Option.some.inj h
        refine ⟨he, ?_, hd, ⟨rfl, hp⟩, ⟨rfl, rfl, rfl, rfl⟩, ⟨rfl, rfl, hb, hl⟩, rfl, hh⟩
        split at hr
        · next h0 => cases hr; exact h0
        · next h1 => cases hr; exact h1
        · next h2 => cases hr; exact h2
        · exact absurd hr nofun
      · exact absurd h nofun
    · exact absurd h nofun
  · rintro ⟨he, hroute, hd, ⟨hp, hp3⟩, ⟨ht, hl, hs, hw⟩, ⟨hb, hli, hle, h99⟩, hten, hhere⟩
    unfold SourceRec.parse
    obtain ⟨e, p, t, l, s, w, ba, li, te, ro, de⟩ := r
    dsimp only at *
    subst hp ht hl hs hw hb hli hten
    rw [he, hd, hroute]
    cases ro <;> exact if_pos ⟨hp3, hle, h99, hhere⟩

theorem SourceRec.parse_bytes {src : Source} {b : SourceBytes} {r : SourceRec} (h : SourceRec.parse src b = some r) :
    parseSource src r.bytes = some r := by
  obtain ⟨-, -, hd, ⟨-, hp⟩, -, ⟨-, -, hle, h99⟩, hten, hhere⟩ := (SourceRec.parse_eq_some_iff ..).mp h
  obtain ⟨x, y, hpair, hxy⟩ := LinkDest.ofPair_pair hd
  have hroute : r.route.code ≤ 255 := by cases r.route <;> decide
  have hbytes : r.bytes = [b8 (bit r.enable 0), b8 r.priority,
      b8 (bit r.transport 0 + bit r.lamp 1 + bit r.shows 2 + bit r.power 3), b8 r.base, b8 r.limit, b8 r.tenure,
      b8 r.route.code, x, y] ++ List.replicate 7 0 := by
    rw [SourceRec.bytes, hpair]
    rfl
  rw [hbytes]
  refine (SourceRec.parse_eq_some_iff ..).mpr ⟨onOff_bit _, b8_toNat hroute, hxy, ⟨b8_toNat (by omega), hp⟩,
    classBits .., ⟨b8_toNat (by omega), b8_toNat (by omega), hle, h99⟩, b8_toNat ?_, hhere⟩
  exact hten ▸ byte_le _

/-! ## Step records -/

theorem StepAction.parse_bytes {x y : Byte} {a : StepAction} (h : StepAction.parse x y = some a) :
    a.bytes = [x, if x = 3 then y else 0] ∧ StepAction.parse x (if x = 3 then y else 0) = some a := by
  have slot {n : Nat} {b : Byte} (hn : x.toNat = n) (hb : b.toNat = n) : x = b :=
    BitVec.eq_of_toNat_eq (hn.trans hb.symm)
  have hparse := h
  unfold StepAction.parse at h
  split at h
  · next hx => cases h; cases slot (b := 0) hx rfl; exact ⟨rfl, rfl⟩
  · next hx => cases h; cases slot (b := 1) hx rfl; exact ⟨rfl, rfl⟩
  · next hx => cases h; cases slot (b := 2) hx rfl; exact ⟨rfl, rfl⟩
  · next hx =>
    obtain ⟨-, hs⟩ := Option.ite_none_right_eq_some.mp h
    cases hs
    cases slot (b := 3) hx rfl
    exact ⟨congrArg (fun v => [3, v]) (b8_of_toNat y), hparse⟩
  · next hx => cases h; cases slot (b := 4) hx rfl; exact ⟨rfl, rfl⟩
  · exact absurd h nofun

/-- The destination byte of a link action as it is stored: bits 5 and 4 are 0, and the number of ALL. -/
theorem LinkDest.byte_ofByte {b : Byte} {d : LinkDest} (h : LinkDest.ofByte b = some d) :
    d.byte = if 128 ≤ b.toNat then 0x80 else b &&& 0xCF := by
  have all : ∀ b : Byte, ∀ d ∈ LinkDest.ofByte b, d.byte = if 128 ≤ b.toNat then 0x80 else b &&& 0xCF := by decide
  exact all b d h

theorem LinkAction.parse_fields {d k a b : Byte} {l : LinkAction} (h : LinkAction.parse d k a b = some l) :
    LinkDest.ofByte d = some l.dest ∧ k.toNat = l.kind.code ∧ a.toNat = l.arg1 ∧ b.toNat = l.arg2 := by
  unfold LinkAction.parse at h
  dsimp only at h
  split at h
  · exact absurd h nofun
  · next dest hd =>
    rw [hd]
    split at h
    case h_7 => exact absurd h nofun
    all_goals
      next hk =>
      obtain ⟨-, hl⟩ := Option.ite_none_right_eq_some.mp h
      cases hl
      exact ⟨rfl, hk, rfl, rfl⟩

theorem LinkAction.parse_bytes {d k a b : Byte} {l : LinkAction} (h : LinkAction.parse d k a b = some l) :
    l.bytes = [l.dest.byte, k, a, b] ∧ LinkAction.parse l.dest.byte k a b = some l := by
  obtain ⟨hd, hk, ha, hb⟩ := LinkAction.parse_fields h
  have same : LinkAction.parse l.dest.byte k a b = LinkAction.parse d k a b := by
    rw [LinkAction.parse, LinkAction.parse, LinkDest.ofByte_byte hd, hd]
  exact ⟨by rw [LinkAction.bytes, ← hk, ← ha, ← hb, b8_of_toNat, b8_of_toNat, b8_of_toNat], same.trans h⟩

/-- The record that the 16 bytes of Table 7.3 give, and what they must satisfy (R122). -/
structure StepRec.Reads (b : Nat → Byte) (r : StepRec) : Prop where
  written : (b 0).getLsbD 0 = true
  action : StepAction.parse (b 1) (b 2) = some r.action
  fade : (b 3).toNat = r.fade ∧ r.fade ≤ 99
  level : present ((b 0).getLsbD 1) (some (b 4).toNat) = some r.level
  audio : present ((b 0).getLsbD 2) (if (b 5).toNat ≤ 63 ∧ (b 6).toNat ≤ 99 then some ((b 5).toNat, (b 6).toNat)
    else none) = some r.audio
  deck : (b 7).toNat = r.deck.code
  dwell : of16 (b 8) (b 9) = r.dwell ∧ r.dwell ≤ 6000
  next : present ((b 0).getLsbD 3) (if 1 ≤ (b 10).toNat ∧ (b 10).toNat ≤ Config.steps then some (b 10).toNat
    else none) = some r.next
  link : present ((b 0).getLsbD 4) (LinkAction.parse (b 11) (b 12) (b 13) (b 14)) = some r.link

theorem StepRec.parse_eq_some_iff (bs : List Byte) (r : StepRec) : StepRec.parse bs = some (some r) ↔
    bs.length = 16 ∧ StepRec.Reads (fun i => bs.getD i 0) r := by
  constructor
  · intro h
    unfold StepRec.parse at h
    dsimp only at h
    split at h
    · exact absurd h nofun
    · next hlen =>
      split at h
      · exact absurd h nofun
      · next hon =>
        split at h
        · next a d l au n li ha hd hl hau hn hli =>
          split at h
          · next hc =>
            obtain ⟨hf, hdw⟩ := hc
            cases h
            refine ⟨Decidable.not_not.mp hlen, eq_true_of_ne_false hon, ha, ⟨rfl, hf⟩, hl, hau, ?_, ⟨rfl, hdw⟩, hn, hli⟩
            split at hd
            · next h0 => cases hd; exact h0
            · next h1 => cases hd; exact h1
            · next h2 => cases hd; exact h2
            · exact absurd hd nofun
          · exact absurd h nofun
        · exact absurd h nofun
  · rintro ⟨hlen, hon, ha, ⟨hf, hf99⟩, hl, hau, hd, ⟨hdw, hdw6⟩, hn, hli⟩
    unfold StepRec.parse
    obtain ⟨a, fa, l, au, d, dw, n, li⟩ := r
    dsimp only at *
    subst hf hdw
    rw [if_neg (not_not.mpr hlen), if_neg (ne_false_of_eq_true hon), ha, hl, hau, hn, hli, hd]
    cases d <;> exact if_pos ⟨hf99, hdw6⟩

/-- The flags of byte 0 of Table 7.3 are its five low bits. -/
theorem stepFlags {w : Byte} {a b c d : Bool} (h0 : w.getLsbD 0 = true) (ha : w.getLsbD 1 = a) (hb : w.getLsbD 2 = b)
    (hc : w.getLsbD 3 = c) (hd : w.getLsbD 4 = d) :
    b8 (1 + bit a 1 + bit b 2 + bit c 3 + bit d 4) = w &&& 0x1F := by
  subst ha hb hc hd
  have all : ∀ w : Byte, w.getLsbD 0 = true → b8 (1 + bit (w.getLsbD 1) 1 + bit (w.getLsbD 2) 2 + bit (w.getLsbD 3) 3
      + bit (w.getLsbD 4) 4) = w &&& 0x1F := by decide
  exact all w h0

/-- A field that is read where its present bit is set: it is the value read, and there is one. -/
theorem present_eq_some_iff {α : Type} (on : Bool) (v : Option α) (w : Option α) :
    present on v = some w ↔ (on = false ∧ w = none) ∨ (on = true ∧ ∃ x, v = some x ∧ w = some x) := by
  cases on
  · simp [present, eq_comm]
  · simp [present, eq_comm]

/-- The bytes that a written record of Table 7.3 reads back as: what no present bit names is 0. -/
def storedStep (b : Nat → Byte) : List Byte :=
  [b 0 &&& 0x1F, b 1, if b 1 = 3 then b 2 else 0, b 3,
    if (b 0).getLsbD 1 then b 4 else 0, if (b 0).getLsbD 2 then b 5 else 0,
    if (b 0).getLsbD 2 then b 6 else 0, b 7, b 8, b 9, if (b 0).getLsbD 3 then b 10 else 0,
    if (b 0).getLsbD 4 then (if 128 ≤ (b 11).toNat then 0x80 else b 11 &&& 0xCF) else 0,
    if (b 0).getLsbD 4 then b 12 else 0, if (b 0).getLsbD 4 then b 13 else 0,
    if (b 0).getLsbD 4 then b 14 else 0, 0]

theorem present_isSome {α : Type} {on : Bool} {v : Option α} {w : Option α} (h : present on v = some w) :
    w.isSome = on := by
  rcases (present_eq_some_iff ..).mp h with ⟨rfl, rfl⟩ | ⟨rfl, x, -, rfl⟩ <;> rfl

theorem le16_of16 (x y : Byte) : le16 (of16 x y) = [x, y] := by
  have hx := byte_le x
  have hy := byte_le y
  simp only [le16, of16, List.cons.injEq, and_true]
  constructor <;> apply BitVec.eq_of_toNat_eq <;> simp only [b8, BitVec.toNat_ofNat] <;> omega

theorem StepRec.Reads.bytes_eq {b : Nat → Byte} {r : StepRec} (h : StepRec.Reads b r) : r.bytes = storedStep b := by
  obtain ⟨hon, ha, ⟨hf, -⟩, hl, hau, hd, ⟨hdw, -⟩, hn, hli⟩ := h
  have hlevel : b8 (r.level.getD 0) = if (b 0).getLsbD 1 then b 4 else 0 := by
    rcases (present_eq_some_iff ..).mp hl with ⟨hb, hr⟩ | ⟨hb, x, hx, hr⟩ <;> rw [hb, hr]
    · rfl
    · cases hx
      exact b8_of_toNat _
  have haudio : b8 (r.audio.getD (0, 0)).1 = (if (b 0).getLsbD 2 then b 5 else 0)
      ∧ b8 (r.audio.getD (0, 0)).2 = if (b 0).getLsbD 2 then b 6 else 0 := by
    rcases (present_eq_some_iff ..).mp hau with ⟨hb, hr⟩ | ⟨hb, x, hx, hr⟩ <;> rw [hb, hr]
    · exact ⟨rfl, rfl⟩
    · obtain ⟨-, hx⟩ := Option.ite_none_right_eq_some.mp hx
      cases hx
      exact ⟨b8_of_toNat _, b8_of_toNat _⟩
  have hnext : b8 (r.next.getD 0) = if (b 0).getLsbD 3 then b 10 else 0 := by
    rcases (present_eq_some_iff ..).mp hn with ⟨hb, hr⟩ | ⟨hb, x, hx, hr⟩ <;> rw [hb, hr]
    · rfl
    · obtain ⟨-, hx⟩ := Option.ite_none_right_eq_some.mp hx
      cases hx
      exact b8_of_toNat _
  have hlink : (match r.link with
        | some l => l.bytes
        | none => [0, 0, 0, 0]) =
      [if (b 0).getLsbD 4 then (if 128 ≤ (b 11).toNat then 0x80 else b 11 &&& 0xCF) else 0,
        if (b 0).getLsbD 4 then b 12 else 0, if (b 0).getLsbD 4 then b 13 else 0,
        if (b 0).getLsbD 4 then b 14 else 0] := by
    rcases (present_eq_some_iff ..).mp hli with ⟨hb, hr⟩ | ⟨hb, x, hx, hr⟩ <;> rw [hb, hr]
    · rfl
    · obtain ⟨hdest, -⟩ := LinkAction.parse_fields hx
      obtain ⟨hbytes, -⟩ := LinkAction.parse_bytes hx
      exact hbytes.trans (by rw [LinkDest.byte_ofByte hdest]; rfl)
  obtain ⟨hact, -⟩ := StepAction.parse_bytes ha
  rw [StepRec.bytes, present_isSome hl, present_isSome hau, present_isSome hn, present_isSome hli,
    stepFlags hon rfl rfl rfl rfl, hact, ← hf, ← hd, ← hdw, le16_of16, hlevel, haudio.1, haudio.2, hnext, b8_of_toNat,
    b8_of_toNat]
  exact congrArg (fun l => [b 0 &&& 0x1F] ++ [b 1, if b 1 = 3 then b 2 else 0] ++ [b 3,
    if (b 0).getLsbD 1 then b 4 else 0, if (b 0).getLsbD 2 then b 5 else 0, if (b 0).getLsbD 2 then b 6 else 0, b 7]
    ++ [b 8, b 9] ++ [if (b 0).getLsbD 3 then b 10 else 0] ++ l ++ [0]) hlink

theorem present_congr {α : Type} {on : Bool} {v w : Option α} (h : on = true → v = w) : present on v = present on w := by
  cases on
  · rfl
  · rw [h rfl]

theorem StepRec.Reads.stored {b : Nat → Byte} {r : StepRec} (h : StepRec.Reads b r) :
    StepRec.Reads (fun i => (storedStep b).getD i 0) r := by
  obtain ⟨hon, ha, hf, hl, hau, hd, hdw, hn, hli⟩ := h
  obtain ⟨-, hact⟩ := StepAction.parse_bytes ha
  have low {i : Nat} (hi : i < 5) : (b 0 &&& 0x1F).getLsbD i = (b 0).getLsbD i := by
    have all : ∀ w : Byte, ∀ i < 5, (w &&& 0x1F).getLsbD i = w.getLsbD i := by decide
    exact all _ i hi
  refine ⟨(low (by omega)).trans hon, hact, hf, ?_, ?_, hd, hdw, ?_, ?_⟩
  · refine (congrArg (present · _) (low (by omega))).trans ((present_congr fun hb => ?_).trans hl)
    simp only [storedStep, List.getD_cons_succ, List.getD_cons_zero, hb, if_true]
  · refine (congrArg (present · _) (low (by omega))).trans ((present_congr fun hb => ?_).trans hau)
    simp only [storedStep, List.getD_cons_succ, List.getD_cons_zero, hb, if_true]
  · refine (congrArg (present · _) (low (by omega))).trans ((present_congr fun hb => ?_).trans hn)
    simp only [storedStep, List.getD_cons_succ, List.getD_cons_zero, hb, if_true]
  · refine (congrArg (present · _) (low (by omega))).trans ?_
    dsimp only [storedStep, List.getD_cons_succ, List.getD_cons_zero]
    rcases (present_eq_some_iff ..).mp hli with ⟨hb, hr⟩ | ⟨hb, x, hx, hr⟩ <;> rw [hb, hr]
    · rfl
    · obtain ⟨hdest, -⟩ := LinkAction.parse_fields hx
      obtain ⟨-, hparse⟩ := LinkAction.parse_bytes hx
      rw [LinkDest.byte_ofByte hdest] at hparse
      exact congrArg (Option.map some) hparse

theorem StepRec.parse_bytes {bs : List Byte} {r : StepRec} (h : StepRec.parse bs = some (some r)) :
    StepRec.parse r.bytes = some (some r) := by
  obtain ⟨-, hreads⟩ := (StepRec.parse_eq_some_iff ..).mp h
  rw [hreads.bytes_eq]
  exact (StepRec.parse_eq_some_iff ..).mpr ⟨rfl, hreads.stored⟩

/-- Settles O15: each read gives back the record whose bytes it reads, by what a read establishes
(`LinkFrame.parse_eq_some_iff`, `StepRec.parse_eq_some_iff`, `KeyEntry.parse_eq_some_iff`, `SourceRec.parse_eq_some_iff`). -/
theorem linkFramesAndRecordsReadBack : Obligations.LinkFramesAndRecordsReadBack :=
  ⟨fun _ hlevel hsrc hok => LinkFrame.parse_bytes hlevel hsrc hok, fun _ _ h => StepRec.parse_bytes h,
    fun _ _ _ h => KeyEntry.parse_bytes h, fun _ _ _ h => SourceRec.parse_bytes h⟩

end Sys2Proof.Machine
end

section
/-! The cue table and the cue queue (O45). -/

namespace Sys2Proof.Machine
open Sys2Proof

/-! ## Requests of the panel -/

theorem panelRequest_disabled {c : ReqClass} {s : State} (h : classOk .panel c s = false)
    (f : State → State × Status) : panelRequest c f s = (s, .of .disabled) := by
  rw [panelRequest, sourced, if_pos h]
  rfl

theorem panelRequest_ok {c : ReqClass} {s t : State} {f : State → State × Status} (h : classOk .panel c s = true)
    (hf : f s = (t, .ok)) : panelRequest c f s = (idleZero t, .of .ok) := by
  rw [panelRequest, sourced, if_neg (ne_false_of_eq_true h), hf]
  rfl

theorem panelRequest_refused {c : ReqClass} {s t : State} {st : Status} {f : State → State × Status}
    (h : classOk .panel c s = true) (hf : f s = (t, st)) (hst : st ≠ .ok) : panelRequest c f s = (t, .of st) := by
  rw [panelRequest, sourced, if_neg (ne_false_of_eq_true h), hf]
  dsimp only
  rw [if_neg hst]
  rfl

theorem quiet_request_ok {c : ReqClass} {s t : State} {f : State → State × Status} (h : Awake s)
    (hc : classOk .panel c s = true) (hf : f s = (t, .ok)) :
    quiet (panel (panelRequest c f)) s = .next (answered .ok [] t) :=
  (quiet_answers h (panelRequest_ok hc hf)).trans rfl

/-! ## Cues offered -/

theorem offerFrom_joins {o : CueOrigin} {k : CueKind} {s : State} (hp : s.shc.phase ≠ .stopped)
    (hq : s.crn.queue.length < 8) : offerFrom o k s = (pushCue o k s, .ok) := by
  have joins : offerCue o k s = (pushCue o k s, .joined) := by
    exact (if_neg hp).trans (if_pos hq)
  rw [offerFrom, joins]

/-- A cue of the panel that does not join leaves the state, with BUSY. -/
theorem offerFrom_panel_busy {k : CueKind} {s : State} (h : s.shc.phase = .stopped ∨ 8 ≤ s.crn.queue.length) :
    offerFrom .panel k s = (s, .busy) := by
  by_cases hp : s.shc.phase = .stopped
  · rw [offerFrom, offerCue, if_pos hp]
  · have hq : ¬ s.crn.queue.length < Config.cueQueueMax := Nat.not_lt.mpr (h.resolve_left hp)
    rw [offerFrom, offerCue, if_neg hp, if_neg hq]
    rfl

/-! ## The table -/

theorem stepNumberOk_eq_true {n : Byte} (h1 : 1 ≤ n.toNat) (h2 : n.toNat ≤ 200) : stepNumberOk n = true := by
  simp [stepNumberOk, Config.steps, h1, h2]

theorem stepNumberOk_eq_false {n : Byte} (h : n.toNat = 0 ∨ 200 < n.toNat) : stepNumberOk n = false := by
  have hmax : Config.steps = 200 := rfl
  simp only [stepNumberOk, hmax, Bool.and_eq_false_iff, decide_eq_false_iff_not]
  omega

theorem stepRec_parse_length {bs : List Byte} (h : bs.length ≠ 16) : StepRec.parse bs = none := if_pos h

theorem stepRec_parse_empty {bs : List Byte} (h : bs.length = 16) (h0 : (bs.getD 0 0).getLsbD 0 = false) :
    StepRec.parse bs = some none := by
  unfold StepRec.parse
  exact (if_neg (not_not.mpr h)).trans (if_pos h0)

/-- The actions of Table 7.3 that a field's bytes may hold. -/
theorem stepAction_parse_none_iff (x y : Byte) :
    StepAction.parse x y = none ↔ 4 < x.toNat ∨ (x.toNat = 3 ∧ 99 < y.toNat) := by
  unfold StepAction.parse
  split
  case h_6 =>
    exact iff_of_true rfl (.inl (by grind))
  case h_4 hx =>
    rw [ite_eq_right_iff]
    grind
  all_goals
    next hx =>
    exact iff_of_false nofun (by omega)

theorem linkDest_ofByte_none_iff (b : Byte) : LinkDest.ofByte b = none ↔ b.toNat / 64 = 3
    ∨ (b.toNat / 64 = 0 ∧ 14 < b.toNat % 16) ∨ (b.toNat / 64 = 1 ∧ (b.toNat % 16 = 0 ∨ 8 < b.toNat % 16)) := by
  revert b
  decide

/-- The arguments of a link action's change that WRITE STEP refuses (07 Table 7.2). -/
theorem changeArgOk_eq_false_iff (a b : Nat) : changeArgOk a b = false ↔
    a = 0 ∨ 4 < a ∨ (a ≤ 2 ∧ (b = 0 ∨ 15 < b)) ∨ (a = 3 ∧ 99 < b) ∨ (a = 4 ∧ b ≠ 0) := by
  unfold changeArgOk
  split
  case h_5 =>
    exact iff_of_true rfl (by grind)
  all_goals
    simp only [Bool.and_eq_false_iff, decide_eq_false_iff_not, true_and]
    omega

theorem linkAction_parse_none_iff (d k a b : Byte) :
    LinkAction.parse d k a b = none ↔ LinkActionRefused d.toNat k.toNat a.toNat b.toNat := by
  have hdest := linkDest_ofByte_none_iff d
  have hchange := changeArgOk_eq_false_iff a.toNat b.toNat
  unfold LinkAction.parse LinkActionRefused
  dsimp only
  split
  · next hd =>
    have := hdest.mp hd
    exact iff_of_true rfl (by omega)
  · next dest hd =>
    have hok := mt hdest.mpr (hd ▸ nofun)
    split
    case h_7 => exact iff_of_true rfl (by grind)
    all_goals
      next hk =>
      rw [hk]
      grind

theorem present_eq_none_iff {α : Type} (on : Bool) (v : Option α) :
    present on v = none ↔ on = true ∧ v = none := by
  cases on <;> simp [present]

theorem DeckAction.code_le (d : DeckAction) : d.code ≤ 2 := by
  cases d <;> decide

theorem DeckAction.exists_code {n : Nat} (h : n ≤ 2) : ∃ d : DeckAction, n = d.code := by
  match n, h with
  | 0, _ => exact ⟨.none, rfl⟩
  | 1, _ => exact ⟨.play, rfl⟩
  | 2, _ => exact ⟨.stop, rfl⟩

theorem StepRec.Reads.not_refused {b : Nat → Byte} {r : StepRec} (h : StepRec.Reads b r) : ¬ StepRefused b := by
  obtain ⟨-, ha, ⟨hf, hf99⟩, -, hau, hd, ⟨hdw, hdw6⟩, hn, hli⟩ := h
  have hdeck := r.deck.code_le
  have some_ne {α : Type} {x : Option α} {y : α} (h : x = some y) : x ≠ none := fun hx => nomatch h.symm.trans hx
  rw [of16] at hdw
  rintro (h | h | h | h | h | ⟨hb, h⟩ | ⟨hb, h⟩ | ⟨hb, h⟩)
  · exact some_ne ha ((stepAction_parse_none_iff ..).mpr (.inl h))
  · exact some_ne ha ((stepAction_parse_none_iff ..).mpr (.inr h))
  · omega
  · omega
  · omega
  · exact some_ne hau ((present_eq_none_iff ..).mpr ⟨hb, if_neg (by omega)⟩)
  · exact some_ne hn ((present_eq_none_iff ..).mpr ⟨hb, if_neg (by simp only [Config.steps]; omega)⟩)
  · exact some_ne hli ((present_eq_none_iff ..).mpr ⟨hb, (linkAction_parse_none_iff ..).mpr h⟩)

theorem StepRec.exists_reads {b : Nat → Byte} (h0 : (b 0).getLsbD 0 = true) (h : ¬ StepRefused b) :
    ∃ r, StepRec.Reads b r := by
  simp only [StepRefused, not_or] at h
  obtain ⟨ha, hs, hf, hd, hdw, hau, hn, hli⟩ := h
  obtain ⟨action, haction⟩ := Option.ne_none_iff_exists'.mp
    (mt (stepAction_parse_none_iff (b 1) (b 2)).mp (not_or.mpr ⟨ha, hs⟩))
  obtain ⟨deck, hdeck⟩ := DeckAction.exists_code (Nat.le_of_not_lt hd)
  obtain ⟨level, hlevel⟩ := Option.ne_none_iff_exists'.mp
    (mt (present_eq_none_iff ((b 0).getLsbD 1) (some (b 4).toNat)).mp (by simp))
  obtain ⟨audio, haudio⟩ := Option.ne_none_iff_exists'.mp (mt (present_eq_none_iff ((b 0).getLsbD 2)
    (if (b 5).toNat ≤ 63 ∧ (b 6).toNat ≤ 99 then some ((b 5).toNat, (b 6).toNat) else none)).mp fun ⟨hb, hv⟩ =>
      hau ⟨hb, by have := ite_eq_right_iff.mp hv; grind⟩)
  obtain ⟨next, hnext⟩ := Option.ne_none_iff_exists'.mp (mt (present_eq_none_iff ((b 0).getLsbD 3)
    (if 1 ≤ (b 10).toNat ∧ (b 10).toNat ≤ Config.steps then some (b 10).toNat else none)).mp fun ⟨hb, hv⟩ =>
      hn ⟨hb, by have := ite_eq_right_iff.mp hv; simp only [Config.steps] at this; grind⟩)
  obtain ⟨link, hlink⟩ := Option.ne_none_iff_exists'.mp (mt (present_eq_none_iff ((b 0).getLsbD 4)
    (LinkAction.parse (b 11) (b 12) (b 13) (b 14))).mp fun ⟨hb, hv⟩ =>
      hli ⟨hb, (linkAction_parse_none_iff ..).mp hv⟩)
  exact ⟨⟨action, (b 3).toNat, level, audio, deck, of16 (b 8) (b 9), next, link⟩, h0, haction,
    ⟨rfl, Nat.le_of_not_lt hf⟩, hlevel, haudio, hdeck, ⟨rfl, Nat.le_of_not_lt hdw⟩, hnext, hlink⟩

theorem stepRec_parse_ne_empty {bs : List Byte} (h : bs.length = 16) (h0 : (bs.getD 0 0).getLsbD 0 = true) :
    StepRec.parse bs ≠ some none := by
  unfold StepRec.parse
  dsimp only
  rw [if_neg (not_not.mpr h), if_neg (ne_false_of_eq_true h0)]
  split
  · split
    · exact nofun
    · exact nofun
  · exact nofun

/-- A written record of 16 bytes is refused where a field is out of its range: otherwise its fields are read. -/
theorem stepRec_parse_none_iff {bs : List Byte} (h : bs.length = 16) (h0 : (bs.getD 0 0).getLsbD 0 = true) :
    StepRec.parse bs = none ↔ StepRefused (fun i => bs.getD i 0) := by
  constructor
  · intro hnone
    by_contra hr
    obtain ⟨r, hreads⟩ := StepRec.exists_reads (b := fun i => bs.getD i 0) h0 hr
    exact nomatch hnone.symm.trans ((StepRec.parse_eq_some_iff ..).mpr ⟨h, hreads⟩)
  · intro hr
    cases hp : StepRec.parse bs with
    | none => rfl
    | some r =>
      cases r with
      | none => exact absurd hp (stepRec_parse_ne_empty h h0)
      | some r => exact absurd hr ((StepRec.parse_eq_some_iff ..).mp hp).2.not_refused

theorem stepAction_parse_eq {x y : Byte} {a : StepAction} (h : StepAction.parse x y = some a) :
    a = (match x.toNat with
      | 1 => .next
      | 2 => .prev
      | 3 => .slot y.toNat
      | 4 => .home
      | _ => .none) := by
  unfold StepAction.parse at h
  split at h
  case h_4 hx =>
    obtain ⟨-, hs⟩ := Option.ite_none_right_eq_some.mp h
    rw [hx]
    exact (Option.some.inj hs).symm
  case h_6 => exact absurd h nofun
  all_goals
    next hx =>
    rw [hx]
    exact (Option.some.inj h).symm

theorem linkDest_ofByte_eq {x : Byte} {d : LinkDest} (h : LinkDest.ofByte x = some d) :
    d = (match x.toNat / 64 with
      | 0 => .node (x.toNat % 16)
      | 1 => .group (x.toNat % 16)
      | _ => .all) := by
  unfold LinkDest.ofByte at h
  dsimp only at h
  split at h
  case h_3 hx =>
    rw [hx]
    exact (Option.some.inj h).symm
  case h_4 => exact absurd h nofun
  all_goals
    next hx =>
    obtain ⟨-, hs⟩ := Option.ite_none_right_eq_some.mp h
    rw [hx]
    exact (Option.some.inj hs).symm

theorem linkAction_parse_eq {d k a b : Byte} {l : LinkAction} (h : LinkAction.parse d k a b = some l) :
    l = { dest := match d.toNat / 64 with
            | 0 => .node (d.toNat % 16)
            | 1 => .group (d.toNat % 16)
            | _ => .all
          kind := match k.toNat with
            | 0 => .change
            | 1 => .level
            | 2 => .lamp
            | 3 => .step
            | 4 => .hold
            | _ => .resume
          arg1 := a.toNat, arg2 := b.toNat } := by
  obtain ⟨hd, hk, ha, hb⟩ := LinkAction.parse_fields h
  obtain ⟨dest, kind, arg1, arg2⟩ := l
  dsimp only at hd hk ha hb
  subst ha hb
  rw [hk, linkDest_ofByte_eq hd]
  cases kind <;> rfl

theorem present_value {α : Type} {on : Bool} {v w : Option α} {x : α} (h : present on v = some w)
    (hx : ∀ y ∈ v, y = x) : w = if on then some x else none := by
  rcases (present_eq_some_iff ..).mp h with ⟨rfl, rfl⟩ | ⟨rfl, y, hy, rfl⟩
  · rfl
  · exact congrArg some (hx y hy)

theorem deckAction_eq {n : Nat} {d : DeckAction} : n = d.code → d = (match n with
      | 1 => .play
      | 2 => .stop
      | _ => .none) := by
  rintro rfl
  cases d <;> rfl

/-! ## READ CUES -/

theorem CueRec.bytes_eq (r : CueRec) : r.bytes =
          [match r.origin with
            | .tape => (0 : Byte)
            | .link => 1
            | .panel => 2
            | .remote => 3
            | .dwell => 4,
           match r.kind with
            | .next => 0
            | .step _ => 1,
           match r.kind with
            | .next => 0
            | .step n => b8 n,
           b8 r.stamp, b8 (r.stamp / 256)] := by
  obtain ⟨o, k, st⟩ := r
  cases o <;> cases k <;> rfl

theorem takeWait_eq (s : State) : b8 s.takeWait = if s.crn.queue = [] then 0
          else if s.shc.phase ≠ .running ∧ s.shc.phase ≠ .ending then 1
          else if s.crn.progress ≠ none then 2
          else if s.csq.flight ≠ none ∨ (s.sar.holder ≠ none ∧ s.sar.holder ≠ some .program) then 3
          else if s.sar.waiting ≠ none then 4 else 0 := by
  simp only [State.takeWait, List.isEmpty_iff, Option.isSome_iff_ne_none]
  repeat' split
  all_goals rfl

/-- Settles O45: the table's commands by `mapRange_getElem?`, what a record is read as by `StepRec.parse_eq_some_iff` and
`stepRec_parse_none_iff`, RUN STEP by the offer of a cue (`offerFrom_joins`, `offerFrom_panel_busy`). -/
theorem cueTableAndQueueCommands : Obligations.CueTableAndQueueCommands := by
  refine ⟨fun s n bs r h h1 h2 hr => ⟨updAt (fun _ => r) (n.toNat - 1) s.crn.table, quiet_answers h ?_,
      mapRange_length .., fun p x hp => ?_⟩,
    fun s n bs h hbad => quiet_answers h ?_, fun s n h h1 h2 => quiet_answers h (if_pos (stepNumberOk_eq_true h1 h2)),
    fun s n h hbad => quiet_answers h (if_neg (ne_true_of_eq_false (stepNumberOk_eq_false hbad))),
    fun s a b h h1 h2 h3 => ⟨mapRange (fun _ => none) (a.toNat - 1) (b.toNat - 1) 0 s.crn.table,
      quiet_answers h (if_pos ?_), mapRange_length .., fun p x hp => ?_⟩,
    fun s a b h hbad => quiet_answers h (if_neg ?_), rfl, fun bs => stepRec_parse_length,
    fun bs => stepRec_parse_empty, fun bs h h0 => ⟨stepRec_parse_none_iff h h0, stepRec_parse_ne_empty h h0⟩,
    fun bs r b hb h => ?_, fun s n h hc h1 h2 hp hq => ?_,
    fun s n h hc h1 h2 hno => quiet_answers h (panelRequest_refused hc (t := s) ?_ nofun),
    fun s n h hc hbad => quiet_answers h (panelRequest_refused hc (t := s) ?_ nofun),
    fun s n h hc => quiet_answers h (panelRequest_disabled hc _), fun s h => quiet_answers h rfl,
    fun s h => ?_, rfl, fun s h hrun hd hp => quiet_of_eq h ?_, fun s h hno => quiet_of_eq h (if_neg ?_)⟩
  · rw [stepNumberOk_eq_true h1 h2, hr]
    rfl
  · have hpos : n.toNat - 1 ≤ 0 + p ∧ 0 + p ≤ n.toNat - 1 ↔ p + 1 = n.toNat := by omega
    simp only [updAt, mapRange_getElem?, hp, Option.map_some, hpos]
  · rcases or_assoc.mpr hbad with hn | hnone
    · rw [stepNumberOk_eq_false hn]
      rfl
    · rw [hnone]
      cases stepNumberOk n <;> rfl
  · rw [stepNumberOk_eq_true h1 (by omega), stepNumberOk_eq_true (by omega) h3]
    exact decide_eq_true h2
  · have hpos : a.toNat - 1 ≤ 0 + p ∧ 0 + p ≤ b.toNat - 1 ↔ a.toNat ≤ p + 1 ∧ p + 1 ≤ b.toNat := by omega
    simp only [mapRange_getElem?, hp, Option.map_some, hpos]
  · simp only [Bool.and_eq_true, decide_eq_true_eq, stepNumberOk, show Config.steps = 200 from rfl]
    omega
  · subst hb
    obtain ⟨-, hreads⟩ := (StepRec.parse_eq_some_iff ..).mp h
    have hbytes := hreads.bytes_eq
    obtain ⟨-, ha, ⟨hf, -⟩, hl, hau, hd, ⟨hdw, -⟩, hn, hli⟩ := hreads
    refine ⟨stepAction_parse_eq ha, hf.symm, present_value hl fun _ hy => (Option.some.inj hy).symm,
      present_value hau fun _ hy => ?_, deckAction_eq hd, hdw.symm, present_value hn fun _ hy => ?_,
      present_value hli fun _ hy => linkAction_parse_eq hy, hbytes⟩
    · exact (Option.some.inj (Option.ite_none_right_eq_some.mp hy).2).symm
    · exact (Option.some.inj (Option.ite_none_right_eq_some.mp hy).2).symm
  · refine quiet_request_ok h hc (t := pushCue .panel (.step n.toNat) s) ?_
    exact (if_pos ⟨h1, h2⟩).trans (offerFrom_joins hp hq)
  · exact (if_pos ⟨h1, h2⟩).trans (offerFrom_panel_busy hno)
  · exact if_neg (by omega)
  · refine quiet_answers h (Prod.ext rfl (congrArg (Response.mk .ok) ?_))
    have isSome_eq {α : Type} (o : Option α) : o.isSome = decide (o ≠ none) := by cases o <;> rfl
    have running (a b : Bool) : (a && !(a && b)) = (a && !b) := by cases a <;> rfl
    simp only [cuesPayload, takeWait_eq, funext CueRec.bytes_eq, isSome_eq, running]
    refine congrArg (· ++ _) ?_
    simp only [le16, List.cons_append, List.nil_append, List.cons.injEq, true_and, and_true, decide_not]
    cases s.crn.faultStatus <;> rfl
  · have hruns : DwellRuns s := ⟨hd, hp, hrun⟩
    rw [if_pos ((dwellRuns_iff s).mpr hruns)]
    by_cases hq : s.crn.queue = []
    · by_cases hm : s.cdc.cfg.mode = .direct
      · simp [stopDwell, hq, hm]
      · simp [stopDwell, hq, hm, pushCue]
    · simp [stopDwell, hq]
  · rw [dwellRuns_iff]
    rintro ⟨hd, hp, -⟩
    rcases hno with hno | hno | hno
    · exact hd hno
    · rw [hno] at hp
      exact hp.elim nofun nofun
    · rw [hno] at hp
      exact hp.elim nofun nofun

end Sys2Proof.Machine
end

section
/-! What a key of the remote does to the remote's own record, and what a line event does. -/

namespace Sys2Proof.Machine
open Sys2Proof

/-! ## What a fired action leaves of the remote -/

/-- The same lines, keys, infra-red record and settings: only the focus run, the digit and the report may differ. -/
def Rmi.SameKeys (r t : Rmi) : Prop :=
  t = { r with focus := t.focus, digit := t.digit, digitMs := t.digitMs, lastKey := t.lastKey, unread := t.unread }

theorem Rmi.SameKeys.of_eq {r t : Rmi} (h : t = r) : r.SameKeys t := by
  subst h
  rfl

theorem Rmi.SameKeys.line {r t : Rmi} (h : r.SameKeys t) (l : Line) : t.line l = r.line l := by
  rw [h]
  cases l <;> rfl

theorem Rmi.SameKeys.fields {r t : Rmi} (h : r.SameKeys t) : t.keys = r.keys ∧ t.test = r.test ∧ t.irHeld = r.irHeld
    ∧ t.irReleaseMs = r.irReleaseMs ∧ t.cfg = r.cfg ∧ t.irPress = r.irPress ∧ t.irDrops = r.irDrops := by
  rw [h]
  exact ⟨rfl, rfl, rfl, rfl, rfl, rfl, rfl⟩

theorem Rmi.SameKeys.trans {r t u : Rmi} (h : r.SameKeys t) (h' : t.SameKeys u) : r.SameKeys u := by
  rw [Rmi.SameKeys] at *
  rw [h'] at *
  rw [h]

theorem startFocus_sameKeys (inward : Bool) (e : FocusEnd) (s : State) :
    s.rmi.SameKeys (startFocus inward e s).rmi := by
  unfold startFocus stopFocus setRmi
  split
  · split <;> rfl
  · rfl

theorem remoteRequest_rmi {c : ReqClass} {f : State → State × Status} (hf : ∀ s, (f s).1.rmi = s.rmi) (s : State) :
    (remoteRequest c f s).rmi = s.rmi := sourced_rmi _ _ _ hf s

theorem remoteRequest_pins {c : ReqClass} {f : State → State × Status} (hf : ∀ s, (f s).1.pins = s.pins) (s : State) :
    (remoteRequest c f s).pins = s.pins := sourced_pins _ _ _ hf s

theorem remoteChange_rmi (k : ChangeKind) (a : Nat) (s : State) : (remoteChange k a s).rmi = s.rmi := by
  simp only [remoteChange, changeRequest_frame]

theorem fireKey_sameKeys (a : KeyAction) (m : RepeatMode) (code : Nat) (s : State) :
    s.rmi.SameKeys (fireKey a m code s).rmi := by
  cases a with
  | none => exact .of_eq rfl
  | advance => exact .of_eq (remoteChange_rmi ..)
  | reverse => exact .of_eq (remoteChange_rmi ..)
  | home => exact .of_eq (remoteChange_rmi ..)
  | focusIn => exact startFocus_sameKeys ..
  | focusOut => exact startFocus_sameKeys ..
  | hold => exact .of_eq (remoteRequest_rmi (by simp) s)
  | resume => exact .of_eq (remoteRequest_rmi (by simp) s)
  | showStart => exact .of_eq (remoteRequest_rmi (by simp) s)
  | showStop => exact .of_eq (remoteRequest_rmi (by simp) s)
  | lampOn => exact .of_eq (remoteRequest_rmi (by simp) s)
  | lampOff => exact .of_eq (remoteRequest_rmi (by simp) s)
  | clearJam => exact .of_eq (remoteRequest_rmi (by simp) s)
  | nextStep => exact .of_eq (remoteRequest_rmi (by simp) s)
  | standby => exact .of_eq (remoteRequest_rmi (by simp) s)
  | wake => exact .of_eq (by simp [fireKey])
  | report => exact rfl
  | enter =>
    simp only [fireKey, enterKey]
    split
    · exact .of_eq rfl
    · rw [remoteChange_rmi]
      exact rfl
  | digit d =>
    simp only [fireKey, digitKey]
    split
    · exact rfl
    · rw [remoteChange_rmi]
      exact rfl

theorem startFocus_pins (inward : Bool) (e : FocusEnd) (s : State) : (startFocus inward e s).pins = s.pins := by
  unfold startFocus stopFocus setRmi
  split
  · split <;> rfl
  · rfl

theorem remoteChange_pins (k : ChangeKind) (a : Nat) (s : State) : (remoteChange k a s).pins = s.pins := by
  simp only [remoteChange, changeRequest_frame]

theorem fireKey_pins (a : KeyAction) (m : RepeatMode) (code : Nat) (s : State) : (fireKey a m code s).pins = s.pins := by
  cases a with
  | none => rfl
  | advance => exact remoteChange_pins ..
  | reverse => exact remoteChange_pins ..
  | home => exact remoteChange_pins ..
  | focusIn => exact startFocus_pins ..
  | focusOut => exact startFocus_pins ..
  | hold => exact remoteRequest_pins (by simp) s
  | resume => exact remoteRequest_pins (by simp) s
  | showStart => exact remoteRequest_pins (by simp) s
  | showStop => exact remoteRequest_pins (by simp) s
  | lampOn => exact remoteRequest_pins (by simp) s
  | lampOff => exact remoteRequest_pins (by simp) s
  | clearJam => exact remoteRequest_pins (by simp) s
  | nextStep => exact remoteRequest_pins (by simp) s
  | standby => exact remoteRequest_pins (by simp) s
  | wake => simp [fireKey]
  | report => rfl
  | enter =>
    simp only [fireKey, enterKey]
    split
    · rfl
    · rw [remoteChange_pins]
      rfl
  | digit d =>
    simp only [fireKey, digitKey]
    split
    · rfl
    · rw [remoteChange_pins]
      rfl

/-! ## No action puts an awake part to sleep -/

theorem wakeUp_power (s : State) :
    (wakeUp s).pnp.power = if s.pnp.power = .standbyPending ∨ s.pnp.power = .standby then .run else s.pnp.power := by
  unfold wakeUp
  split <;> simp_all

theorem Counting.of_power {s t : State} (h : Counting s) (hp : t.pnp.power = s.pnp.power) : Counting t := by
  rw [Counting, hp]
  exact h

theorem Counting.wakeUp {s : State} (h : Counting s) : Counting (wakeUp s) := by
  rw [Counting, wakeUp_power]
  rcases h with hr | hr <;> rw [hr] <;> exact .inl rfl

theorem Counting.lampOnTaken {s : State} (h : Counting s) : Counting (lampOnTaken s).1 := by
  have hw := Counting.wakeUp h
  unfold Machine.lampOnTaken
  dsimp only
  (repeat' split) <;> exact hw.of_power (by simp [setLmc])

theorem Counting.requestStandby {s : State} (h : Counting s) : Counting (requestStandby s).1 := by
  unfold Machine.requestStandby
  (repeat' split)
  · exact h
  · exact .inr (by simp [setPower])
  · exact h

theorem Counting.remoteRequest {c : ReqClass} {f : State → State × Status} (hf : ∀ s, Counting s → Counting (f s).1)
    {s : State} (h : Counting s) : Counting (remoteRequest c f s) := by
  unfold Machine.remoteRequest sourced
  split
  · exact h.of_power (by simp)
  · dsimp only
    split
    · exact hf s h
    · exact (hf s h).of_power (by simp)

theorem Counting.remoteChange {s : State} (h : Counting s) (k : ChangeKind) (a : Nat) :
    Counting (remoteChange k a s) := h.of_power (by simp [Machine.remoteChange])

theorem Counting.startFocus {s : State} (h : Counting s) (d : Bool) (e : FocusEnd) : Counting (startFocus d e s) := by
  unfold Machine.startFocus
  split
  · split <;> exact h
  · exact h

theorem Counting.fireKey {s : State} (h : Counting s) (a : KeyAction) (m : RepeatMode) (code : Nat) :
    Counting (fireKey a m code s) := by
  cases a with
  | none => exact h
  | advance => exact h.remoteChange ..
  | reverse => exact h.remoteChange ..
  | home => exact h.remoteChange ..
  | focusIn => exact h.startFocus ..
  | focusOut => exact h.startFocus ..
  | hold => exact h.remoteRequest fun _ hs => hs.of_power (by simp)
  | resume => exact h.remoteRequest fun _ hs => hs.of_power (by simp)
  | showStart => exact h.remoteRequest fun _ hs => hs.of_power (by simp)
  | showStop => exact h.remoteRequest fun _ hs => hs.of_power (by simp)
  | lampOn => exact h.remoteRequest fun _ hs => hs.lampOnTaken
  | lampOff => exact h.remoteRequest fun _ hs => hs.of_power (by simp)
  | clearJam => exact h.remoteRequest fun _ hs => hs.of_power (by simp)
  | nextStep => exact h.remoteRequest fun _ hs => hs.of_power (by simp)
  | standby => exact h.remoteRequest fun _ hs => hs.requestStandby
  | wake => exact h.wakeUp
  | report => exact h
  | enter =>
    simp only [Machine.fireKey, enterKey]
    split
    · exact h
    · exact Counting.remoteChange (s := setDigit _ s) h ..
  | digit d =>
    simp only [Machine.fireKey, digitKey]
    split
    · exact h
    · exact Counting.remoteChange (s := setDigit _ s) h ..

theorem Counting.ne_standby {s : State} (h : Counting s) : s.pnp.power ≠ .standby := by
  rcases h with hr | hr <;> rw [hr] <;> exact nofun

/-! ## Presses and releases -/

theorem codeLine_lineCode (l : Line) : codeLine (lineCode l) = some l := by
  cases l <;> rfl

theorem codeLine_ir {k : Nat} (h : k < 60) : codeLine k = none := by
  unfold codeLine
  split <;> first | omega | rfl

theorem setPress_line (l : Line) (p : Option Press) (s : State) : setPress (lineCode l) p s =
    { s with rmi := s.rmi.setLine l { s.rmi.line l with press := p } } := by
  simp only [setPress, codeLine_lineCode, setRmi]

theorem setPress_ir {k : Nat} (h : k < 60) (p : Option Press) (s : State) : setPress k p s =
    { s with rmi := { s.rmi with irPress := p } } := by
  simp only [setPress, codeLine_ir h, setRmi]

@[simp] theorem Rmi.setLine_setLine (r : Rmi) (l : Line) (x y : LineRec) : (r.setLine l x).setLine l y = r.setLine l y := by
  cases l <;> rfl

theorem Rmi.setLine_line (r : Rmi) (l : Line) : r.setLine l (r.line l) = r := by
  cases l <;> rfl

theorem Rmi.setLine_fields (r : Rmi) (l : Line) (x : LineRec) : (r.setLine l x).keys = r.keys
    ∧ (r.setLine l x).test = r.test ∧ (r.setLine l x).irHeld = r.irHeld ∧ (r.setLine l x).focus = r.focus
    ∧ (r.setLine l x).cfg = r.cfg := by
  cases l <;> exact ⟨rfl, rfl, rfl, rfl, rfl⟩

theorem Rmi.entry_of_keys {r t : Rmi} (h : t.keys = r.keys) (k : Nat) : t.entry k = r.entry k := by
  rw [Rmi.entry, Rmi.entry, h]

/-- The record of a line that an event brings to a level (R151, R156). -/
def LineRec.after (x : LineRec) (v : Bool) (e : KeyEntry) : LineRec :=
  if x.pressed = v then x
  else if v then ⟨true, true, x.releasedChg, some ⟨e.action, e.mode, 0, false⟩, x.reading⟩
  else ⟨false, x.pressedChg, true, none, x.reading⟩

theorem lineEvent_same {l : Line} {v : Bool} {s : State} (h : (s.rmi.line l).pressed = v) : lineEvent l v s = s := if_pos h

/-- A press of a line outside STANDBY: the mark and the press record, then the action fires. -/
theorem lineEvent_press {l : Line} {s : State} (hp : s.pnp.power ≠ .standby) (h : (s.rmi.line l).pressed = false) :
    lineEvent l true s = fireKey (s.rmi.entry (lineCode l)).action (s.rmi.entry (lineCode l)).mode (lineCode l)
      { s with rmi := s.rmi.setLine l ((s.rmi.line l).after true (s.rmi.entry (lineCode l))) } := by
  have hentry (x : LineRec) : (s.rmi.setLine l x).entry (lineCode l) = s.rmi.entry (lineCode l) :=
    Rmi.entry_of_keys (Rmi.setLine_fields ..).1 _
  simp only [lineEvent, h, reduceCtorEq, if_false, if_true, pressKey, setRmi, hentry, hp, setPress_line, Rmi.line_setLine,
    Rmi.setLine_setLine, LineRec.after]

theorem lineEvent_release {l : Line} {s : State} (h : (s.rmi.line l).pressed = true) :
    lineEvent l false s = { s with rmi := { s.rmi.setLine l ⟨false, (s.rmi.line l).pressedChg, true, none,
        (s.rmi.line l).reading⟩ with
      focus := if s.rmi.focus.drivenBy (lineCode l) then .stopped else s.rmi.focus } } := by
  have hfocus (x : LineRec) : (s.rmi.setLine l x).focus = s.rmi.focus := (Rmi.setLine_fields ..).2.2.2.1
  simp only [lineEvent, h, reduceCtorEq, if_false, releaseKey, setRmi, setPress_line, Rmi.line_setLine,
    if_true, Rmi.setLine_setLine, hfocus, stopFocus]
  split
  · rfl
  · cases l <;> rfl

theorem LineRec.after_same {x : LineRec} {v : Bool} (h : x.pressed = v) (e : KeyEntry) : x.after v e = x := if_pos h

theorem Rmi.line_focus (r : Rmi) (f : Focus) (m : Line) : ({ r with focus := f } : Rmi).line m = r.line m := by
  cases m <;> rfl

theorem lineEvent_line {s : State} (hp : s.pnp.power ≠ .standby) (l m : Line) (v : Bool) :
    (lineEvent l v s).rmi.line m
      = if m = l then (s.rmi.line l).after v (s.rmi.entry (lineCode l)) else s.rmi.line m := by
  by_cases h : (s.rmi.line l).pressed = v
  · rw [lineEvent_same h, LineRec.after_same h]
    split
    · next hm => rw [hm]
    · rfl
  · cases v with
    | true =>
      rw [lineEvent_press hp (eq_false_of_ne_true h), (fireKey_sameKeys ..).line]
      exact Rmi.line_setLine ..
    | false =>
      rw [lineEvent_release (eq_true_of_ne_false h)]
      refine (Rmi.line_focus ..).trans ((Rmi.line_setLine ..).trans ?_)
      rw [LineRec.after, if_neg h]
      rfl

/-- A line event leaves the keys, the settings and test mode. -/
theorem lineEvent_keeps (s : State) (l : Line) (v : Bool) (hp : s.pnp.power ≠ .standby) :
    (lineEvent l v s).rmi.keys = s.rmi.keys ∧ (lineEvent l v s).rmi.test = s.rmi.test
      ∧ (lineEvent l v s).rmi.irHeld = s.rmi.irHeld ∧ (lineEvent l v s).pins = s.pins := by
  by_cases h : (s.rmi.line l).pressed = v
  · rw [lineEvent_same h]
    exact ⟨rfl, rfl, rfl, rfl⟩
  · cases v with
    | true =>
      rw [lineEvent_press hp (eq_false_of_ne_true h), fireKey_pins]
      obtain ⟨hk, ht, hi, -⟩ := (fireKey_sameKeys (s.rmi.entry (lineCode l)).action (s.rmi.entry (lineCode l)).mode
        (lineCode l) { s with rmi := s.rmi.setLine l ((s.rmi.line l).after true (s.rmi.entry (lineCode l))) }).fields
      obtain ⟨hk', ht', hi', -⟩ := s.rmi.setLine_fields l ((s.rmi.line l).after true (s.rmi.entry (lineCode l)))
      exact ⟨hk.trans hk', ht.trans ht', hi.trans hi', rfl⟩
    | false =>
      rw [lineEvent_release (eq_true_of_ne_false h)]
      obtain ⟨hk', ht', hi', -⟩ := s.rmi.setLine_fields l
        ⟨false, (s.rmi.line l).pressedChg, true, none, (s.rmi.line l).reading⟩
      exact ⟨hk', ht', hi', rfl⟩

theorem Counting.lineEvent {s : State} (h : Counting s) (l : Line) (v : Bool) : Counting (lineEvent l v s) := by
  by_cases hv : (s.rmi.line l).pressed = v
  · rw [lineEvent_same hv]
    exact h
  · cases v with
    | true =>
      rw [lineEvent_press h.ne_standby (eq_false_of_ne_true hv)]
      exact Counting.fireKey (s := { s with rmi := s.rmi.setLine l _ }) h ..
    | false =>
      rw [lineEvent_release (eq_true_of_ne_false hv)]
      exact h

/-- What lines that change together leave: each line by its own level, taken one after the other. -/
structure LinesTaken (f : Line → Bool) (ls : List Line) (s t : State) : Prop where
  line : ∀ m, t.rmi.line m = if m ∈ ls then (s.rmi.line m).after (f m) (s.rmi.entry (lineCode m)) else s.rmi.line m
  keys : t.rmi.keys = s.rmi.keys
  test : t.rmi.test = s.rmi.test
  held : t.rmi.irHeld = s.rmi.irHeld
  pins : t.pins = s.pins
  awake : Counting t

theorem LinesTaken.event {f : Line → Bool} {ls : List Line} {s t : State} (h : LinesTaken f ls s t) {l : Line}
    (hl : l ∉ ls) : LinesTaken f (l :: ls) s (lineEvent l (f l) t) := by
  obtain ⟨hline, hkeys, htest, hheld, hpins, hc⟩ := h
  obtain ⟨hk, ht, hi, hp⟩ := lineEvent_keeps t l (f l) hc.ne_standby
  refine ⟨fun m => ?_, hk.trans hkeys, ht.trans htest, hi.trans hheld, hp.trans hpins, hc.lineEvent l (f l)⟩
  rw [lineEvent_line hc.ne_standby, hline, hline, Rmi.entry_of_keys hkeys]
  by_cases hm : m = l
  · subst hm
    simp [hl]
  · simp [hm]

theorem lineLevels_taken {s : State} (h : Counting s) (f : Line → Bool) :
    LinesTaken f [.fout, .fin, .rev, .fwd] s (lineLevels f s) := by
  have start : LinesTaken f [] s s := ⟨fun m => by simp, rfl, rfl, rfl, rfl, h⟩
  exact (((start.event (l := .fwd) nofun).event (l := .rev) (by simp)).event (l := .fin) (by simp)).event
    (l := .fout) (by simp)

theorem lineLevels_line {s : State} (h : Counting s) (f : Line → Bool) (m : Line) :
    (lineLevels f s).rmi.line m = (s.rmi.line m).after (f m) (s.rmi.entry (lineCode m)) :=
  ((lineLevels_taken h f).line m).trans (if_pos (by cases m <;> decide))

/-! ## Releases change the remote's record only -/

/-- Nothing differs outside the remote's record. -/
def OnlyRemote (s t : State) : Prop := t = { s with rmi := t.rmi }

theorem OnlyRemote.refl (s : State) : OnlyRemote s s := rfl

theorem OnlyRemote.trans {s t u : State} (h : OnlyRemote s t) (h' : OnlyRemote t u) : OnlyRemote s u := by
  rw [OnlyRemote] at *
  rw [h'] at *
  rw [h]

theorem OnlyRemote.release {s : State} (l : Line) : OnlyRemote s (lineEvent l false s) := by
  by_cases h : (s.rmi.line l).pressed = false
  · rw [lineEvent_same h]
    rfl
  · rw [lineEvent_release (eq_true_of_ne_false h)]
    rfl

theorem OnlyRemote.releases (s : State) : OnlyRemote s (lineLevels (fun _ => false) s) :=
  (((OnlyRemote.release .fwd).trans (.release .rev)).trans (.release .fin)).trans (.release .fout)

theorem OnlyRemote.setPress (k : Nat) (p : Option Press) (s : State) : OnlyRemote s (setPress k p s) := by
  unfold Machine.setPress
  split <;> rfl

theorem OnlyRemote.releaseKey (k : Nat) (s : State) : OnlyRemote s (releaseKey k s) := by
  unfold Machine.releaseKey
  dsimp only
  split
  · exact (OnlyRemote.setPress k none s).trans rfl
  · exact OnlyRemote.setPress k none s

theorem OnlyRemote.irReleased (s : State) : OnlyRemote s (irReleased s) := by
  unfold Machine.irReleased
  split
  · rfl
  · exact (OnlyRemote.releaseKey _ s).trans rfl

theorem Counting.onlyRemote {s t : State} (h : Counting s) (ho : OnlyRemote s t) : Counting t := by
  rw [ho]
  exact h

/-! ## The infra-red key -/

theorem irReleased_held (s : State) : (irReleased s).rmi.irHeld = none := by
  unfold irReleased
  split
  · assumption
  · rfl

/-- A key's release changes no line but its press record. -/
theorem releaseKey_line (k : Nat) (s : State) (l : Line) :
    ∃ p, (releaseKey k s).rmi.line l = { s.rmi.line l with press := p } := by
  have hpress : ∃ p, (setPress k none s).rmi.line l = { s.rmi.line l with press := p } := by
    unfold setPress
    split
    · next m hm =>
      simp only [setRmi, Rmi.line_setLine]
      split
      · next hl => exact ⟨none, by rw [hl]⟩
      · exact ⟨_, rfl⟩
    · exact ⟨(s.rmi.line l).press, by cases l <;> rfl⟩
  obtain ⟨p, hp⟩ := hpress
  refine ⟨p, ?_⟩
  unfold releaseKey
  dsimp only
  split
  · exact (Rmi.line_focus ..).trans hp
  · exact hp

theorem irReleased_line (s : State) (l : Line) :
    ∃ p, (irReleased s).rmi.line l = { s.rmi.line l with press := p } := by
  unfold irReleased
  split
  · exact ⟨_, rfl⟩
  · obtain ⟨p, hp⟩ := releaseKey_line _ s l
    exact ⟨p, by rw [← hp]; cases l <;> rfl⟩

/-- The infra-red key is released (R154). -/
theorem irReleased_key {s : State} {k : Nat} (h : s.rmi.irHeld = some k) (hk : k < 60) : irReleased s = { s with
    rmi := { s.rmi with irHeld := none, irReleaseMs := 0, injected := false, irPress := none,
                        focus := if s.rmi.focus.drivenBy k then .stopped else s.rmi.focus } } := by
  simp only [irReleased, h, releaseKey, setPress_ir hk, stopFocus, setRmi]
  split <;> rfl

theorem pressKey_awake {s : State} (h : s.pnp.power ≠ .standby) (k : Nat) : pressKey k s =
    fireKey (s.rmi.entry k).action (s.rmi.entry k).mode k
      (setPress k (some ⟨(s.rmi.entry k).action, (s.rmi.entry k).mode, 0, false⟩) s) := if_neg h

theorem setPress_keeps (k : Nat) (p : Option Press) (s : State) : (setPress k p s).rmi.irHeld = s.rmi.irHeld
    ∧ (setPress k p s).rmi.irReleaseMs = s.rmi.irReleaseMs ∧ (setPress k p s).pins = s.pins := by
  unfold setPress
  split
  · next l _ => cases l <;> exact ⟨rfl, rfl, rfl⟩
  · exact ⟨rfl, rfl, rfl⟩

theorem pressKey_keeps {s : State} (h : s.pnp.power ≠ .standby) (k : Nat) :
    (pressKey k s).rmi.irHeld = s.rmi.irHeld ∧ (pressKey k s).rmi.irReleaseMs = s.rmi.irReleaseMs
      ∧ (pressKey k s).pins = s.pins := by
  rw [pressKey_awake h, fireKey_pins]
  obtain ⟨hheld, hms, hpins⟩ := setPress_keeps k (some ⟨(s.rmi.entry k).action, (s.rmi.entry k).mode, 0, false⟩) s
  obtain ⟨-, -, hheld', hms', -⟩ := (fireKey_sameKeys (s.rmi.entry k).action (s.rmi.entry k).mode k
    (setPress k (some ⟨(s.rmi.entry k).action, (s.rmi.entry k).mode, 0, false⟩) s)).fields
  exact ⟨hheld'.trans hheld, hms'.trans hms, hpins⟩

/-- A key pressed by infra-red is held from then on, and its release timer starts (R154). -/
theorem irPressed_held {s : State} (h : Counting s) (k : Nat) :
    (irPressed k s).rmi.irHeld = some k ∧ (irPressed k s).rmi.irReleaseMs = 0 ∧ (irPressed k s).pins = s.pins := by
  unfold irPressed
  dsimp only
  split
  · exact pressKey_keeps (s := setRmi _ s) h.ne_standby k
  · next k' hk' =>
    split
    · next heq => exact ⟨hk'.trans (congrArg some heq), rfl, rfl⟩
    · have ho := OnlyRemote.releaseKey k' s
      obtain ⟨hheld, hms, hpins⟩ := pressKey_keeps (s := setRmi (fun r => { r with irHeld := some k, irReleaseMs := 0 })
        (setRmi (fun r => { r with irHeld := none }) (releaseKey k' s))) (h.onlyRemote ho).ne_standby k
      exact ⟨hheld, hms, hpins.trans (by simp [setRmi])⟩

end Sys2Proof.Machine
end

section
/-! The remote's commands (O52). -/

namespace Sys2Proof.Machine
open Sys2Proof

/-! ## The key map -/

theorem keyAction_ofByte_none_iff (a : Byte) :
    KeyAction.ofByte a = none ↔ (17 < a.toNat ∧ a.toNat < 32) ∨ 41 < a.toNat := by
  revert a
  decide

theorem keyAction_focus_iff {a : Byte} {k : KeyAction} (h : KeyAction.ofByte a = some k) :
    (k = .focusIn ∨ k = .focusOut) ↔ (a = 3 ∨ a = 4) := by
  have all : ∀ a : Byte, ∀ k ∈ KeyAction.ofByte a, (k = .focusIn ∨ k = .focusOut) ↔ (a = 3 ∨ a = 4) := by decide
  exact all a k h

theorem keyEntry_parse_none_iff (a m : Byte) : KeyEntry.parse a m = none ↔
    ((17 < a.toNat ∧ a.toNat < 32) ∨ 41 < a.toNat ∨ m.toNat / 64 = 3
      ∨ (m.toNat / 64 = 2 ∧ (m.toNat % 32 < 2 ∨ 20 < m.toNat % 32)) ∨ (m.toNat / 64 = 1 ∧ a ≠ 3 ∧ a ≠ 4)) := by
  have hrange : m.toNat / 64 = 0 ∨ m.toNat / 64 = 1 ∨ m.toNat / 64 = 2 ∨ m.toNat / 64 = 3 := by
    have := m.isLt
    omega
  have hact := keyAction_ofByte_none_iff a
  unfold KeyEntry.parse
  cases ha : KeyAction.ofByte a with
  | none =>
    refine iff_of_true rfl ?_
    rw [← or_assoc]
    exact .inl (hact.mp ha)
  | some k =>
    have hfocus := keyAction_focus_iff ha
    rw [ha] at hact
    have hin : ¬((17 < a.toNat ∧ a.toNat < 32) ∨ 41 < a.toNat) := fun h => nomatch hact.mpr h
    rw [← or_assoc]
    simp only [hin, false_or]
    rcases hrange with h | h | h | h
    · simp [h]
    · simp only [h, hfocus, ite_eq_right_iff, reduceCtorEq, imp_false]
      grind
    · simp [h]
      grind
    · simp [h]

theorem keyEntry_parse_mode {a m : Byte} {e : KeyEntry} (h : KeyEntry.parse a m = some e) :
    e.mode = (if m.toNat / 64 = 0 then .once else if m.toNat / 64 = 1 then .whileHeld else .auto (m.toNat % 32))
      ∧ e.mode.byte = (if m.toNat / 64 = 0 then 0 else if m.toNat / 64 = 1 then 0x40 else m &&& 0x9F) := by
  have autoByte : ∀ m : Byte, m.toNat / 64 = 2 → b8 (128 + m.toNat % 32) = m &&& 0x9F := by decide
  obtain ⟨-, hmode⟩ := (KeyEntry.parse_eq_some_iff ..).mp h
  rcases hmode with ⟨hm, he⟩ | ⟨hm, -, he⟩ | ⟨hm, -, -, he⟩
  · rw [he, hm]
    exact ⟨rfl, rfl⟩
  · rw [he, hm]
    exact ⟨rfl, rfl⟩
  · have h0 : ¬m.toNat / 64 = 0 := by omega
    have h1 : ¬m.toNat / 64 = 1 := by omega
    rw [he, if_neg h0, if_neg h1, if_neg h0, if_neg h1]
    exact ⟨rfl, autoByte m hm⟩

/-! ## READ KEYS -/

/-- The bytes of records of two bytes each, one after the other. -/
theorem flatten_pairs_getElem? {α : Type} {f : α → List Byte} (x y : α → Byte) (hf : ∀ k, f k = [x k, y k])
    (ks : List α) {i : Nat} {k : α} (h : ks[i]? = some k) :
    (ks.map f).flatten[2 * i]? = some (x k) ∧ (ks.map f).flatten[2 * i + 1]? = some (y k) := by
  induction ks generalizing i with
  | nil => exact absurd h (by simp)
  | cons k' ks ih =>
    cases i with
    | zero =>
      obtain rfl : k' = k := by simpa using h
      simp [hf]
    | succ i =>
      obtain ⟨hx, hy⟩ := ih (by simpa using h)
      have h2 : 2 * (i + 1) = 2 * i + 2 := by omega
      simp only [List.map_cons, List.flatten_cons, hf, List.cons_append, List.nil_append, h2]
      exact ⟨hx, hy⟩

theorem flatten_pairs_length {α : Type} {f : α → List Byte} (x y : α → Byte) (hf : ∀ k, f k = [x k, y k])
    (ks : List α) : (ks.map f).flatten.length = 2 * ks.length := by
  induction ks with
  | nil => rfl
  | cons k ks ih =>
    simp only [List.map_cons, List.flatten_cons, List.length_append, ih, hf, List.length_cons, List.length_nil]
    omega

/-! ## Settings and the record of READ REMOTE -/

theorem remoteSettings_parse {c e w : Byte} {v u : Bool} (hc : c.toNat ≤ 16) (he : onOff e = some v)
    (hw : onOff w = some u) : RemoteSettings.parse c e w = some ⟨if c.toNat = 16 then none else some c.toNat, v, u⟩ := by
  simp only [RemoteSettings.parse, he, hw]
  split
  · rw [if_neg (by omega)]
  · rw [if_pos (by omega), if_pos (by omega)]

theorem remoteSettings_parse_none {c e w : Byte} (h : 16 < c.toNat ∨ 1 < e.toNat ∨ 1 < w.toNat) :
    RemoteSettings.parse c e w = none := by
  rcases h with h | h | h
  · simp only [RemoteSettings.parse]
    split
    · rw [if_neg (by omega), if_neg (by omega)]
    · rfl
  · simp only [RemoteSettings.parse, (onOff_eq_none_iff e).mpr h]
  · simp only [RemoteSettings.parse, (onOff_eq_none_iff w).mpr h]
    cases onOff e <;> rfl

theorem outputs_focus {s : State} (h : Powered s) :
    s.outputs.fci = s.rmi.focus.runs true ∧ s.outputs.fco = s.rmi.focus.runs false := by
  unfold State.outputs
  rw [h]
  exact ⟨rfl, rfl⟩

theorem focus_code (f : Focus) : f.code = bit (f.runs true) 0 + bit (f.runs false) 1 := by
  cases f with
  | stopped => rfl
  | run d e n => cases d <;> rfl

/-! ## Test mode -/

/-- What leaving the lines to be released, and the infra-red key, makes of a line. -/
theorem released_line {s : State} (h : Counting s) (l : Line) : let x := (lineLevels (fun _ => false) s).rmi.line l
    x.pressed = false ∧ x.releasedChg = ((s.rmi.line l).releasedChg || (s.rmi.line l).pressed)
      ∧ x.pressedChg = (s.rmi.line l).pressedChg := by
  dsimp only
  rw [lineLevels_line h, LineRec.after]
  split
  · next hp => simp [hp]
  · next hp => simp [eq_true_of_ne_false hp]

theorem irReleased_none {s : State} (h : s.rmi.irHeld = none) : irReleased s = s := by
  simp only [irReleased, h]

/-- The state that test mode leaves or enters: what has been released, and how the lines are read from then on. -/
theorem enterTest_off {s : State} (h : s.rmi.test = false) : enterTest s =
    setRmi (fun r => { r.readFrom .watched with test := true, irRx := .waitLeader })
      (irReleased (lineLevels (fun _ => false) s)) := if_neg (ne_true_of_eq_false h)

theorem leaveTest_on {s : State} (h : s.rmi.test = true) : leaveTest s =
    setRmi (fun r => { r.readFrom (.resumed 0) with test := false, irRx := .waitLeader })
      (lineLevels (fun _ => false) (irReleased s)) := if_pos h

theorem Rmi.line_tested (r : Rmi) (x : LineRead) (v : Bool) (rx : IrRx) (l : Line) :
    ({ r.readFrom x with test := v, irRx := rx } : Rmi).line l = { r.line l with reading := x } := by
  cases l <;> rfl

/-- Lines all released, read from `x` on. -/
def Released (x : LineRead) (s t : State) : Prop :=
  ∀ l, (t.rmi.line l).pressed = false
    ∧ (t.rmi.line l).releasedChg = ((s.rmi.line l).releasedChg || (s.rmi.line l).pressed)
    ∧ (t.rmi.line l).pressedChg = (s.rmi.line l).pressedChg ∧ (t.rmi.line l).reading = x

theorem enterTest_released {s : State} (hc : Counting s) (h : s.rmi.test = false) : Released .watched s (enterTest s) := by
  intro l
  obtain ⟨hp, hr, hch⟩ := released_line hc l
  obtain ⟨p, hline⟩ := irReleased_line (lineLevels (fun _ => false) s) l
  have heq : (enterTest s).rmi.line l = { (irReleased (lineLevels (fun _ => false) s)).rmi.line l with
      reading := .watched } := by
    rw [enterTest_off h]
    exact Rmi.line_tested ..
  rw [heq, hline]
  exact ⟨hp, hr, hch, rfl⟩

theorem leaveTest_released {s : State} (hc : Counting s) (h : s.rmi.test = true) :
    Released (.resumed 0) s (leaveTest s) := by
  intro l
  obtain ⟨hp, hr, hch⟩ := released_line (hc.onlyRemote (.irReleased s)) l
  obtain ⟨p, hline⟩ := irReleased_line s l
  have heq : (leaveTest s).rmi.line l = { (lineLevels (fun _ => false) (irReleased s)).rmi.line l with
      reading := .resumed 0 } := by
    rw [leaveTest_on h]
    exact Rmi.line_tested ..
  rw [hline] at hr hch
  rw [heq]
  exact ⟨hp, hr, hch, rfl⟩

theorem enterTest_only (s : State) : OnlyRemote s (enterTest s) := by
  unfold enterTest
  split
  · rfl
  · exact ((OnlyRemote.releases s).trans (.irReleased _)).trans rfl

theorem leaveTest_only (s : State) : OnlyRemote s (leaveTest s) := by
  unfold leaveTest
  split
  · exact ((OnlyRemote.irReleased s).trans (.releases _)).trans rfl
  · rfl

theorem OnlyRemote.frame {s t : State} (h : OnlyRemote s t) :
    t.csq = s.csq ∧ t.sar = s.sar ∧ t.shc = s.shc ∧ t.pins = s.pins := by
  rw [h]
  exact ⟨rfl, rfl, rfl, rfl⟩

theorem enterTest_fields {s : State} (h : s.rmi.test = false) :
    (enterTest s).rmi.test = true ∧ (enterTest s).rmi.irHeld = none ∧ (enterTest s).rmi.irRx = .waitLeader := by
  rw [enterTest_off h]
  exact ⟨rfl, irReleased_held _, rfl⟩

theorem leaveTest_fields {s : State} (hc : Counting s) (h : s.rmi.test = true) :
    (leaveTest s).rmi.test = false ∧ (leaveTest s).rmi.irHeld = none ∧ (leaveTest s).rmi.irRx = .waitLeader := by
  rw [leaveTest_on h]
  simp only [setRmi, Rmi.readFrom, true_and, and_true]
  exact (lineLevels_taken (hc.onlyRemote (.irReleased s)) _).held.trans (irReleased_held s)

/-! ## SET LINES and PRESS KEY in test mode -/

theorem after_marks (x : LineRec) (v : Bool) (e : KeyEntry) : (x.after v e).pressed = v
    ∧ (x.after v e).pressedChg = (x.pressedChg || (v && !x.pressed))
    ∧ (x.after v e).releasedChg = (x.releasedChg || (!v && x.pressed))
    ∧ (x.after v e).press = (if x.pressed = v then x.press
      else if v then some ⟨e.action, e.mode, 0, false⟩ else none) := by
  unfold LineRec.after
  cases hp : x.pressed <;> cases v <;> simp [hp]

theorem lineLevels_same {s : State} {f : Line → Bool} (h : ∀ l, f l = (s.rmi.line l).pressed) : lineLevels f s = s := by
  rw [lineLevels, lineEvent_same (h .fwd).symm, lineEvent_same (h .rev).symm, lineEvent_same (h .fin).symm,
    lineEvent_same (h .fout).symm]

/-- Set lines that presses FWD alone fires its action once. -/
theorem lineLevels_press_fwd {s : State} {f : Line → Bool} (hp : s.pnp.power ≠ .standby)
    (h : s.rmi.fwd.pressed = false) (hf : f .fwd = true) (hr : f .rev = s.rmi.rev.pressed)
    (hi : f .fin = s.rmi.fin.pressed) (ho : f .fout = s.rmi.fout.pressed) :
    lineLevels f s = lineEvent .fwd true s := by
  have hline (m : Line) (hm : m ≠ .fwd) : (lineEvent .fwd true s).rmi.line m = s.rmi.line m :=
    (lineEvent_line hp .fwd m true).trans (if_neg hm)
  rw [lineLevels, hf, lineEvent_same (l := .rev) ((congrArg LineRec.pressed (hline .rev nofun)).trans hr.symm),
    lineEvent_same (l := .fin) ((congrArg LineRec.pressed (hline .fin nofun)).trans hi.symm),
    lineEvent_same (l := .fout) ((congrArg LineRec.pressed (hline .fout nofun)).trans ho.symm)]

/-- Settles O52: the key map by `KeyEntry.parse_eq_some_iff` and `keyEntry_parse_none_iff`, READ KEYS by
`flatten_pairs_getElem?`, test mode by what a line event leaves (`lineLevels_line`, `OnlyRemote.releases`). -/
theorem remoteCommands : Obligations.RemoteCommands := by
  refine ⟨fun s m v h => ⟨_, quiet_answers h rfl, rfl, rfl, rfl, rfl, rfl, rfl⟩,
    fun s c a m e h hc he => ⟨updAt (fun _ => e) c.toNat s.rmi.keys, quiet_answers h ?_, mapRange_length ..,
      fun p x hp => ?_⟩,
    fun s c a m h hbad => quiet_answers h ?_, keyEntry_parse_none_iff,
    fun a m e he => ⟨KeyAction.ofByte_byte ((KeyEntry.parse_eq_some_iff ..).mp he).1, keyEntry_parse_mode he⟩,
    by decide, fun d => rfl,
    fun s a n h ha h1 h32 hkeys => ⟨_, quiet_answers h (if_pos ⟨ha, h1, h32⟩), ?_, fun i k hi hk => ?_⟩,
    fun s a n h hbad => quiet_answers h (if_neg (by omega)),
    fun s c e w v u h hc he hw => quiet_setting_some h (remoteSettings_parse hc he hw) _,
    fun s c e w h hbad => quiet_setting_none h (remoteSettings_parse_none hbad) _,
    fun s h => quiet_answers h (Prod.ext rfl (congrArg (Response.mk .ok) ?_)),
    fun s h ht => run_answers h ?_, fun s h ht => ⟨_, run_answers h rfl, ?_⟩,
    fun s h ht => run_answers h ?_, fun s h ht => ⟨_, run_answers h rfl, ?_⟩,
    fun s b h ht => ⟨run_answers h ?_, run_answers h ?_, run_answers h ?_⟩,
    fun s b h ht => ⟨_, run_answers h (if_pos ht), ?_⟩, fun s b h ht h0 h1 h2 h3 => run_answers h ((if_pos ht).trans ?_),
    fun s b a m h ht hf h0 h1 h2 h3 he => run_answers h ((if_pos ht).trans ?_),
    fun s b h ht hb => ⟨_, run_answers h ((if_pos ht).trans (if_pos hb)), ?_⟩,
    fun s b h ht hb => run_answers h ((if_pos ht).trans (if_neg (by omega))),
    fun s k h ht hk hlt => run_answers h ((if_pos ht).trans ?_), fun s h ht hk => run_answers h ((if_pos ht).trans ?_)⟩
  · rw [he]
    exact if_pos hc
  · have hpos : c.toNat ≤ 0 + p ∧ 0 + p ≤ c.toNat ↔ p = c.toNat := by omega
    simp only [updAt, mapRange_getElem?, hp, Option.map_some, hpos]
  · rcases hbad with hc | hnone
    · cases KeyEntry.parse a m with
      | none => rfl
      | some e => exact if_neg (by omega)
    · rw [hnone]
      rfl
  · rw [flatten_pairs_length (f := KeyEntry.bytes) (·.action.byte) (·.mode.byte) fun _ => rfl, List.length_take,
      List.length_drop, hkeys]
  · refine flatten_pairs_getElem? _ _ (fun _ => rfl) _ ?_
    rw [List.getElem?_take_of_lt hi, List.getElem?_drop]
    exact hk
  · obtain ⟨hin, hout⟩ := outputs_focus h.1
    rw [remotePayload, focus_code, hin, hout]
  · rw [enterTest, if_pos ht]
    rfl
  · simp only [finish_frame]
    obtain ⟨htest, hheld, hrx⟩ := enterTest_fields ht
    exact ⟨rfl, htest, hheld, hrx, fun l _ => enterTest_released h.2 ht l, (enterTest_only s).frame⟩
  · exact congrArg (fun t => reply t .ok) (if_neg (ne_true_of_eq_false ht))
  · simp only [finish_frame]
    obtain ⟨htest, hheld, hrx⟩ := leaveTest_fields h.2 ht
    obtain ⟨hcsq, hsar, hshc, hpins⟩ := (leaveTest_only s).frame
    exact ⟨rfl, htest, hheld, hrx, hpins, fun l _ => leaveTest_released h.2 ht l, hcsq, hsar, hshc⟩
  · exact if_neg (ne_true_of_eq_false ht)
  · exact if_neg (ne_true_of_eq_false ht)
  · exact if_neg (ne_true_of_eq_false ht)
  · simp only [finish_frame]
    have hline (l : Line) := lineLevels_line h.2 (lineBit b) l
    have htaken := lineLevels_taken h.2 (lineBit b)
    have hpressed (l : Line) := (congrArg LineRec.pressed (hline l)).trans (after_marks ..).1
    refine ⟨rfl, hpressed .fwd, hpressed .rev, hpressed .fin, hpressed .fout, htaken.pins, htaken.test.trans ht, ?_⟩
    have hmarks (l : Line) := (hline l) ▸ (after_marks (s.rmi.line l) (lineBit b l) (s.rmi.entry (lineCode l))).2
    intro p hp
    simp only [List.mem_cons, List.not_mem_nil, or_false] at hp
    rcases hp with rfl | rfl | rfl | rfl
    · exact hmarks .fwd
    · exact hmarks .rev
    · exact hmarks .fin
    · exact hmarks .fout
  · refine congrArg (fun t => reply t .ok) (lineLevels_same fun l => ?_)
    cases l
    · exact h0
    · exact h1
    · exact h2
    · exact h3
  · refine congrArg (fun t => reply t .ok) ((lineLevels_press_fwd (Counting.ne_standby h.2) hf h0 h1 h2 h3).trans ?_)
    rw [lineEvent_press (l := .fwd) (Counting.ne_standby h.2) hf]
    simp only [lineCode, he, LineRec.after, Rmi.line, hf, reduceCtorEq, if_false, if_true, Rmi.setLine]
  · simp only [finish_frame]
    obtain ⟨hheld, hms, hpins⟩ := irPressed_held h.2 b.toNat
    exact ⟨rfl, hheld, rfl, hms, hpins⟩
  · exact congrArg (fun t => reply t .ok) (irReleased_key hk hlt)
  · exact congrArg (fun t => reply t .ok) (irReleased_none hk)

end Sys2Proof.Machine
end

section
/-! The end of a change and the start of the pending one: records, tenure and the start rule (03 R53 to R59, R64). -/

namespace Sys2Proof.Machine
open Sys2Proof

/-! ## Last-change records -/

theorem PerSource.get_set_ne {α : Type} (p : PerSource α) {src k : Source} (x : α) (h : k ≠ src) :
    (p.set src x).get k = p.get k := by
  cases src <;> cases k <;> first | rfl | exact absurd rfl h

theorem writeRecord_last (src : Source) (k : ChangeKind) (q : Nat) (o : ChangeOutcome) (f : FinalPos) (s : State) :
    (writeRecord src k q o f s).sar.last = s.sar.last.set src ⟨some k, some q, o, f, (s.sar.last.get src).refusals⟩ := by
  unfold writeRecord
  split <;> rfl

theorem writeRecord_last_other {src k' : Source} (h : k' ≠ src) (k : ChangeKind) (q : Nat) (o : ChangeOutcome)
    (f : FinalPos) (s : State) : (writeRecord src k q o f s).sar.last.get k' = s.sar.last.get k' := by
  rw [writeRecord_last, PerSource.get_set_ne _ _ h]

theorem writeRecord_refusals (src k' : Source) (k : ChangeKind) (q : Nat) (o : ChangeOutcome) (f : FinalPos) (s : State) :
    ((writeRecord src k q o f s).sar.last.get k').refusals = (s.sar.last.get k').refusals := by
  by_cases h : k' = src
  · subst h
    rw [writeRecord_last_get]
  · rw [writeRecord_last_other h]

theorem writeRecord_tenure (src : Source) (k : ChangeKind) (q : Nat) (o : ChangeOutcome) (f : FinalPos) (s : State) :
    (writeRecord src k q o f s).sar.tenureLeft = s.sar.tenureLeft := by
  unfold writeRecord
  split <;> rfl

@[simp] theorem stepComplete_sar (s : State) : (stepComplete s).sar = s.sar := by
  simp

theorem stepComplete_awaited {s : State} (h : s.crn.awaited ≠ .none → s.crn.progress ≠ none) :
    (stepComplete s).crn.awaited = .none := by
  unfold stepComplete
  split
  · next hp => exact Decidable.not_not.mp fun hne => h hne hp
  · dsimp only
    (repeat' split) <;> rfl

/-! ## The pending change dropped -/

theorem dropWaiting_none {s : State} (h : s.sar.waiting = none) (o : ChangeOutcome) : dropWaiting o s = s := by
  simp only [dropWaiting, h]

theorem dropWaiting_sar {s : State} {w : Waiting} (h : s.sar.waiting = some w) (o : ChangeOutcome) :
    (dropWaiting o s).sar
      = (writeRecord w.source w.kind w.target o .none { s with sar := { s.sar with waiting := none } }).sar := by
  simp only [dropWaiting, h]
  split
  · exact stepComplete_sar _
  · rfl

@[simp] theorem dropWaiting_waiting (o : ChangeOutcome) (s : State) : (dropWaiting o s).sar.waiting = none := by
  cases h : s.sar.waiting with
  | none => rw [dropWaiting_none h, h]
  | some w => simp [dropWaiting_sar h]

@[simp] theorem dropWaiting_tenure (o : ChangeOutcome) (s : State) :
    (dropWaiting o s).sar.tenureLeft = s.sar.tenureLeft := by
  cases h : s.sar.waiting with
  | none => rw [dropWaiting_none h]
  | some w => rw [dropWaiting_sar h, writeRecord_tenure]

theorem dropWaiting_last {s : State} {w : Waiting} (h : s.sar.waiting = some w) (o : ChangeOutcome) :
    (dropWaiting o s).sar.last.get w.source
      = ⟨some w.kind, some w.target, o, .none, (s.sar.last.get w.source).refusals⟩ := by
  rw [dropWaiting_sar h, writeRecord_last_get]

theorem dropWaiting_last_other {s : State} {src : Source} (h : s.sar.waiting.map (·.source) ≠ some src)
    (o : ChangeOutcome) : (dropWaiting o s).sar.last.get src = s.sar.last.get src := by
  cases hw : s.sar.waiting with
  | none => rw [dropWaiting_none hw]
  | some w =>
    rw [hw] at h
    rw [dropWaiting_sar hw, writeRecord_last_other (fun he => h (congrArg some he.symm))]

theorem dropWaiting_refusals (o : ChangeOutcome) (s : State) (src : Source) :
    ((dropWaiting o s).sar.last.get src).refusals = (s.sar.last.get src).refusals := by
  cases h : s.sar.waiting with
  | none => rw [dropWaiting_none h]
  | some w => rw [dropWaiting_sar h, writeRecord_refusals]

/-! ## The end of a change -/

/-- The outcomes that discard the pending change with the change (03 R56). -/
abbrev Discards (o : ChangeOutcome) : Prop := o = .jammed ∨ o = .stalled

theorem changeEnd_sar {s : State} {f : Flight} (h : s.csq.flight = some f) (o : ChangeOutcome) (p : FinalPos) :
    (changeEnd o p s).sar = (let t := startTenure f.owner (writeRecord f.owner f.kind f.target o p
      { s with csq := { s.csq with flight := none } })
      if Discards o then dropWaiting .flushed t else t).sar := by
  have step (t : State) : (if f.owner = .program ∧ t.crn.awaited = .started then stepComplete t else t).sar = t.sar := by
    split
    · exact stepComplete_sar t
    · rfl
  simp only [changeEnd, h]
  exact step _

theorem changeEnd_waiting {s : State} {f : Flight} (h : s.csq.flight = some f) (o : ChangeOutcome) (p : FinalPos) :
    (changeEnd o p s).sar.waiting = if Discards o then none else s.sar.waiting := by
  rw [changeEnd_sar h]
  dsimp only
  split
  · exact dropWaiting_waiting ..
  · simp

theorem changeEnd_ended {s : State} {f : Flight} (h : s.csq.flight = some f) (o : ChangeOutcome) (p : FinalPos) :
    Ended f o p s (changeEnd o p s) := by
  have hrec := writeRecord_last_get f.owner f.kind f.target o p { s with csq := { s.csq with flight := none } }
  rw [Ended, changeEnd_sar h]
  dsimp only
  split
  · refine ⟨fun hw => ?_, by simp, by simp⟩
    rw [dropWaiting_last_other (by simpa using hw)]
    simpa using hrec
  · exact ⟨fun _ => by simpa using hrec, by simp, by simp⟩

theorem changeEnd_refusals {s : State} {f : Flight} (h : s.csq.flight = some f) (o : ChangeOutcome) (p : FinalPos)
    (src : Source) : ((changeEnd o p s).sar.last.get src).refusals = (s.sar.last.get src).refusals := by
  have hrec := writeRecord_refusals f.owner src f.kind f.target o p { s with csq := { s.csq with flight := none } }
  rw [changeEnd_sar h]
  dsimp only
  split
  · rw [dropWaiting_refusals]
    simpa using hrec
  · simpa using hrec

/-- A pending step of CRN stands through the end of another change. -/
theorem changeEnd_awaited {s : State} (o : ChangeOutcome) (p : FinalPos) (ho : ¬ Discards o)
    (h : s.crn.awaited = .pending) : (changeEnd o p s).crn.awaited = .pending := by
  unfold changeEnd
  split
  · exact h
  · dsimp only
    rw [if_neg ho, if_neg (by simp [h])]
    simpa using h

/-! ## The start rule -/

theorem canStart_iff (k : ChangeKind) (s : State) : canStart k s = true ↔
    s.pnp.power = .run ∧ (s.csq.state = .idle ∨ (s.csq.state = .stalled ∧ k = .home)) := by
  simp [canStart]

theorem tenureLets_iff (src : Source) (s : State) : tenureLets src s = true ↔
    ∀ h ∈ s.sar.holder, src = h ∨ priority s src < priority s h := by
  unfold tenureLets
  split <;> simp [*]

theorem pendingReady_iff_due {s : State} {w : Waiting} (h : s.sar.waiting = some w) :
    pendingReady s = true ↔ s.pnp.power = .run ∧ DueAtRun s w := by
  simp only [pendingReady, h, Bool.and_eq_true, canStart_iff, tenureLets_iff, DueAtRun, and_assoc]

theorem startPending_unready {s : State} (h : pendingReady s = false) : startPending s = s := by
  unfold startPending
  split
  · rfl
  · exact if_pos h

theorem pendingReady_none {s : State} (h : s.sar.waiting = none) : pendingReady s = false := by
  simp only [pendingReady, h]

theorem startPending_none {s : State} (h : s.sar.waiting = none) : startPending s = s :=
  startPending_unready (pendingReady_none h)

/-- The start-time checks read SAR's sources, the tray and the gate's orphan mark. -/
theorem startCheck_congr {s t : State} (hsources : t.sar.sources = s.sar.sources) (htru : t.tru = s.tru)
    (horphan : t.csq.orphaned = s.csq.orphaned) (w : Waiting) : startCheck w t = startCheck w s := by
  simp only [startCheck, classOk, hsources, htru, horphan]

theorem orphaned_congr {q r : Csq} (hgate : q.gate = r.gate) (horigin : q.origin = r.origin) :
    q.orphaned = r.orphaned := by
  simp only [Csq.orphaned, hgate, horigin]

/-! ## The start of a change -/

theorem toTarget_state {s : State} {f : Flight} (h : s.csq.flight = some f) :
    (toTarget s).csq.state = if s.tru.position = some f.target then .dropping else .indexing := by
  simp only [toTarget, h]
  split <;> rfl

/-- A change in flight in a phase before its reveal. -/
def Underway (q : Csq) : Prop := q.state.active = true ∧ q.state ≠ .revealing

theorem toTarget_underway {s : State} {f : Flight} (h : s.csq.flight = some f) : Underway (toTarget s).csq := by
  rw [Underway, toTarget_state h]
  split <;> exact ⟨rfl, nofun⟩

theorem blankingEnd_underway {s : State} {f : Flight} (h : s.csq.flight = some f) (hu : Underway s.csq) :
    Underway (blankingEnd s).csq := by
  unfold blankingEnd
  split
  · dsimp only
    split
    · exact toTarget_underway (s := setCsq _ s) h
    · exact ⟨rfl, nofun⟩
  · exact hu

theorem startBlanking_underway {s : State} {f g : Flight} (h : s.csq.flight = some g) :
    Underway (startBlanking f s).csq := by
  have blanking (t : State) (ht : t.csq.state = .blanking) : Underway t.csq := by
    rw [Underway, ht]
    exact ⟨rfl, nofun⟩
  simp only [startBlanking]
  split
  · split
    · exact blankingEnd_underway (f := g) h (blanking _ rfl)
    · exact blanking _ rfl
  · split
    · exact blankingEnd_underway (f := g) h (blanking _ rfl)
    · exact blanking _ rfl

/-- What CSQ latches of a change that it takes (02 R22). -/
def flightOf (src : Source) (k : ChangeKind) (q fade : Nat) (s : State) : Flight where
  kind := k
  owner := src
  target := q
  fade := fade
  dir := match k with
    | .advance | .home => .forward
    | .reverse => .reverse
    | .seek => seekDirection (s.tru.position.getD 0) q
  base := (s.sar.sources.get src).base
  limit := (s.sar.sources.get src).limit
  halt := false
  dim := s.csq.cfg.dim || s.csq.shutFault
  skip := s.csq.cfg.skip
  retries := s.csq.cfg.retries

theorem startChange_flight (src : Source) (k : ChangeKind) (q fade : Nat) (s : State) :
    (startChange src k q fade s).csq.flight = some (flightOf src k q fade s) := by
  simp only [startChange, startBlanking_frame]
  rfl

theorem startChange_underway (src : Source) (k : ChangeKind) (q fade : Nat) (s : State) :
    Underway (startChange src k q fade s).csq :=
  startBlanking_underway rfl

theorem startChange_sar (src : Source) (k : ChangeKind) (q fade : Nat) (s : State) :
    (startChange src k q fade s).sar = { s.sar with holder := none, tenureLeft := 0, tenureMs := 0 } := by
  simp only [startChange, startBlanking_frame]
  change (if s.csq.state = .stalled then removeCause .transport (endTenure s) else endTenure s).sar = _
  split <;> simp

theorem endCheck_awaited (s : State) : (endCheck s).crn.awaited = s.crn.awaited := by
  unfold endCheck
  split
  · simp [endShow, stopDwell]
  · rfl

theorem leaveHeld_awaited (s : State) : (leaveHeld s).crn.awaited = s.crn.awaited := by
  simp only [leaveHeld, endCheck_awaited]
  (repeat' split) <;> simp

theorem removeCause_awaited (c : Cause) (s : State) : (removeCause c s).crn.awaited = s.crn.awaited := by
  unfold removeCause
  split
  · rfl
  · dsimp only
    split
    · rw [leaveHeld_awaited]
      simp
    · simp

theorem startChange_awaited (src : Source) (k : ChangeKind) (q fade : Nat) (s : State) :
    (startChange src k q fade s).crn.awaited = s.crn.awaited := by
  simp only [startChange, startBlanking_frame]
  change (if s.csq.state = .stalled then removeCause .transport (endTenure s) else endTenure s).crn.awaited = _
  split
  · exact removeCause_awaited ..
  · rfl

/-! ## A pending change that starts, or is refused -/

/-- CRN knows that its own pending change has started (07 R131). -/
def markStarted (w : Waiting) (s : State) : State :=
  if w.source = .program ∧ s.crn.awaited = .pending then
    { setWaiting none s with crn := { s.crn with awaited := .started } } else setWaiting none s

theorem startPending_ok {s : State} {w : Waiting} {q : Nat} (hw : s.sar.waiting = some w)
    (hr : pendingReady s = true) (hq : startCheck w s = .ok q) :
    startPending s = startChange w.source w.kind q w.fade (markStarted w s) := by
  simp only [startPending, hw, hr, Bool.true_eq_false, if_false, hq]
  rfl

theorem startPending_error {s : State} {w : Waiting} {st : Status} (hw : s.sar.waiting = some w)
    (hr : pendingReady s = true) (hq : startCheck w s = .error st) : startPending s = refuseStart w st s := by
  simp only [startPending, hw, hr, Bool.true_eq_false, if_false, hq]

theorem markStarted_sar (w : Waiting) (s : State) : (markStarted w s).sar = { s.sar with waiting := none } := by
  unfold markStarted
  split <;> rfl

theorem markStarted_awaited {w : Waiting} {s : State} (hs : w.source = .program) (h : s.crn.awaited = .pending) :
    (markStarted w s).crn.awaited = .started := by
  rw [markStarted, if_pos ⟨hs, h⟩]

/-- The pending change of `t` started, seen from an earlier state `s` with the same pending step. -/
theorem startPending_started {s t : State} {w : Waiting} {q : Nat} (hw : t.sar.waiting = some w)
    (hr : pendingReady t = true) (hq : startCheck w t = .ok q)
    (ha : s.crn.awaited = .pending → t.crn.awaited = .pending) : StartedPending w q s (startPending t) := by
  rw [StartedPending, startPending_ok hw hr hq]
  obtain ⟨hactive, hreveal⟩ := startChange_underway w.source w.kind q w.fade (markStarted w t)
  refine ⟨?_, ?_, hactive, hreveal, ?_, fun hs hp => ?_⟩
  · rw [startChange_sar, markStarted_sar]
  · rw [startChange_sar]
  · rw [startChange_flight]
    rfl
  · rw [startChange_awaited, markStarted_awaited hs (ha hp)]

theorem refuseStart_sar (w : Waiting) (st : Status) (s : State) : (refuseStart w st s).sar
    = (writeRecord w.source w.kind w.target .refusedAtStart .none (setWaiting none s)).sar := by
  simp only [refuseStart]
  split
  · simp [setStepFault]
  · rfl

theorem startPending_refused {s t : State} {w : Waiting} {st : Status} (hw : t.sar.waiting = some w)
    (hr : pendingReady t = true) (hq : startCheck w t = .error st) (hf : t.csq.flight = none)
    (hn : (t.sar.last.get w.source).refusals = (s.sar.last.get w.source).refusals) :
    RefusedPending w s (startPending t) := by
  rw [RefusedPending, startPending_error hw hr hq, refuseStart_sar]
  refine ⟨by simp [setWaiting], by simpa using hf, ?_⟩
  rw [writeRecord_last_get, ← hn]
  rfl

/-! ## The arbiter after the end of a change of `o` -/

/-- CSQ is in IDLE and the tenure of `o` begun, as the end of a change of `o` leaves them; the pending change stands as
before. -/
structure HandsOver (o : Source) (s t : State) : Prop where
  idle : t.csq.state = .idle
  waiting : t.sar.waiting = s.sar.waiting
  sources : t.sar.sources = s.sar.sources
  holder : t.sar.holder = if (s.sar.sources.get o).tenure = 0 then none else some o
  power : t.pnp.power = s.pnp.power
  awaited : s.crn.awaited = .pending → t.crn.awaited = .pending
  refusals : ∀ src, (t.sar.last.get src).refusals = (s.sar.last.get src).refusals

variable {o : Source} {s t : State}

theorem HandsOver.ready_iff (h : HandsOver o s t) {w : Waiting} (hw : s.sar.waiting = some w) :
    pendingReady t = true ↔ LetIn o s w := by
  have hprio (k : Source) : priority t k = priority s k := by rw [priority, priority, h.sources]
  rw [pendingReady_iff_due (h.waiting.trans hw), DueAtRun, LetIn, h.idle, h.power, h.holder]
  simp only [hprio]
  split
  · next h0 => simp [h0]
  · next h0 => simp [h0]

theorem HandsOver.unready (h : HandsOver o s t) (hn : StartsNothing o s) : startPending t = t := by
  cases hw : s.sar.waiting with
  | none => exact startPending_none (h.waiting.trans hw)
  | some w => exact startPending_unready (eq_false_of_ne_true (mt (h.ready_iff hw).mp (hn w hw)))

theorem HandsOver.started (h : HandsOver o s t) {w : Waiting} {q : Nat} (hw : s.sar.waiting = some w)
    (hin : LetIn o s w) (hq : startCheck w t = .ok q) : StartedPending w q s (startPending t) :=
  startPending_started (h.waiting.trans hw) ((h.ready_iff hw).mpr hin) hq h.awaited

theorem HandsOver.refused (h : HandsOver o s t) {w : Waiting} {st : Status} (hw : s.sar.waiting = some w)
    (hin : LetIn o s w) (hq : startCheck w t = .error st) (hf : t.csq.flight = none) :
    RefusedPending w s (startPending t) ∧ startPending t = refuseStart w st t :=
  ⟨startPending_refused (h.waiting.trans hw) ((h.ready_iff hw).mpr hin) hq hf (h.refusals _),
    startPending_error (h.waiting.trans hw) ((h.ready_iff hw).mpr hin) hq⟩

end Sys2Proof.Machine
end

section
/-! The end of a reveal, the entry to JAMMED and STALLED, and the change that the next one follows (02 R31 to R36). -/

namespace Sys2Proof.Machine
open Sys2Proof

/-! ## LMC at the end of a reveal -/

/-- The end of a reveal clears the DIM mark, the deferred preheat and the guard's time; claim, ramp and show level stand. -/
theorem endOfReveal_lmc (s : State) : (endOfReveal s).lmc.dim = false ∧ (endOfReveal s).lmc.deferred = false
    ∧ (endOfReveal s).lmc.guardElapsed = 0 ∧ (endOfReveal s).lmc.owed = s.lmc.owed
    ∧ (endOfReveal s).lmc.ramp = s.lmc.ramp ∧ (endOfReveal s).lmc.showLevel = s.lmc.showLevel
    ∧ (endOfReveal s).lmc.guardCap = s.lmc.guardCap := by
  unfold endOfReveal
  dsimp only
  split
  · next h => exact ⟨rfl, h, rfl, rfl, rfl, rfl, rfl⟩
  · split
    · split <;> exact ⟨rfl, rfl, rfl, rfl, rfl, rfl, rfl⟩
    · exact ⟨rfl, rfl, rfl, rfl, rfl, rfl, rfl⟩

theorem endOfReveal_lamp {s : State} (h : s.lmc.lamp = .lit) : (endOfReveal s).lmc.lamp = .lit := by
  unfold endOfReveal
  dsimp only
  split
  · exact h
  · rw [if_neg (by simp [setLmc, h])]
    exact h

/-! ## The end of a reveal -/

/-- CSQ in IDLE out of REVEALING. -/
def revealedCsq (q : Csq) : Csq := { q with state := .idle, drive := .none, timerMs := 0, shutMs := none }

/-- The end of a reveal but for the pending change that it may start. -/
def revealOver (s : State) : State :=
  let t := endOfReveal (setCsq revealedCsq s)
  match s.csq.flight with
  | some f => changeEnd (if f.halt then .halted else .done) (finalNow s) t
  | none => startTenure s.csq.keptOwner t

theorem endReveal_eq (s : State) : endReveal s = startPending (revealOver s) := by
  have hcsq : (endOfReveal (setCsq revealedCsq s)).csq = revealedCsq s.csq := by simp
  have hfinal : finalNow (endOfReveal (setCsq revealedCsq s)) = finalNow s := by simp [finalNow]
  refine congrArg startPending ?_
  change (match (endOfReveal (setCsq revealedCsq s)).csq.flight with
    | some f => changeEnd (if f.halt then .halted else .done) (finalNow (endOfReveal (setCsq revealedCsq s)))
      (endOfReveal (setCsq revealedCsq s))
    | none => startTenure (endOfReveal (setCsq revealedCsq s)).csq.keptOwner (endOfReveal (setCsq revealedCsq s))) = _
  rw [hcsq, hfinal]
  rfl

/-- The end of a reveal writes the record of its change. -/
theorem revealOver_ended {s : State} {f : Flight} (h : s.csq.flight = some f) :
    Ended f (if f.halt then .halted else .done) (finalNow s) s (revealOver s) := by
  have hend := changeEnd_ended (s := endOfReveal (setCsq revealedCsq s)) (f := f) (by simpa [revealedCsq] using h)
    (if f.halt then .halted else .done) (finalNow s)
  simpa [Ended, revealOver, h] using hend

theorem revealOver_kept {s : State} (h : s.csq.flight = none) : (revealOver s).sar = (startTenure s.csq.keptOwner s).sar := by
  simp [revealOver, h]

theorem not_discards_reveal (b : Bool) : ¬ Discards (if b then .halted else .done) := by
  cases b <;> decide

@[simp] theorem revealOver_csq (s : State) : (revealOver s).csq = { revealedCsq s.csq with flight := none } := by
  unfold revealOver
  dsimp only
  split
  · simp
  · next h => simp [revealedCsq, h]

theorem revealOver_lmc (s : State) : (revealOver s).lmc = (endOfReveal (setCsq revealedCsq s)).lmc := by
  unfold revealOver
  dsimp only
  split <;> simp

theorem revealOver_frame (s : State) : (revealOver s).tru = s.tru ∧ (revealOver s).dkc = s.dkc
    ∧ (revealOver s).shc = s.shc ∧ (revealOver s).mem = s.mem ∧ (revealOver s).rmi = s.rmi ∧ (revealOver s).lkc = s.lkc
    ∧ (revealOver s).pins = s.pins ∧ (revealOver s).cdc = s.cdc := by
  unfold revealOver
  dsimp only
  split <;> simp

theorem revealOver_handsOver (s : State) : HandsOver s.csq.ownerNow s (revealOver s) := by
  cases hf : s.csq.flight with
  | some f =>
    have howner : s.csq.ownerNow = f.owner := by simp [Csq.ownerNow, hf]
    have hin : (endOfReveal (setCsq revealedCsq s)).csq.flight = some f := by simpa [revealedCsq] using hf
    have hend := revealOver_ended hf
    have heq : revealOver s = changeEnd (if f.halt then .halted else .done) (finalNow s)
        (endOfReveal (setCsq revealedCsq s)) := by simp [revealOver, hf]
    obtain ⟨-, hholder, -⟩ := hend
    rw [howner]
    refine ⟨by simp [revealedCsq], ?_, ?_, hholder, ?_, fun ha => ?_, fun src => ?_⟩
    · rw [heq, changeEnd_waiting hin, if_neg (not_discards_reveal _)]
      simp
    · simp [heq]
    · simp [heq]
    · rw [heq]
      exact changeEnd_awaited _ _ (not_discards_reveal _) (by simpa using ha)
    · rw [heq, changeEnd_refusals hin]
      simp
  | none =>
    have howner : s.csq.ownerNow = s.csq.keptOwner := by simp [Csq.ownerNow, hf]
    have heq : revealOver s = startTenure s.csq.keptOwner (endOfReveal (setCsq revealedCsq s)) := by simp [revealOver, hf]
    rw [howner]
    refine ⟨by simp [revealedCsq], ?_, ?_, ?_, ?_, fun ha => ?_, fun src => ?_⟩ <;> rw [heq] <;> simp
    exact ha

theorem revealOver_startCheck (w : Waiting) (s : State) : startCheck w (revealOver s) = startCheck w s :=
  startCheck_congr (revealOver_handsOver s).sources (revealOver_frame s).1
    (orphaned_congr (by simp [revealedCsq]) (by simp [revealedCsq])) w

theorem endReveal_nothing {s : State} (h : StartsNothing s.csq.ownerNow s) : endReveal s = revealOver s := by
  rw [endReveal_eq, (revealOver_handsOver s).unready h]

theorem endReveal_started {s : State} {w : Waiting} {q : Nat} (hw : s.sar.waiting = some w)
    (hin : LetIn s.csq.ownerNow s w) (hq : startCheck w s = .ok q) : StartedPending w q s (endReveal s) := by
  rw [endReveal_eq]
  exact (revealOver_handsOver s).started hw hin ((revealOver_startCheck w s).trans hq)

/-- A pending change that starts leaves the last-change records. -/
theorem startPending_ok_last {s : State} {w : Waiting} {q : Nat} (hw : s.sar.waiting = some w)
    (hr : pendingReady s = true) (hq : startCheck w s = .ok q) : (startPending s).sar.last = s.sar.last := by
  rw [startPending_ok hw hr hq, startChange_sar, markStarted_sar]

theorem endReveal_started_last {s : State} {w : Waiting} {q : Nat} (hw : s.sar.waiting = some w)
    (hin : LetIn s.csq.ownerNow s w) (hq : startCheck w s = .ok q) :
    (endReveal s).sar.last = (revealOver s).sar.last := by
  have hover := revealOver_handsOver s
  rw [endReveal_eq]
  exact startPending_ok_last (hover.waiting.trans hw) ((hover.ready_iff hw).mpr hin)
    ((revealOver_startCheck w s).trans hq)

theorem endReveal_refused {s : State} {w : Waiting} {st : Status} (hw : s.sar.waiting = some w)
    (hin : LetIn s.csq.ownerNow s w) (hq : startCheck w s = .error st) :
    RefusedPending w s (endReveal s) ∧ (endReveal s).csq = (revealOver s).csq
      ∧ (endReveal s).sar.holder = (revealOver s).sar.holder
      ∧ (endReveal s).sar.tenureLeft = (revealOver s).sar.tenureLeft := by
  rw [endReveal_eq]
  obtain ⟨hr, heq⟩ := (revealOver_handsOver s).refused hw hin ((revealOver_startCheck w s).trans hq) (by simp)
  refine ⟨hr, ?_⟩
  rw [heq, refuseStart_sar, writeRecord_tenure]
  simp [setWaiting]

theorem revealCheck_pos {s : State} (hs : s.csq.state = .revealing) (hd : s.csq.shutDone = true)
    (hl : s.csq.lampDone = true) : revealCheck s = endReveal s := if_pos ⟨hs, hd, hl⟩

theorem revealCheck_neg {s : State} (h : s.csq.state ≠ .revealing ∨ s.csq.shutDone = false ∨ s.csq.lampDone = false) :
    revealCheck s = s := by
  refine if_neg ?_
  rintro ⟨hs, hd, hl⟩
  rcases h with h | h | h
  · exact h hs
  · exact Bool.false_ne_true (h.symm.trans hd)
  · exact Bool.false_ne_true (h.symm.trans hl)

theorem revealCheck_nothing {s : State} (h : StartsNothing s.csq.ownerNow s) :
    revealCheck s = if s.csq.state = .revealing ∧ s.csq.shutDone = true ∧ s.csq.lampDone = true then revealOver s
      else s := by
  rw [revealCheck, endReveal_nothing h]

/-! ## The entry to REVEALING -/

/-- REVEALING as it is entered, before its parts are looked at (02 R31). -/
def revealing (s : State) : State :=
  let shutDone := !s.csq.shutClosed || !s.pins.shcl
  let s1 := if s.lmc.claim = .none then s else setLmc (Lmc.reveal · (revealFade s.csq)) s
  let lampDone := s.lmc.claim = .none || s1.lmc.lamp ≠ .lit || s1.lmc.ramp.complete
  let s2 := setLmc (fun l => { l with owed := !lampDone }) s1
  setCsq (fun q => { q with
    state := .revealing, drive := .none, timerMs := 0, shutClosed := false
    shutMs := if shutDone then none else some 0
    shutDone, lampDone }) s2

theorem enterRevealing_eq (s : State) : enterRevealing s = revealCheck (revealing s) := rfl

theorem reveal_claim (l : Lmc) (fade : Nat) : (l.reveal fade).claim = .none := by
  unfold Lmc.reveal
  dsimp only
  split <;> rfl

/-- REVEALING is entered: CSQ's other records stand, the claim is withdrawn. -/
structure Reveals (s t : State) : Prop where
  state : t.csq.state = .revealing
  drive : t.csq.drive = .none
  shutClosed : t.csq.shutClosed = false
  shutDone : t.csq.shutDone = (!s.csq.shutClosed || !s.pins.shcl)
  lampDone : s.lmc.claim = .none → t.csq.lampDone = true
  flight : t.csq.flight = s.csq.flight
  kept : t.csq.keptOwner = s.csq.keptOwner
  gate : t.csq.gate = s.csq.gate
  origin : t.csq.origin = s.csq.origin
  stop : t.csq.stop = s.csq.stop
  claim : t.lmc.claim = .none
  showLevel : t.lmc.showLevel = s.lmc.showLevel
  ramp : s.lmc.claim ≠ .none → s.lmc.lamp = .lit →
    t.lmc.ramp = ⟨s.lmc.output, s.lmc.showLevel, revealFade s.csq, 0, 0⟩
  sar : t.sar = s.sar
  tru : t.tru = s.tru
  crn : t.crn = s.crn
  pnp : t.pnp = s.pnp

theorem revealing_reveals (s : State) : Reveals s (revealing s) := by
  by_cases hc : s.lmc.claim = .none
  · constructor <;> simp [revealing, hc, setLmc, setCsq]
  · have hramp : s.lmc.lamp = .lit → (s.lmc.reveal (revealFade s.csq)).ramp
        = ⟨s.lmc.output, s.lmc.showLevel, revealFade s.csq, 0, 0⟩ := by
      intro hl
      simp only [Lmc.reveal, hl, if_true]
      rfl
    have hshow : (s.lmc.reveal (revealFade s.csq)).showLevel = s.lmc.showLevel := by
      unfold Lmc.reveal
      dsimp only
      split <;> rfl
    constructor <;> simp [revealing, hc, setLmc, setCsq, reveal_claim, hshow]
    exact hramp

theorem Reveals.owner {s t : State} (h : Reveals s t) : t.csq.ownerNow = s.csq.ownerNow := by
  rw [Csq.ownerNow, Csq.ownerNow, h.flight, h.kept]

theorem StartsNothing.congr {o : Source} {s t : State} (hs : t.sar = s.sar) (hp : t.pnp = s.pnp)
    (h : StartsNothing o s) : StartsNothing o t := by
  intro w hw hin
  refine h w (hs ▸ hw) ?_
  obtain ⟨hrun, hten⟩ := hin
  refine ⟨hp ▸ hrun, ?_⟩
  simpa only [priority, hs] using hten

theorem LetIn.congr {o : Source} {s t : State} {w : Waiting} (hs : t.sar = s.sar) (hp : t.pnp = s.pnp)
    (h : LetIn o s w) : LetIn o t w := by
  obtain ⟨hrun, hten⟩ := h
  refine ⟨hp ▸ hrun, ?_⟩
  simpa only [priority, hs] using hten

/-- The Ended of a change reads SAR and the flight only. -/
theorem Ended.congr {f : Flight} {o : ChangeOutcome} {p : FinalPos} {s u t : State} (hs : u.sar = s.sar)
    (h : Ended f o p u t) : Ended f o p s t := by
  obtain ⟨hlast, hholder, hten⟩ := h
  rw [hs] at hlast hholder hten
  exact ⟨hlast, hholder, hten⟩

/-- The shutter is still closed: the reveal waits for it. -/
theorem enterRevealing_waits {s : State} (hc : s.csq.shutClosed = true) (hp : s.pins.shcl = true) :
    enterRevealing s = revealing s := by
  have hr := revealing_reveals s
  rw [enterRevealing_eq]
  exact revealCheck_neg (.inr (.inl (by rw [hr.shutDone, hc, hp]; rfl)))

/-- No shutter to open and no claim to withdraw: the reveal ends at once. -/
theorem enterRevealing_ends {s : State} (ho : s.csq.shutClosed = false) (hc : s.lmc.claim = .none) :
    enterRevealing s = endReveal (revealing s) := by
  have hr := revealing_reveals s
  rw [enterRevealing_eq]
  exact revealCheck_pos hr.state (by rw [hr.shutDone, ho]; rfl) (hr.lampDone hc)

/-- What the end of a reveal that was just entered leaves, the change that was in flight over. -/
theorem revealOver_revealing {s : State} {f : Flight} (hf : s.csq.flight = some f) :
    (revealOver (revealing s)).csq.state = .idle ∧ (revealOver (revealing s)).csq.flight = none
      ∧ Ended f (if f.halt then .halted else .done) (finalNow s) s (revealOver (revealing s)) := by
  have hr := revealing_reveals s
  have hfinal : finalNow (revealing s) = finalNow s := by rw [finalNow, finalNow, hr.tru]
  refine ⟨by simp [revealedCsq], by simp, ?_⟩
  rw [← hfinal]
  exact (revealOver_ended (hr.flight.trans hf)).congr hr.sar

theorem revealOver_lamp (s : State) : (revealOver s).lmc.claim = s.lmc.claim
    ∧ (revealOver s).lmc.ramp = s.lmc.ramp ∧ (revealOver s).lmc.showLevel = s.lmc.showLevel := by
  obtain ⟨-, -, -, -, hramp, hshow, -⟩ := endOfReveal_lmc (setCsq revealedCsq s)
  rw [revealOver_lmc]
  exact ⟨by simp, hramp, hshow⟩

/-- Where the end of the reveal starts nothing, REVEALING is entered and may be over. -/
theorem enterRevealing_nothing {s : State} (h : StartsNothing s.csq.ownerNow s) :
    enterRevealing s = revealing s ∨ enterRevealing s = revealOver (revealing s) := by
  have hr := revealing_reveals s
  have hn : StartsNothing (revealing s).csq.ownerNow (revealing s) := hr.owner ▸ StartsNothing.congr hr.sar hr.pnp h
  rw [enterRevealing_eq, revealCheck_nothing hn]
  split
  · exact .inr rfl
  · exact .inl rfl

/-- The lamp and the shutter after an entry to REVEALING whose end starts nothing. -/
theorem enterRevealing_released {s : State} (h : (s.csq.shutClosed = true ∧ s.pins.shcl = true)
    ∨ StartsNothing s.csq.ownerNow s) : (enterRevealing s).csq.drive = .none
      ∧ (enterRevealing s).csq.shutClosed = false ∧ (enterRevealing s).lmc.claim = .none
      ∧ (s.lmc.claim ≠ .none → s.lmc.lamp = .lit →
        (enterRevealing s).lmc.ramp = ⟨s.lmc.output, s.lmc.showLevel, revealFade s.csq, 0, 0⟩) := by
  have hr := revealing_reveals s
  have hcase : enterRevealing s = revealing s ∨ enterRevealing s = revealOver (revealing s) := by
    rcases h with ⟨hc, hp⟩ | h
    · exact .inl (enterRevealing_waits hc hp)
    · exact enterRevealing_nothing h
  rcases hcase with heq | heq <;> rw [heq]
  · exact ⟨hr.drive, hr.shutClosed, hr.claim, hr.ramp⟩
  · obtain ⟨hclaim, hramp, -⟩ := revealOver_lamp (revealing s)
    rw [hclaim, hramp, revealOver_csq]
    exact ⟨rfl, hr.shutClosed, hr.claim, hr.ramp⟩

/-- A pending change that the end of the reveal lets in starts with the entry to REVEALING. -/
theorem enterRevealing_started {s : State} {w : Waiting} {q : Nat} (ho : s.csq.shutClosed = false)
    (hc : s.lmc.claim = .none) (hw : s.sar.waiting = some w) (hin : LetIn s.csq.ownerNow s w)
    (hq : startCheck w s = .ok q) : StartedPending w q s (enterRevealing s) := by
  have hr := revealing_reveals s
  have hstart : StartedPending w q (revealing s) (endReveal (revealing s)) := by
    refine endReveal_started (hr.sar ▸ hw) (hr.owner ▸ LetIn.congr hr.sar hr.pnp hin) ?_
    rw [startCheck_congr (congrArg (·.sources) hr.sar) hr.tru (orphaned_congr hr.gate hr.origin)]
    exact hq
  rw [enterRevealing_ends ho hc]
  simpa only [StartedPending, hr.crn] using hstart

/-! ## The entries to JAMMED and STALLED -/

/-- A pending mark other than SHOW's stands (02 R35, 08 R139). -/
def ShowOnly (s t : State) : Prop := t.pnp = { s.pnp with pend := { s.pnp.pend with showChg := t.pnp.pend.showChg } }

theorem ShowOnly.of_eq {s t : State} (h : t.pnp = s.pnp) : ShowOnly s t := by
  rw [ShowOnly, h]

theorem setPhase_showOnly (p : Show) (s : State) : ShowOnly s (setPhase p s) := by
  unfold setPhase
  split <;> rfl

theorem enterHeld_showOnly (s : State) : ShowOnly s (enterHeld s) := by
  have hset : ShowOnly s (setPhase .held (setEnded (s.shc.phase = .ending) s)) :=
    setPhase_showOnly .held (setEnded (s.shc.phase = .ending) s)
  unfold enterHeld
  dsimp only
  split <;> exact hset

theorem addCause_showOnly (c : Cause) (s : State) : ShowOnly s (addCause c s) := by
  unfold addCause
  split
  · rfl
  · dsimp only
    split
    · exact enterHeld_showOnly (setCause c true s)
    · rfl

theorem Causes.get_set (c : Cause) (v : Bool) (x : Causes) : (x.set c v).get c = v := by
  cases c <;> rfl

theorem addCause_causes (c : Cause) {s : State} (h : s.pnp.power ≠ .resetHeld) :
    (addCause c s).shc.causes = s.shc.causes.set c true := by
  rw [addCause, if_neg h]
  dsimp only
  split <;> simp [setCause]

/-- CSQ in JAMMED. -/
def jammedCsq (cause : StopCause) (s : State) : Csq :=
  { s.csq with flight := none, state := .jammed, drive := .none, timerMs := 0, shutMs := none, retry := 0, stop := cause,
               keptOwner := s.csq.ownerNow, keptFade := revealFade s.csq }

theorem enterJammed_csq (cause : StopCause) (s : State) : (enterJammed cause s).csq = jammedCsq cause s := by
  simp [enterJammed, setCsq, jammedCsq]

/-- The entry to JAMMED with a change in flight ends it. -/
theorem enterJammed_jammed {s : State} {f : Flight} (hf : s.csq.flight = some f) (cause : StopCause) :
    Jammed f cause s (enterJammed cause s) := by
  have howner : s.csq.ownerNow = f.owner := by simp [Csq.ownerNow, hf]
  have hfade : revealFade s.csq = f.fade := by simp [revealFade, hf]
  rw [Jammed, enterJammed_csq]
  refine ⟨rfl, rfl, rfl, rfl, rfl, howner, hfade, rfl, by simp, ?_, fun hp => ?_⟩
  · rw [enterJammed, addCause_showOnly]
    rfl
  · rw [enterJammed, addCause_causes _ (by simpa [setCsq] using hp)]
    exact Causes.get_set .transport true _

theorem enterJammed_sar (cause : StopCause) (s : State) :
    (enterJammed cause s).sar = (changeEnd .jammed (finalNow s) s).sar := by
  simp [enterJammed, setCsq]

theorem enterJammed_ended {s : State} {f : Flight} (hf : s.csq.flight = some f) (cause : StopCause) :
    Ended f .jammed (finalNow s) s (enterJammed cause s) := by
  rw [Ended, enterJammed_sar]
  exact changeEnd_ended hf .jammed (finalNow s)

/-- CSQ in STALLED. -/
def stalledCsq (cause : StopCause) (q : Csq) : Csq :=
  { q with flight := none, state := .stalled, drive := .none, timerMs := 0, stop := cause }

theorem enterStalled_csq (cause : StopCause) (s : State) : (enterStalled cause s).csq = stalledCsq cause s.csq := by
  simp [enterStalled, setCsq, stalledCsq]

theorem enterStalled_ended {s : State} {f : Flight} (hf : s.csq.flight = some f) (cause : StopCause) :
    Ended f .stalled .unknown s (enterStalled cause s) := by
  have hsar : (enterStalled cause s).sar = (changeEnd .stalled .unknown (setPosition none s)).sar := by
    simp [enterStalled, setCsq]
  rw [Ended, hsar]
  exact changeEnd_ended (s := setPosition none s) hf .stalled .unknown

theorem enterStalled_tru (cause : StopCause) (s : State) :
    (enterStalled cause s).tru = { s.tru with position := none } := by
  simp [enterStalled, setCsq]

theorem enterStalled_cause (cause : StopCause) {s : State} (hp : s.pnp.power ≠ .resetHeld) :
    (enterStalled cause s).shc.causes.transport = true := by
  rw [enterStalled, addCause_causes _ (by simpa [setCsq] using hp)]
  exact Causes.get_set .transport true _

theorem enterStalled_marks (cause : StopCause) (s : State) :
    (enterStalled cause s).pnp.pend.jam = true ∧ (enterStalled cause s).pnp.pend.fault = true
      ∧ (enterStalled cause s).pnp.faults = s.pnp.faults.set .trayStall := by
  rw [enterStalled, addCause_showOnly]
  exact ⟨rfl, rfl, by simp [setCsq]⟩

end Sys2Proof.Machine
end

section
/-! The shutter's events (02 R24, R26, R31). -/

namespace Sys2Proof.Machine
open Sys2Proof

theorem finish_guard (s : State) : (finish s).lmc.guardElapsed = s.lmc.guardElapsed
    ∧ (finish s).lmc.deferred = s.lmc.deferred ∧ (finish s).lmc.ramp = s.lmc.ramp := by
  rw [finish_eq]
  exact ⟨rfl, rfl, rfl⟩

theorem finish_output (s : State) : (finish s).lmc.output = s.lmc.output := by
  rw [finish_eq]
  rfl

theorem finish_awaited (s : State) : (finish s).crn.awaited = s.crn.awaited := by
  rw [finish_eq]

/-! ## BLANKING ends -/

theorem blankingEnd_lifts {s : State} (hs : s.csq.state = .blanking) (hg : s.csq.gate ≠ .empty) :
    blankingEnd s = { s with csq := { s.csq with state := .lifting, drive := .lift, timerMs := 0, shutMs := none } } := by
  rw [blankingEnd, if_pos hs]
  exact if_neg hg

theorem blankingEnd_turns {s : State} {f : Flight} (hs : s.csq.state = .blanking) (hg : s.csq.gate = .empty)
    (hf : s.csq.flight = some f) : blankingEnd s = { s with csq := if s.tru.position = some f.target then
      { s.csq with state := .dropping, drive := .drop, timerMs := 0, retry := 0, shutMs := none }
      else { s.csq with state := .indexing, drive := .none, timerMs := 0, shutMs := none } } := by
  rw [blankingEnd, if_pos hs]
  simp only [toTarget, setCsq, hg, hf, if_true]
  split <;> rfl

theorem shutterActive_blanking {s : State} (hs : s.csq.state = .blanking) (hm : s.csq.shutMs ≠ none) :
    shutterActive s = blankingEnd (setShcl true s) := if_pos ⟨hs, hm⟩

theorem shutterActive_other {s : State} (hs : s.csq.state ≠ .blanking) : shutterActive s = setShcl true s :=
  if_neg fun h => hs h.1

/-! ## The shutter timer -/

theorem shutterLimit_blanking {s : State} (hs : s.csq.state = .blanking) (hm : s.csq.shutMs ≠ none) :
    shutterLimit s = blankingEnd (shutterFallback s) := by
  rw [shutterLimit, if_neg hm, hs]

theorem shutterLimit_revealing {s : State} (hs : s.csq.state = .revealing) (hm : s.csq.shutMs ≠ none) :
    shutterLimit s = revealCheck (setCsq (fun q => { q with shutFault := true, shutDone := true, shutMs := none })
      (raiseFault .shutter s)) := by
  rw [shutterLimit, if_neg hm, hs]

theorem output_of_hold {l : Lmc} (h : l.claim = .hold) : l.output = 0 := by
  rw [Lmc.output, if_pos h]

/-- What a shutter failure leaves LMC and PNP. -/
theorem shutterFallback_dark (s : State) : (shutterFallback s).lmc.claim = .hold ∧ (shutterFallback s).lmc.dim = true
    ∧ (shutterFallback s).pnp.faults = s.pnp.faults.set .shutter ∧ (shutterFallback s).pnp.pend.fault = true
    ∧ (shutterFallback s).csq = { s.csq with shutFault := true } := by
  refine ⟨rfl, ?_, rfl, rfl, rfl⟩
  show (s.lmc.markDim).dim = true
  unfold Lmc.markDim
  dsimp only
  split <;> rfl

/-- The fallback of a shutter that did not close, and the lift that follows it. -/
theorem shutterLimit_fallback {s : State} (hs : s.csq.state = .blanking) (hm : s.csq.shutMs ≠ none)
    (hg : s.csq.gate ≠ .empty) : shutterLimit s = { shutterFallback s with
      csq := { s.csq with state := .lifting, drive := .lift, timerMs := 0, shutMs := none, shutFault := true } } := by
  rw [shutterLimit_blanking hs hm, blankingEnd_lifts (s := shutterFallback s) hs hg]
  rfl

/-! ## The sensor inactive -/

theorem shutterInactive_moving {s : State} (hs : Moving s.csq) (hc : s.csq.shutClosed = true)
    (hb : s.csq.shutterBlanked = true) (hp : s.pins.shcl = true) :
    shutterInactive s = shutterFallback (setShcl false s) := by
  rcases hs with hs | hs | hs <;> simp only [shutterInactive, hs] <;> exact if_pos ⟨hc, hb, hp⟩

theorem shutterInactive_other {s : State} (hs : s.csq.state ∉ [.revealing, .lifting, .indexing, .dropping]) :
    shutterInactive s = setShcl false s := by
  cases h : s.csq.state <;> simp_all [shutterInactive]

/-- REVEALING with the shutter's part done. -/
def shutterOpen (s : State) : State :=
  setCsq (fun q => { q with shutDone := true, shutMs := none }) (setShcl false s)

theorem shutterInactive_waits {s : State} (hs : s.csq.state = .revealing) (hl : s.csq.lampDone = false) :
    shutterInactive s = shutterOpen s := by
  simp only [shutterInactive, hs]
  exact revealCheck_neg (.inr (.inr hl))

theorem shutterInactive_ends {s : State} (hs : s.csq.state = .revealing) (hl : s.csq.lampDone = true) :
    shutterInactive s = endReveal (shutterOpen s) := by
  simp only [shutterInactive, hs]
  exact revealCheck_pos hs rfl hl

/-- A reveal that ends is not the end of a change that discards the pending one: its record stands. -/
theorem revealOver_last {s : State} {f : Flight} (h : s.csq.flight = some f) :
    (revealOver s).sar.last.get f.owner = ⟨some f.kind, some f.target, if f.halt then .halted else .done, finalNow s,
      (s.sar.last.get f.owner).refusals⟩ := by
  have hin : (endOfReveal (setCsq revealedCsq s)).csq.flight = some f := by simpa [revealedCsq] using h
  have heq : revealOver s = changeEnd (if f.halt then .halted else .done) (finalNow s)
      (endOfReveal (setCsq revealedCsq s)) := by simp [revealOver, h]
  rw [heq, changeEnd_sar hin]
  dsimp only
  rw [if_neg (not_discards_reveal _)]
  have hrec := writeRecord_last_get f.owner f.kind f.target (if f.halt then .halted else .done) (finalNow s)
    { endOfReveal (setCsq revealedCsq s) with
      csq := { (endOfReveal (setCsq revealedCsq s)).csq with flight := none } }
  simpa using hrec

/-- The tenure that the end of a reveal starts. -/
theorem revealOver_tenure (s : State) :
    (revealOver s).sar.tenureLeft = (s.sar.sources.get s.csq.ownerNow).tenure := by
  cases hf : s.csq.flight with
  | some f =>
    obtain ⟨-, -, hten⟩ := revealOver_ended hf
    rw [hten, Csq.ownerNow, hf]
  | none =>
    rw [revealOver_kept hf, Csq.ownerNow, hf]
    simp

/-- The end of a reveal with a change in flight, seen from outside. -/
theorem shutterOpened_ends {s : State} {f : Flight} (hp : Powered s) (hs : s.csq.state = .revealing)
    (hl : s.csq.lampDone = true) (hf : s.csq.flight = some f) (hn : StartsNothing f.owner s) :
    ∃ t, exec .shutterOpened s = .next t ∧ t.csq.state = .idle ∧ t.csq.flight = none
      ∧ Ended f (if f.halt then .halted else .done) (finalNow s) s t ∧ t.lmc.dim = false
      ∧ t.lmc.guardElapsed = 0 ∧ t.lmc.deferred = false ∧ t.tru = s.tru ∧ t.csq.gate = s.csq.gate
      ∧ t.csq.origin = s.csq.origin ∧ t.dkc = s.dkc ∧ t.mem = s.mem ∧ t.rmi = s.rmi ∧ t.lkc = s.lkc := by
  have howner : (shutterOpen s).csq.ownerNow = f.owner := by simp [shutterOpen, setCsq, setShcl, Csq.ownerNow, hf]
  have hn' : StartsNothing (shutterOpen s).csq.ownerNow (shutterOpen s) := howner ▸ hn
  have heq : shutterInactive s = revealOver (shutterOpen s) :=
    (shutterInactive_ends hs hl).trans (endReveal_nothing hn')
  have hend := revealOver_ended (s := shutterOpen s) (f := f) hf
  obtain ⟨hdim, hdef, hguard, -⟩ := endOfReveal_lmc (setCsq revealedCsq (shutterOpen s))
  obtain ⟨htru, hdkc, -, hmem, hrmi, hlkc, -⟩ := revealOver_frame (shutterOpen s)
  obtain ⟨hg, hd, -⟩ := finish_guard (revealOver (shutterOpen s))
  refine ⟨_, runPin_of_eq hp heq, ?_⟩
  rw [hg, hd, Ended]
  simp only [finish_frame, revealOver_csq, revealOver_lmc, hdim, hdef, hguard, true_and]
  exact ⟨rfl, hend, htru, rfl, rfl, hdkc, hmem, hrmi, hlkc⟩

theorem shutterOpened_starts {s : State} {f : Flight} {w : Waiting} {q : Nat} (hp : Powered s)
    (hs : s.csq.state = .revealing) (hl : s.csq.lampDone = true) (hf : s.csq.flight = some f)
    (hw : s.sar.waiting = some w) (hin : LetIn f.owner s w) (hq : startCheck w s = .ok q) :
    ∃ t, exec .shutterOpened s = .next t ∧ StartedPending w q s t
      ∧ t.sar.last.get f.owner = ⟨some f.kind, some f.target, if f.halt then .halted else .done, finalNow s,
          (s.sar.last.get f.owner).refusals⟩
      ∧ t.tru = s.tru ∧ t.csq.gate = s.csq.gate ∧ t.csq.origin = s.csq.origin ∧ t.shc = s.shc
      ∧ t.dkc = s.dkc ∧ t.mem = s.mem := by
  have howner : (shutterOpen s).csq.ownerNow = f.owner := by simp [shutterOpen, setCsq, setShcl, Csq.ownerNow, hf]
  have hin' : LetIn (shutterOpen s).csq.ownerNow (shutterOpen s) w := howner ▸ hin
  have hstart := endReveal_started (s := shutterOpen s) hw hin' hq
  have hlast := endReveal_started_last (s := shutterOpen s) hw hin' hq
  refine ⟨_, runPin_of_eq hp (shutterInactive_ends hs hl), ?_⟩
  rw [StartedPending, finish_awaited]
  simp only [finish_frame, hlast, revealOver_last (s := shutterOpen s) hf, endReveal_frame]
  exact ⟨hstart, rfl, rfl, rfl, rfl, rfl, rfl, rfl⟩

theorem shutterOpened_refuses {s : State} {f : Flight} {w : Waiting} {st : Status} (hp : Powered s)
    (hs : s.csq.state = .revealing) (hl : s.csq.lampDone = true) (hf : s.csq.flight = some f)
    (hw : s.sar.waiting = some w) (hin : LetIn f.owner s w) (hq : startCheck w s = .error st) :
    ∃ t, exec .shutterOpened s = .next t ∧ RefusedPending w s t ∧ t.csq.state = .idle
      ∧ t.sar.holder = (if (s.sar.sources.get f.owner).tenure = 0 then none else some f.owner)
      ∧ t.sar.tenureLeft = (s.sar.sources.get f.owner).tenure := by
  have howner : (shutterOpen s).csq.ownerNow = f.owner := by simp [shutterOpen, setCsq, setShcl, Csq.ownerNow, hf]
  have hin' : LetIn (shutterOpen s).csq.ownerNow (shutterOpen s) w := howner ▸ hin
  obtain ⟨hrefused, hcsq, hholder, hten⟩ := endReveal_refused (s := shutterOpen s) hw hin' hq
  have hover := (revealOver_handsOver (shutterOpen s)).holder
  have hleft := revealOver_tenure (shutterOpen s)
  rw [howner] at hover hleft
  refine ⟨_, runPin_of_eq hp (shutterInactive_ends hs hl), ?_⟩
  rw [RefusedPending]
  simp only [finish_frame, hcsq, hholder, hten, hover, hleft, revealOver_csq]
  obtain ⟨hwait, -, hrec⟩ := hrefused
  exact ⟨⟨hwait, trivial, hrec⟩, rfl, rfl, rfl⟩

theorem shutterOpened_kept {s : State} (hp : Powered s) (hs : s.csq.state = .revealing) (hl : s.csq.lampDone = true)
    (hf : s.csq.flight = none) (hn : StartsNothing s.csq.keptOwner s) :
    ∃ t, exec .shutterOpened s = .next t ∧ t.csq.state = .idle ∧ t.csq.flight = none
      ∧ t.sar.last = s.sar.last ∧ t.sar.waiting = s.sar.waiting
      ∧ t.sar.holder = (if (s.sar.sources.get s.csq.keptOwner).tenure = 0 then none else some s.csq.keptOwner)
      ∧ t.sar.tenureLeft = (s.sar.sources.get s.csq.keptOwner).tenure := by
  have howner : (shutterOpen s).csq.ownerNow = s.csq.keptOwner := by
    simp [shutterOpen, setCsq, setShcl, Csq.ownerNow, hf]
  have hn' : StartsNothing (shutterOpen s).csq.ownerNow (shutterOpen s) := howner ▸ hn
  have heq : shutterInactive s = revealOver (shutterOpen s) :=
    (shutterInactive_ends hs hl).trans (endReveal_nothing hn')
  have hsar : (revealOver (shutterOpen s)).sar = (startTenure s.csq.keptOwner (shutterOpen s)).sar :=
    revealOver_kept hf
  refine ⟨_, runPin_of_eq hp heq, ?_⟩
  simp only [finish_frame, hsar, revealOver_csq]
  simp [shutterOpen, setCsq, setShcl, revealedCsq]

/-- Settles O22: BLANKING ends with the CLOSED sensor or its limit (`blankingEnd_lifts`, `blankingEnd_turns`), and a reveal
with the sensor inactive or its limit, once its lamp part is done (`shutterInactive_ends`). -/
theorem shutterEventsEndTheirPhase : Obligations.ShutterEventsEndTheirPhase := by
  refine ⟨fun s hp hs hm hg => ?_, fun s f hp hs hm hg hf => ?_, fun s hp hs => ?_, fun s hp hs hm hg => ?_,
    fun s hp hs hc hb hsh => ?_, fun s hp hs hl => ?_, fun s f hp hs hl hf hn => shutterOpened_ends hp hs hl hf hn,
    fun s f w q hp hs hl hf hw hin hq => shutterOpened_starts hp hs hl hf hw hin hq,
    fun s f w st hp hs hl hf hw hin hq => shutterOpened_refuses hp hs hl hf hw hin hq,
    fun s hp hs hl hf hn => shutterOpened_kept hp hs hl hf hn, fun s hp hs => ?_, fun s hp hs hm hl => ?_⟩
  · exact runPin_of_eq hp ((shutterActive_blanking hs hm).trans (blankingEnd_lifts (s := setShcl true s) hs hg))
  · exact runPin_of_eq hp ((shutterActive_blanking hs hm).trans (blankingEnd_turns (s := setShcl true s) hs hg hf))
  · exact runPin_of_eq hp (shutterActive_other hs)
  · obtain ⟨hclaim, hdim, hfaults, hpend, -⟩ := shutterFallback_dark s
    refine ⟨_, run_of_eq hp (shutterLimit_fallback hs hm hg), ?_⟩
    rw [finish_output, (finish_pend _).1, finish_faults]
    simp only [finish_frame]
    exact ⟨trivial, hclaim, output_of_hold hclaim, hdim, hfaults, hpend, by rw [finish_eq]; rfl⟩
  · obtain ⟨hclaim, hdim, hfaults, hpend, hcsq⟩ := shutterFallback_dark (setShcl false s)
    refine ⟨_, runPin_of_eq hp (shutterInactive_moving hs hc hb hsh), ?_⟩
    rw [finish_output, (finish_pend _).1, finish_faults]
    simp only [finish_frame]
    exact ⟨hcsq, hclaim, output_of_hold hclaim, hdim, hfaults, hpend, by rw [finish_eq]; rfl⟩
  · exact runPin_of_eq hp (shutterInactive_waits hs hl)
  · exact runPin_of_eq hp (shutterInactive_other hs)
  · exact run_of_eq hp ((shutterLimit_revealing hs hm).trans (revealCheck_neg (.inr (.inr hl))))

end Sys2Proof.Machine
end

section
/-! The results of lift, drop and drive, and CLEAR JAM (02 R27 to R36). -/

namespace Sys2Proof.Machine
open Sys2Proof

theorem reportContent_congr {s u : State} (h : u.tru = s.tru) (c : Content) :
    (reportContent c u).tru = (reportContent c s).tru := by
  simp only [reportContent, h]
  split
  · exact h
  · split
    · exact h
    · rfl

theorem jamReport_congr {s u : State} (h : u.tru = s.tru) : (jamReport u).tru = (jamReport s).tru := by
  simp only [jamReport, h]
  split
  · exact h
  · split
    · exact h
    · rfl

/-- The change that `s` has in flight stands in `u`: only pins, gate record, drive, timers and the slot map may differ. -/
structure SameChange (s u : State) : Prop where
  flight : u.csq.flight = s.csq.flight
  owner : u.csq.keptOwner = s.csq.keptOwner
  fade : u.csq.keptFade = s.csq.keptFade
  shutClosed : u.csq.shutClosed = s.csq.shutClosed
  shcl : u.pins.shcl = s.pins.shcl
  position : u.tru.position = s.tru.position
  sar : u.sar = s.sar
  lmc : u.lmc = s.lmc
  pnp : u.pnp = s.pnp
  crn : u.crn = s.crn

theorem SameChange.ownerNow {s u : State} (h : SameChange s u) : u.csq.ownerNow = s.csq.ownerNow := by
  rw [Csq.ownerNow, Csq.ownerNow, h.flight, h.owner]

theorem SameChange.revealFade {s u : State} (h : SameChange s u) : revealFade u.csq = revealFade s.csq := by
  rw [Machine.revealFade, Machine.revealFade, h.flight, h.fade]

theorem SameChange.finalNow {s u : State} (h : SameChange s u) : finalNow u = finalNow s := by
  rw [Machine.finalNow, Machine.finalNow, h.position]

theorem ownerNow_flight {q : Csq} {f : Flight} (h : q.flight = some f) : q.ownerNow = f.owner := by
  rw [Csq.ownerNow, h]

theorem ownerNow_kept {q : Csq} (h : q.flight = none) : q.ownerNow = q.keptOwner := by
  rw [Csq.ownerNow, h]

/-- A change that ends in JAMMED, as the event leaves it. -/
theorem SameChange.jams {s u : State} {f : Flight} (h : SameChange s u) (hf : s.csq.flight = some f)
    (cause : StopCause) : Jammed f cause s (finish (enterJammed cause u))
      ∧ Ended f .jammed (Machine.finalNow s) s (finish (enterJammed cause u))
      ∧ (finish (enterJammed cause u)).tru = u.tru ∧ (finish (enterJammed cause u)).csq.gate = u.csq.gate
      ∧ (finish (enterJammed cause u)).csq.origin = u.csq.origin := by
  have hjam := enterJammed_jammed (h.flight.trans hf) cause
  have hend := (enterJammed_ended (h.flight.trans hf) cause).congr h.sar
  rw [h.finalNow] at hend
  rw [Jammed, h.shutClosed, h.lmc, h.pnp] at hjam
  rw [Jammed, Ended, (finish_pend _).1]
  simp only [finish_frame]
  exact ⟨hjam, hend, by simp⟩

/-- What stands of the state through an entry to REVEALING. -/
theorem finish_revealing_frame (u : State) : (finish (enterRevealing u)).csq.gate = u.csq.gate
    ∧ (finish (enterRevealing u)).csq.origin = u.csq.origin ∧ (finish (enterRevealing u)).tru = u.tru := by
  simp

/-- The reveal has been entered, or is over already. -/
theorem SameChange.reveals {s u : State} {f : Flight} (h : SameChange s u) (hf : s.csq.flight = some f)
    (hn : (s.csq.shutClosed = true ∧ s.pins.shcl = true) ∨ StartsNothing f.owner s) :
    (finish (enterRevealing u)).csq.drive = .none ∧ (finish (enterRevealing u)).csq.shutClosed = false
      ∧ (finish (enterRevealing u)).lmc.claim = .none
      ∧ (s.lmc.claim ≠ .none → s.lmc.lamp = .lit →
        (finish (enterRevealing u)).lmc.ramp = ⟨s.lmc.output, s.lmc.showLevel, f.fade, 0, 0⟩) := by
  have howner : u.csq.ownerNow = f.owner := ownerNow_flight (h.flight.trans hf)
  have hn' : (u.csq.shutClosed = true ∧ u.pins.shcl = true) ∨ StartsNothing u.csq.ownerNow u := by
    rw [h.shutClosed, h.shcl, howner]
    exact hn.imp_right (StartsNothing.congr h.sar h.pnp)
  have hrel := enterRevealing_released hn'
  rw [h.lmc, h.revealFade, Machine.revealFade, hf] at hrel
  rw [(finish_guard _).2.2]
  simpa only [finish_frame] using hrel

/-- The reveal waits for the shutter. -/
theorem SameChange.waits {s u : State} (h : SameChange s u)
    (hs : s.csq.shutClosed = true ∧ s.pins.shcl = true) : (finish (enterRevealing u)).csq.state = .revealing
      ∧ (finish (enterRevealing u)).csq.flight = s.csq.flight ∧ (finish (enterRevealing u)).sar = s.sar := by
  have hr := revealing_reveals u
  obtain ⟨hc, hp⟩ := hs
  simp only [finish_frame, enterRevealing_waits (h.shutClosed.trans hc) (h.shcl.trans hp)]
  exact ⟨hr.state, hr.flight.trans h.flight, hr.sar.trans h.sar⟩

/-- The change and its reveal are over at once. -/
theorem SameChange.ends {s u : State} {f : Flight} (h : SameChange s u) (hf : s.csq.flight = some f)
    (heq : enterRevealing u = revealOver (revealing u)) : (finish (enterRevealing u)).csq.state = .idle
      ∧ (finish (enterRevealing u)).csq.flight = none
      ∧ Ended f (if f.halt then .halted else .done) (Machine.finalNow s) s (finish (enterRevealing u)) := by
  obtain ⟨hstate, hflight, hend⟩ := revealOver_revealing (h.flight.trans hf)
  have hend' := hend.congr h.sar
  rw [h.finalNow] at hend'
  rw [Ended]
  simp only [finish_frame, heq]
  exact ⟨hstate, hflight, hend'⟩

theorem SameChange.nothing {s u : State} (h : SameChange s u) (hn : StartsNothing s.csq.ownerNow s) :
    StartsNothing u.csq.ownerNow u :=
  h.ownerNow ▸ StartsNothing.congr h.sar h.pnp hn

/-- Nothing to wait for and nothing to start: the change is over at once. -/
theorem SameChange.over {s u : State} (h : SameChange s u) (ho : s.csq.shutClosed = false)
    (hc : s.lmc.claim = .none) (hn : StartsNothing s.csq.ownerNow s) :
    enterRevealing u = revealOver (revealing u) := by
  have hr := revealing_reveals u
  rw [enterRevealing_ends (h.shutClosed.trans ho) (h.lmc ▸ hc)]
  exact endReveal_nothing (hr.owner ▸ StartsNothing.congr hr.sar hr.pnp (h.nothing hn))

/-- The pending change starts where the reveal ends at once. -/
theorem SameChange.starts {s u : State} {w : Waiting} {q : Nat} (h : SameChange s u) (ho : s.csq.shutClosed = false)
    (hc : s.lmc.claim = .none) (hw : s.sar.waiting = some w) (hin : LetIn s.csq.ownerNow s w)
    (hq : startCheck w u = .ok q) : StartedPending w q s (finish (enterRevealing u)) := by
  have hin' : LetIn u.csq.ownerNow u w := h.ownerNow ▸ LetIn.congr h.sar h.pnp hin
  have hstart := enterRevealing_started (h.shutClosed.trans ho) (h.lmc ▸ hc) (h.sar ▸ hw) hin' hq
  rw [StartedPending, h.crn] at hstart
  rw [StartedPending, finish_awaited]
  simpa only [finish_frame] using hstart

/-- A gate record and gate pins written, motion released, and the change in flight as it was. -/
theorem sameChange_gate (a b c : Bool) (g : GateState) (o : Option Nat) (s : State) :
    SameChange s (setCsq (fun q => { q with drive := .none }) (setGate g o (setGatePins a b c s))) := by
  constructor <;> rfl

/-! ## Lift results -/

theorem liftDone_lift {s : State} {f : Flight} (hd : s.csq.drive = .lift) (hf : s.csq.flight = some f) :
    liftDone s = { s with csq := if f.halt = true ∨ s.tru.position = some f.target then
        { s.csq with gate := .empty, origin := none, state := .dropping, drive := .drop, timerMs := 0, retry := 0 }
      else { s.csq with gate := .empty, origin := none, state := .indexing, drive := .none, timerMs := 0 } } := by
  by_cases hh : f.halt = true
  · simp [liftDone, hd, hf, hh, enterDropping, setCsq, setGate]
  · by_cases ht : s.tru.position = some f.target
    · simp [liftDone, hd, hf, hh, ht, toTarget, enterDropping, setCsq, setGate]
    · simp [liftDone, hd, hf, hh, ht, toTarget, enterIndexing, setCsq, setGate]

theorem liftDone_liftBack {s : State} (hd : s.csq.drive = .dropLiftBack) :
    liftDone s = { s with csq := { s.csq with gate := .empty, origin := none, drive := .drop, timerMs := 0 } } := by
  simp only [liftDone, hd]
  rfl

theorem liftDone_skip {s : State} {f : Flight} {q : Nat} (hd : s.csq.drive = .skipLift) (hf : s.csq.flight = some f)
    (hh : f.halt = false) (ht : skipTarget f s.tru = some q) :
    liftDone s = { s with csq := { s.csq with gate := .empty, origin := none, state := .indexing, drive := .none,
                                              timerMs := 0, retry := 0, flight := some { f with target := q } } } := by
  simp [liftDone, hd, skipOn, hf, hh, ht, setCsq, setGate, enterIndexing]

/-- The gate empty, motion released: what a SKIP continuation's lift back leaves when it does not go on. -/
def liftedBack (s : State) : State := setCsq (fun q => { q with drive := .none }) (setGate .empty none s)

theorem liftDone_skipHalted {s : State} {f : Flight} (hd : s.csq.drive = .skipLift) (hf : s.csq.flight = some f)
    (hh : f.halt = true) : liftDone s = enterRevealing (liftedBack s) := by
  simp [liftDone, hd, skipOn, hf, hh, setCsq, setGate, liftedBack]

theorem liftDone_skipJams {s : State} {f : Flight} (hd : s.csq.drive = .skipLift) (hf : s.csq.flight = some f)
    (hh : f.halt = false) (ht : skipTarget f s.tru = none) : liftDone s = enterJammed .drop (liftedBack s) := by
  simp [liftDone, hd, skipOn, hf, hh, ht, setCsq, setGate, liftedBack]

theorem skipTarget_onward {f : Flight} {t : Tru} {p q : Nat} (hp : t.position = some p)
    (hr : t.resolve f.kind 1 p = .ok q) (ho : (if f.kind = .advance then decide (p < q) else decide (q < p)) = true)
    (hb : f.base ≤ q) (hl : q ≤ f.limit) : skipTarget f t = some q := by
  simp only [skipTarget, hp, hr]
  exact if_pos ⟨ho, hb, hl⟩

theorem liftSuccess_eq {s t : State} (hp : Powered s) (hl : s.csq.lft = true)
    (h : liftDone (setGatePins false true true s) = t) : exec .liftSuccess s = .next (finish t) :=
  run_of_eq hp ((if_pos hl).trans h)

theorem lft_of_drive {q : Csq} (h : q.drive = .lift ∨ q.drive = .skipLift ∨ q.drive = .dropLiftBack) : q.lft = true := by
  rcases h with h | h | h <;> simp [Csq.lft, h]

theorem lft_eq_false {q : Csq} (h : q.drive ∉ [.lift, .skipLift, .dropLiftBack]) : q.lft = false := by
  simpa [Csq.lft, and_assoc] using h

theorem retryLeft_eq {s : State} {f : Flight} (hf : s.csq.flight = some f) :
    retryLeft s = decide (s.csq.retry < f.retries) := by
  simp only [retryLeft, hf]

theorem liftLimit_retry {s : State} {f : Flight} (hd : s.csq.drive = .lift) (hf : s.csq.flight = some f)
    (hr : s.csq.retry < f.retries) : liftLimit s = { s with
      csq := { s.csq with drive := .retryDrop, timerMs := 0, retry := s.csq.retry + 1 } } := by
  simp [liftLimit, hd, retryLeft_eq hf, hr, setCsq]

/-- The gate record after a lift that has failed (02 Table 2.3). -/
def liftFailed (s : State) : State :=
  match s.pins.sensed with
  | .clear => setGate .empty none (jamReport s)
  | .seated => setGate .seated s.tru.position (jamReport s)
  | .partway => setGate .partway s.tru.position (jamReport s)

theorem liftLimit_fails {s : State} {f : Flight} (hd : s.csq.drive = .lift) (hf : s.csq.flight = some f)
    (hr : f.retries ≤ s.csq.retry) : liftLimit s = enterJammed .lift (liftFailed s) := by
  simp only [liftLimit, hd, retryLeft_eq hf, decide_eq_false (Nat.not_lt.mpr hr), Bool.false_eq_true, if_false]
  rfl

theorem sameChange_gateOf (g : GateState) (o : Option Nat) (s : State) : SameChange s (setGate g o (jamReport s)) := by
  constructor <;> simp [setGate, setCsq]

theorem sameChange_liftFailed (s : State) : SameChange s (liftFailed s) := by
  unfold liftFailed
  split <;> exact sameChange_gateOf _ _ s

theorem liftFailed_gate (s : State) : (liftFailed s).tru = (jamReport s).tru
    ∧ (liftFailed s).csq.gate = (match s.pins.sensed with
        | .clear => .empty
        | .seated => .seated
        | .partway => .partway)
    ∧ (liftFailed s).csq.origin = (if s.pins.sensed = .clear then none else s.tru.position) := by
  unfold liftFailed
  split <;> simp_all [setGate, setCsq]

theorem liftLimit_backFails {s : State} {f : Flight} (hd : s.csq.drive = .dropLiftBack) (hf : s.csq.flight = some f) :
    liftLimit s = enterJammed .drop (setGate .partway s.tru.position (jamReport s)) := by
  simp [liftLimit, hd, dropFails, hf]

theorem SameChange.refl (s : State) : SameChange s s := by
  constructor <;> rfl

theorem liftSuccess_skipHalted {s : State} {f : Flight} (hp : Powered s) (hd : s.csq.drive = .skipLift)
    (hf : s.csq.flight = some f) (hh : f.halt = true) :
    ∃ t, exec .liftSuccess s = .next t ∧ t.csq.gate = .empty ∧ t.csq.origin = none ∧ t.tru = s.tru
      ∧ ((s.csq.shutClosed = true ∧ s.pins.shcl = true) ∨ StartsNothing f.owner s →
          t.csq.drive = .none ∧ t.csq.shutClosed = false ∧ t.lmc.claim = .none
            ∧ ((t.csq.state = .revealing ∧ t.csq.flight = some f ∧ t.sar = s.sar)
              ∨ (t.csq.state = .idle ∧ t.csq.flight = none ∧ Ended f .halted (finalNow s) s t)))
      ∧ (∀ w q, s.csq.shutClosed = false → s.lmc.claim = .none → s.sar.waiting = some w → LetIn f.owner s w →
          startCheck w (setGate .empty none s) = .ok q → StartedPending w q s t) := by
  have howner : s.csq.ownerNow = f.owner := ownerNow_flight hf
  have hsame : SameChange s (liftedBack (setGatePins false true true s)) := sameChange_gate false true true .empty none s
  obtain ⟨hgate, horigin, htru⟩ := finish_revealing_frame (liftedBack (setGatePins false true true s))
  refine ⟨_, liftSuccess_eq hp (lft_of_drive (.inr (.inl hd)))
    (liftDone_skipHalted (s := setGatePins false true true s) hd hf hh), hgate, horigin, htru, fun hn => ?_,
    fun w q ho hc hw hin hq => hsame.starts ho hc hw (howner ▸ hin) hq⟩
  obtain ⟨hdrive, hshut, hclaim, -⟩ := hsame.reveals hf hn
  refine ⟨hdrive, hshut, hclaim, ?_⟩
  have hcase : enterRevealing (liftedBack (setGatePins false true true s))
        = revealing (liftedBack (setGatePins false true true s))
      ∨ enterRevealing (liftedBack (setGatePins false true true s))
        = revealOver (revealing (liftedBack (setGatePins false true true s))) := by
    rcases hn with ⟨hc, hs⟩ | hn
    · exact .inl (enterRevealing_waits hc hs)
    · exact enterRevealing_nothing (hsame.nothing (howner ▸ hn))
  rcases hcase with heq | heq
  · have hr := revealing_reveals (liftedBack (setGatePins false true true s))
    simp only [finish_frame, heq]
    exact .inl ⟨hr.state, hr.flight.trans hf, hr.sar⟩
  · have hends := hsame.ends hf heq
    rw [if_pos hh] at hends
    exact .inr hends

/-- Settles O23: a lift that succeeds goes on by its drive (`liftDone_lift`, `liftDone_liftBack`, `liftDone_skip`), and one
that does not is retried or jams with the gate as sensed (`liftLimit_retry`, `liftLimit_fails`). -/
theorem liftsSucceedRetryOrJam : Obligations.LiftsSucceedRetryOrJam := by
  refine ⟨fun s f hp hd hf => ?_, fun s hp hd => ?_, fun s f p q hp hd hf hh hk hpos hr hlt hb hl => ?_,
    fun s f p q hp hd hf hh hk hpos hr hlt hb hl => ?_, fun s f hp hd hf hh => liftSuccess_skipHalted hp hd hf hh,
    fun s f hp hd hf hh ht => ?_, fun s hp hd => ?_, fun s f hp hd hf hr => run_of_eq hp (liftLimit_retry hd hf hr),
    fun s hp hd => run_of_eq hp (if_pos hd), fun s f hp hd hf hr => ?_, fun s f hp hd hf => ?_,
    fun s f hp hd hf => ?_⟩
  · exact liftSuccess_eq hp (lft_of_drive (.inl hd)) (liftDone_lift (s := setGatePins false true true s) hd hf)
  · exact liftSuccess_eq hp (lft_of_drive (.inr (.inr hd))) (liftDone_liftBack (s := setGatePins false true true s) hd)
  · refine liftSuccess_eq hp (lft_of_drive (.inr (.inl hd)))
      (liftDone_skip (s := setGatePins false true true s) hd hf hh ?_)
    exact skipTarget_onward hpos (hk ▸ hr) (by rw [if_pos hk]; exact decide_eq_true hlt) hb hl
  · refine liftSuccess_eq hp (lft_of_drive (.inr (.inl hd)))
      (liftDone_skip (s := setGatePins false true true s) hd hf hh ?_)
    exact skipTarget_onward hpos (hk ▸ hr) (by rw [hk]; exact decide_eq_true hlt) hb hl
  · obtain ⟨hjam, hend, htru, hgate, horigin⟩ := (sameChange_gate false true true .empty none s).jams hf .drop
    exact ⟨_, liftSuccess_eq hp (lft_of_drive (.inr (.inl hd)))
      (liftDone_skipJams (s := setGatePins false true true s) hd hf hh ht), hjam, hgate, horigin, hend, htru⟩
  · exact run_of_eq hp (if_neg (by simp [Csq.liftRuns, lft_eq_false hd]))
  · obtain ⟨hjam, hend, htru, hgate, horigin⟩ := (sameChange_liftFailed s).jams hf .lift
    obtain ⟨htru', hgate', horigin'⟩ := liftFailed_gate s
    exact ⟨_, run_of_eq hp (liftLimit_fails hd hf hr), hjam, hend, htru.trans htru', hgate.trans hgate',
      horigin.trans horigin'⟩
  · obtain ⟨hjam, hend, htru, hgate, horigin⟩ := (sameChange_gateOf .partway s.tru.position s).jams hf .drop
    exact ⟨_, run_of_eq hp (liftLimit_backFails hd hf), hjam, hend, htru, hgate, horigin⟩
  · obtain ⟨hjam, hend, htru, hgate, horigin⟩ := (SameChange.refl s).jams hf .drop
    exact ⟨_, run_of_eq hp (by simp only [liftLimit, hd]), hjam, hend, htru, hgate, horigin⟩

end Sys2Proof.Machine
end

section
/-! The results of drop and drive, and CLEAR JAM (02 R28 to R36). -/

namespace Sys2Proof.Machine
open Sys2Proof

/-! ## The drop lands -/

/-- TRU's report of a content at the gate record that the drop leaves. -/
theorem SameChange.reportContent {s u : State} (h : SameChange s u) (c : Content) :
    SameChange s (reportContent c u) := by
  obtain ⟨hflight, howner, hfade, hshut, hshcl, hpos, hsar, hlmc, hpnp, hcrn⟩ := h
  constructor <;> simpa

/-- A drop has ended with its gate record: the reveal is entered, and may be over at once. -/
theorem SameChange.lands {s u : State} {f : Flight} (h : SameChange s u) (hf : s.csq.flight = some f) :
    ((s.csq.shutClosed = true ∧ s.pins.shcl = true → (finish (enterRevealing u)).csq.state = .revealing
        ∧ (finish (enterRevealing u)).csq.flight = some f)
      ∧ (s.csq.shutClosed = false ∧ s.lmc.claim = .none → StartsNothing f.owner s →
          (finish (enterRevealing u)).csq.state = .idle ∧ (finish (enterRevealing u)).csq.flight = none
          ∧ Ended f (if f.halt then .halted else .done) (Machine.finalNow s) s (finish (enterRevealing u)))) := by
  have howner : s.csq.ownerNow = f.owner := ownerNow_flight hf
  refine ⟨fun hs => ?_, fun ⟨ho, hc⟩ hn => h.ends hf (h.over ho hc (howner ▸ hn))⟩
  obtain ⟨hstate, hflight, -⟩ := h.waits hs
  exact ⟨hstate, hflight.trans hf⟩

/-- The state in which a drop that has ended is revealed. -/
def dropped (g : GateState) (o : Option Nat) (c : Content) (s : State) : State :=
  reportContent c (setGate g o (setCsq (fun q => { q with drive := .none }) s))

theorem sameChange_dropped (g : GateState) (o : Option Nat) (c : Content) (s : State) :
    SameChange s (dropped g o c s) :=
  SameChange.reportContent (by constructor <;> rfl) c

theorem dropped_frame (g : GateState) (o : Option Nat) (c : Content) (s : State) :
    (dropped g o c s).csq.gate = g ∧ (dropped g o c s).csq.origin = o
      ∧ (dropped g o c s).tru = (reportContent c s).tru := by
  refine ⟨?_, ?_, reportContent_congr (s := s) (u := setGate g o (setCsq (fun q => { q with drive := .none }) s)) rfl c⟩ <;>
    simp [dropped, setGate, setCsq]

/-- The start-time checks at the drop's end, written at the gate record alone. -/
theorem dropped_startCheck (g : GateState) (o : Option Nat) (c : Content) (w : Waiting) (s : State) :
    startCheck w (dropped g o c s) = startCheck w (reportContent c (setGate g o s)) := by
  refine startCheck_congr ?_ ?_ (orphaned_congr ?_ ?_) w
  · simp [dropped, setGate, setCsq]
  · exact reportContent_congr (s := setGate g o s) (u := setGate g o (setCsq (fun q => { q with drive := .none }) s)) rfl c
  · simp [dropped, setGate, setCsq]
  · simp [dropped, setGate, setCsq]

theorem dropLimit_clear {s : State} (h : s.pins.sensed = .clear) :
    dropLimit s = enterRevealing (dropped .empty none .empty s) := by
  simp only [dropLimit, h]
  rfl

theorem dropLimit_retry {s : State} {f : Flight} (hs : s.pins.sensed = .partway) (hf : s.csq.flight = some f)
    (hr : s.csq.retry < f.retries) : dropLimit s = { s with
      csq := { s.csq with drive := .dropLiftBack, timerMs := 0, retry := s.csq.retry + 1 } } := by
  simp [dropLimit, hs, retryLeft_eq hf, hr, setCsq]

theorem dropLimit_fails {s : State} {f : Flight} (hs : s.pins.sensed = .partway) (hf : s.csq.flight = some f)
    (hr : f.retries ≤ s.csq.retry) : dropLimit s = dropFails false s := by
  simp [dropLimit, hs, retryLeft_eq hf, Nat.not_lt.mpr hr]

theorem dropFails_skips {s : State} {f : Flight} (hf : s.csq.flight = some f) (hs : f.skip = true)
    (hh : f.halt = false) (hk : f.kind = .advance ∨ f.kind = .reverse) :
    dropFails false s = { s with
      tru := (jamReport s).tru
      csq := { s.csq with gate := .partway, origin := s.tru.position, state := .lifting, drive := .skipLift,
                          timerMs := 0 } } := by
  obtain ⟨t, ht⟩ : ∃ t, jamReport s = { s with tru := t } := by
    unfold jamReport
    split
    · exact ⟨_, rfl⟩
    · split <;> exact ⟨_, rfl⟩
  simp only [dropFails, hf, ht]
  rw [if_pos ⟨hk, hs, hh, trivial⟩]
  simp only [setCsq, setGate, hf]

theorem dropFails_jams {s : State} {f : Flight} (hf : s.csq.flight = some f)
    (h : f.skip = false ∨ f.halt = true ∨ f.kind = .seek ∨ f.kind = .home) :
    dropFails false s = enterJammed .drop (setGate .partway s.tru.position (jamReport s)) := by
  simp only [dropFails, hf]
  refine if_neg ?_
  rintro ⟨hk, hs, hh, -⟩
  rcases h with h | h | h | h <;> simp_all

/-! ## Slot records -/

/-- What a change of the slot at the gate makes of the other slots. -/
theorem updAt_getElem? {α : Type} (f : α → α) (p q : Nat) {xs : List α} {r : α} (h : xs[q]? = some r) :
    (updAt f p xs)[q]? = some (if q = p then f r else r) := by
  rw [updAt, mapRange_getElem?, h]
  simp [le_antisymm_iff, and_comm]

theorem reportContent_slot {s : State} {p q : Nat} {r : SlotRec} (hp : s.tru.position = some p)
    (hr : s.tru.map[q]? = some r) (c : Content) :
    (reportContent c s).tru.map[q]? = some (if q = p ∧ p ≠ 0 then { r with content := c } else r) := by
  simp only [reportContent, hp]
  split
  · next h0 => simpa [h0] using hr
  · next h0 => simpa [h0] using updAt_getElem? _ p q hr

theorem jamReport_slot {s : State} {p q : Nat} {r : SlotRec} (hp : s.tru.position = some p)
    (hr : s.tru.map[q]? = some r) :
    (jamReport s).tru.map[q]? = some (if q = p ∧ p ≠ 0 then r.jammed s.tru.cfg.retireLimit else r) := by
  simp only [jamReport, hp]
  split
  · next h0 => simpa [h0] using hr
  · next h0 => simpa [h0] using updAt_getElem? _ p q hr

theorem unreported {s : State} (h : s.tru.position = none) (c : Content) :
    reportContent c s = s ∧ jamReport s = s := by
  simp only [reportContent, jamReport, h, and_self]

theorem stepTimeout_stalls {s : State} {f : Flight} (hp : Powered s) (hs : s.csq.state = .indexing)
    (hf : s.csq.flight = some f) : ∃ t, exec .stepTimeout s = .next t ∧ t.csq.state = .stalled
      ∧ t.csq.stop = .stepLimit ∧ t.csq.drive = .none ∧ t.csq.flight = none ∧ t.tru = { s.tru with position := none }
      ∧ t.pnp.faults = s.pnp.faults.set .trayStall ∧ t.pnp.pend.fault = true ∧ t.pnp.pend.jam = true
      ∧ Ended f .stalled .unknown s t ∧ t.csq.gate = s.csq.gate ∧ t.csq.shutClosed = s.csq.shutClosed
      ∧ t.lmc.claim = s.lmc.claim ∧ (s.pnp.power ≠ .resetHeld → t.shc.causes.transport = true) := by
  obtain ⟨hjam, hfault, hfaults⟩ := enterStalled_marks .stepLimit s
  have hend := enterStalled_ended hf .stepLimit
  have hclaim : (enterStalled .stepLimit s).lmc.claim = s.lmc.claim := by simp
  refine ⟨_, run_of_eq hp (if_pos hs), ?_⟩
  rw [Ended, (finish_pend _).1, finish_faults]
  simp only [finish_frame, enterStalled_csq, enterStalled_tru, hjam, hfault, hfaults, hclaim, true_and]
  exact ⟨rfl, rfl, rfl, rfl, hend, rfl, rfl, enterStalled_cause .stepLimit⟩

/-- Settles O24: the step limit stalls, a drop that lands is revealed (`SameChange.lands`), and a drop limit by what the
sensors show is a reveal of an empty gate, a retry, a SKIP continuation or a jam. -/
theorem stallsAndDropResults : Obligations.StallsAndDropResults := by
  refine ⟨fun s f hp hs hf => stepTimeout_stalls hp hs hf, fun s hp hs => run_of_eq hp (if_neg hs),
    fun s f hp hd hf => ?_, fun s f hp hd hf hs => ?_,
    fun s f hp hd hf hs hr => run_of_eq hp ((if_pos hd).trans (dropLimit_retry hs hf hr)),
    fun s f hp hd hf hs hr hskip hh hk =>
      run_of_eq hp ((if_pos hd).trans ((dropLimit_fails hs hf hr).trans (dropFails_skips hf hskip hh hk))),
    fun s f hp hd hf hs hr hn => ?_, fun s p q c r hpos hr => ?_, fun s c hpos => unreported hpos c⟩
  · have howner : s.csq.ownerNow = f.owner := ownerNow_flight hf
    have hsame := sameChange_dropped .seated s.tru.position .slide (setGatePins true false s.pins.liftUp s)
    have hsame' : SameChange s (dropped .seated s.tru.position .slide (setGatePins true false s.pins.liftUp s)) := by
      obtain ⟨hflight, hkept, hfade, hshut, hshcl, hpos, hsar, hlmc, hpnp, hcrn⟩ := hsame
      exact ⟨hflight, hkept, hfade, hshut, hshcl, hpos, hsar, hlmc, hpnp, hcrn⟩
    obtain ⟨hgate, horigin, htru⟩ := finish_revealing_frame
      (dropped .seated s.tru.position .slide (setGatePins true false s.pins.liftUp s))
    obtain ⟨hgate', horigin', htru'⟩ :=
      dropped_frame .seated s.tru.position .slide (setGatePins true false s.pins.liftUp s)
    obtain ⟨hwaits, hends⟩ := hsame'.lands hf
    refine ⟨_, run_of_eq hp (if_pos hd), hgate.trans hgate', horigin.trans horigin',
      htru.trans (htru'.trans
        (reportContent_congr (s := s) (u := setGatePins true false s.pins.liftUp s) rfl .slide)),
      hsame'.reveals hf, hwaits, hends,
      fun w q ho hc hw hin hq => hsame'.starts ho hc hw (howner ▸ hin) ?_⟩
    rw [dropped_startCheck, ← hq]
    exact startCheck_congr (s := reportContent .slide (setGate .seated s.tru.position s))
      (t := reportContent .slide (setGate .seated s.tru.position (setGatePins true false s.pins.liftUp s)))
      (by simp [setGate, setCsq, setGatePins]) (reportContent_congr (s := setGate .seated s.tru.position s)
        (u := setGate .seated s.tru.position (setGatePins true false s.pins.liftUp s)) rfl .slide)
      (orphaned_congr (by simp [setGate, setCsq]) (by simp [setGate, setCsq])) w
  · have howner : s.csq.ownerNow = f.owner := ownerNow_flight hf
    have hsame := sameChange_dropped .empty none .empty s
    obtain ⟨hgate, horigin, htru⟩ := finish_revealing_frame (dropped .empty none .empty s)
    obtain ⟨hgate', horigin', htru'⟩ := dropped_frame .empty none .empty s
    obtain ⟨hwaits, hends⟩ := hsame.lands hf
    refine ⟨_, run_of_eq hp ((if_pos hd).trans (dropLimit_clear hs)), hgate.trans hgate', horigin.trans horigin',
      htru.trans htru', fun hn => ?_, hwaits, hends,
      fun w q ho hc hw hin hq => hsame.starts ho hc hw (howner ▸ hin) ((dropped_startCheck ..).trans hq)⟩
    obtain ⟨hdrive, hshut, hclaim, -⟩ := hsame.reveals hf hn
    exact ⟨hdrive, hshut, hclaim⟩
  · obtain ⟨hjam, hend, htru, hgate, horigin⟩ := (sameChange_gateOf .partway s.tru.position s).jams hf .drop
    exact ⟨_, run_of_eq hp ((if_pos hd).trans ((dropLimit_fails hs hf hr).trans (dropFails_jams hf hn))), hjam, hend,
      htru, hgate, horigin⟩
  · exact ⟨reportContent_slot hpos hr c, jamReport_slot hpos hr⟩

end Sys2Proof.Machine
end

section
/-! CLEAR JAM (02 R36). -/

namespace Sys2Proof.Machine
open Sys2Proof

/-! ## A cause leaves the hold set -/

theorem Causes.get_set_of_false (c d : Cause) {x : Causes} (h : x.get c = false) : (x.set d false).get c = false := by
  cases c <;> cases d <;> first | exact h | rfl

/-- The end of HELD brings no cause back. -/
theorem leaveHeld_out {c : Cause} {s : State} (h : s.shc.causes.get c = false) :
    (leaveHeld s).shc.causes.get c = false := by
  have hend (t : State) (ht : t.shc.causes.get c = false) : (endCheck t).shc.causes.get c = false := by
    unfold endCheck
    split
    · unfold endShow stopDwell stopClaimPlain
      dsimp only
      rw [(setPhase_frame .stopped _).2.2.2.2.2.2.2.2.2.2.2.2.2.1]
      split
      · exact Causes.get_set_of_false c .deck ht
      · exact ht
    · exact ht
  unfold leaveHeld
  refine hend _ ?_
  split
  · split <;> simpa [setEnded] using h
  · simpa [setEnded] using h

theorem removeCause_out {s : State} (c : Cause) (h : s.pnp.power ≠ .resetHeld) :
    (removeCause c s).shc.causes.get c = false := by
  unfold removeCause
  split
  · next hc =>
    rcases hc with hc | hc
    · exact absurd hc h
    · exact hc
  · dsimp only
    split
    · exact leaveHeld_out (Causes.get_set c false _)
    · exact Causes.get_set c false _

theorem removeCause_transport {s : State} (h : s.pnp.power ≠ .resetHeld) :
    (removeCause .transport s).shc.causes.transport = false := removeCause_out .transport h

/-! ## A pending change that starts leaves no stop cause -/

theorem blankingEnd_stop (s : State) : (blankingEnd s).csq.stop = s.csq.stop := by
  unfold blankingEnd
  split
  · dsimp only
    split
    · unfold toTarget
      (repeat' split) <;> rfl
    · rfl
  · rfl

theorem startBlanking_stop (f : Flight) (s : State) : (startBlanking f s).csq.stop = s.csq.stop := by
  unfold startBlanking
  dsimp only
  (repeat' split) <;> first | exact blankingEnd_stop _ | rfl

theorem refuseStart_csq (w : Waiting) (st : Status) (s : State) : (refuseStart w st s).csq = s.csq := by
  simp

theorem startPending_stop {s : State} (h : s.csq.stop = .none) : (startPending s).csq.stop = .none := by
  unfold startPending
  split
  · exact h
  · split
    · exact h
    · split
      · exact (congrArg (·.stop) (refuseStart_csq _ _ s)).trans h
      · dsimp only [startChange]
        rw [startBlanking_stop]
        rfl

theorem enterRevealing_stop {s : State} (h : s.csq.stop = .none) : (enterRevealing s).csq.stop = .none := by
  have hr := (revealing_reveals s).stop.trans h
  rw [enterRevealing_eq, revealCheck]
  split
  · rw [endReveal_eq]
    refine startPending_stop ?_
    rw [revealOver_csq]
    exact hr
  · exact hr

/-! ## The gate is CLEAR -/

theorem releaseBlanking_released (fade : Nat) (s : State) :
    (releaseBlanking fade s).lmc.claim = .none ∧ (releaseBlanking fade s).csq.shutClosed = false
      ∧ (releaseBlanking fade s).csq.stop = s.csq.stop := by
  have hclaim : (if s.lmc.claim = .none then s else setLmc (Lmc.reveal · fade) s).lmc.claim = .none := by
    split
    · next h => exact h
    · exact reveal_claim s.lmc fade
  unfold releaseBlanking
  dsimp only
  refine ⟨?_, ?_, ?_⟩
  · simpa [setCsq, setLmc] using hclaim
  · simp [setCsq]
  · simp only [endOfReveal_frame]
    split <;> rfl

/-- CLEAR JAM over an empty gate, but for the pending change that it may start. -/
def jamCleared (s : State) : State :=
  removeCause .transport (startTenure s.csq.keptOwner (releaseBlanking s.csq.keptFade
    (setCsq (fun q => { q with state := .idle, stop := .none }) (reportContent .unknown (setGate .empty none s)))))

theorem clearJamAt_clear {s : State} (hs : s.csq.state = .jammed) (hp : s.pins.sensed = .clear) :
    clearJamAt s = (startPending (jamCleared s), .ok) := by
  simp only [clearJamAt, hs, hp]
  rfl

theorem jamCleared_csq (s : State) : (jamCleared s).csq.state = .idle ∧ (jamCleared s).csq.gate = .empty
    ∧ (jamCleared s).csq.origin = none ∧ (jamCleared s).csq.stop = .none ∧ (jamCleared s).csq.shutClosed = false := by
  obtain ⟨-, hshut, hstop⟩ := releaseBlanking_released s.csq.keptFade
    (setCsq (fun q => { q with state := .idle, stop := .none }) (reportContent .unknown (setGate .empty none s)))
  have hcsq : (jamCleared s).csq = (releaseBlanking s.csq.keptFade
    (setCsq (fun q => { q with state := .idle, stop := .none }) (reportContent .unknown (setGate .empty none s)))).csq := by
    simp [jamCleared]
  rw [hcsq]
  refine ⟨?_, ?_, ?_, hstop, hshut⟩ <;> simp [setCsq, setGate]

theorem jamCleared_others (s : State) : (jamCleared s).tru = (reportContent .unknown s).tru
    ∧ (jamCleared s).lmc.claim = .none ∧ (jamCleared s).sar.last = s.sar.last
    ∧ (jamCleared s).sar.tenureLeft = (s.sar.sources.get s.csq.keptOwner).tenure := by
  obtain ⟨hclaim, -⟩ := releaseBlanking_released s.csq.keptFade
    (setCsq (fun q => { q with state := .idle, stop := .none }) (reportContent .unknown (setGate .empty none s)))
  refine ⟨?_, ?_, ?_, ?_⟩
  · rw [← reportContent_congr (s := s) (u := setGate .empty none s) rfl]
    simp [jamCleared, setCsq]
  · simpa [jamCleared] using hclaim
  · simp [jamCleared, setCsq, setGate]
  · simp [jamCleared, setCsq, setGate]

theorem jamCleared_handsOver (s : State) : HandsOver s.csq.keptOwner s (jamCleared s) := by
  refine ⟨(jamCleared_csq s).1, ?_, ?_, ?_, ?_, fun ha => ?_, fun src => ?_⟩
  · simp [jamCleared, setCsq, setGate]
  · simp [jamCleared, setCsq, setGate]
  · simp [jamCleared, setCsq, setGate]
  · simp [jamCleared, setCsq, setGate]
  · rw [jamCleared, removeCause_awaited]
    simpa [setCsq, setGate] using ha
  · simp [jamCleared, setCsq, setGate]

theorem clearJam_ok {s t : State} (h : Awake s) (hc : classOk .panel .transport s = true)
    (ht : clearJamAt s = (t, .ok)) : exec .clearJam s = .next (finish (answered .ok [] t)) :=
  (run_answers h (panelRequest_ok hc ht)).trans rfl

theorem clearJam_refused {s : State} {st : Status} (h : Awake s) (hc : classOk .panel .transport s = true)
    (ht : clearJamAt s = (s, st)) (hst : st ≠ .ok) : exec .clearJam s = .next (finish (answered st [] s)) :=
  run_answers h (panelRequest_refused hc ht hst)

theorem power_ne_reset {s : State} (h : Awake s) : s.pnp.power ≠ .resetHeld := by
  rcases h.2 with hr | hr <;> simp [hr]

theorem clearJam_clear {s : State} (h : Awake s) (hc : classOk .panel .transport s = true)
    (hs : s.csq.state = .jammed) (hp : s.pins.sensed = .clear) (hn : StartsNothing s.csq.keptOwner s) :
    ∃ t, exec .clearJam s = .next t ∧ t.pnp.resp = some ⟨.ok, []⟩ ∧ t.csq.state = .idle
      ∧ t.csq.gate = .empty ∧ t.csq.origin = none ∧ t.csq.stop = .none ∧ t.csq.shutClosed = false
      ∧ t.lmc.claim = .none ∧ t.tru = (reportContent .unknown s).tru ∧ t.shc.causes.transport = false
      ∧ t.sar.last = s.sar.last ∧ t.sar.tenureLeft = (s.sar.sources.get s.csq.keptOwner).tenure := by
  have ht : clearJamAt s = (jamCleared s, .ok) := by
    rw [clearJamAt_clear hs hp, (jamCleared_handsOver s).unready hn]
  obtain ⟨hstate, hgate, horigin, hstop, hshut⟩ := jamCleared_csq s
  obtain ⟨htru, hclaim, hlast, hten⟩ := jamCleared_others s
  refine ⟨_, clearJam_ok h hc ht, ?_⟩
  simp only [finish_frame]
  exact ⟨rfl, hstate, hgate, horigin, hstop, hshut, hclaim, htru,
    removeCause_transport (by simpa [setCsq, setGate] using power_ne_reset h), hlast, hten⟩

theorem clearJam_starts {s : State} {w : Waiting} {q : Nat} (h : Awake s) (hc : classOk .panel .transport s = true)
    (hs : s.csq.state = .jammed) (hp : s.pins.sensed = .clear) (hw : s.sar.waiting = some w)
    (hin : LetIn s.csq.keptOwner s w)
    (hq : startCheck w (reportContent .unknown (setGate .empty none s)) = .ok q) :
    ∃ t, exec .clearJam s = .next t ∧ t.pnp.resp = some ⟨.ok, []⟩ ∧ StartedPending w q s t
      ∧ t.csq.gate = .empty ∧ t.csq.origin = none ∧ t.tru = (reportContent .unknown s).tru
      ∧ t.shc.causes.transport = false ∧ t.sar.last = s.sar.last := by
  have hover := jamCleared_handsOver s
  obtain ⟨hstate, hgate, horigin, -⟩ := jamCleared_csq s
  obtain ⟨htru, -, hlast, -⟩ := jamCleared_others s
  have hq' : startCheck w (jamCleared s) = .ok q := by
    rw [← hq]
    refine startCheck_congr ?_ ?_ (orphaned_congr ?_ ?_) w
    · simp [jamCleared, setCsq, setGate]
    · exact htru.trans (reportContent_congr (s := setGate .empty none s) (u := s) rfl .unknown)
    · rw [hgate]
      simp [setGate, setCsq]
    · rw [horigin]
      simp [setGate, setCsq]
  have hstart := hover.started hw hin hq'
  have hlast' := startPending_ok_last (hover.waiting.trans hw) ((hover.ready_iff hw).mpr hin) hq'
  have hshow := (startPending_show (jamCleared s) (by rw [hstate]; nofun)).2
  refine ⟨_, clearJam_ok h hc (clearJamAt_clear hs hp), ?_⟩
  rw [StartedPending, finish_awaited]
  simp only [finish_frame]
  refine ⟨rfl, hstart, ?_, ?_, ?_, ?_, hlast'.trans hlast⟩
  · exact (startPending_frame _).2.2.2.2.2.2.2.2.1.trans hgate
  · simp [answered, horigin]
  · simp [answered, htru]
  · change (startPending (jamCleared s)).shc.causes.transport = false
    rw [hshow]
    exact removeCause_transport (by simpa [setCsq, setGate] using power_ne_reset h)

/-! ## The gate is SEATED -/

/-- The gate record and the stop cause as CLEAR JAM over a slide writes them. -/
def jamSeated (s : State) : State :=
  setCsq (fun q => { q with stop := .none }) (reportContent .slide (setGate .seated s.tru.position s))

theorem clearJamAt_seated {s : State} (hs : s.csq.state = .jammed) (hp : s.pins.sensed = .seated) :
    clearJamAt s = (removeCause .transport (enterRevealing (jamSeated s)), .ok) := by
  simp only [clearJamAt, hs, hp]
  rfl

theorem sameChange_jamSeated (s : State) : SameChange s (jamSeated s) := by
  constructor <;> simp [jamSeated, setCsq, setGate]

theorem jamSeated_frame (s : State) : (jamSeated s).csq.gate = .seated ∧ (jamSeated s).csq.origin = s.tru.position
    ∧ (jamSeated s).tru = (reportContent .slide s).tru ∧ (jamSeated s).csq.stop = .none := by
  refine ⟨?_, ?_, reportContent_congr (s := s) (u := setGate .seated s.tru.position s) rfl .slide, rfl⟩ <;>
    simp [jamSeated, setCsq, setGate]

/-- The reveal after CLEAR JAM writes no record. -/
theorem SameChange.keptReveal {s u : State} (h : SameChange s u) (hf : s.csq.flight = none)
    (hn : (s.csq.shutClosed = true ∧ s.pins.shcl = true) ∨ StartsNothing s.csq.keptOwner s) :
    (enterRevealing u).csq.shutClosed = false ∧ (enterRevealing u).lmc.claim = .none
      ∧ (enterRevealing u).sar.last = s.sar.last := by
  have howner : s.csq.ownerNow = s.csq.keptOwner := ownerNow_kept hf
  have hn' : (u.csq.shutClosed = true ∧ u.pins.shcl = true) ∨ StartsNothing u.csq.ownerNow u := by
    rw [h.shutClosed, h.shcl]
    exact hn.imp_right fun hk => h.nothing (howner ▸ hk)
  obtain ⟨-, hshut, hclaim, -⟩ := enterRevealing_released hn'
  have hr := revealing_reveals u
  refine ⟨hshut, hclaim, ?_⟩
  have hcase : enterRevealing u = revealing u ∨ enterRevealing u = revealOver (revealing u) := by
    rcases hn' with ⟨hc, hp⟩ | hk
    · exact .inl (enterRevealing_waits hc hp)
    · exact enterRevealing_nothing hk
  rcases hcase with heq | heq <;> rw [heq]
  · rw [hr.sar, h.sar]
  · rw [revealOver_kept (hr.flight.trans (h.flight.trans hf))]
    simp [hr.sar, h.sar]

theorem SameChange.keptOver {s u : State} (h : SameChange s u) (hf : s.csq.flight = none)
    (ho : s.csq.shutClosed = false) (hc : s.lmc.claim = .none) (hn : StartsNothing s.csq.keptOwner s) :
    (enterRevealing u).csq.state = .idle
      ∧ (enterRevealing u).sar.tenureLeft = (s.sar.sources.get s.csq.keptOwner).tenure := by
  have howner : s.csq.ownerNow = s.csq.keptOwner := ownerNow_kept hf
  have hr := revealing_reveals u
  have hten := revealOver_tenure (revealing u)
  rw [hr.owner, h.ownerNow, hr.sar, h.sar, howner] at hten
  rw [h.over ho hc (howner ▸ hn)]
  exact ⟨by simp [revealedCsq], hten⟩

theorem clearJam_seated {s : State} (h : Awake s) (hc : classOk .panel .transport s = true)
    (hs : s.csq.state = .jammed) (hf : s.csq.flight = none) (hp : s.pins.sensed = .seated) :
    ∃ t, exec .clearJam s = .next t ∧ t.pnp.resp = some ⟨.ok, []⟩ ∧ t.csq.gate = .seated
      ∧ t.csq.origin = s.tru.position ∧ t.csq.stop = .none
      ∧ t.tru = (reportContent .slide s).tru ∧ t.shc.causes.transport = false
      ∧ ((s.csq.shutClosed = true ∧ s.pins.shcl = true) ∨ StartsNothing s.csq.keptOwner s →
          t.csq.shutClosed = false ∧ t.lmc.claim = .none ∧ t.sar.last = s.sar.last)
      ∧ (s.csq.shutClosed = true ∧ s.pins.shcl = true → t.csq.state = .revealing)
      ∧ (s.csq.shutClosed = false → s.lmc.claim = .none → StartsNothing s.csq.keptOwner s →
          t.csq.state = .idle ∧ t.sar.tenureLeft = (s.sar.sources.get s.csq.keptOwner).tenure)
      ∧ (∀ w q, s.csq.shutClosed = false → s.lmc.claim = .none → s.sar.waiting = some w →
          LetIn s.csq.keptOwner s w →
          startCheck w (reportContent .slide (setGate .seated s.tru.position s)) = .ok q →
          StartedPending w q s t) := by
  have howner : s.csq.ownerNow = s.csq.keptOwner := ownerNow_kept hf
  have hsame := sameChange_jamSeated s
  obtain ⟨hgate, horigin, htru, hstop⟩ := jamSeated_frame s
  have hcsq : (removeCause .transport (enterRevealing (jamSeated s))).csq = (enterRevealing (jamSeated s)).csq := by simp
  have hsar : (removeCause .transport (enterRevealing (jamSeated s))).sar = (enterRevealing (jamSeated s)).sar := by simp
  have hlmc : (removeCause .transport (enterRevealing (jamSeated s))).lmc = (enterRevealing (jamSeated s)).lmc := by simp
  refine ⟨_, clearJam_ok h hc (clearJamAt_seated hs hp), ?_⟩
  simp only [StartedPending, finish_awaited, finish_frame, answered, hcsq, hsar, hlmc, removeCause_awaited]
  refine ⟨trivial, by simp [hgate], by simp [horigin], enterRevealing_stop hstop, by simp [htru],
    removeCause_transport (by simpa [hsame.pnp] using power_ne_reset h), fun hn => hsame.keptReveal hf hn,
    fun hw => ?_, fun ho hcl hn => hsame.keptOver hf ho hcl hn, fun w q ho hcl hw hin hq => ?_⟩
  · obtain ⟨hstate, -⟩ := hsame.waits hw
    simpa using hstate
  · have hstart := hsame.starts (w := w) (q := q) ho hcl hw (howner ▸ hin) hq
    simpa only [StartedPending, finish_awaited, finish_frame] using hstart

/-- Settles O25: CLEAR JAM refuses by CSQ's state and a PARTWAY gate, ends the jam at once over an empty gate
(`clearJam_clear`, `clearJam_starts`), and with a reveal over a slide (`clearJam_seated`). -/
theorem clearJamByState : Obligations.ClearJamByState := by
  refine ⟨fun s h hc hs => clearJam_ok h hc (by simp only [clearJamAt, hs]), fun s h hc hs => ?_,
    fun s h hc hs => clearJam_refused h hc (by simp only [clearJamAt, hs]) nofun,
    fun s h hc hs hp => clearJam_refused h hc (by simp only [clearJamAt, hs, hp]) nofun,
    fun s h hc => run_answers h (panelRequest_disabled hc _),
    fun s h hc hs hp hn => clearJam_clear h hc hs hp hn,
    fun s w q h hc hs hp hw hin hq => clearJam_starts h hc hs hp hw hin hq,
    fun s h hc hs hf hp => clearJam_seated h hc hs hf hp⟩
  refine clearJam_refused h hc ?_ nofun
  cases hst : s.csq.state <;> simp_all [clearJamAt, SeqState.active]

end Sys2Proof.Machine
end

section
/-! The tray's presence and its pulses (01 R1 to R5; 02 R28, R39). -/

namespace Sys2Proof.Machine
open Sys2Proof

/-! ## Pulses -/

theorem driveStep_driven {s : State} {f : Flight} {forward : Bool} (h : Driven s f forward) :
    driveStep s = some (stepFrom forward) := by
  obtain ⟨hs, hf, hd⟩ := h
  cases forward <;> simp [driveStep, Csq.tdf, Csq.tdr, hs, hf, hd]

theorem driveStep_undriven {s : State} (h : s.csq.state ≠ .indexing) : driveStep s = none := by
  simp [driveStep, Csq.tdf, Csq.tdr, h]

theorem positionReport_reached {s : State} {f : Flight} {p : Nat} (hs : s.csq.state = .indexing)
    (hf : s.csq.flight = some f) (hp : s.tru.position = some p) :
    positionReport s = { s with csq := reached f p s.csq } := by
  have hiff : s.tru.position = some f.target ↔ p = f.target := by rw [hp, Option.some.injEq]
  simp only [positionReport, hs, hf, reached, hiff]
  split
  · simp [enterDropping, setCsq, hf]
  · simp [setCsq, hs, hf]

/-- A pulse that makes the position `p`. -/
theorem positionReport_driven {s : State} {f : Flight} {forward : Bool} (h : Driven s f forward) (p : Nat) :
    positionReport (setPosition (some p) s)
      = { s with tru := { s.tru with position := some p }, csq := reached f p s.csq } :=
  positionReport_reached (s := setPosition (some p) s) h.1 h.2.1 rfl

theorem indexPulse_counts {s : State} {f : Flight} {forward : Bool} {p q : Nat} (h : Driven s f forward)
    (hp : s.tru.position = some p) (hq : stepFrom forward p = q) (h0 : q ≠ 0) :
    indexPulse s = { s with tru := { s.tru with position := some q }, csq := reached f q s.csq } := by
  simp only [indexPulse, driveStep_driven h, hp, hq, h0, if_false]
  exact positionReport_driven h q

theorem indexPulse_slips {s : State} {f : Flight} {forward : Bool} {p : Nat} (h : Driven s f forward)
    (hp : s.tru.position = some p) (h0 : stepFrom forward p = 0) :
    indexPulse s = enterStalled .slip (raiseFault .traySlip (setPosition none s)) := by
  simp only [indexPulse, driveStep_driven h, hp, h0, if_true]

theorem indexPulse_unknown {s : State} {f : Flight} {forward : Bool} (h : Driven s f forward)
    (hp : s.tru.position = none) : indexPulse s = { s with csq := { s.csq with timerMs := 0 } } := by
  simp only [indexPulse, driveStep_driven h, hp]
  exact if_pos h.1

theorem stepFrom_eq_zero_iff {forward : Bool} {p : Nat} (h : p < 100) :
    stepFrom forward p = 0 ↔ p = if forward then 99 else 1 := by
  cases forward <;> simp only [stepFrom, Config.positions, Bool.false_eq_true, if_true, if_false] <;> omega

theorem homePulse_expected {s : State} {f : Flight} {forward : Bool} (h : Driven s f forward)
    (hp : s.tru.position = none ∨ s.tru.position = some (if forward then 99 else 1)) :
    homePulse s = { s with tru := { s.tru with position := some 0 }, csq := reached f 0 s.csq } := by
  rcases hp with hp | hp
  · simp only [homePulse, driveStep_driven h, hp]
    exact positionReport_driven h 0
  · have h0 : stepFrom forward (if forward then 99 else 1) = 0 := by cases forward <;> rfl
    simp only [homePulse, driveStep_driven h, hp, h0, if_true]
    exact positionReport_driven h 0

theorem homePulse_slips {s : State} {f : Flight} {forward : Bool} {p : Nat} (h : Driven s f forward)
    (hp : s.tru.position = some p) (h0 : stepFrom forward p ≠ 0) :
    homePulse s = { s with
      tru := { s.tru with position := some 0 }, csq := reached f 0 s.csq
      pnp := { s.pnp with faults := { s.pnp.faults with traySlip := true },
                          pend := { s.pnp.pend with fault := true } } } := by
  simp only [homePulse, driveStep_driven h, hp, h0, if_false]
  exact positionReport_reached (s := raiseFault .traySlip (setPosition (some 0) s)) h.1 h.2.1 rfl

theorem indexPulse_stalls {s : State} {f : Flight} {forward : Bool} (hp : Powered s) (h : Driven s f forward)
    (hpos : s.tru.position = some (if forward then 99 else 1)) :
    ∃ t, exec .indexPulse s = .next t ∧ t.csq.state = .stalled ∧ t.csq.stop = .slip ∧ t.csq.drive = .none
      ∧ t.csq.flight = none ∧ t.tru = { s.tru with position := none }
      ∧ t.pnp.faults.traySlip = true ∧ t.pnp.faults.trayStall = true ∧ t.pnp.pend.fault = true
      ∧ t.pnp.pend.jam = true ∧ Ended f .stalled .unknown s t ∧ t.lmc.claim = s.lmc.claim
      ∧ t.csq.shutClosed = s.csq.shutClosed ∧ (s.pnp.power ≠ .resetHeld → t.shc.causes.transport = true) := by
  have h0 : stepFrom forward (if forward then 99 else 1) = 0 := by cases forward <;> rfl
  obtain ⟨hjam, hfault, hfaults⟩ := enterStalled_marks .slip (raiseFault .traySlip (setPosition none s))
  have hend := enterStalled_ended (s := raiseFault .traySlip (setPosition none s)) h.2.1 .slip
  have hclaim : (enterStalled .slip (raiseFault .traySlip (setPosition none s))).lmc.claim = s.lmc.claim := by
    simp [setPosition]
  refine ⟨_, run_of_eq hp (indexPulse_slips h hpos h0), ?_⟩
  rw [Ended, (finish_pend _).1, finish_faults]
  simp only [finish_frame, enterStalled_csq, enterStalled_tru, hjam, hfault, hfaults, hclaim]
  exact ⟨rfl, rfl, rfl, rfl, rfl, rfl, rfl, trivial, trivial, hend, trivial, rfl,
    enterStalled_cause (s := raiseFault .traySlip (setPosition none s)) .slip⟩

/-- Settles O18: a pulse under drive counts on (`indexPulse_counts`), and one that passes position 0 uncounted, or finds it
where the count says otherwise, is a slip. -/
theorem pulsesMoveThePosition : Obligations.PulsesMoveThePosition := by
  refine ⟨fun s f p hp h hpos hlt => run_of_eq hp (indexPulse_counts h hpos ?_ (Nat.succ_ne_zero p)),
    fun s f p hp h hpos h2 hlt => run_of_eq hp (indexPulse_counts h hpos ?_ (by omega)),
    fun s f hp h hpos => run_of_eq hp (indexPulse_counts h hpos rfl (by decide)),
    fun s f fwd hp h hpos => indexPulse_stalls hp h hpos,
    fun s f fwd hp h hpos => run_of_eq hp (indexPulse_unknown h hpos),
    fun s hp hs => run_of_eq hp (by simp only [indexPulse, driveStep_undriven hs]),
    fun s f fwd hp h hpos => run_of_eq hp (homePulse_expected h hpos),
    fun s f fwd p hp h hpos hlt hne => run_of_eq hp (homePulse_slips h hpos (mt (stepFrom_eq_zero_iff hlt).mp hne)),
    fun s hp hs => run_of_eq hp (by simp only [homePulse, driveStep_undriven hs])⟩
  · simp only [stepFrom, Config.positions, if_true]
    omega
  · simp only [stepFrom, Config.positions, Bool.false_eq_true, if_false]
    omega

/-! ## The tray is taken out -/

/-- The state in which CSQ hears of the tray's removal. -/
def trayOut (s : State) : State :=
  loseOrigin { setTprs false s with
    tru := { (setTprs false s).tru with present := false, position := none, map := Tru.clearedMap } }

theorem removeTray_active {s : State} (hp : s.tru.present = true) (hs : s.csq.state.active = true) :
    removeTray s = if s.csq.gate = .partway ∨ s.pins.sensed = .partway then lossToJam (trayOut s)
      else lossToIdle (trayOut s) := by
  rw [removeTray, if_pos hp, trayLost]
  exact if_pos hs

theorem removeTray_still {s : State} (hp : s.tru.present = true) (hs : s.csq.state.active = false) :
    removeTray s = trayOut s := by
  rw [removeTray, if_pos hp, trayLost]
  exact if_neg (by simp [setTprs, hs])

theorem removeTray_absent {s : State} (hp : s.tru.present = false) : removeTray s = setTprs false s :=
  if_neg (by simp [hp])

/-- CSQ in JAMMED with the slide caught at the loss. -/
def lossCsq (s : State) : Csq :=
  { s.csq with flight := none, state := .jammed, gate := .partway, drive := .none, timerMs := 0, retry := 0,
               stop := .partialAtLoss, shutMs := none, keptOwner := s.csq.ownerNow, keptFade := revealFade s.csq }

theorem lossToJam_csq (s : State) : (lossToJam s).csq = lossCsq s := by
  simp [lossToJam, setCsq, setLmc, lossCsq]

theorem lossToJam_sar (s : State) : (lossToJam s).sar = (dropWaiting .flushed (changeEnd .trayLost .unknown s)).sar := by
  simp [lossToJam, setCsq, setLmc]

theorem lossToJam_ended {s : State} {f : Flight} (hf : s.csq.flight = some f) :
    Ended f .trayLost .unknown s (lossToJam s) := by
  obtain ⟨hlast, hholder, hten⟩ := changeEnd_ended hf .trayLost .unknown
  have hw : (changeEnd .trayLost .unknown s).sar.waiting = s.sar.waiting := by
    rw [changeEnd_waiting hf, if_neg (by decide)]
  rw [Ended, lossToJam_sar, dropWaiting_tenure, (dropWaiting_frame .flushed _).2.2.2.2.2.2.2.2.2.2.2.2.2.2.1]
  refine ⟨fun hne => ?_, hholder, hten⟩
  rw [dropWaiting_last_other (by rwa [hw])]
  exact hlast hne

theorem lossToJam_jammed {s : State} {f : Flight} (hf : s.csq.flight = some f) :
    Jammed f .partialAtLoss s (lossToJam s) := by
  have howner : s.csq.ownerNow = f.owner := ownerNow_flight hf
  have hfade : revealFade s.csq = f.fade := by rw [revealFade, hf]
  rw [Jammed, lossToJam_csq]
  refine ⟨rfl, rfl, rfl, rfl, rfl, howner, hfade, rfl, by simp, ?_, fun hp => ?_⟩
  · rw [lossToJam, addCause_showOnly]
    rfl
  · rw [lossToJam, addCause_causes _ (by simpa [setCsq, setLmc] using hp)]
    exact Causes.get_set .transport true _

/-- The loss of the tray with no slide caught, but for the pending change that is then taken up. -/
def lossOver (s : State) : State :=
  let s1 := match s.csq.flight with
    | some _ => changeEnd .trayLost .unknown s
    | none => startTenure s.csq.keptOwner s
  let s2 := setCsq (fun q => { q with state := .idle, drive := .none, timerMs := 0, retry := 0 }) s1
  if s.csq.state = .revealing then
    endOfReveal (setCsq (fun q => { q with shutMs := none }) (setLmc (fun l => { l with owed := false }) s2))
  else releaseBlanking (revealFade s.csq) s2

theorem lossToIdle_eq (s : State) : lossToIdle s = startPending (lossOver s) := rfl

theorem lossOver_csq {s : State} {f : Flight} (hf : s.csq.flight = some f) :
    (lossOver s).csq.state = .idle ∧ (lossOver s).csq.drive = .none ∧ (lossOver s).csq.flight = none := by
  simp only [lossOver, hf]
  split
  · simp [setCsq, setLmc]
  · refine ⟨by simp [setCsq], ?_, by simp [setCsq]⟩
    unfold releaseBlanking
    dsimp only
    split <;> simp [setCsq, setLmc]

theorem lossOver_sar {s : State} {f : Flight} (hf : s.csq.flight = some f) :
    (lossOver s).sar = (changeEnd .trayLost .unknown s).sar := by
  simp only [lossOver, hf]
  split <;> simp [setCsq, setLmc]

theorem lossOver_tru (s : State) : (lossOver s).tru = s.tru := by
  unfold lossOver
  dsimp only
  (repeat' split) <;> simp [setCsq, setLmc]

theorem lossOver_released {s : State} (hs : s.csq.state ≠ .revealing) :
    (lossOver s).csq.shutClosed = false ∧ (lossOver s).lmc.claim = .none := by
  unfold lossOver
  dsimp only
  rw [if_neg hs]
  obtain ⟨hclaim, hshut, -⟩ := releaseBlanking_released (revealFade s.csq)
    (setCsq (fun q => { q with state := .idle, drive := .none, timerMs := 0, retry := 0 })
      (match s.csq.flight with
        | some _ => changeEnd .trayLost .unknown s
        | none => startTenure s.csq.keptOwner s))
  exact ⟨hshut, hclaim⟩

/-- With the tray absent a pending change that is let in is refused. -/
theorem startPending_absent {s : State} (h : s.tru.present = false) :
    startPending s = s ∨ ∃ w st, s.sar.waiting = some w ∧ startPending s = refuseStart w st s := by
  cases hw : s.sar.waiting with
  | none => exact .inl (startPending_none hw)
  | some w =>
    cases hr : pendingReady s with
    | false => exact .inl (startPending_unready hr)
    | true =>
      have hcheck : ∃ st, startCheck w s = .error st := by
        unfold startCheck
        split
        · exact ⟨_, rfl⟩
        · exact ⟨_, rfl⟩
      obtain ⟨st, hst⟩ := hcheck
      exact .inr ⟨w, st, rfl, startPending_error hw hr hst⟩

/-- A refusal at the start leaves the tenure and the records of the other sources. -/
theorem refuseStart_ended {s t : State} {w : Waiting} {f : Flight} {o : ChangeOutcome} {p : FinalPos}
    (hw : t.sar.waiting = some w) (hwait : t.sar.waiting = s.sar.waiting) (h : Ended f o p s t) (st : Status) :
    Ended f o p s (refuseStart w st t) := by
  obtain ⟨hlast, hholder, hten⟩ := h
  rw [Ended, refuseStart_sar, writeRecord_tenure]
  refine ⟨fun hne => ?_, by simpa [setWaiting] using hholder, hten⟩
  rw [writeRecord_last_other]
  · exact hlast hne
  · rw [← hwait, hw] at hne
    exact fun he => hne (congrArg some he.symm)

theorem lossToIdle_ended {s : State} {f : Flight} (hf : s.csq.flight = some f) (ha : s.tru.present = false) :
    Ended f .trayLost .unknown s (lossToIdle s) ∧ (lossToIdle s).csq = (lossOver s).csq
      ∧ (lossToIdle s).lmc = (lossOver s).lmc := by
  have hend : Ended f .trayLost .unknown s (lossOver s) := by
    rw [Ended, lossOver_sar hf]
    exact changeEnd_ended hf .trayLost .unknown
  have hwait : (lossOver s).sar.waiting = s.sar.waiting := by
    rw [lossOver_sar hf, changeEnd_waiting hf, if_neg (by decide)]
  have hpresent : (lossOver s).tru.present = false := by rw [lossOver_tru, ha]
  rw [lossToIdle_eq]
  rcases startPending_absent hpresent with heq | ⟨w, st, hw, heq⟩ <;> rw [heq]
  · exact ⟨hend, rfl, rfl⟩
  · exact ⟨refuseStart_ended hw hwait hend st, refuseStart_csq .., by simp⟩

theorem trayRemoval_jams {s : State} (hp : Powered s) (ht : s.tru.present = true) (hs : s.csq.state.active = true)
    (hw : s.csq.gate = .partway ∨ s.pins.sensed = .partway) :
    exec .trayRemoval s = .next (finish (lossToJam (trayOut s))) :=
  runPin_of_eq hp ((removeTray_active ht hs).trans (if_pos hw))

theorem trayRemoval_idles {s : State} (hp : Powered s) (ht : s.tru.present = true) (hs : s.csq.state.active = true)
    (hw : ¬ (s.csq.gate = .partway ∨ s.pins.sensed = .partway)) :
    exec .trayRemoval s = .next (finish (lossToIdle (trayOut s))) :=
  runPin_of_eq hp ((removeTray_active ht hs).trans (if_neg hw))

/-- Settles O17: the tray's presence follows TPRS, and a removal during a change ends it, in JAMMED with a slide caught
(`lossToJam_jammed`), else in IDLE, where a pending change finds the tray absent (`startPending_absent`). -/
theorem trayPresenceFollowsTprs : Obligations.TrayPresenceFollowsTprs := by
  refine ⟨fun s hp => runPin_of_eq hp rfl, fun s hp ht hs => runPin_of_eq hp (removeTray_still ht hs),
    fun s hp ht => runPin_of_eq hp (removeTray_absent ht), fun s f hp ht hs hf => ?_⟩
  by_cases hw : s.csq.gate = .partway ∨ s.pins.sensed = .partway
  · refine ⟨_, trayRemoval_jams hp ht hs hw, ?_⟩
    have hend := lossToJam_ended (s := trayOut s) (f := f) hf
    have hjam := lossToJam_jammed (s := trayOut s) (f := f) hf
    rw [Ended, Jammed, (finish_pend _).1]
    simp only [finish_frame]
    refine ⟨by simp [trayOut, loseOrigin, setCsq], by simp [trayOut, loseOrigin, setCsq],
      by simp [trayOut, loseOrigin, setCsq], hjam.2.2.2.1, hjam.2.2.1, hend, fun _ => ⟨hjam, ?_⟩, fun hn => absurd hw hn,
      ?_⟩
    · rw [lossToJam_csq]
      rfl
    · simp [trayOut, loseOrigin, setCsq, setTprs]
  · refine ⟨_, trayRemoval_idles hp ht hs hw, ?_⟩
    obtain ⟨hend, hcsq, hlmc⟩ := lossToIdle_ended (s := trayOut s) (f := f) hf rfl
    obtain ⟨hstate, hdrive, hflight⟩ := lossOver_csq (s := trayOut s) (f := f) hf
    rw [Ended]
    simp only [finish_frame]
    refine ⟨by simp [trayOut, loseOrigin, setCsq], by simp [trayOut, loseOrigin, setCsq],
      by simp [trayOut, loseOrigin, setCsq], by rw [hcsq, hdrive], by rw [hcsq, hflight], hend,
      fun hy => absurd hy hw, fun _ => ⟨by rw [hcsq, hstate], by simp [trayOut, loseOrigin, setCsq, setTprs],
        fun hr => ?_⟩, ?_⟩
    · rw [hcsq, hlmc]
      exact lossOver_released (s := trayOut s) hr
    · simp [trayOut, loseOrigin, setCsq, setTprs]

end Sys2Proof.Machine
end

section
/-! The gate record and CSQ's settings (02 R20, R26, R41, R42). -/

namespace Sys2Proof.Machine
open Sys2Proof

theorem sensed_gatePins (a b c : Bool) (s : State) : (setGatePins a b c s).pins.sensed
    = if a && !b then .seated else if !a && b then .clear else .partway := rfl

/-- In IDLE a change of the sensed condition is taken into the gate record. -/
theorem followSensors_idle {s : State} {old : Sensed} (hs : s.csq.state = .idle) (hp : s.pnp.power ≠ .resetHeld)
    (hn : s.pins.sensed ≠ old) : followSensors old s = match s.pins.sensed with
      | .clear => setGate .empty none s
      | .seated => setGate .seated (if s.csq.gate = .empty then none else s.csq.origin) s
      | .partway => setGate .partway s.csq.origin s := by
  simp only [followSensors, if_neg hn]
  rw [if_pos ⟨hs, hp⟩] <;> rfl

theorem followSensors_unchanged {s : State} {old : Sensed} (h : (s.csq.state ≠ .idle ∧ s.csq.state ≠ .jammed)
    ∨ s.pnp.power = .resetHeld ∨ s.pins.sensed = old) : followSensors old s = s := by
  simp only [followSensors]
  rcases h with ⟨hi, hj⟩ | hp | ho
  · simp [hi, hj]
  · simp [hp]
  · simp [ho]

theorem gateSensorChange_idle {s : State} {a b c : Bool} (hs : s.csq.state = .idle) (hp : s.pnp.power ≠ .resetHeld)
    (hn : (setGatePins a b c s).pins.sensed ≠ s.pins.sensed) :
    followSensors s.pins.sensed (setGatePins a b c s) = { s with
      pins := { s.pins with seat := a, clear := b, liftUp := c }
      csq := { s.csq with
        gate := if a && !b then .seated else if !a && b then .empty else .partway
        origin := if !a && b || (a && !b && s.csq.gate = .empty) then none else s.csq.origin } } := by
  rw [followSensors_idle (s := setGatePins a b c s) hs hp hn, sensed_gatePins]
  by_cases hg : s.csq.gate = .empty <;> cases a <;> cases b <;> simp [setGate, setGatePins, setCsq, hg]

/-- An orphaned slide that is taken out in JAMMED leaves the gate EMPTY. -/
theorem followSensors_orphan {s : State} {old : Sensed} (hs : s.csq.state = .jammed) (hg : s.csq.gate = .seated)
    (ho : s.csq.origin = none) (hp : s.pnp.power ≠ .resetHeld) (hc : s.pins.sensed = .clear) :
    followSensors old s = { s with csq := { s.csq with gate := if old = .clear then .seated else .empty } } := by
  have horphan : s.csq.orphaned = true := by simp [Csq.orphaned, hg, ho]
  by_cases hold : old = .clear
  · rw [followSensors_unchanged (.inr (.inr (hc.trans hold.symm))), if_pos hold, ← hg]
  · have hne : s.pins.sensed ≠ old := fun he => hold (he.symm.trans hc)
    simp [followSensors, hs, horphan, hc, hp, setGate, setCsq, ho, hold, Ne.symm hold]

theorem gateSensorChange_eq {s : State} (hp : Powered s) (a b c : Bool) : exec (.gateSensorChange a b c) s
    = .next (finish (followSensors s.pins.sensed (setGatePins a b c s))) := by
  change execGateSensorChange a b c s = _
  rw [execGateSensorChange, runPin_powered hp]

theorem seqSettings_parse {m a n : Byte} {d k : Bool} (hm : onOff m = some d) (ha : onOff a = some k)
    (hn : n.toNat ≤ 3) : SeqSettings.parse m a n = some ⟨d, k, n.toNat⟩ := by
  simp [SeqSettings.parse, hm, ha, hn]

theorem seqSettings_parse_none {m a n : Byte} (h : 1 < m.toNat ∨ 1 < a.toNat ∨ 3 < n.toNat) :
    SeqSettings.parse m a n = none := by
  rcases h with h | h | h
  · simp [SeqSettings.parse, (onOff_eq_none_iff _).mpr h]
  · unfold SeqSettings.parse
    rw [(onOff_eq_none_iff _).mpr h]
    split <;> simp_all
  · unfold SeqSettings.parse
    split <;> simp_all

theorem readGate_payload (s : State) : gatePayload s
    = [match s.csq.state with
          | .idle => (0 : Byte)
          | .blanking => 1
          | .lifting => 2
          | .indexing => 3
          | .dropping => 4
          | .revealing => 5
          | .jammed => 6
          | .stalled => 7,
        match s.csq.gate with
          | .empty => 0
          | .seated => 1
          | .partway => 2,
        optByte 0xFF s.csq.origin,
        b8 (bit s.pins.seat 0 + bit s.pins.clear 1 + bit s.pins.liftUp 2 + bit s.pins.shcl 3
          + bit s.csq.shutClosed 4 + bit s.csq.shutFault 5
          + bit (s.csq.gate = .seated && s.csq.origin = none) 6 + bit (s.lmc.claim = .hold) 7),
        match s.csq.stop with
          | .none => 0
          | .lift => 1
          | .drop => 2
          | .partialAtLoss => 3
          | .partialAtReset => 4
          | .stepLimit => 5
          | .slip => 6,
        b8 (bit s.csq.cfg.dim 0 + bit s.csq.cfg.skip 1 + 4 * s.csq.cfg.retries)]
      ++ flightPayload s.csq ++ [optByte 0xFF s.tru.position] := by
  have hstate : b8 s.csq.state.code = match s.csq.state with
      | .idle => (0 : Byte)
      | .blanking => 1
      | .lifting => 2
      | .indexing => 3
      | .dropping => 4
      | .revealing => 5
      | .jammed => 6
      | .stalled => 7 := by cases s.csq.state <;> rfl
  have hgate : b8 s.csq.gate.code = match s.csq.gate with
      | .empty => (0 : Byte)
      | .seated => 1
      | .partway => 2 := by cases s.csq.gate <;> rfl
  have hstop : b8 s.csq.stop.code = match s.csq.stop with
      | .none => (0 : Byte)
      | .lift => 1
      | .drop => 2
      | .partialAtLoss => 3
      | .partialAtReset => 4
      | .stepLimit => 5
      | .slip => 6 := by cases s.csq.stop <;> rfl
  simp only [gatePayload, hstate, hgate, hstop, Csq.orphaned]

theorem readGate_flight (q : Csq) : flightPayload q = match q.flight with
    | some f => [b8 f.kind.code, b8 f.owner.code, b8 f.target,
        match f.dir with
          | .none => 0
          | .forward => 1
          | .reverse => 2,
        b8 f.fade, b8 (bit f.halt 0 + 2 * q.retry + bit f.dim 3)]
    | none =>
      if q.state = .revealing then [5, b8 q.keptOwner.code, 0xFF, 0, b8 q.keptFade, 0]
      else if q.state = .jammed then [0, b8 q.keptOwner.code, 0xFF, 0, b8 q.keptFade, 0]
      else [0, 0xFF, 0xFF, 0, 0, 0] := by
  have hdir (d : Direction) : b8 d.code = match d with
      | .none => (0 : Byte)
      | .forward => 1
      | .reverse => 2 := by cases d <;> rfl
  unfold flightPayload
  split
  · next hf => simp only [hdir, hf]
  · next hf => simp [Csq.jamReveal, hf]

/-- Settles O21: the gate record follows a change of the sensors in IDLE (`gateSensorChange_idle`), and an orphan taken out
in JAMMED (`followSensors_orphan`); settings and READ GATE by their tables. -/
theorem gateRecordAndSequencerSettings : Obligations.GateRecordAndSequencerSettings := by
  refine ⟨fun s a b c hp hs hr hn => ?_, fun s a b c hp hs hg ho hr ha hb => ?_, fun s a b c hp h => ?_,
    fun s m a n d k h hm ha hn => quiet_setting_some h (seqSettings_parse hm ha hn) _,
    fun s m a n h hbad => quiet_setting_none h (seqSettings_parse_none hbad) _, fun s h => quiet_answers h rfl,
    fun s h => ?_, rfl, rfl⟩
  · rw [gateSensorChange_eq hp, gateSensorChange_idle hs hr hn]
  · subst ha hb
    rw [gateSensorChange_eq hp, followSensors_orphan (s := setGatePins false true c s) hs hg ho hr rfl]
    rfl
  · rw [gateSensorChange_eq hp, followSensors_unchanged (s := setGatePins a b c s) h]
    rfl
  · refine quiet_answers h (Prod.ext rfl (congrArg (Response.mk .ok) ?_))
    rw [readGate_payload, readGate_flight] <;> rfl

end Sys2Proof.Machine
end

section
/-! HALT, the expiry of a tenure and the start of the pending change (03 R57 to R60). -/

namespace Sys2Proof.Machine
open Sys2Proof

/-! ## HALT -/

theorem haltFrom_barred {s : State} {f : Flight} {src : Source} (hf : s.csq.flight = some f)
    (h : priority s f.owner < priority s src) : haltFrom src s = (s, .busy) := by
  simp [haltFrom, hf, h]

theorem haltFrom_owner {s : State} {f : Flight} {src : Source} (hf : s.csq.flight = some f)
    (h : priority s src ≤ priority s f.owner) : haltFrom src s = (haltChange (dropWaiting .halted s), .ok) := by
  simp [haltFrom, hf, Nat.not_lt.mpr h]

theorem haltFrom_free {s : State} {src : Source} (hf : s.csq.flight = none) (hh : s.sar.holder = none) :
    haltFrom src s = (dropWaiting .halted s, .ok) := by
  have hcsq : (dropWaiting .halted s).csq.flight = none := by simpa using hf
  simp [haltFrom, hf, hh, haltChange, hcsq]

/-- The change in flight with its halt mark. -/
def marked (f : Flight) (s : State) : State :=
  { s with csq := { s.csq with flight := some { f with halt := true } } }

theorem haltChange_moving {s : State} {f : Flight} (hf : s.csq.flight = some f)
    (hs : s.csq.state = .lifting ∨ s.csq.state = .indexing) : haltChange s = marked f s := by
  rcases hs with hs | hs <;> simp only [haltChange, hf, hs] <;> simp [marked, setCsq, hs]

theorem haltChange_late {s : State} {f : Flight} (hf : s.csq.flight = some f)
    (hs : s.csq.state = .dropping ∨ s.csq.state = .revealing) : haltChange s = s := by
  rcases hs with hs | hs <;> simp only [haltChange, hf, hs]

theorem haltChange_blanking {s : State} {f : Flight} (hf : s.csq.flight = some f) (hs : s.csq.state = .blanking) :
    haltChange s = enterRevealing (marked f s) := by
  simp only [haltChange, hf, hs]
  simp [marked, setCsq, hs]

theorem halt_ok {s t : State} (h : Awake s) (hc : classOk .panel .transport s = true)
    (ht : haltFrom .panel s = (t, .ok)) : exec .halt s = .next (finish (answered .ok [] t)) :=
  (run_answers h (panelRequest_ok hc ht)).trans rfl

theorem startsNothing_of_none {o : Source} {s : State} (h : s.sar.waiting = none) : StartsNothing o s := by
  rw [StartsNothing, h]
  nofun

theorem halt_blanking {s : State} {f : Flight} (h : Awake s) (hc : classOk .panel .transport s = true)
    (hf : s.csq.flight = some f) (hp : priority s .panel ≤ priority s f.owner) (hw : s.sar.waiting = none)
    (hs : s.csq.state = .blanking) :
    ∃ t, exec .halt s = .next t ∧ t.pnp.resp = some ⟨.ok, []⟩ ∧ t.csq.shutClosed = false
      ∧ t.lmc.claim = .none ∧ t.tru = s.tru ∧ t.csq.gate = s.csq.gate ∧ t.csq.origin = s.csq.origin
      ∧ ((t.csq.state = .revealing ∧ t.csq.flight = some { f with halt := true } ∧ t.sar = s.sar)
        ∨ (t.csq.state = .idle ∧ t.csq.flight = none ∧ Ended f .halted (finalNow s) s t)) := by
  have hn : StartsNothing (marked f s).csq.ownerNow (marked f s) := startsNothing_of_none hw
  have ht : haltFrom .panel s = (enterRevealing (marked f s), .ok) := by
    rw [haltFrom_owner hf hp, dropWaiting_none hw, haltChange_blanking hf hs]
  have hr := revealing_reveals (marked f s)
  obtain ⟨-, hshut, hclaim, -⟩ := enterRevealing_released (.inr hn)
  refine ⟨_, halt_ok h hc ht, ?_⟩
  simp only [Ended, finish_frame]
  refine ⟨rfl, hshut, hclaim, by simp [answered, marked], by simp [answered, marked], by simp [answered, marked], ?_⟩
  rcases enterRevealing_nothing hn with heq | heq
  · rw [heq]
    exact .inl ⟨hr.state, hr.flight, hr.sar⟩
  · rw [heq]
    exact .inr (revealOver_revealing (s := marked f s) (f := { f with halt := true }) rfl)

/-- HALT with a pending change: it is dropped with its record. -/
theorem halt_drops {s t : State} {w : Waiting} (h : Awake s) (hc : classOk .panel .transport s = true)
    (hw : s.sar.waiting = some w) (ht : haltFrom .panel s = (t, .ok)) (hsar : t.sar = (dropWaiting .halted s).sar) :
    ∃ u, exec .halt s = .next u ∧ u.pnp.resp = some ⟨.ok, []⟩ ∧ u.csq = t.csq ∧ u.sar.waiting = none
      ∧ u.sar.last.get w.source
        = ⟨some w.kind, some w.target, .halted, .none, (s.sar.last.get w.source).refusals⟩ := by
  refine ⟨_, halt_ok h hc ht, ?_⟩
  simp only [finish_frame]
  refine ⟨rfl, rfl, ?_, ?_⟩
  · change t.sar.waiting = none
    rw [hsar, dropWaiting_waiting]
  · change t.sar.last.get w.source = _
    rw [hsar, dropWaiting_last hw]

/-! ## The tenure's expiry -/

theorem tenureExpiry_eq {s : State} (hp : Powered s) (h : s.pnp.power = .run ∨ s.pnp.power = .standbyPending) :
    exec .tenureExpiry s = .next (finish (startPending (endTenure s))) :=
  run_of_eq hp (if_pos h)

/-- CSQ can take the pending change at the expiry. -/
theorem pendingReady_expired {s : State} {w : Waiting} (hw : s.sar.waiting = some w) :
    pendingReady (endTenure s) = true
      ↔ s.pnp.power = .run ∧ (s.csq.state = .idle ∨ (s.csq.state = .stalled ∧ w.kind = .home)) := by
  rw [pendingReady_iff_due (s := endTenure s) hw, DueAtRun]
  simp [endTenure]

theorem startPending_expired {s : State} (h : ∀ w ∈ s.sar.waiting, s.pnp.power = .standbyPending
    ∨ s.csq.state ≠ .idle ∧ (s.csq.state ≠ .stalled ∨ w.kind ≠ .home)) : startPending (endTenure s) = endTenure s := by
  cases hw : s.sar.waiting with
  | none => exact startPending_none hw
  | some w =>
    refine startPending_unready (eq_false_of_ne_true fun hr => ?_)
    obtain ⟨hrun, hidle⟩ := (pendingReady_expired hw).mp hr
    rcases h w hw with hp | ⟨hi, hst⟩
    · simp [hp] at hrun
    · rcases hidle with he | ⟨he, hk⟩
      · exact hi he
      · exact hst.elim (· he) (· hk)

/-- A change that leaves STALLED takes TRANSPORT out of the hold set. -/
theorem startChange_transport {s : State} (hs : s.csq.state = .stalled) (hp : s.pnp.power ≠ .resetHeld) (src : Source)
    (k : ChangeKind) (q fade : Nat) : (startChange src k q fade s).shc.causes.transport = false := by
  simp only [startChange, startBlanking_frame, if_pos hs]
  exact removeCause_transport (s := endTenure s) hp

theorem markStarted_frame (w : Waiting) (s : State) : (markStarted w s).csq = s.csq ∧ (markStarted w s).pnp = s.pnp
    ∧ (markStarted w s).shc = s.shc ∧ (markStarted w s).tru = s.tru := by
  unfold markStarted
  split <;> exact ⟨rfl, rfl, rfl, rfl⟩

theorem tenureExpiry_starts {s : State} {w : Waiting} {q : Nat} (hp : Powered s) (hr : s.pnp.power = .run)
    (hw : s.sar.waiting = some w) (hs : s.csq.state = .idle ∨ (s.csq.state = .stalled ∧ w.kind = .home))
    (hq : startCheck w s = .ok q) :
    ∃ t, exec .tenureExpiry s = .next t ∧ StartedPending w q s t ∧ t.sar.last = s.sar.last ∧ t.tru = s.tru
      ∧ t.csq.gate = s.csq.gate ∧ (s.csq.state = .idle → t.shc = s.shc)
      ∧ (s.csq.state = .stalled → t.shc.causes.transport = false) := by
  have hready := (pendingReady_expired hw).mpr ⟨hr, hs⟩
  have hstart := startPending_started (s := s) (t := endTenure s) hw hready hq id
  have hlast := startPending_ok_last (s := endTenure s) hw hready hq
  have heq := startPending_ok (s := endTenure s) hw hready hq
  obtain ⟨hcsq, hpnp, -, -⟩ := markStarted_frame w (endTenure s)
  refine ⟨_, tenureExpiry_eq hp (.inl hr), ?_⟩
  rw [StartedPending, finish_awaited]
  simp only [finish_frame]
  refine ⟨hstart, hlast, by simp [endTenure], by simp [endTenure], fun hi => ?_, fun hst => ?_⟩
  · exact (startPending_show (endTenure s) (by simp [endTenure, hi])).2
  · rw [heq]
    exact startChange_transport (by rw [hcsq]; exact hst) (by rw [hpnp]; simp [endTenure, hr]) _ _ _ _

theorem tenureExpiry_refuses {s : State} {w : Waiting} {st : Status} (hp : Powered s) (hr : s.pnp.power = .run)
    (hw : s.sar.waiting = some w) (hs : s.csq.state = .idle ∨ (s.csq.state = .stalled ∧ w.kind = .home))
    (hf : s.csq.flight = none) (hq : startCheck w s = .error st) :
    ∃ t, exec .tenureExpiry s = .next t ∧ RefusedPending w s t ∧ t.sar.holder = none ∧ t.csq = s.csq
      ∧ t.tru = s.tru := by
  have hready := (pendingReady_expired hw).mpr ⟨hr, hs⟩
  have hrefused := startPending_refused (s := s) (t := endTenure s) hw hready hq hf rfl
  have heq := startPending_error (s := endTenure s) hw hready hq
  refine ⟨_, tenureExpiry_eq hp (.inl hr), ?_⟩
  rw [RefusedPending]
  simp only [finish_frame]
  refine ⟨hrefused, ?_, ?_, by simp [endTenure]⟩
  · rw [heq]
    simp [endTenure]
  · rw [heq, refuseStart_csq]
    rfl

/-! ## PENDING_CHANGE_START -/

theorem pendingReady_held {s : State} {w : Waiting} (hw : s.sar.waiting = some w) (hr : s.pnp.power = .run)
    (hs : s.csq.state = .idle) (hh : s.sar.holder = none ∨ s.sar.holder = some w.source) : pendingReady s = true := by
  refine (pendingReady_iff_due hw).mpr ⟨hr, .inl hs, fun h hm => ?_⟩
  rcases hh with he | he <;> rw [he] at hm
  · cases hm
  · exact .inl (Option.some.inj hm)

theorem pendingChangeStart_starts {s : State} {w : Waiting} {q : Nat} (hp : Powered s) (hr : s.pnp.power = .run)
    (hs : s.csq.state = .idle) (hw : s.sar.waiting = some w)
    (hh : s.sar.holder = none ∨ s.sar.holder = some w.source) (hq : startCheck w s = .ok q) :
    ∃ t, exec .pendingChangeStart s = .next t ∧ t.sar.waiting = none ∧ t.sar.holder = none
      ∧ t.csq.state.active = true
      ∧ t.csq.flight.map (fun f => (f.kind, f.owner, f.target, f.fade, f.halt))
        = some (w.kind, w.source, q, w.fade, false)
      ∧ t.sar.last = s.sar.last ∧ t.tru = s.tru := by
  have hready := pendingReady_held hw hr hs hh
  obtain ⟨hwait, hholder, hactive, -, hflight, -⟩ := startPending_started (s := s) hw hready hq id
  refine ⟨_, run_of_eq hp rfl, ?_⟩
  simp only [finish_frame]
  exact ⟨hwait, hholder, hactive, hflight, startPending_ok_last hw hready hq, by simp⟩

theorem pendingChangeStart_refuses {s : State} {w : Waiting} {st : Status} (hp : Powered s) (hr : s.pnp.power = .run)
    (hs : s.csq.state = .idle) (hw : s.sar.waiting = some w)
    (hh : s.sar.holder = none ∨ s.sar.holder = some w.source) (hq : startCheck w s = .error st) :
    ∃ t, exec .pendingChangeStart s = .next t ∧ t.sar.waiting = none ∧ t.sar.holder = s.sar.holder
      ∧ t.csq = s.csq
      ∧ t.sar.last.get w.source
        = ⟨some w.kind, some w.target, .refusedAtStart, .none, (s.sar.last.get w.source).refusals⟩ := by
  have hready := pendingReady_held hw hr hs hh
  have hrec := writeRecord_last_get w.source w.kind w.target .refusedAtStart .none (setWaiting none s)
  refine ⟨_, run_of_eq hp (startPending_error hw hready hq), ?_⟩
  simp only [finish_frame, refuseStart_sar, hrec]
  exact ⟨by simp [setWaiting], by simp [setWaiting], refuseStart_csq .., rfl⟩

/-- The start-time checks of a pending SEEK that the tray and the gate allow. -/
theorem startCheck_seek {s : State} {w : Waiting} (hc : classOk w.source .transport s = true)
    (ht : s.tru.present = true) (hk : w.kind = .seek) (hp : s.tru.position ≠ none) (ho : s.csq.orphaned = false) :
    startCheck w s = (if (s.sar.sources.get w.source).base ≤ w.target
      ∧ w.target ≤ (s.sar.sources.get w.source).limit then .ok w.target else .error .outOfWindow) := by
  simp [startCheck, hc, ht, hk, hp, ho, ChangeKind.steps, insideWindow]

/-- Settles O29: HALT by its reference and CSQ's state (`haltFrom_owner`, `haltFrom_free`), the expiry that starts the
pending change (`pendingReady_expired`), and PENDING_CHANGE_START by the same start rule. -/
theorem haltTenureAndPendingStart : Obligations.HaltTenureAndPendingStart := by
  refine ⟨fun s f h hc hf hp => run_answers h (panelRequest_refused hc (haltFrom_barred hf hp) nofun),
    fun s f h hc hf hp hw hs => halt_ok h hc ?_, fun s f h hc hf hp hw hs => halt_ok h hc ?_,
    fun s f h hc hf hp hw hs => halt_blanking h hc hf hp hw hs, fun s w h hc hf hh hw => ?_,
    fun s h hc => run_answers h (panelRequest_disabled hc _), fun s f w h hc hf hp hw hs => ?_,
    fun s h hw => ?_, fun s w q hp hr hw hs hq => tenureExpiry_starts hp hr hw hs hq,
    fun s w st hp hr hw hs hf hq => tenureExpiry_refuses hp hr hw hs hf hq,
    fun s hp hs => run_of_eq hp (if_neg (by rcases hs with hs | hs <;> simp [hs])),
    fun s w q hp hr hs hw hh hq => pendingChangeStart_starts hp hr hs hw hh hq,
    fun s w st hp hr hs hw hh hq => pendingChangeStart_refuses hp hr hs hw hh hq,
    fun s w _ hw hc ht hk hp ho => startCheck_seek hc ht hk hp ho, fun s hp hw => run_of_eq hp (startPending_none hw)⟩
  · rw [haltFrom_owner hf hp, dropWaiting_none hw, haltChange_moving hf hs]
    rfl
  · rw [haltFrom_owner hf hp, dropWaiting_none hw, haltChange_late hf hs]
  · obtain ⟨t, ht, hresp, hcsq, hwait, hlast⟩ := halt_drops h hc hw (haltFrom_free hf hh) rfl
    exact ⟨t, ht, hresp, hcsq.trans (by simp), hwait, hlast⟩
  · have hcsq : (dropWaiting .halted s).csq = s.csq := by simp
    have heq : haltChange (dropWaiting .halted s) = marked f (dropWaiting .halted s) :=
      haltChange_moving (by rw [hcsq, hf]) (by rwa [hcsq])
    obtain ⟨t, ht, hresp, htcsq, hwait, hlast⟩ := halt_drops (t := marked f (dropWaiting .halted s)) h hc hw
      ((haltFrom_owner hf hp).trans (by rw [heq])) rfl
    refine ⟨t, ht, hresp, hwait, htcsq.trans ?_, hlast⟩
    simp only [marked, hcsq]
  · rw [tenureExpiry_eq h.1 h.2, startPending_expired hw]
    rfl

end Sys2Proof.Machine
end

section
/-! Transport requests: admission, the start rule, the pending rules and the routes (03 R51 to R55, R62, R63). -/

namespace Sys2Proof.Machine
open Sys2Proof

variable {s t : State} {src : Source} {k : ChangeKind} {n q d : Nat} {fade : Byte} {st : Status}

/-! ## Placing an admitted request -/

theorem place_starts (hc : canStart k s = true) (ht : tenureLets src s = true)
    (hw : s.sar.holder ≠ none ∨ s.sar.waiting = none) :
    place src k n q d s = (startChange src k q d s, .ok (.started, q)) := if_pos ⟨hc, ht, hw⟩

theorem place_pends (h : ¬ (canStart k s = true ∧ tenureLets src s = true
    ∧ (s.sar.holder ≠ none ∨ s.sar.waiting = none))) : place src k n q d s = pend src k n q d s := if_neg h

/-- The record of a request that becomes the pending change. -/
def waitingFor (src : Source) (k : ChangeKind) (n q d : Nat) : Waiting := ⟨src, k, signedCount k n, q, d⟩

theorem pend_empty (h : s.sar.waiting = none) :
    pend src k n q d s = (setWaiting (some (waitingFor src k n q d)) s, .ok (.pending, q)) := by
  simp only [pend, h]
  rfl

theorem pend_replaces {w : Waiting} (hw : s.sar.waiting = some w) (hs : w.source = src)
    (hk : w.kind.steps = false ∨ k.steps = false) : pend src k n q d s
      = (setWaiting (some (waitingFor src k n q d)) (dropWaiting .replaced s), .ok (.pending, q)) := by
  have hand : (w.kind.steps && k.steps) = false := by
    rcases hk with h | h <;> simp [h]
  simp only [pend, hw, if_pos hs, hand]
  rfl

theorem pend_displaces {w : Waiting} (hw : s.sar.waiting = some w) (hs : w.source ≠ src)
    (hp : priority s src < priority s w.source) : pend src k n q d s
      = (setWaiting (some (waitingFor src k n q d)) (dropWaiting .displaced s), .ok (.pending, q)) := by
  simp only [pend, hw, if_neg hs, if_pos hp]
  rfl

theorem pend_busy {w : Waiting} (hw : s.sar.waiting = some w) (hs : w.source ≠ src)
    (hp : priority s w.source ≤ priority s src) : pend src k n q d s = (s, .error .busy) := by
  simp only [pend, hw, if_neg hs, if_neg (Nat.not_lt.mpr hp)]

theorem pend_merges {w : Waiting} (hw : s.sar.waiting = some w) (hs : w.source = src) (hwk : w.kind.steps = true)
    (hk : k.steps = true) : pend src k n q d s = merge w src (signedCount k n) d s := by
  simp only [pend, hw, if_pos hs, hwk, hk, Bool.and_self, if_true]

/-! ## MERGE -/

theorem merge_out {w : Waiting} {c : Int} (h : w.count + c = 0) :
    merge w src c d s = (dropWaiting .mergedOut s, .ok (.mergedOut, (expected s).getD 0)) := if_pos h

theorem merge_range {w : Waiting} {c : Int} (h : 15 < (w.count + c).natAbs) :
    merge w src c d s = (s, .error .range) := by
  unfold merge
  dsimp only
  rw [if_neg (by omega), if_pos h]

/-- The kind of a merged request, by the sign of the sum. -/
def mergedKind (sum : Int) : ChangeKind := if 0 < sum then .advance else .reverse

theorem merge_error {w : Waiting} {c : Int} (h0 : w.count + c ≠ 0) (h15 : (w.count + c).natAbs ≤ 15)
    (hr : s.tru.resolve (mergedKind (w.count + c)) (w.count + c).natAbs ((expected s).getD 0) = .error st) :
    merge w src c d s = (s, .error st) := by
  unfold mergedKind at hr
  unfold merge
  dsimp only
  rw [if_neg h0, if_neg (Nat.not_lt.mpr h15), hr]

theorem merge_resolved {w : Waiting} {c : Int} {r : Nat} (h0 : w.count + c ≠ 0) (h15 : (w.count + c).natAbs ≤ 15)
    (hr : s.tru.resolve (mergedKind (w.count + c)) (w.count + c).natAbs ((expected s).getD 0) = .ok r) :
    merge w src c d s = if insideWindow (s.sar.sources.get src) (mergedKind (w.count + c)) r then
        (setWaiting (some ⟨src, mergedKind (w.count + c), w.count + c, r, d⟩) s, .ok (.merged, r))
      else (s, .error .outOfWindow) := by
  unfold mergedKind at hr ⊢
  unfold merge
  dsimp only
  rw [if_neg h0, if_neg (Nat.not_lt.mpr h15), hr]

theorem insideWindow_iff (r : SourceRec) (k : ChangeKind) (q : Nat) :
    insideWindow r k q = true ↔ k = .home ∨ (r.base ≤ q ∧ q ≤ r.limit) := by
  simp [insideWindow]

theorem mergedKind_ne_home (sum : Int) : mergedKind sum ≠ .home := by
  unfold mergedKind
  split <;> nofun

/-! ## Admission -/

theorem admitRequest_ok (hp : Placed s k) (hr : s.tru.resolve k n ((expected s).getD 0) = .ok q)
    (hw : k = .home ∨ ((s.sar.sources.get src).base ≤ q ∧ q ≤ (s.sar.sources.get src).limit)) :
    admitRequest src k n s = .ok q := by
  obtain ⟨hpresent, hpos, horphan⟩ := hp
  have hin := (insideWindow_iff (s.sar.sources.get src) k q).mpr hw
  have hhome : ¬ (s.tru.position = none ∧ k ≠ .home) := fun h => h.2 (hpos h.1)
  simp [admitRequest, hpresent, horphan, hr, hin, if_neg hhome]

theorem admitRequest_error (hp : Placed s k) (hr : s.tru.resolve k n ((expected s).getD 0) = .error st) :
    admitRequest src k n s = .error st := by
  obtain ⟨hpresent, hpos, horphan⟩ := hp
  have hhome : ¬ (s.tru.position = none ∧ k ≠ .home) := fun h => h.2 (hpos h.1)
  simp [admitRequest, hpresent, horphan, hr, if_neg hhome]

theorem admitRequest_outside (hp : Placed s k) (hk : k ≠ .home)
    (hr : s.tru.resolve k n ((expected s).getD 0) = .ok q)
    (hw : q < (s.sar.sources.get src).base ∨ (s.sar.sources.get src).limit < q) :
    admitRequest src k n s = .error .outOfWindow := by
  obtain ⟨hpresent, hpos, horphan⟩ := hp
  have hin : insideWindow (s.sar.sources.get src) k q = false := by
    refine eq_false_of_ne_true fun h => ?_
    have hwin := ((insideWindow_iff _ _ _).mp h).resolve_left hk
    omega
  have hhome : ¬ (s.tru.position = none ∧ k ≠ .home) := fun h => h.2 (hpos h.1)
  simp [admitRequest, hpresent, horphan, hr, hin, if_neg hhome]

theorem requestHere_placed (h : admitRequest src k n s = .ok q) : requestHere src k n d s = place src k n q d s := by
  simp only [requestHere, h]

theorem requestHere_refused (h : admitRequest src k n s = .error st) : requestHere src k n d s = (s, .error st) := by
  simp only [requestHere, h]

/-! ## The routes -/

theorem requestRouted_here {e : Disposition × Nat} (hr : (s.sar.sources.get src).route = .here)
    (h : requestHere src k n d s = (t, .ok e)) : requestRouted src k n d s = (t, .ok ⟨e.1, e.1, some e.2⟩) := by
  simp only [requestRouted, hr, h]

theorem requestRouted_refused (hr : (s.sar.sources.get src).route ≠ .forward)
    (h : requestHere src k n d s = (t, .error st)) : requestRouted src k n d s = (t, .error st) := by
  cases hc : (s.sar.sources.get src).route with
  | here => simp only [requestRouted, hc, h]
  | forward => exact absurd hc hr
  | both => simp only [requestRouted, hc, h]

/-- LKC after a frame offered to it, or LINK_OVERFLOW (03 R63). -/
def offered (l : Lkc) (dest kind : Byte) (payload : List Byte) : Lkc :=
  if l.canTake then l.enqueue dest kind payload else { l with overflow := true }

theorem offerOrOverflow_eq (dest kind : Byte) (payload : List Byte) (s : State) :
    offerOrOverflow dest kind payload s = ({ s with lkc := offered s.lkc dest kind payload }, s.lkc.canTake) := by
  cases h : s.lkc.canTake <;> simp [offerOrOverflow, offerFrame, offered, h, setLkc]

theorem requestRouted_both {e : Disposition × Nat} (hr : (s.sar.sources.get src).route = .both)
    (h : requestHere src k n d s = (t, .ok e)) : requestRouted src k n d s
      = ({ t with lkc := offered t.lkc (s.sar.sources.get src).dest.byte 1 (changePayload k n d) },
        .ok ⟨if t.lkc.canTake then .forwarded else .forwardDropped, e.1, some e.2⟩) := by
  simp only [requestRouted, hr, h, offerOrOverflow_eq]

theorem requestRouted_forward (hr : (s.sar.sources.get src).route = .forward) (hc : s.lkc.canTake = true) :
    requestRouted src k n d s
      = ({ s with lkc := s.lkc.enqueue (s.sar.sources.get src).dest.byte 1 (changePayload k n d) },
        .ok ⟨.forwarded, .forwarded, none⟩) := by
  simp only [requestRouted, hr, offerFrame, hc, if_true]
  rfl

theorem requestRouted_full (hr : (s.sar.sources.get src).route = .forward) (hc : s.lkc.canTake = false) :
    requestRouted src k n d s = (s, .error .busy) := by
  simp [requestRouted, hr, offerFrame, hc]

/-! ## The whole request -/

theorem changeRequest_ok {x : Taken} (hc : classOk src .transport s = true) (ha : argRefusal k n fade = none)
    (h : requestRouted src k n (fadeOf s fade) s = (t, .ok x)) :
    changeRequest src k n fade s = (idleZero t, .ok x) := by
  simp only [changeRequest, hc, ha, h, Bool.true_eq_false, if_false]

theorem changeRequest_error (hc : classOk src .transport s = true) (ha : argRefusal k n fade = none)
    (h : requestRouted src k n (fadeOf s fade) s = (t, .error st)) :
    changeRequest src k n fade s = (countRefusal src t, .error st) := by
  simp only [changeRequest, hc, ha, h, Bool.true_eq_false, if_false]

theorem changeRequest_disabled (hc : classOk src .transport s = false) :
    changeRequest src k n fade s = (countRefusal src s, .error .disabled) := if_pos hc

theorem changeRequest_argument (hc : classOk src .transport s = true) (ha : argRefusal k n fade = some st) :
    changeRequest src k n fade s = (countRefusal src s, .error st) := by
  simp only [changeRequest, hc, ha, Bool.true_eq_false, if_false]

/-! ## Requests of the panel -/

theorem countRefusal_panel (s : State) : countRefusal .panel s = s := if_neg (by decide)

theorem panelChange_ok {x : Taken} (hc : classOk .panel .transport s = true) (ha : argRefusal k n fade = none)
    (h : requestRouted .panel k n (fadeOf s fade) s = (t, .ok x)) :
    panelChange k n fade s = (idleZero t, ⟨.ok, takenPayload x t⟩) := by
  simp only [panelChange, changeRequest_ok hc ha h]
  rfl

theorem panelChange_error (hc : classOk .panel .transport s = true) (ha : argRefusal k n fade = none)
    (h : requestRouted .panel k n (fadeOf s fade) s = (t, .error st)) :
    panelChange k n fade s = (t, ⟨st, []⟩) := by
  simp only [panelChange, changeRequest_error hc ha h, countRefusal_panel]
  rfl

theorem panelChange_disabled (hc : classOk .panel .transport s = false) :
    panelChange k n fade s = (s, ⟨.disabled, []⟩) := by
  simp only [panelChange, changeRequest_disabled hc, countRefusal_panel]
  rfl

theorem panelChange_argument (hc : classOk .panel .transport s = true) (ha : argRefusal k n fade = some st) :
    panelChange k n fade s = (s, ⟨st, []⟩) := by
  simp only [panelChange, changeRequest_argument hc ha, countRefusal_panel]
  rfl

/-- The argument of a panel command of a change kind. -/
def panelArg (k : ChangeKind) (a : Byte) : Nat := if k = .home then 0 else a.toNat

theorem exec_panelChangeOf (k : ChangeKind) (a fade : Byte) (s : State) :
    exec (panelChangeOf k a fade) s = run (panel (panelChange k (panelArg k a) fade)) s := by
  cases k <;> rfl

theorem panelArg_of_ne {a : Byte} (h : k ≠ .home) : panelArg k a = a.toNat := if_neg h

theorem signedCount_panelArg (k : ChangeKind) (a : Byte) : signedCount k (panelArg k a) = signedCount k a.toNat := by
  cases k <;> rfl

theorem resolve_panelArg (t : Tru) (k : ChangeKind) (a : Byte) (b : Nat) :
    t.resolve k (panelArg k a) b = t.resolve k a.toNat b := by
  cases k <;> rfl

theorem waitingFor_panelArg (k : ChangeKind) (a : Byte) (q d : Nat) :
    waitingFor .panel k (panelArg k a) q d = ⟨.panel, k, signedCount k a.toNat, q, d⟩ := by
  rw [waitingFor, signedCount_panelArg]

theorem changePayload_panelArg (k : ChangeKind) (a fade : Byte) (s : State) :
    changePayload k (panelArg k a) (fadeOf s fade)
      = [b8 k.code, if k = .home then 0 else a, if fade = 0xFF then b8 s.sar.cfg.fade else fade] := by
  have harg : b8 (if k = .home then 0 else panelArg k a) = if k = .home then 0 else a := by
    split
    · rfl
    · next h => rw [panelArg_of_ne h, b8_of_toNat]
  have hfade : b8 (fadeOf s fade) = if fade = 0xFF then b8 s.sar.cfg.fade else fade := by
    unfold fadeOf Config.defaultFadeByte
    split
    · rfl
    · exact b8_of_toNat fade
  rw [changePayload, harg, hfade]

theorem argRefusal_none {a : Byte} (h : Formed s k a fade) : argRefusal k (panelArg k a) fade = none := by
  obtain ⟨-, hfade, hsteps, hseek⟩ := h
  unfold argRefusal
  rw [if_neg, if_neg, if_neg (by simp [hfade])]
  · rintro ⟨hk, h99⟩
    rw [panelArg_of_ne (by simp [hk])] at h99
    have := hseek hk
    omega
  · rintro ⟨hk, hn⟩
    have hkind : k = .advance ∨ k = .reverse := by cases k <;> simp_all [ChangeKind.steps]
    rw [panelArg_of_ne (by rcases hkind with h | h <;> simp [h])] at hn
    have := hsteps hkind
    omega

theorem admitted_ok {a : Byte} (h : Admitted s k a fade q) : admitRequest .panel k (panelArg k a) s = .ok q := by
  obtain ⟨-, -, hplaced, hresolve, hwindow⟩ := h
  exact admitRequest_ok hplaced ((resolve_panelArg ..).trans hresolve) hwindow

theorem startable_iff (s : State) (k : ChangeKind) : Startable s k ↔ canStart k s = true ∧ tenureLets .panel s = true
    ∧ (s.sar.holder ≠ none ∨ s.sar.waiting = none) := by
  rw [canStart_iff, tenureLets_iff]
  constructor
  · rintro ⟨hrun, hstate, hwait, hten⟩
    refine ⟨⟨hrun, hstate⟩, fun x hx => (hten x hx).imp_left Eq.symm, ?_⟩
    by_cases hn : s.sar.holder = none
    · exact .inr (hwait hn)
    · exact .inl hn
  · rintro ⟨⟨hrun, hstate⟩, hten, hwait⟩
    exact ⟨hrun, hstate, fun hn => hwait.resolve_left (fun hne => hne hn), fun x hx => (hten x hx).imp_left Eq.symm⟩

/-- An admitted panel request that is placed as `e`. -/
theorem panelChange_placed {a : Byte} {e : Disposition × Nat} (h : Admitted s k a fade q)
    (hp : place .panel k (panelArg k a) q (fadeOf s fade) s = (t, .ok e)) :
    panelChange k (panelArg k a) fade s = (idleZero t, ⟨.ok, takenPayload ⟨e.1, e.1, some e.2⟩ t⟩) := by
  have hadmit := admitted_ok h
  obtain ⟨hformed, hroute, -⟩ := h
  exact panelChange_ok hformed.1 (argRefusal_none hformed)
    (requestRouted_here hroute ((requestHere_placed hadmit).trans hp))

theorem panelChange_unplaced {a : Byte} (h : Admitted s k a fade q)
    (hp : place .panel k (panelArg k a) q (fadeOf s fade) s = (s, .error st)) :
    panelChange k (panelArg k a) fade s = (s, ⟨st, []⟩) := by
  have hadmit := admitted_ok h
  obtain ⟨hformed, hroute, -⟩ := h
  refine panelChange_error hformed.1 (argRefusal_none hformed)
    (requestRouted_refused (fun hf => ?_) ((requestHere_placed hadmit).trans hp))
  rw [show (s.sar.sources.get .panel).route = _ from hroute] at hf
  cases hf

end Sys2Proof.Machine
end

section
/-! Requests that start, wait and merge (03 R53 to R55). -/

namespace Sys2Proof.Machine
open Sys2Proof

/-! ## The start of a change on CSQ and LMC -/

theorem blankingEnd_retry {s : State} (h : s.csq.retry = 0) : (blankingEnd s).csq.retry = 0 := by
  unfold blankingEnd
  split
  · dsimp only
    split
    · unfold toTarget
      split
      · split <;> first | rfl | exact h
      · exact h
    · exact h
  · exact h

theorem startBlanking_retry {f : Flight} {s : State} (h : s.csq.retry = 0) : (startBlanking f s).csq.retry = 0 := by
  unfold startBlanking
  dsimp only
  (repeat' split) <;> first | exact blankingEnd_retry h | exact h

theorem markDim_dim (l : Lmc) : l.markDim.dim = true := by
  unfold Lmc.markDim
  dsimp only
  split <;> rfl

theorem fadeClaim_dark (l : Lmc) (fade : Nat) : (l.fadeClaim fade).dim = l.dim ∧ (l.fadeClaim fade).claim ≠ .none := by
  unfold Lmc.fadeClaim
  split
  · next h => exact ⟨rfl, by simp [h]⟩
  · dsimp only
    split <;> exact ⟨rfl, nofun⟩

/-- BLANKING by the lamp: the DIM mark and a claim. -/
theorem startBlanking_dim {f : Flight} (hf : f.dim = true) (s : State) :
    (startBlanking f s).lmc.dim = true ∧ (startBlanking f s).lmc.claim ≠ .none := by
  obtain ⟨hdim, hclaim⟩ := fadeClaim_dark s.lmc.markDim f.fade
  unfold startBlanking
  dsimp only
  rw [if_pos hf]
  split
  · simp only [blankingEnd_frame]
    exact ⟨hdim.trans (markDim_dim _), nofun⟩
  · exact ⟨hdim.trans (markDim_dim _), hclaim⟩

/-- BLANKING by the shutter: it is commanded closed. -/
theorem startBlanking_shut {f : Flight} (hf : f.dim = false) (s : State) :
    (startBlanking f s).csq.shutClosed = true := by
  unfold startBlanking
  dsimp only
  rw [if_neg (by simp [hf])]
  split
  · simp only [blankingEnd_frame]
    rfl
  · rfl

theorem startChange_csq (src : Source) (k : ChangeKind) (q d : Nat) (s : State) :
    (startChange src k q d s).csq.retry = 0 ∧ (startChange src k q d s).csq.stop = .none := by
  refine ⟨startBlanking_retry rfl, ?_⟩
  unfold startChange
  dsimp only
  rw [startBlanking_stop]
  rfl

theorem startChange_blanks (src : Source) (k : ChangeKind) (q d : Nat) (s : State) :
    (s.csq.cfg.dim = true ∨ s.csq.shutFault = true →
      (startChange src k q d s).lmc.dim = true ∧ (startChange src k q d s).lmc.claim ≠ .none)
    ∧ (s.csq.cfg.dim = false ∧ s.csq.shutFault = false → (startChange src k q d s).csq.shutClosed = true) := by
  refine ⟨fun h => startBlanking_dim ?_ _, fun h => startBlanking_shut ?_ _⟩
  · change (s.csq.cfg.dim || s.csq.shutFault) = true
    rcases h with h | h <;> simp [h]
  · change (s.csq.cfg.dim || s.csq.shutFault) = false
    simp [h]

theorem takenPayload_eq (x : Taken) {s t : State} (h : t.sar.waiting = s.sar.waiting) :
    takenPayload x t = [b8 x.disp.code, optByte 0xFF x.target, pendingCount s] := by
  rw [takenPayload, pendingCount, h]
  cases s.sar.waiting <;> rfl

theorem awake_of_startable {s : State} {k : ChangeKind} (hp : Powered s) (h : Startable s k) : Awake s :=
  ⟨hp, .inl h.1⟩

/-- Settles O26: a startable request is placed as a start (`place_starts`), and the start latches the change
(`startChange_flight`) and darkens the gate (`startChange_blanks`). -/
theorem transportRequestStartsAChange : Obligations.TransportRequestStartsAChange := by
  intro s k a fade q hp hadmit hstart
  obtain ⟨hcan, hten, hwait⟩ := (startable_iff s k).mp hstart
  have hplace := panelChange_placed hadmit (place_starts (n := panelArg k a) (d := fadeOf s fade) (q := q) hcan hten hwait)
  obtain ⟨hactive, hreveal⟩ := startChange_underway .panel k q (fadeOf s fade) s
  obtain ⟨hretry, hstop⟩ := startChange_csq .panel k q (fadeOf s fade) s
  obtain ⟨hdim, hshut⟩ := startChange_blanks .panel k q (fadeOf s fade) s
  have hsar := startChange_sar .panel k q (fadeOf s fade) s
  have hpay := takenPayload_eq (s := s) (t := startChange .panel k q (fadeOf s fade) s)
    ⟨.started, .started, some q⟩ (by rw [hsar])
  refine ⟨_, (exec_panelChangeOf k a fade s).trans (run_answers (awake_of_startable hp hstart) hplace), ?_⟩
  simp only [finish_frame]
  refine ⟨?_, ?_, hactive, hreveal, hretry, hstop, hsar, hdim, hshut, fun hi => ?_, fun hst => ?_, ?_⟩
  · simp only [answered, hpay]
    rfl
  · refine (startChange_flight .panel k q (fadeOf s fade) s).trans (congrArg some ?_)
    cases k <;> rfl
  · exact (startChange_show .panel k q _ s (by simp [hi])).2
  · exact startChange_transport hst (power_ne_reset (awake_of_startable hp hstart)) _ _ _ _
  · simp [answered, idleZero]

/-! ## The pending rules -/

/-- An admitted request that cannot start goes by the pending rules. -/
theorem place_unstartable {s : State} {k : ChangeKind} {n q d : Nat} (h : ¬ Startable s k) :
    place .panel k n q d s = pend .panel k n q d s := place_pends (mt (startable_iff s k).mpr h)

theorem exec_placed {s t : State} {k : ChangeKind} {a fade : Byte} {q : Nat} {e : Disposition × Nat} (h : Awake s)
    (hadmit : Admitted s k a fade q) (hn : ¬ Startable s k)
    (hp : pend .panel k (panelArg k a) q (fadeOf s fade) s = (t, .ok e)) :
    exec (panelChangeOf k a fade) s = .next (finish (answered .ok
      [b8 e.1.code, b8 e.2, pendingCount t] t)) := by
  rw [exec_panelChangeOf]
  refine (run_answers h (panelChange_placed hadmit ((place_unstartable hn).trans hp))).trans ?_
  rw [takenPayload_eq ⟨e.1, e.1, some e.2⟩ (rfl : t.sar.waiting = t.sar.waiting)]
  rfl

/-- An admitted request that becomes the pending change. -/
theorem exec_waits {s t u : State} {k : ChangeKind} {a fade c : Byte} {q r : Nat} {w : Waiting} {disp : Disposition}
    (h : Awake s) (hadmit : Admitted s k a fade q) (hn : ¬ Startable s k)
    (hp : pend .panel k (panelArg k a) q (fadeOf s fade) s = (setWaiting (some w) t, .ok (disp, r)))
    (hc : b8 disp.code = c) (hu : setWaiting (some w) t = u) :
    exec (panelChangeOf k a fade) s = .next (finish (answered .ok [c, b8 r, signedByte w.count] u)) := by
  have hcount : pendingCount u = signedByte w.count := by
    rw [← hu]
    rfl
  rw [exec_placed h hadmit hn hp, hc, hu, hcount]

theorem exec_unplaced {s : State} {k : ChangeKind} {a fade : Byte} {q : Nat} {st : Status} (h : Awake s)
    (hadmit : Admitted s k a fade q) (hn : ¬ Startable s k)
    (hp : pend .panel k (panelArg k a) q (fadeOf s fade) s = (s, .error st)) :
    exec (panelChangeOf k a fade) s = .next (finish (answered st [] s)) := by
  rw [exec_panelChangeOf]
  exact run_answers h (panelChange_unplaced hadmit ((place_unstartable hn).trans hp))

theorem fadeOf_eq (s : State) (fade : Byte) :
    fadeOf s fade = if fade = 0xFF then s.sar.cfg.fade else fade.toNat := rfl

/-- What dropping the pending change leaves alone. -/
theorem dropWaiting_csq (o : ChangeOutcome) (s : State) : (dropWaiting o s).csq = s.csq := by
  simp

/-- REPLACED completes no step of CRN. -/
theorem dropWaiting_replaced_crn (s : State) : (dropWaiting .replaced s).crn = s.crn := by
  unfold dropWaiting
  split
  · rfl
  · dsimp only
    rw [if_neg (by simp)]
    simp

theorem dropWaiting_change {s : State} {w : Waiting} (hw : s.sar.waiting = some w)
    (hm : s.sar.cfg.mask.get w.source = true) : (dropWaiting .replaced s).pnp.pend.change = true := by
  simp only [dropWaiting, hw]
  rw [if_neg (by simp)]
  exact writeRecord_change (s := { s with sar := { s.sar with waiting := none } }) hm ..

theorem pend_merged {s : State} {k : ChangeKind} {n q d r : Nat} {w : Waiting} {kind : ChangeKind}
    (hw : s.sar.waiting = some w) (hs : w.source = .panel) (hwk : w.kind.steps = true) (hk : k.steps = true)
    (h0 : w.count + signedCount k n ≠ 0) (h15 : (w.count + signedCount k n).natAbs ≤ 15)
    (hkind : mergedKind (w.count + signedCount k n) = kind)
    (hr : s.tru.resolve kind (w.count + signedCount k n).natAbs ((expected s).getD 0) = .ok r)
    (hb : s.sar.sources.panel.base ≤ r) (hl : r ≤ s.sar.sources.panel.limit) : pend .panel k n q d s
      = (setWaiting (some ⟨.panel, kind, w.count + signedCount k n, r, d⟩) s, .ok (.merged, r)) := by
  subst hkind
  rw [pend_merges hw hs hwk hk, merge_resolved h0 h15 hr]
  exact if_pos ((insideWindow_iff _ _ _).mpr (.inr ⟨hb, hl⟩))

theorem pend_unmerged {s : State} {k : ChangeKind} {n q d : Nat} {w : Waiting} {st : Status} {kind : ChangeKind}
    (hw : s.sar.waiting = some w) (hs : w.source = .panel) (hwk : w.kind.steps = true) (hk : k.steps = true)
    (h0 : w.count + signedCount k n ≠ 0) (h15 : (w.count + signedCount k n).natAbs ≤ 15)
    (hkind : mergedKind (w.count + signedCount k n) = kind)
    (hr : s.tru.resolve kind (w.count + signedCount k n).natAbs ((expected s).getD 0) = .error st) :
    pend .panel k n q d s = (s, .error st) := by
  subst hkind
  rw [pend_merges hw hs hwk hk, merge_error h0 h15 hr]

theorem pend_outside {s : State} {k : ChangeKind} {n q d r : Nat} {w : Waiting}
    (hw : s.sar.waiting = some w) (hs : w.source = .panel) (hwk : w.kind.steps = true) (hk : k.steps = true)
    (h0 : w.count + signedCount k n ≠ 0) (h15 : (w.count + signedCount k n).natAbs ≤ 15)
    (hr : s.tru.resolve (mergedKind (w.count + signedCount k n)) (w.count + signedCount k n).natAbs
      ((expected s).getD 0) = .ok r)
    (hout : r < s.sar.sources.panel.base ∨ s.sar.sources.panel.limit < r) :
    pend .panel k n q d s = (s, .error .outOfWindow) := by
  rw [pend_merges hw hs hwk hk, merge_resolved h0 h15 hr, if_neg]
  intro hin
  obtain ⟨hb, hl⟩ := ((insideWindow_iff _ _ _).mp hin).resolve_left (mergedKind_ne_home _)
  change s.sar.sources.panel.base ≤ r at hb
  change r ≤ s.sar.sources.panel.limit at hl
  omega

theorem mergedKind_pos {x : Int} (h : 0 < x) : mergedKind x = .advance := if_pos h

theorem mergedKind_neg {x : Int} (h : x < 0) : mergedKind x = .reverse := if_neg (by omega)

theorem resolve_noSlide {t : Tru} {n b : Nat} {st : Status}
    (h : t.resolve .advance n b = .error st ∨ t.resolve .reverse n b = .error st) : st = .noSlide := by
  have step (o : Option Nat) (h : (match o with
      | some p => Except.ok p
      | none => Except.error Status.noSlide) = .error st) : st = .noSlide := by
    cases o with
    | none => exact (Except.error.inj h).symm
    | some p => cases h
  rcases h with h | h <;> exact step _ h

theorem pending_replaces {s : State} {k : ChangeKind} {a fade : Byte} {q : Nat} {w : Waiting} (h : Awake s)
    (hadmit : Admitted s k a fade q) (hn : ¬ Startable s k) (hw : s.sar.waiting = some w) (hs : w.source = .panel)
    (hk : w.kind.steps = false ∨ k.steps = false) :
    ∃ t, exec (panelChangeOf k a fade) s = .next t
      ∧ t.pnp.resp = some ⟨.ok, [1, b8 q, signedByte (signedCount k a.toNat)]⟩
      ∧ t.sar.waiting = some
        ⟨.panel, k, signedCount k a.toNat, q, if fade = 0xFF then s.sar.cfg.fade else fade.toNat⟩
      ∧ t.sar.last.panel = ⟨some w.kind, some w.target, .replaced, .none, s.sar.last.panel.refusals⟩
      ∧ (s.sar.cfg.mask.panel = true → t.pnp.pend.change = true) ∧ t.csq = s.csq ∧ t.crn = s.crn := by
  have hlast := dropWaiting_last hw .replaced
  rw [hs] at hlast
  have hpend := pend_replaces (src := .panel) (k := k) (n := panelArg k a) (q := q) (d := fadeOf s fade) hw hs hk
  rw [waitingFor_panelArg] at hpend
  refine ⟨_, exec_waits (c := 1) h hadmit hn hpend rfl rfl, ?_⟩
  rw [(finish_pend _).1]
  simp only [finish_frame]
  exact ⟨rfl, rfl, hlast, fun hm => dropWaiting_change hw (hs ▸ hm), dropWaiting_csq .replaced s,
    dropWaiting_replaced_crn s⟩

theorem pending_displaces {s : State} {k : ChangeKind} {a fade : Byte} {q : Nat} {w : Waiting} (h : Awake s)
    (hadmit : Admitted s k a fade q) (hn : ¬ Startable s k) (hw : s.sar.waiting = some w) (hs : w.source ≠ .panel)
    (hp : priority s .panel < priority s w.source) :
    ∃ t, exec (panelChangeOf k a fade) s = .next t
      ∧ t.pnp.resp = some ⟨.ok, [1, b8 q, signedByte (signedCount k a.toNat)]⟩
      ∧ t.sar.waiting = some
        ⟨.panel, k, signedCount k a.toNat, q, if fade = 0xFF then s.sar.cfg.fade else fade.toNat⟩
      ∧ t.sar.last.get w.source
        = ⟨some w.kind, some w.target, .displaced, .none, (s.sar.last.get w.source).refusals⟩
      ∧ t.csq = s.csq := by
  have hpend := pend_displaces (src := .panel) (k := k) (n := panelArg k a) (q := q) (d := fadeOf s fade) hw hs hp
  rw [waitingFor_panelArg] at hpend
  refine ⟨_, exec_waits (c := 1) h hadmit hn hpend rfl rfl, ?_⟩
  simp only [finish_frame]
  exact ⟨rfl, rfl, dropWaiting_last hw .displaced, dropWaiting_csq .displaced s⟩

theorem pending_mergedOut {s : State} {k : ChangeKind} {a fade : Byte} {q : Nat} {w : Waiting} (h : Awake s)
    (hadmit : Admitted s k a fade q) (hn : ¬ Startable s k) (hw : s.sar.waiting = some w) (hs : w.source = .panel)
    (hwk : w.kind.steps = true) (hk : k.steps = true) (h0 : w.count + signedCount k a.toNat = 0) :
    ∃ t, exec (panelChangeOf k a fade) s = .next t
      ∧ t.pnp.resp = some ⟨.ok, [3, b8 ((expected s).getD 0), 0]⟩ ∧ t.sar.waiting = none
      ∧ t.sar.last.panel = ⟨some w.kind, some w.target, .mergedOut, .none, s.sar.last.panel.refusals⟩
      ∧ t.csq = s.csq := by
  have hlast := dropWaiting_last hw .mergedOut
  rw [hs] at hlast
  have hpend := pend_merges (src := .panel) (n := panelArg k a) (q := q) (d := fadeOf s fade) hw hs hwk hk
  rw [signedCount_panelArg, merge_out h0] at hpend
  have hcount : pendingCount (dropWaiting .mergedOut s) = 0 := by
    simp only [pendingCount, dropWaiting_waiting]
  refine ⟨_, exec_placed h hadmit hn hpend, ?_⟩
  simp only [finish_frame, hcount]
  exact ⟨rfl, dropWaiting_waiting .mergedOut s, hlast, dropWaiting_csq .mergedOut s⟩

/-- A merged request that the tray and the window take. -/
theorem pending_merges {s : State} {k : ChangeKind} {a fade : Byte} {q r : Nat} {w : Waiting} {kind : ChangeKind}
    (h : Awake s) (hadmit : Admitted s k a fade q) (hn : ¬ Startable s k) (hw : s.sar.waiting = some w)
    (hs : w.source = .panel) (hwk : w.kind.steps = true) (hk : k.steps = true)
    (h0 : w.count + signedCount k a.toNat ≠ 0) (h15 : (w.count + signedCount k a.toNat).natAbs ≤ 15)
    (hkind : mergedKind (w.count + signedCount k a.toNat) = kind)
    (hr : s.tru.resolve kind (w.count + signedCount k a.toNat).natAbs ((expected s).getD 0) = .ok r)
    (hb : s.sar.sources.panel.base ≤ r) (hl : r ≤ s.sar.sources.panel.limit) :
    exec (panelChangeOf k a fade) s = .next (finish (answered .ok
      [2, b8 r, signedByte (w.count + signedCount k a.toNat)]
      { s with sar := { s.sar with waiting := some ⟨.panel, kind, w.count + signedCount k a.toNat, r,
        if fade = 0xFF then s.sar.cfg.fade else fade.toNat⟩ } })) := by
  rw [← signedCount_panelArg] at h0 h15 hkind hr ⊢
  have heq := exec_waits (c := 2) h hadmit hn (pend_merged hw hs hwk hk h0 h15 hkind hr hb hl) rfl rfl
  exact heq

theorem pending_unmerged {s : State} {k : ChangeKind} {a fade : Byte} {q : Nat} {w : Waiting} {st : Status}
    {kind : ChangeKind} (h : Awake s) (hadmit : Admitted s k a fade q) (hn : ¬ Startable s k)
    (hw : s.sar.waiting = some w) (hs : w.source = .panel) (hwk : w.kind.steps = true) (hk : k.steps = true)
    (h0 : w.count + signedCount k a.toNat ≠ 0) (h15 : (w.count + signedCount k a.toNat).natAbs ≤ 15)
    (hkind : mergedKind (w.count + signedCount k a.toNat) = kind)
    (hr : s.tru.resolve kind (w.count + signedCount k a.toNat).natAbs ((expected s).getD 0) = .error st) :
    exec (panelChangeOf k a fade) s = .next (finish (answered st [] s)) := by
  rw [← signedCount_panelArg] at h0 h15 hkind hr
  exact exec_unplaced h hadmit hn (pend_unmerged hw hs hwk hk h0 h15 hkind hr)

/-- Settles O27: a request that cannot start waits, replaces, displaces or is refused by the source of the pending change
(`pend_empty` to `pend_busy`), and steps of one source merge by their sum (`merge_out` to `merge_resolved`). -/
theorem pendingRulesAndMerging : Obligations.PendingRulesAndMerging := by
  refine ⟨fun s k a fade q h hadmit hn hw => ?_,
    fun s k a fade q w h hadmit hn hw hs hk => pending_replaces h hadmit hn hw hs hk,
    fun s k a fade q w h hadmit hn hw hs hp => pending_displaces h hadmit hn hw hs hp,
    fun s k a fade q w h hadmit hn hw hs hp => exec_unplaced h hadmit hn (pend_busy hw hs hp),
    fun s k a fade q w h hadmit hn hw hs hwk hk h0 => pending_mergedOut h hadmit hn hw hs hwk hk h0,
    fun s k a fade q w h hadmit hn hw hs hwk hk h15 => ?_,
    fun s k a fade q r w h hadmit hn hw hs hwk hk hpos h15 hr hb hl =>
      pending_merges h hadmit hn hw hs hwk hk (by omega) (by omega) (mergedKind_pos hpos) hr hb hl,
    fun s k a fade q r w h hadmit hn hw hs hwk hk hneg h15 hr hb hl =>
      pending_merges h hadmit hn hw hs hwk hk (by omega) (by omega) (mergedKind_neg hneg) hr hb hl,
    fun s k a fade q w st h hadmit hn hw hs hwk hk hpos h15 hr =>
      pending_unmerged h hadmit hn hw hs hwk hk (by omega) (by omega) (mergedKind_pos hpos) hr,
    fun s k a fade q r w h hadmit hn hw hs hwk hk h0 h15 hr hout => ?_, fun t n b st hr => resolve_noSlide hr,
    fun s k a fade q w st h hadmit hn hw hs hwk hk hneg h15 hr =>
      pending_unmerged h hadmit hn hw hs hwk hk (by omega) (by omega) (mergedKind_neg hneg) hr⟩
  · have hpend := pend_empty (src := .panel) (k := k) (n := panelArg k a) (q := q) (d := fadeOf s fade) hw
    rw [waitingFor_panelArg] at hpend
    have heq := exec_waits (c := 1) h hadmit hn hpend rfl rfl
    exact heq
  · refine exec_unplaced h hadmit hn ?_
    rw [pend_merges hw hs hwk hk, signedCount_panelArg, merge_range h15]
  · rw [← signedCount_panelArg] at h0 h15 hr
    exact exec_unplaced h hadmit hn (pend_outside hw hs hwk hk h0 h15 hr hout)

end Sys2Proof.Machine
end

section
/-! The operations of a change read no route: what they make of a state does not depend on the routes of its sources, but for
the routes themselves (03 R51, R63). -/

namespace Sys2Proof.Machine
open Sys2Proof

/-- The state with other source records. -/
def withSources (x : PerSource SourceRec) (s : State) : State := { s with sar := { s.sar with sources := x } }

/-- The operation does not look at the source records. -/
def Blind (f : State → State) : Prop := ∀ x s, f (withSources x s) = withSources x (f s)

theorem Blind.comp {f g : State → State} (hf : Blind f) (hg : Blind g) : Blind fun s => f (g s) := fun x s => by
  change f (g (withSources x s)) = withSources x (f (g s))
  rw [hg, hf]

theorem Blind.ite {c : State → Prop} [∀ s, Decidable (c s)] {f g : State → State}
    (hc : ∀ x s, c (withSources x s) ↔ c s) (hf : Blind f) (hg : Blind g) :
    Blind fun s => if c s then f s else g s := fun x s => by
  by_cases h : c s
  · simp only [if_pos h, if_pos ((hc x s).mpr h), hf x s]
  · simp only [if_neg h, if_neg (mt (hc x s).mp h), hg x s]

theorem Blind.id : Blind fun s => s := fun _ _ => rfl

/-! ## Shows -/

theorem setPhase_blind (p : Show) : Blind (setPhase p) :=
  .ite (c := fun s => s.shc.phase = p) (fun _ _ => Iff.rfl) .id fun _ _ => rfl

theorem stopClaimPlain_blind : Blind stopClaimPlain :=
  .comp (f := deckHalt) (fun _ _ => rfl)
    (.ite (c := fun s => s.dkc.deck = .fault) (fun _ _ => Iff.rfl) (fun _ _ => rfl) .id)

theorem endShow_blind : Blind endShow :=
  .comp (f := stopDwell) (fun _ _ => rfl) (.comp (setPhase_blind .stopped) stopClaimPlain_blind)

theorem endCheck_blind : Blind endCheck :=
  .ite (c := fun s => s.shc.phase = .ending ∧ s.runOut = true) (fun _ _ => Iff.rfl) endShow_blind .id

theorem deckSettle_blind : Blind deckSettle :=
  .ite (c := fun s => s.dkc.deck = .starting ∧ s.pins.running = true) (fun _ _ => Iff.rfl) (fun _ _ => rfl) .id

theorem deckStart_blind : Blind deckStart :=
  .comp deckSettle_blind
    (g := fun s => { s with dkc := { s.dkc with deck := .starting, timerMs := 0, stall := none, stopPulse := none } })
    fun _ _ => rfl

theorem leaveHeld_blind : Blind leaveHeld := by
  intro x s
  have hphase : setPhase (leaveTo s) (setEnded false (withSources x s))
      = withSources x (setPhase (leaveTo s) (setEnded false s)) := setPhase_blind _ x (setEnded false s)
  have hto : leaveTo (withSources x s) = leaveTo s := rfl
  have hdeck : (withSources x s).dkc = s.dkc := rfl
  unfold leaveHeld
  dsimp only
  rw [hto, hphase, hdeck, ← endCheck_blind]
  refine congrArg endCheck ?_
  split
  · split
    · exact deckStart_blind x _
    · rfl
  · rfl

theorem removeCause_blind (c : Cause) : Blind (removeCause c) :=
  .ite (c := fun s => s.pnp.power = .resetHeld ∨ s.shc.causes.get c = false) (fun _ _ => Iff.rfl) .id
    (.ite (c := fun s => s.shc.phase = .held ∧ (setCause c false s).shc.causes.isEmpty = true
        ∧ s.shc.autoResume = true) (fun _ _ => Iff.rfl)
      (.comp leaveHeld_blind (g := setCause c false) fun _ _ => rfl) fun _ _ => rfl)

/-! ## CSQ -/

theorem toTarget_blind : Blind toTarget := by
  intro x s
  have hflight : (withSources x s).csq.flight = s.csq.flight := rfl
  have htru : (withSources x s).tru = s.tru := rfl
  unfold toTarget
  rw [hflight, htru]
  split
  · split <;> rfl
  · rfl

theorem blankingEnd_blind : Blind blankingEnd :=
  .ite (c := fun s => s.csq.state = .blanking) (fun _ _ => Iff.rfl)
    (.comp (g := setCsq fun q => { q with shutMs := none })
      (.ite (c := fun s => s.csq.gate = .empty) (fun _ _ => Iff.rfl) toTarget_blind fun _ _ => rfl) fun _ _ => rfl) .id

theorem startBlanking_blind (f : Flight) : Blind (startBlanking f) :=
  .comp (g := setCsq fun q => { q with state := .blanking })
    (.ite (c := fun _ => f.dim = true) (fun _ _ => Iff.rfl)
      (.comp (g := setLmc fun l => l.markDim.fadeClaim f.fade)
        (.ite (c := fun s => s.lmc.output = 0) (fun _ _ => Iff.rfl)
          (.comp blankingEnd_blind (g := setLmc Lmc.holdClaim) fun _ _ => rfl) .id) fun _ _ => rfl)
      (.comp (g := setCsq fun q => { q with shutClosed := true, shutMs := some 0 })
        (.ite (c := fun s => s.pins.shcl = true) (fun _ _ => Iff.rfl) blankingEnd_blind .id) fun _ _ => rfl))
    fun _ _ => rfl

/-! ## SAR -/

theorem raiseChange_blind : Blind raiseChange := fun _ _ => rfl

theorem writeRecord_blind (src : Source) (k : ChangeKind) (q : Nat) (o : ChangeOutcome) (p : FinalPos) :
    Blind (writeRecord src k q o p) :=
  .ite (c := fun s => s.sar.cfg.mask.get src = true) (fun _ _ => Iff.rfl)
    (.comp raiseChange_blind
      (g := fun s => { s with sar := { s.sar with
        last := s.sar.last.set src ⟨some k, some q, o, p, (s.sar.last.get src).refusals⟩ } }) fun _ _ => rfl)
    fun _ _ => rfl

theorem stepComplete_blind : Blind stepComplete := by
  intro x s
  have hcrn : (withSources x s).crn = s.crn := rfl
  have hcdc : (withSources x s).cdc = s.cdc := rfl
  unfold stepComplete
  rw [hcrn, hcdc]
  split
  · rfl
  · dsimp only
    split
    · split <;> rfl
    · rfl

theorem dropWaiting_blind (o : ChangeOutcome) : Blind (dropWaiting o) := by
  intro x s
  cases hw : s.sar.waiting with
  | none => rw [dropWaiting_none hw, dropWaiting_none (s := withSources x s) hw]
  | some w =>
    have hrec := writeRecord_blind w.source w.kind w.target o .none x { s with sar := { s.sar with waiting := none } }
    have hw' : (withSources x s).sar.waiting = some w := hw
    simp only [dropWaiting, hw, hw']
    change (if w.source = .program ∧ (writeRecord w.source w.kind w.target o .none
      (withSources x { s with sar := { s.sar with waiting := none } })).crn.awaited = .pending ∧ o ≠ .replaced
      then _ else _) = _
    rw [hrec]
    have hcrn (t : State) : (withSources x t).crn = t.crn := rfl
    rw [hcrn]
    split
    · exact (congrArg stepComplete hrec).trans (stepComplete_blind x _)
    · exact hrec

/-! ## Requests -/

/-- The records of two source settings agree but for their routes. -/
def SameButRoute (x y : PerSource SourceRec) : Prop :=
  ∀ src, x.get src = { y.get src with route := (x.get src).route }

section
variable {x : PerSource SourceRec} {s : State} (h : SameButRoute x s.sar.sources)
include h

theorem SameButRoute.priority (src : Source) : priority (withSources x s) src = priority s src :=
  congrArg (·.priority) (h src)

theorem SameButRoute.window (src : Source) (k : ChangeKind) (q : Nat) :
    insideWindow (x.get src) k q = insideWindow (s.sar.sources.get src) k q := by
  rw [h src]
  rfl

theorem SameButRoute.tenureLets (src : Source) : tenureLets src (withSources x s) = tenureLets src s := by
  have hholder : (withSources x s).sar.holder = s.sar.holder := rfl
  unfold Machine.tenureLets
  rw [hholder]
  simp only [h.priority]

theorem SameButRoute.startChange (src : Source) (k : ChangeKind) (q d : Nat) :
    startChange src k q d (withSources x s) = withSources x (startChange src k q d s) := by
  have hbase : (x.get src).base = (s.sar.sources.get src).base := congrArg (·.base) (h src)
  have hlimit : (x.get src).limit = (s.sar.sources.get src).limit := congrArg (·.limit) (h src)
  have hfirst : (if (withSources x s).csq.state = .stalled then removeCause .transport (endTenure (withSources x s))
      else endTenure (withSources x s))
      = withSources x (if s.csq.state = .stalled then removeCause .transport (endTenure s) else endTenure s) :=
    Blind.ite (c := fun s => s.csq.state = .stalled) (fun _ _ => Iff.rfl)
      (.comp (removeCause_blind .transport) (g := endTenure) fun _ _ => rfl) (g := endTenure) (fun _ _ => rfl) x s
  have hget : (withSources x s).sar.sources.get src = x.get src := rfl
  unfold Machine.startChange
  dsimp only
  rw [hfirst, hget, hbase, hlimit]
  refine Eq.trans (congrArg (startBlanking _) ?_) (startBlanking_blind _ x _)
  rfl

theorem SameButRoute.merge (w : Waiting) (src : Source) (c : Int) (d : Nat) : merge w src c d (withSources x s)
    = (withSources x (merge w src c d s).1, (merge w src c d s).2) := by
  have hget : (withSources x s).sar.sources.get src = x.get src := rfl
  have hexpected : expected (withSources x s) = expected s := rfl
  have htru : (withSources x s).tru = s.tru := rfl
  unfold Machine.merge
  dsimp only
  rw [hexpected, htru, hget]
  simp only [h.window]
  split
  · rw [dropWaiting_blind]
  · split
    · rfl
    · split
      · rfl
      · generalize insideWindow _ _ _ = inside
        cases inside <;> rfl

theorem SameButRoute.pend (src : Source) (k : ChangeKind) (n q d : Nat) : pend src k n q d (withSources x s)
    = (withSources x (pend src k n q d s).1, (pend src k n q d s).2) := by
  have hwait : (withSources x s).sar.waiting = s.sar.waiting := rfl
  unfold Machine.pend
  dsimp only
  rw [hwait]
  split
  · rfl
  · simp only [h.priority]
    split
    · split
      · exact h.merge ..
      · rw [dropWaiting_blind]
        rfl
    · split
      · rw [dropWaiting_blind]
        rfl
      · rfl

theorem SameButRoute.place (src : Source) (k : ChangeKind) (n q d : Nat) : place src k n q d (withSources x s)
    = (withSources x (place src k n q d s).1, (place src k n q d s).2) := by
  have hcan : canStart k (withSources x s) = canStart k s := rfl
  have hholder : (withSources x s).sar.holder = s.sar.holder := rfl
  have hwait : (withSources x s).sar.waiting = s.sar.waiting := rfl
  unfold Machine.place
  rw [hcan, h.tenureLets, hholder, hwait]
  split
  · rw [h.startChange]
  · exact h.pend ..

theorem SameButRoute.admitRequest (src : Source) (k : ChangeKind) (n : Nat) :
    admitRequest src k n (withSources x s) = admitRequest src k n s := by
  have hget : (withSources x s).sar.sources.get src = x.get src := rfl
  have hexpected : expected (withSources x s) = expected s := rfl
  have htru : (withSources x s).tru = s.tru := rfl
  have hcsq : (withSources x s).csq = s.csq := rfl
  unfold Machine.admitRequest
  rw [hexpected, htru, hget, hcsq]
  simp only [h.window]

theorem SameButRoute.requestHere (src : Source) (k : ChangeKind) (n d : Nat) : requestHere src k n d (withSources x s)
    = (withSources x (requestHere src k n d s).1, (requestHere src k n d s).2) := by
  unfold Machine.requestHere
  rw [h.admitRequest]
  split
  · rfl
  · exact h.place ..

theorem SameButRoute.classOk (src : Source) (c : ReqClass) : classOk src c (withSources x s) = classOk src c s := by
  have hget : (withSources x s).sar.sources.get src = x.get src := rfl
  unfold Machine.classOk
  rw [hget, h src]
  cases c <;> rfl

end

theorem finish_blind : Blind finish := by
  intro x s
  rw [finish_eq, finish_eq]
  rfl

end Sys2Proof.Machine
end

section
/-! The refusals of a transport request and its routes FORWARD and BOTH (03 R51, R62, R63). -/

namespace Sys2Proof.Machine
open Sys2Proof

variable {s t : State} {k : ChangeKind} {a fade : Byte} {st : Status} {q : Nat}

theorem takenPayload_pending (x : Taken) (t : State) :
    takenPayload x t = [b8 x.disp.code, optByte 0xFF x.target, pendingCount t] := takenPayload_eq x rfl

theorem argRefusal_range (h : (k.steps = true ∧ (a.toNat = 0 ∨ 15 < a.toNat)) ∨ (k = .seek ∧ 99 < a.toNat)) :
    argRefusal k (panelArg k a) fade = some .range := by
  rcases h with ⟨hk, ha⟩ | ⟨hk, ha⟩
  · rw [panelArg_of_ne (by rintro rfl; cases hk)]
    exact if_pos ⟨hk, by omega⟩
  · subst hk
    rw [panelArg_of_ne (by decide)]
    unfold argRefusal
    rw [if_neg (by simp [ChangeKind.steps]), if_pos ⟨rfl, ha⟩]

theorem argRefusal_fade (hsteps : k.steps = true → 1 ≤ a.toNat ∧ a.toNat ≤ 15) (hseek : k = .seek → a.toNat ≤ 99)
    (hf : 99 < fade.toNat) (hne : fade ≠ 0xFF) : argRefusal k (panelArg k a) fade = some .badArg := by
  have hfade : fadeOk fade = false := by
    have hbyte : fade ≠ Config.defaultFadeByte := hne
    simp [fadeOk, hbyte, hf]
  unfold argRefusal
  rw [if_neg, if_neg, if_pos hfade]
  · rintro ⟨hk, h99⟩
    rw [panelArg_of_ne (by simp [hk])] at h99
    have := hseek hk
    omega
  · rintro ⟨hk, hn⟩
    rw [panelArg_of_ne (by rintro rfl; cases hk)] at hn
    have := hsteps hk
    omega

/-- A well-formed request that is refused locally. -/
theorem exec_refused_here (h : Awake s) (hform : Formed s k a fade) (hr : s.sar.sources.panel.route ≠ .forward)
    (hadmit : admitRequest .panel k (panelArg k a) s = .error st) :
    exec (panelChangeOf k a fade) s = .next (finish (answered st [] s)) := by
  rw [exec_panelChangeOf]
  exact run_answers h (panelChange_error hform.1 (argRefusal_none hform)
    (requestRouted_refused hr (requestHere_refused hadmit)))

theorem admitRequest_absent {src : Source} {n : Nat} (h : s.tru.present = false) :
    admitRequest src k n s = .error .trayAbsent := if_pos h

theorem admitRequest_unhomed {src : Source} {n : Nat} (h : s.tru.present = true) (hp : s.tru.position = none)
    (hk : k ≠ .home) : admitRequest src k n s = .error .notHomed := by
  simp [admitRequest, h, hp, hk]

theorem admitRequest_orphan {src : Source} {n : Nat} (h : s.tru.present = true)
    (hp : s.tru.position = none → k = .home) (hg : s.csq.gate = .seated) (ho : s.csq.origin = none) :
    admitRequest src k n s = .error .gateOrphan := by
  have hhome : ¬ (s.tru.position = none ∧ k ≠ .home) := fun h => h.2 (hp h.1)
  simp [admitRequest, h, if_neg hhome, Csq.orphaned, hg, ho]

theorem exec_forwards (h : Awake s) (hform : Formed s k a fade) (hr : s.sar.sources.panel.route = .forward)
    (hc : s.lkc.canTake = true) :
    exec (panelChangeOf k a fade) s = .next (finish (answered .ok [4, 0xFF, pendingCount s] { s with
      lkc := s.lkc.enqueue s.sar.sources.panel.dest.byte 1 [b8 k.code, if k = .home then 0 else a,
        if fade = 0xFF then b8 s.sar.cfg.fade else fade] })) := by
  have hrouted := requestRouted_forward (src := .panel) (k := k) (n := panelArg k a) (d := fadeOf s fade) hr hc
  rw [changePayload_panelArg] at hrouted
  rw [exec_panelChangeOf, run_answers h (panelChange_ok hform.1 (argRefusal_none hform) hrouted)]
  rw [takenPayload_pending]
  rfl

theorem exec_forward_full (h : Awake s) (hform : Formed s k a fade) (hr : s.sar.sources.panel.route = .forward)
    (hc : s.lkc.canTake = false) : exec (panelChangeOf k a fade) s = .next (finish (answered .busy [] s)) := by
  rw [exec_panelChangeOf]
  exact run_answers h (panelChange_error hform.1 (argRefusal_none hform) (requestRouted_full hr hc))

theorem requestHere_lkc (src : Source) (k : ChangeKind) (n d : Nat) (s : State) :
    (requestHere src k n d s).1.lkc = s.lkc := by
  simp

/-- A request under route BOTH that its local part takes as `e`. -/
theorem exec_both {e : Disposition × Nat} (h : Awake s) (hc : classOk .panel .transport s = true)
    (ha : argRefusal k (panelArg k a) fade = none) (hr : s.sar.sources.panel.route = .both)
    (hhere : requestHere .panel k (panelArg k a) (fadeOf s fade) s = (t, .ok e)) :
    exec (panelChangeOf k a fade) s = .next (finish (answered .ok
      [if s.lkc.canTake then 4 else 5, b8 e.2, pendingCount t] { t with
      lkc := offered s.lkc s.sar.sources.panel.dest.byte 1 [b8 k.code, if k = .home then 0 else a,
        if fade = 0xFF then b8 s.sar.cfg.fade else fade] })) := by
  have hlkc : t.lkc = s.lkc := by
    have hsame := requestHere_lkc .panel k (panelArg k a) (fadeOf s fade) s
    rwa [hhere] at hsame
  have hrouted := requestRouted_both (src := .panel) hr hhere
  rw [changePayload_panelArg, hlkc] at hrouted
  have hcode : b8 (if s.lkc.canTake then Disposition.forwarded else .forwardDropped).code
      = if s.lkc.canTake then 4 else 5 := by
    split <;> rfl
  rw [exec_panelChangeOf, run_answers h (panelChange_ok hc ha hrouted), takenPayload_pending, hcode]
  rfl

theorem both_starts (hp : Powered s) (hform : Formed s k a fade) (hr : s.sar.sources.panel.route = .both)
    (hplaced : Placed s k) (hq : s.tru.resolve k a.toNat ((expected s).getD 0) = .ok q)
    (hw : k = .home ∨ (s.sar.sources.panel.base ≤ q ∧ q ≤ s.sar.sources.panel.limit)) (hs : Startable s k) :
    ∃ t, exec (panelChangeOf k a fade) s = .next t
      ∧ t.pnp.resp = some ⟨.ok, [if s.lkc.canTake then 4 else 5, b8 q, pendingCount s]⟩
      ∧ t.csq.state.active = true ∧ t.sar.holder = none ∧ t.sar.waiting = s.sar.waiting
      ∧ t.csq.flight.map (fun f => (f.kind, f.owner, f.target, f.fade))
        = some (k, .panel, q, if fade = 0xFF then s.sar.cfg.fade else fade.toNat)
      ∧ t.lkc = (if s.lkc.canTake then s.lkc.enqueue s.sar.sources.panel.dest.byte 1
          [b8 k.code, if k = .home then 0 else a, if fade = 0xFF then b8 s.sar.cfg.fade else fade]
          else { s.lkc with overflow := true }) := by
  obtain ⟨hcan, hten, hwait⟩ := (startable_iff s k).mp hs
  have hadmit : admitRequest .panel k (panelArg k a) s = .ok q :=
    admitRequest_ok hplaced ((resolve_panelArg ..).trans hq) hw
  have hhere := (requestHere_placed (d := fadeOf s fade) hadmit).trans
    (place_starts (n := panelArg k a) (d := fadeOf s fade) (q := q) hcan hten hwait)
  have hsar := startChange_sar .panel k q (fadeOf s fade) s
  have hcount : pendingCount (startChange .panel k q (fadeOf s fade) s) = pendingCount s := by
    rw [pendingCount, pendingCount, hsar]
  refine ⟨_, exec_both (awake_of_startable hp hs) hform.1 (argRefusal_none hform) hr hhere, ?_⟩
  simp only [finish_frame, hcount]
  refine ⟨rfl, (startChange_underway .panel k q (fadeOf s fade) s).1, ?_, ?_, ?_, rfl⟩
  · exact congrArg (·.holder) hsar
  · exact congrArg (·.waiting) hsar
  · change (startChange .panel k q (fadeOf s fade) s).csq.flight.map _ = _
    rw [startChange_flight]
    rfl

/-! ## Route BOTH against route LOCAL -/

/-- The state with the panel's route LOCAL. -/
def routedHere (s : State) : State :=
  withSources { s.sar.sources with panel := { s.sar.sources.panel with route := .here } } s

theorem sameButRoute_here (x : PerSource SourceRec) :
    SameButRoute { x with panel := { x.panel with route := .here } } x := by
  intro src
  cases src <;> rfl

/-- What the panel's request makes of the state with the route LOCAL. -/
theorem exec_here {r : Except Status (Disposition × Nat)} (h : Awake s) (hc : classOk .panel .transport s = true)
    (ha : argRefusal k (panelArg k a) fade = none)
    (hhere : requestHere .panel k (panelArg k a) (fadeOf s fade) s = (t, r)) :
    exec (panelChangeOf k a fade) (routedHere s) = .next (finish (match r with
      | .ok e => answered .ok [b8 e.1.code, b8 e.2, pendingCount t]
          (withSources { s.sar.sources with panel := { s.sar.sources.panel with route := .here } } t)
      | .error st => answered st []
          (withSources { s.sar.sources with panel := { s.sar.sources.panel with route := .here } } t))) := by
  have hsame := sameButRoute_here s.sar.sources
  have hawake : Awake (routedHere s) := h
  have hc' : classOk .panel .transport (routedHere s) = true := (hsame.classOk ..).trans hc
  have hhere' := hsame.requestHere .panel k (panelArg k a) (fadeOf s fade)
  rw [hhere] at hhere'
  rw [exec_panelChangeOf]
  cases r with
  | ok e =>
    have hrouted := requestRouted_here (src := .panel) (s := routedHere s) rfl hhere'
    rw [run_answers hawake (panelChange_ok hc' ha hrouted), takenPayload_pending]
    rfl
  | error st =>
    have hrouted := requestRouted_refused (src := .panel) (s := routedHere s) nofun hhere'
    exact run_answers hawake (panelChange_error hc' ha hrouted)

theorem requestHere_unrouted (src : Source) (k : ChangeKind) (n d : Nat) (s : State) :
    (requestHere src k n d s).1.sar.sources = s.sar.sources := by
  simp

/-- A response of a state whose sources are set back. -/
theorem finish_restored {x y : PerSource SourceRec} {p : List Byte} (hy : t.sar.sources = y) (st : Status) :
    finish (answered st p t) = withSources y (finish (answered st p (withSources x t))) := by
  subst hy
  rw [← finish_blind]
  rfl

/-- After a response the idle timer's time is 0, so that what follows at once is the fan and the open timer alone. -/
theorem finish_answered (st : Status) (p : List Byte) (t : State) :
    finish (answered st p t) = answered st p { t with lmc := (finish t).lmc } := by
  have hpnp : (if (answered st p t).idleRuns then (answered st p t).pnp
      else { (answered st p t).pnp with idleElapsed := 0, idleMs := 0 }) = (answered st p t).pnp := by
    split <;> rfl
  rw [finish_eq, hpnp, finish_eq t]
  rfl

/-- A response with another payload and another LKC. -/
theorem finish_relinked (l : Lkc) (p p' : List Byte) (t : State) : finish (answered .ok p' { t with lkc := l })
    = { finish (answered .ok p t) with
        pnp := { (finish (answered .ok p t)).pnp with resp := some ⟨.ok, p'⟩ }, lkc := l } := by
  have hlmc : (finish { t with lkc := l }).lmc = (finish t).lmc := by
    rw [finish_eq, finish_eq]
  rw [finish_answered, finish_answered, hlmc]
  rfl

theorem both_answers {u : State} {d : Byte} {rest : List Byte} (h : Awake s)
    (hr : s.sar.sources.panel.route = .both) (hx : exec (panelChangeOf k a fade) (routedHere s) = .next u)
    (hu : u.pnp.resp = some ⟨.ok, d :: rest⟩) :
    exec (panelChangeOf k a fade) s = .next { u with
      sar := { u.sar with sources := s.sar.sources }
      pnp := { u.pnp with resp := some ⟨.ok, (if s.lkc.canTake then 4 else 5) :: rest⟩ }
      lkc := if s.lkc.canTake then s.lkc.enqueue s.sar.sources.panel.dest.byte 1
          [b8 k.code, if k = .home then 0 else a, if fade = 0xFF then b8 s.sar.cfg.fade else fade]
        else { s.lkc with overflow := true } } := by
  have hsame := sameButRoute_here s.sar.sources
  have hawake : Awake (routedHere s) := h
  cases hc : classOk .panel .transport s with
  | false =>
    rw [exec_panelChangeOf, run_answers hawake (panelChange_disabled ((hsame.classOk ..).trans hc))] at hx
    cases hx
    simp [answered] at hu
  | true =>
    cases ha : argRefusal k (panelArg k a) fade with
    | some st =>
      rw [exec_panelChangeOf, run_answers hawake (panelChange_argument ((hsame.classOk ..).trans hc) ha)] at hx
      cases hx
      simp [answered] at hu
    | none =>
      obtain ⟨t, r, hhere⟩ : ∃ t r, requestHere .panel k (panelArg k a) (fadeOf s fade) s = (t, r) := ⟨_, _, rfl⟩
      have hsources : t.sar.sources = s.sar.sources := by
        have hs := requestHere_unrouted .panel k (panelArg k a) (fadeOf s fade) s
        rwa [hhere] at hs
      rw [exec_here h hc ha hhere] at hx
      cases r with
      | error st =>
        cases hx
        simp [answered] at hu
      | ok e =>
        cases hx
        have hrest : rest = [b8 e.2, pendingCount t] := by
          simp [answered] at hu
          exact hu.2.symm
        rw [exec_both h hc ha hr hhere, hrest, finish_relinked _ [b8 e.1.code, b8 e.2, pendingCount t],
          finish_restored (x := { s.sar.sources with panel := { s.sar.sources.panel with route := .here } })
            hsources .ok]
        rfl

theorem both_refuses {u : State} (h : Awake s) (hr : s.sar.sources.panel.route = .both)
    (hx : exec (panelChangeOf k a fade) (routedHere s) = .next u) (hu : u.pnp.resp = some ⟨st, []⟩) :
    exec (panelChangeOf k a fade) s = .next { u with sar := { u.sar with sources := s.sar.sources } } := by
  have hsame := sameButRoute_here s.sar.sources
  have hawake : Awake (routedHere s) := h
  cases hc : classOk .panel .transport s with
  | false =>
    rw [exec_panelChangeOf, run_answers hawake (panelChange_disabled ((hsame.classOk ..).trans hc))] at hx
    cases hx
    rw [exec_panelChangeOf, run_answers h (panelChange_disabled hc)]
    exact congrArg _ (finish_restored rfl .disabled)
  | true =>
    cases ha : argRefusal k (panelArg k a) fade with
    | some st =>
      rw [exec_panelChangeOf, run_answers hawake (panelChange_argument ((hsame.classOk ..).trans hc) ha)] at hx
      cases hx
      rw [exec_panelChangeOf, run_answers h (panelChange_argument hc ha)]
      exact congrArg _ (finish_restored rfl st)
    | none =>
      obtain ⟨t, r, hhere⟩ : ∃ t r, requestHere .panel k (panelArg k a) (fadeOf s fade) s = (t, r) := ⟨_, _, rfl⟩
      have hsources : t.sar.sources = s.sar.sources := by
        have hs := requestHere_unrouted .panel k (panelArg k a) (fadeOf s fade) s
        rwa [hhere] at hs
      rw [exec_here h hc ha hhere] at hx
      cases r with
      | ok e =>
        cases hx
        simp [answered] at hu
      | error st =>
        cases hx
        have hroute : (s.sar.sources.get .panel).route ≠ .forward := by
          rw [show (s.sar.sources.get .panel).route = .both from hr]
          nofun
        rw [exec_panelChangeOf, run_answers h (panelChange_error hc ha (requestRouted_refused hroute hhere))]
        exact congrArg _ (finish_restored hsources st)

/-- Settles O28: the checks in their order (`changeRequest_disabled`, `changeRequest_argument`, `admitRequest_error`), route
FORWARD to the link alone, and route BOTH as the local result with the frame offered (`both_answers`, `both_refuses`). -/
theorem transportRefusalsAndForwarding : Obligations.TransportRefusalsAndForwarding := by
  refine ⟨fun s k a fade h hc => ?_, fun s k a fade h hc hn => ?_, fun s k a fade h hc hsteps hseek hf hne => ?_,
    fun s k a fade h hform hr ht => exec_refused_here h hform hr (admitRequest_absent ht),
    fun s k a fade h hform hr ht hp hk => exec_refused_here h hform hr (admitRequest_unhomed ht hp hk),
    fun s k a fade h hform hr ht hp hg ho => exec_refused_here h hform hr (admitRequest_orphan ht hp hg ho),
    fun s k a fade st h hform hr hplaced hq =>
      exec_refused_here h hform hr (admitRequest_error hplaced ((resolve_panelArg ..).trans hq)),
    fun s k a fade q h hform hr hplaced hk hq hw =>
      exec_refused_here h hform hr (admitRequest_outside hplaced hk ((resolve_panelArg ..).trans hq) hw),
    fun s k a fade h hform hr hc => exec_forwards h hform hr hc,
    fun s k a fade h hform hr hc => exec_forward_full h hform hr hc,
    fun s k a fade q hp hform hr hplaced hq hw hs => both_starts hp hform hr hplaced hq hw hs,
    fun s u k a fade d rest h hr hx hu => both_answers h hr hx hu,
    fun s u k a fade st h hr hx hu => both_refuses h hr hx hu⟩
  · rw [exec_panelChangeOf]
    exact run_answers h (panelChange_disabled hc)
  · rw [exec_panelChangeOf]
    exact run_answers h (panelChange_argument hc (argRefusal_range hn))
  · rw [exec_panelChangeOf]
    exact run_answers h (panelChange_argument hc (argRefusal_fade hsteps hseek hf hne))

end Sys2Proof.Machine
end

section
/-! SAR's settings and reads (03 R46 to R48, R66). -/

namespace Sys2Proof.Machine
open Sys2Proof

/-- The bytes of Table 3.3 that SET SOURCE refuses (03 R46). -/
def SourceRefused (src : Source) (b : SourceBytes) : Prop :=
  1 < b.enable.toNat ∨ 2 < b.route.toNat ∨ 2 < b.destType.toNat ∨ 3 < b.priority.toNat ∨ 99 < b.base.toNat
    ∨ 99 < b.limit.toNat ∨ b.limit.toNat < b.base.toNat ∨ (b.destType.toNat = 0 ∧ 14 < b.destNum.toNat)
    ∨ (b.destType.toNat = 1 ∧ (b.destNum.toNat = 0 ∨ 8 < b.destNum.toNat))
    ∨ (src = .link ∧ b.route.toNat ≠ 0)

theorem linkDest_ofPair_none_iff (t n : Byte) : LinkDest.ofPair t n = none ↔ 2 < t.toNat
    ∨ (t.toNat = 0 ∧ 14 < n.toNat) ∨ (t.toNat = 1 ∧ (n.toNat = 0 ∨ 8 < n.toNat)) := by
  unfold LinkDest.ofPair
  split
  · next h => simp only [h]; split <;> simp <;> omega
  · next h => simp only [h]; split <;> simp <;> omega
  · next h => simp [h]
  · next h0 h1 h2 =>
    simp only [true_iff]
    left
    grind

theorem route_of_code {n : Nat} (h : n ≤ 2) : ∃ r : Route, n = r.code := by
  have hcase : n = 0 ∨ n = 1 ∨ n = 2 := by omega
  rcases hcase with rfl | rfl | rfl
  · exact ⟨.here, rfl⟩
  · exact ⟨.forward, rfl⟩
  · exact ⟨.both, rfl⟩

theorem sourceRec_parse_none_iff (src : Source) (b : SourceBytes) :
    SourceRec.parse src b = none ↔ SourceRefused src b := by
  have hdest := linkDest_ofPair_none_iff b.destType b.destNum
  constructor
  · intro hnone
    by_contra hn
    simp only [SourceRefused, not_or, not_lt] at hn
    obtain ⟨he, hr, hdt, hp, hb, hl, hbl, hd0, hd1, hlink⟩ := hn
    obtain ⟨e, he⟩ := isSome_onOff he
    obtain ⟨route, hroute⟩ := route_of_code hr
    obtain ⟨dest, hd⟩ : ∃ d, LinkDest.ofPair b.destType b.destNum = some d := by
      refine Option.ne_none_iff_exists'.mp fun h => ?_
      rcases hdest.mp h with h | h | h
      · omega
      · exact hd0 h
      · exact hd1 h
    have hsome := (SourceRec.parse_eq_some_iff src b ⟨e, b.priority.toNat, b.classes.getLsbD 0, b.classes.getLsbD 1,
      b.classes.getLsbD 2, b.classes.getLsbD 3, b.base.toNat, b.limit.toNat, b.tenure.toNat, route, dest⟩).mpr
      ⟨he, hroute, hd, ⟨rfl, hp⟩, ⟨rfl, rfl, rfl, rfl⟩, ⟨rfl, rfl, hbl, hl⟩, rfl, fun hs => ?_⟩
    · rw [hsome] at hnone
      cases hnone
    · have h0 : b.route.toNat = 0 := Decidable.not_not.mp fun h => hlink ⟨hs, h⟩
      cases route <;> simp_all [Route.code]
  · intro hbad
    cases hparse : SourceRec.parse src b with
    | none => rfl
    | some r =>
      obtain ⟨he, hroute, hd, ⟨hp, hp3⟩, -, ⟨hb, hl, hle, h99⟩, -, hhere⟩ :=
        (SourceRec.parse_eq_some_iff src b r).mp hparse
      have henable : ¬ 1 < b.enable.toNat := fun h => by
        rw [(onOff_eq_none_iff _).mpr h] at he
        cases he
      have hsome : ¬ LinkDest.ofPair b.destType b.destNum = none := by
        rw [hd]
        nofun
      rw [hdest] at hsome
      have hcode : r.route.code ≤ 2 := by cases r.route <;> decide
      have hlink : ¬ (src = .link ∧ b.route.toNat ≠ 0) := by
        rintro ⟨hs, hne⟩
        exact hne (by rw [hroute, hhere hs]; rfl)
      rcases hbad with h | h | h | h | h | h | h | h | h | h <;> first | exact absurd h hlink | omega

theorem signedByte_eq (c : Int) : signedByte c = if 0 ≤ c then b8 c.natAbs else 0 - b8 c.natAbs := by
  unfold signedByte b8
  split
  · next h =>
    obtain ⟨n, rfl⟩ := Int.eq_ofNat_of_zero_le h
    simp
  · next h =>
    obtain ⟨n, rfl⟩ : ∃ n : Nat, c = -(n : Int) := ⟨c.natAbs, by omega⟩
    simp [BitVec.ofInt_neg]

theorem source_ofByte {n : Byte} {src : Source} (h : n.toNat = src.code) : Source.ofByte n = some src := by
  cases src <;> simp_all [Source.ofByte, Source.code]

theorem source_ofByte_none {n : Byte} (h : 3 < n.toNat) : Source.ofByte n = none := by
  unfold Source.ofByte
  split <;> first | omega | rfl

theorem sourceBusy_iff (src : Source) (s : State) : sourceBusy src s = true ↔
    (∃ f, s.csq.flight = some f ∧ f.owner = src) ∨ ∃ w, s.sar.waiting = some w ∧ w.source = src := by
  unfold sourceBusy
  rw [Bool.or_eq_true]
  refine or_congr ?_ ?_
  · split <;> simp [*]
  · split <;> simp [*]

theorem setSource_idle {s : State} {n : Byte} {b : SourceBytes} {src : Source} {r : SourceRec} (h : Awake s)
    (hn : n.toNat = src.code) (hr : SourceRec.parse src b = some r) (hb : sourceBusy src s = false) :
    exec (.setSource n b) s = .next (answered .ok [] { s with
      sar := { s.sar with sources := s.sar.sources.set src r } }) := by
  change execSetSource n b s = _
  refine quiet_answers h ?_
  simp only [source_ofByte hn, hr, hb, Bool.false_eq_true, if_false]
  rfl

theorem setSource_busy {s : State} {n : Byte} {b : SourceBytes} {src : Source} {r : SourceRec} (h : Awake s)
    (hn : n.toNat = src.code) (hr : SourceRec.parse src b = some r) (hb : sourceBusy src s = true) :
    exec (.setSource n b) s = .next (answered .busy [] s) := by
  change execSetSource n b s = _
  refine quiet_answers h ?_
  simp only [source_ofByte hn, hr, hb, if_true]
  rfl

theorem setSource_refused {s : State} {n : Byte} {b : SourceBytes} {src : Source} (h : Awake s)
    (hn : n.toNat = src.code) (hr : SourceRec.parse src b = none) :
    exec (.setSource n b) s = .next (answered .badArg [] s) := by
  change execSetSource n b s = _
  refine quiet_answers h ?_
  simp only [source_ofByte hn, hr]
  rfl

theorem setSource_unknown {s : State} {n : Byte} (b : SourceBytes) (h : Awake s) (hn : 3 < n.toNat) :
    exec (.setSource n b) s = .next (answered .badArg [] s) := by
  change execSetSource n b s = _
  refine quiet_answers h ?_
  simp only [source_ofByte_none hn]
  rfl

theorem readSource_unknown {s : State} {n : Byte} (h : Awake s) (hn : 3 < n.toNat) :
    exec (.readSource n) s = .next (answered .badArg [] s) := by
  change execReadSource n s = _
  refine quiet_answers h ?_
  simp only [source_ofByte_none hn]
  rfl

theorem readSource_known {s : State} {n : Byte} {src : Source} (h : Awake s) (hn : n.toNat = src.code) :
    exec (.readSource n) s = .next (answered .ok (s.sar.sources.get src).bytes s) := by
  change execReadSource n s = _
  refine quiet_answers h ?_
  simp only [source_ofByte hn]
  rfl

theorem sourceRec_bytes_length (r : SourceRec) : r.bytes.length = 16 := by
  unfold SourceRec.bytes LinkDest.pair
  split <;> rfl

theorem arbiterPayload_eq (s : State) : arbiterPayload s
    = [match s.csq.flight with
        | some f => b8 f.owner.code
        | none => (0xFF : Byte),
      match s.sar.holder with
        | some h => b8 h.code
        | none => 0xFF,
      if s.sar.holder = none then 0 else b8 s.sar.tenureLeft,
      match s.sar.waiting with
        | some w => b8 w.source.code
        | none => 0xFF,
      match s.sar.waiting with
        | some w => b8 w.kind.code
        | none => 0,
      match s.sar.waiting with
        | some w => if 0 ≤ w.count then b8 w.count.natAbs else 0 - b8 w.count.natAbs
        | none => 0,
      match s.sar.waiting with
        | some w => b8 w.target
        | none => 0xFF,
      match s.sar.waiting with
        | some w => b8 w.fade
        | none => 0,
      b8 s.sar.cfg.fade,
      b8 (bit s.sar.cfg.mask.panel 0 + bit s.sar.cfg.mask.remote 1 + bit s.sar.cfg.mask.program 2
        + bit s.sar.cfg.mask.link 3)] := by
  have hleft : b8 (if s.sar.holder = none then 0 else s.sar.tenureLeft)
      = if s.sar.holder = none then 0 else b8 s.sar.tenureLeft := by
    split <;> rfl
  simp only [arbiterPayload, hleft]
  cases s.csq.flight <;> cases s.sar.holder <;> cases s.sar.waiting <;> simp only [signedByte_eq] <;> rfl

/-- Settles O30: SET SOURCE takes the bytes that Table 3.3 lets (`sourceRec_parse_none_iff`) of a source that is not busy
(`sourceBusy_iff`); SET ARBITER and the reads by their tables. -/
theorem arbitrationSettingsAndReads : Obligations.ArbitrationSettingsAndReads := by
  refine ⟨fun s n b src r h hn hr hf hw => setSource_idle h hn hr (eq_false_of_ne_true fun hb => ?_),
    fun s n b src r f h hn hr hf ho => setSource_busy h hn hr ((sourceBusy_iff src s).mpr (.inl ⟨f, hf, ho⟩)),
    fun s n b src r w h hn hr hw ho => setSource_busy h hn hr ((sourceBusy_iff src s).mpr (.inr ⟨w, hw, ho⟩)),
    fun s n b src h hn hbad => ?_, fun src b h => (sourceRec_parse_none_iff src b).mp h,
    fun s n b h hn => ⟨setSource_unknown b h hn, readSource_unknown h hn⟩,
    fun s n src h hn => ⟨_, readSource_known h hn, rfl, sourceRec_bytes_length _⟩,
    fun s fade m h hf => quiet_setting_some h (if_pos hf) _,
    fun s fade m h hf => quiet_setting_none h (if_neg (by omega)) _,
    fun s h => quiet_answers h (Prod.ext rfl (congrArg (Response.mk .ok) (arbiterPayload_eq s))), rfl, rfl⟩
  · rcases (sourceBusy_iff src s).mp hb with ⟨f, hm, ho⟩ | ⟨w, hm, ho⟩
    · exact hf f hm ho
    · exact hw w hm ho
  · have hnone := (sourceRec_parse_none_iff src b).mpr hbad
    exact ⟨hnone, setSource_refused h hn hnone⟩

end Sys2Proof.Machine
end

section
/-! LAMP ON and the wake event that it is first (04 R71, 11 R188; 03 R59, R67). -/

namespace Sys2Proof.Machine
open Sys2Proof

/-! ## SHOW is the only cause that a change of the hold set leaves pending -/

theorem ShowOnly.power {s t : State} (h : ShowOnly s t) : t.pnp.pend.power = s.pnp.pend.power := by
  rw [h]

theorem endCheck_showOnly (s : State) : ShowOnly s (endCheck s) := by
  unfold endCheck
  split
  · have hstop : ShowOnly (stopClaimPlain s) (endShow s) := setPhase_showOnly .stopped (stopClaimPlain s)
    rw [ShowOnly] at hstop ⊢
    rw [hstop, (show (stopClaimPlain s).pnp = s.pnp by unfold stopClaimPlain; split <;> rfl)]
  · rfl

theorem leaveHeld_showOnly (s : State) : ShowOnly s (leaveHeld s) := by
  have hphase : ShowOnly s (setPhase (leaveTo s) (setEnded false s)) :=
    setPhase_showOnly (leaveTo s) (setEnded false s)
  have hmid (t : State) (ht : t.pnp = (setPhase (leaveTo s) (setEnded false s)).pnp) : ShowOnly s (endCheck t) := by
    have hend := endCheck_showOnly t
    rw [ShowOnly] at hphase hend ⊢
    rw [hend, ht, hphase]
  unfold leaveHeld
  dsimp only
  refine hmid _ ?_
  split
  · split
    · unfold deckStart deckSettle
      split <;> rfl
    · rfl
  · rfl

theorem removeCause_showOnly (c : Cause) (s : State) : ShowOnly s (removeCause c s) := by
  unfold removeCause
  split
  · rfl
  · dsimp only
    split
    · exact leaveHeld_showOnly (setCause c false s)
    · rfl

theorem startChange_showOnly (src : Source) (k : ChangeKind) (q d : Nat) (s : State) :
    ShowOnly s (startChange src k q d s) := by
  rw [ShowOnly]
  simp only [startChange, startBlanking_frame]
  change (if s.csq.state = .stalled then removeCause .transport (endTenure s) else endTenure s).pnp = _
  split
  · exact removeCause_showOnly .transport (endTenure s)
  · rfl

theorem writeRecord_power (src : Source) (k : ChangeKind) (q : Nat) (o : ChangeOutcome) (f : FinalPos) (s : State) :
    (writeRecord src k q o f s).pnp.pend.power = s.pnp.pend.power := by
  unfold writeRecord
  split <;> rfl

theorem stepComplete_pnp (s : State) : (stepComplete s).pnp = s.pnp := by
  unfold stepComplete
  split
  · rfl
  · dsimp only
    split
    · split <;> rfl
    · rfl

theorem startPending_power (s : State) : (startPending s).pnp.pend.power = s.pnp.pend.power := by
  unfold startPending
  split
  · rfl
  · split
    · rfl
    · split
      · next w _ _ _ st _ =>
        have hrec := writeRecord_power w.source w.kind w.target .refusedAtStart .none (setWaiting none s)
        unfold refuseStart
        dsimp only
        split
        · rw [stepComplete_pnp]
          exact hrec
        · exact hrec
      · rw [(startChange_showOnly _ _ _ _ _).power]
        split <;> rfl

/-! ## The wake event -/

/-- The state in RUN in which a wake event takes the pending change up. -/
def woken (s : State) : State :=
  powerEvent .woken (setPower .run (if s.pnp.power = .standby then { s with cdc := s.cdc.restart } else s))

theorem wakeUp_eq {s : State} (h : s.pnp.power = .standby ∨ s.pnp.power = .standbyPending) :
    wakeUp s = startPending (woken s) := by
  rcases h with h | h <;> simp [wakeUp, woken, h]

theorem wakeUp_run {s : State} (h : s.pnp.power = .run) : wakeUp s = s := by
  simp only [wakeUp, h]

theorem woken_frame (s : State) : (woken s).csq = s.csq ∧ (woken s).sar = s.sar ∧ (woken s).dkc = s.dkc
    ∧ (woken s).shc = s.shc ∧ (woken s).lmc = s.lmc ∧ (woken s).crn = s.crn ∧ (woken s).tru = s.tru
    ∧ (woken s).pnp.power = .run ∧ (woken s).pnp.event = .woken ∧ (woken s).pnp.pend.power = true := by
  unfold woken
  split <;> exact ⟨rfl, rfl, rfl, rfl, rfl, rfl, rfl, rfl, rfl, rfl⟩

theorem woken_ready {s : State} {w : Waiting} (hw : s.sar.waiting = some w) :
    pendingReady (woken s) = true ↔ DueAtRun s w := by
  obtain ⟨hcsq, hsar, -, -, -, -, -, hpower, -⟩ := woken_frame s
  rw [pendingReady_iff_due (s := woken s) (hsar ▸ hw), DueAtRun, hcsq, hsar, hpower]
  simp only [priority, hsar, true_and]
  exact Iff.rfl

theorem wakeUp_none {s : State} (h : s.pnp.power = .standby ∨ s.pnp.power = .standbyPending) (hn : NoneDue s) :
    wakeUp s = woken s := by
  obtain ⟨-, hsar, -⟩ := woken_frame s
  rw [wakeUp_eq h]
  cases hw : s.sar.waiting with
  | none => exact startPending_none (hsar ▸ hw)
  | some w => exact startPending_unready (eq_false_of_ne_true (mt (woken_ready hw).mp (hn w hw)))

theorem wakeUp_started {s : State} {w : Waiting} {q : Nat} (h : s.pnp.power = .standby ∨ s.pnp.power = .standbyPending)
    (hw : s.sar.waiting = some w) (hd : DueAtRun s w) (hq : startCheck w s = .ok q) :
    StartedPending w q s (wakeUp s) := by
  obtain ⟨hcsq, hsar, -, -, -, hcrn, htru, -⟩ := woken_frame s
  rw [wakeUp_eq h]
  refine startPending_started (hsar ▸ hw) ((woken_ready hw).mpr hd) ?_ (fun ha => hcrn ▸ ha)
  rw [startCheck_congr (congrArg (·.sources) hsar) htru (congrArg (·.orphaned) hcsq), hq]

theorem wakeUp_pnp {s : State} (h : s.pnp.power = .standby ∨ s.pnp.power = .standbyPending) :
    (wakeUp s).pnp.power = .run ∧ (wakeUp s).pnp.event = .woken ∧ (wakeUp s).pnp.pend.power = true
      ∧ (wakeUp s).lmc.temp = s.lmc.temp := by
  obtain ⟨-, -, -, -, hlmc, -, -, hpower, hevent, hpend⟩ := woken_frame s
  rw [wakeUp_eq h, startPending_power]
  simp [hlmc, hpower, hevent, hpend]

/-! ## LAMP ON -/

theorem powerRefusal_lampOn {p : Power} (h : p ≠ .resetHeld) : powerRefusal true false p = none := by
  cases p <;> first | rfl | exact absurd rfl h

/-- LAMP ON past its class check. -/
theorem lampOn_taken {s t : State} {st : Status} (hp : Powered s) (hr : s.pnp.power ≠ .resetHeld)
    (hc : classOk .panel .lamp s = true) (h : lampOnTaken s = (t, st)) :
    exec .lampOn s = .next (finish (answered st [] t)) := by
  change run (panelIn true false (panelRequest .lamp lampOnTaken)) s = _
  rw [run_powered hp, panelIn_taken (powerRefusal_lampOn hr)]
  by_cases hst : st = .ok
  · subst hst
    rw [panelRequest_ok hc h]
    rfl
  · rw [panelRequest_refused hc h hst]
    rfl

theorem lampOn_disabled {s : State} (hp : Powered s) (hr : s.pnp.power ≠ .resetHeld)
    (hc : classOk .panel .lamp s = false) : exec .lampOn s = .next (finish (answered .disabled [] s)) := by
  change run (panelIn true false (panelRequest .lamp lampOnTaken)) s = _
  rw [run_powered hp, panelIn_taken (powerRefusal_lampOn hr), panelRequest_disabled hc]
  rfl

/-- Behind the wake event LAMP ON writes LMC alone. -/
theorem lampOnTaken_only (s : State) : ∃ l st, lampOnTaken s = ({ wakeUp s with lmc := l }, st)
    ∧ l.temp = (wakeUp s).lmc.temp := by
  unfold lampOnTaken
  dsimp only
  (repeat' split) <;> exact ⟨_, _, rfl, rfl⟩

theorem tooHot_iff (l : Lmc) : l.tooHot = true ↔ 60 ≤ l.temp.getD 60 := by
  unfold Lmc.tooHot Config.restrikeTemp
  split <;> simp [*]

section
variable {s : State} (hr : s.pnp.power = .run)
include hr

theorem lampOnTaken_fault (hl : s.lmc.lamp = .fault) : lampOnTaken s = (s, .busy) := by
  simp [lampOnTaken, wakeUp_run hr, hl]

theorem lampOnTaken_tripped (hl : s.lmc.lamp ≠ .fault) (ht : s.lmc.trip = true) : lampOnTaken s = (s, .tripped) := by
  simp [lampOnTaken, wakeUp_run hr, hl, ht]

theorem lampOnTaken_burning (ht : s.lmc.trip = false) (hl : s.lmc.lamp = .preheat ∨ s.lmc.lamp = .lit) :
    lampOnTaken s = (s, .ok) := by
  rcases hl with hl | hl <;> simp [lampOnTaken, wakeUp_run hr, hl, ht, burning]

variable (ht : s.lmc.trip = false) (hl : s.lmc.lamp = .off ∨ s.lmc.lamp = .cooling)
include ht hl

theorem lampOnTaken_hot (hh : s.lmc.tooHot = true) :
    lampOnTaken s = (setLmc (fun l => { l with restrike := true }) s, .hot) := by
  rcases hl with hl | hl <;> simp [lampOnTaken, wakeUp_run hr, hl, ht, burning, hh]

theorem lampOnTaken_dim (hh : s.lmc.tooHot = false) (hd : s.lmc.dim = true) :
    lampOnTaken s = (setLmc (fun l => { l with deferred := true }) s, .ok) := by
  rcases hl with hl | hl <;> simp [lampOnTaken, wakeUp_run hr, hl, ht, burning, hh, hd]

theorem lampOnTaken_preheats (hh : s.lmc.tooHot = false) (hd : s.lmc.dim = false) :
    lampOnTaken s = (enterPreheat s, .ok) := by
  rcases hl with hl | hl <;> simp [lampOnTaken, wakeUp_run hr, hl, ht, burning, hh, hd]

end

theorem lampOn_wakes {s : State} (hp : Powered s) (hs : s.pnp.power = .standby ∨ s.pnp.power = .standbyPending)
    (hc : classOk .panel .lamp s = true) :
    ∃ t, exec .lampOn s = .next t ∧ t.pnp.power = .run ∧ t.pnp.event = .woken ∧ t.pnp.pend.power = true
      ∧ t.lmc.temp = s.lmc.temp
      ∧ (NoneDue s → t.csq = s.csq ∧ t.sar = s.sar ∧ t.dkc = s.dkc ∧ t.shc = s.shc)
      ∧ (∀ w q, s.sar.waiting = some w → DueAtRun s w → startCheck w s = .ok q → StartedPending w q s t) := by
  obtain ⟨l, st, hon, htemp⟩ := lampOnTaken_only s
  obtain ⟨hpower, hevent, hpend, htemp'⟩ := wakeUp_pnp hs
  have hr : s.pnp.power ≠ .resetHeld := by rcases hs with hs | hs <;> simp [hs]
  refine ⟨_, lampOn_taken hp hr hc hon, ?_⟩
  rw [(finish_pend _).1]
  simp only [finish_frame, StartedPending, finish_awaited]
  refine ⟨hpower, hevent, hpend, htemp.trans htemp', fun hn => ?_, fun w q hw hd hq => wakeUp_started hs hw hd hq⟩
  obtain ⟨hcsq, hsar, hdkc, hshc, -⟩ := woken_frame s
  simp only [answered, wakeUp_none hs hn]
  exact ⟨hcsq, hsar, hdkc, hshc⟩

/-- Settles O32: Table 4.4 row by row in RUN (`lampOnTaken_fault` to `lampOnTaken_preheats`), and in the standby states the
wake event first (`wakeUp_pnp`, `wakeUp_started`). -/
theorem lampOnByTable : Obligations.LampOnByTable := by
  have awake {s : State} (h : s.pnp.power = .run) : s.pnp.power ≠ .resetHeld := by simp [h]
  have hot {s : State} (h : 60 ≤ s.lmc.temp.getD 60) : s.lmc.tooHot = true := (tooHot_iff _).mpr h
  have cold {s : State} (h : s.lmc.temp.getD 60 < 60) : s.lmc.tooHot = false :=
    eq_false_of_ne_true fun hh => absurd ((tooHot_iff _).mp hh) (Nat.not_le.mpr h)
  exact ⟨fun s hp hr hc hl => lampOn_taken hp (awake hr) hc (lampOnTaken_fault hr hl),
    fun s hp hr hc hl ht => lampOn_taken hp (awake hr) hc (lampOnTaken_tripped hr hl ht),
    fun s hp hr hc ht hl => lampOn_taken hp (awake hr) hc (lampOnTaken_burning hr ht hl),
    fun s hp hr hc ht hl hh => lampOn_taken hp (awake hr) hc (lampOnTaken_hot hr ht hl (hot hh)),
    fun s hp hr hc ht hl hh hd => lampOn_taken hp (awake hr) hc (lampOnTaken_dim hr ht hl (cold hh) hd),
    fun s hp hr hc ht hl hh hd => lampOn_taken hp (awake hr) hc (lampOnTaken_preheats hr ht hl (cold hh) hd),
    fun s hp hr hc => lampOn_disabled hp hr hc, fun s hp hs hc => lampOn_wakes hp hs hc⟩

end Sys2Proof.Machine
end

section
/-! What the reports of LMC leave standing: the pending causes, and the lamp that is not lit (04 R69, R72 to R76). -/

namespace Sys2Proof.Machine
open Sys2Proof

/-! ## Pending causes other than SHOW and CHANGE -/

/-- Every pending cause but CHANGE and SHOW stands. -/
def MarksStand (s t : State) : Prop :=
  t.pnp.pend = { s.pnp.pend with change := t.pnp.pend.change, showChg := t.pnp.pend.showChg }

theorem MarksStand.of_eq {s t : State} (h : t.pnp.pend = s.pnp.pend) : MarksStand s t := by
  rw [MarksStand, h]

theorem MarksStand.trans {s t u : State} (h : MarksStand s t) (h' : MarksStand t u) : MarksStand s u := by
  rw [MarksStand] at h h' ⊢
  rw [h', h]

theorem MarksStand.fault {s t : State} (h : MarksStand s t) : t.pnp.pend.fault = s.pnp.pend.fault := by
  rw [h]

theorem ShowOnly.marksStand {s t : State} (h : ShowOnly s t) : MarksStand s t := by
  rw [MarksStand, h]

theorem writeRecord_marks (src : Source) (k : ChangeKind) (q : Nat) (o : ChangeOutcome) (f : FinalPos) (s : State) :
    MarksStand s (writeRecord src k q o f s) := by
  unfold writeRecord
  split <;> rfl

theorem dropWaiting_marks (o : ChangeOutcome) (s : State) : MarksStand s (dropWaiting o s) := by
  unfold dropWaiting
  split
  · rfl
  · next w _ =>
    have hrec := writeRecord_marks w.source w.kind w.target o .none { s with sar := { s.sar with waiting := none } }
    dsimp only
    split
    · exact hrec.trans (.of_eq (by rw [stepComplete_pnp]))
    · exact hrec

theorem changeEnd_marks (o : ChangeOutcome) (p : FinalPos) (s : State) : MarksStand s (changeEnd o p s) := by
  unfold changeEnd
  split
  · rfl
  · next f _ =>
    have hrec : MarksStand s (startTenure f.owner (writeRecord f.owner f.kind f.target o p
        { s with csq := { s.csq with flight := none } })) :=
      writeRecord_marks f.owner f.kind f.target o p { s with csq := { s.csq with flight := none } }
    have hdrop (t : State) (ht : MarksStand s t) :
        MarksStand s (if o = .jammed ∨ o = .stalled then dropWaiting .flushed t else t) := by
      split
      · exact ht.trans (dropWaiting_marks .flushed t)
      · exact ht
    have hstep (t : State) (ht : MarksStand s t) :
        MarksStand s (if f.owner = .program ∧ t.crn.awaited = .started then stepComplete t else t) := by
      split
      · exact ht.trans (.of_eq (by rw [stepComplete_pnp]))
      · exact ht
    exact hstep _ (hdrop _ hrec)

theorem startChange_marks (src : Source) (k : ChangeKind) (q d : Nat) (s : State) :
    MarksStand s (startChange src k q d s) := (startChange_showOnly src k q d s).marksStand

theorem refuseStart_marks (w : Waiting) (st : Status) (s : State) : MarksStand s (refuseStart w st s) := by
  have hrec : MarksStand s (writeRecord w.source w.kind w.target .refusedAtStart .none (setWaiting none s)) :=
    writeRecord_marks w.source w.kind w.target .refusedAtStart .none (setWaiting none s)
  unfold refuseStart
  dsimp only
  split
  · exact hrec.trans (.of_eq (by rw [stepComplete_pnp]; rfl))
  · exact hrec

theorem startPending_marks (s : State) : MarksStand s (startPending s) := by
  unfold startPending
  split
  · rfl
  · split
    · rfl
    · split
      · exact refuseStart_marks _ _ s
      · refine MarksStand.trans ?_ (startChange_marks _ _ _ _ _)
        split <;> rfl

theorem revealOver_marks (s : State) : MarksStand s (revealOver s) := by
  have hend : (endOfReveal (setCsq revealedCsq s)).pnp = s.pnp := by simp
  have hmid : MarksStand s (endOfReveal (setCsq revealedCsq s)) := .of_eq (congrArg (·.pend) hend)
  unfold revealOver
  dsimp only
  split
  · exact hmid.trans (changeEnd_marks ..)
  · exact hmid

theorem revealCheck_marks (s : State) : MarksStand s (revealCheck s) := by
  unfold revealCheck
  split
  · rw [endReveal_eq]
    exact (revealOver_marks s).trans (startPending_marks _)
  · rfl

/-! ## The reports of LMC -/

/-- LMC's first report: a fade claim whose output is 0 becomes a hold. -/
def faded (s : State) : State :=
  if s.lmc.claim = .fade ∧ s.lmc.output = 0 then blankingEnd (setLmc Lmc.holdClaim s) else s

/-- LMC's report that the reveal is complete. -/
def revealReported (s : State) : State :=
  revealCheck (setCsq (fun q => { q with lampDone := true }) (setLmc (fun l => { l with owed := false }) s))

theorem lampReports_eq (s : State) : lampReports s =
    if (faded s).lmc.owed = true ∧ ((faded s).lmc.lamp ≠ .lit ∨ (faded s).lmc.ramp.complete = true) then
      revealReported (faded s) else faded s := rfl

theorem revealReplaced_eq (s : State) : revealReplaced s = if s.lmc.owed then revealReported s else s := rfl

theorem faded_marks (s : State) : MarksStand s (faded s) := by
  unfold faded
  split
  · exact .of_eq (by simp [setLmc])
  · rfl

theorem revealReported_marks (s : State) : MarksStand s (revealReported s) :=
  revealCheck_marks (setCsq (fun q => { q with lampDone := true }) (setLmc (fun l => { l with owed := false }) s))

theorem lampReports_marks (s : State) : MarksStand s (lampReports s) := by
  rw [lampReports_eq]
  split
  · exact (faded_marks s).trans (revealReported_marks _)
  · exact faded_marks s

/-! ## The lamp that is not lit -/

/-- LMC with the lamp record `m`: only claim, marks of CSQ and the guard may differ, and a guard that is clear stays
clear. -/
structure SameLamp (m l : Lmc) : Prop where
  eq : l = { m with claim := l.claim, dim := l.dim, owed := l.owed, guardCap := l.guardCap,
                    guardElapsed := l.guardElapsed, guardMs := l.guardMs }
  cap : m.guardCap = false → l.guardCap = false
  elapsed : m.guardElapsed = 0 → l.guardElapsed = 0

theorem SameLamp.refl (m : Lmc) : SameLamp m m := ⟨rfl, id, id⟩

section
variable {m l : Lmc} (h : SameLamp m l)
include h

theorem SameLamp.claimed (c : Claim) : SameLamp m { l with claim := c } := ⟨by rw [h.eq], h.cap, h.elapsed⟩

theorem SameLamp.reported (v : Bool) : SameLamp m { l with owed := v } := ⟨by rw [h.eq], h.cap, h.elapsed⟩

theorem SameLamp.dimmed (v : Bool) : SameLamp m { l with dim := v } := ⟨by rw [h.eq], h.cap, h.elapsed⟩

theorem SameLamp.restarted : SameLamp m { l with dim := false, guardElapsed := 0, guardMs := 0 } :=
  ⟨by rw [h.eq], h.cap, fun _ => rfl⟩

theorem SameLamp.cleared : SameLamp m l.clearGuard := ⟨by rw [h.eq]; rfl, fun _ => rfl, fun _ => rfl⟩

theorem SameLamp.lamp : l.lamp = m.lamp := by rw [h.eq]

theorem SameLamp.deferred : l.deferred = m.deferred := by rw [h.eq]

end

variable {m : Lmc} {s : State}

theorem endOfReveal_sameLamp (hd : m.deferred = false) (h : SameLamp m s.lmc) : SameLamp m (endOfReveal s).lmc := by
  have hend : endOfReveal s = setLmc (fun l => { l with dim := false, guardElapsed := 0, guardMs := 0 }) s :=
    if_pos (h.deferred.trans hd)
  rw [hend]
  exact h.restarted

theorem startBlanking_sameLamp (hp : m.lamp ≠ .preheat) (hl : m.lamp ≠ .lit) (h : SameLamp m s.lmc) (f : Flight) :
    SameLamp m (startBlanking f s).lmc := by
  have hmark : s.lmc.markDim = { s.lmc with dim := true } := if_neg (by rw [h.lamp]; exact hp)
  have hfade : SameLamp m (s.lmc.markDim.fadeClaim f.fade) := by
    rw [hmark]
    unfold Lmc.fadeClaim
    split
    · exact h.dimmed true
    · dsimp only
      rw [if_neg (by rw [h.lamp]; exact hl)]
      exact (h.dimmed true).claimed .fade
  unfold startBlanking
  dsimp only
  split
  · split
    · simp only [blankingEnd_frame]
      exact hfade.claimed .hold
    · exact hfade
  · split
    · simp only [blankingEnd_frame]
      exact h
    · exact h

theorem startPending_sameLamp (hp : m.lamp ≠ .preheat) (hl : m.lamp ≠ .lit) (h : SameLamp m s.lmc) :
    SameLamp m (startPending s).lmc := by
  have start (src : Source) (k : ChangeKind) (q d : Nat) (t : State) (ht : t.lmc = s.lmc) :
      SameLamp m (startChange src k q d t).lmc := by
    have hlmc : (if t.csq.state = .stalled then removeCause .transport (endTenure t) else endTenure t).lmc = t.lmc := by
      split <;> simp [endTenure]
    unfold startChange
    refine startBlanking_sameLamp hp hl (SameLamp.cleared ?_) _
    change SameLamp m (if t.csq.state = .stalled then removeCause .transport (endTenure t) else endTenure t).lmc
    rw [hlmc, ht]
    exact h
  unfold startPending
  split
  · exact h
  · split
    · exact h
    · split
      · simpa using h
      · refine start _ _ _ _ _ ?_
        split <;> rfl

theorem endReveal_sameLamp (hp : m.lamp ≠ .preheat) (hl : m.lamp ≠ .lit) (hd : m.deferred = false)
    (h : SameLamp m s.lmc) : SameLamp m (endReveal s).lmc := by
  rw [endReveal_eq]
  refine startPending_sameLamp hp hl ?_
  rw [revealOver_lmc]
  exact endOfReveal_sameLamp hd h

theorem lampReports_sameLamp (hp : s.lmc.lamp ≠ .preheat) (hl : s.lmc.lamp ≠ .lit) (hd : s.lmc.deferred = false) :
    SameLamp s.lmc (lampReports s).lmc := by
  have hfaded : SameLamp s.lmc (faded s).lmc := by
    unfold faded
    split
    · simp only [blankingEnd_frame]
      exact (SameLamp.refl s.lmc).claimed .hold
    · exact .refl _
  rw [lampReports_eq]
  split
  · unfold revealReported revealCheck
    split
    · exact endReveal_sameLamp hp hl hd (hfaded.reported false)
    · exact hfaded.reported false
  · exact hfaded

/-- With the lamp out there is no output. -/
theorem output_unlit {l : Lmc} (hp : l.lamp ≠ .preheat) (hl : l.lamp ≠ .lit) : l.output = 0 := by
  unfold Lmc.output
  split
  · rfl
  · split
    · next h => exact absurd h hp
    · next h => exact absurd h hl
    · rfl

end Sys2Proof.Machine
end

section
/-! LAMP OFF, the preheat, the cooling and the lamp that fails open (04 R72, R75, R76, R88). -/

namespace Sys2Proof.Machine
open Sys2Proof

variable {s : State}

/-! ## LAMP OFF -/

/-- LMC as a burning lamp that is put out leaves it. -/
def cooled (l : Lmc) : Lmc := ((l.darken .cooling).startCooling).clearMarks

theorem lampOut_burning (h : s.lmc.lamp = .preheat ∨ s.lmc.lamp = .lit) : (lampOut s).lmc = cooled s.lmc
    ∧ (lampOut s).pnp.hoursWaiting = (if s.lmc.lamp = .lit ∧ s.pnp.memPresent = true then some s.lmc.hours
        else s.pnp.hoursWaiting) := by
  have hb : burning s = true := by rcases h with h | h <;> simp [burning, h]
  unfold lampOut enterCooling
  rw [if_pos hb]
  by_cases hl : s.lmc.lamp = .lit
  · rw [if_pos hl]
    refine ⟨?_, ?_⟩
    · simp [setLmc, cooled]
    · simp only [setLmc, handHours, hl, true_and]
      split <;> rfl
  · rw [if_neg hl]
    exact ⟨rfl, (if_neg (fun hc => hl hc.1)).symm⟩

theorem lampOut_dark (hp : s.lmc.lamp ≠ .preheat) (hl : s.lmc.lamp ≠ .lit) :
    lampOut s = setLmc Lmc.clearMarks s := by
  unfold lampOut
  rw [if_neg (by simp [burning, hp, hl])]

theorem lampOff_ok (h : Awake s) (hc : classOk .panel .lamp s = true) :
    exec .lampOff s = .next (finish (answered .ok [] (lampReports (lampOut s)))) :=
  (run_answers h (panelRequest_ok hc rfl)).trans rfl

/-- What LMC shows after its reports with a lamp that is out. -/
theorem SameLamp.shows {m l : Lmc} (h : SameLamp m l) : l.lamp = m.lamp ∧ l.ramp = m.ramp ∧ l.coolLeft = m.coolLeft
    ∧ l.coolRunning = m.coolRunning ∧ l.coolDone = m.coolDone ∧ l.restrike = m.restrike ∧ l.deferred = m.deferred
    ∧ l.trip = m.trip ∧ l.hours = m.hours ∧ l.temp = m.temp ∧ l.showLevel = m.showLevel := by
  rw [h.eq]
  exact ⟨rfl, rfl, rfl, rfl, rfl, rfl, rfl, rfl, rfl, rfl, rfl⟩

/-- What the fan, the open timer and the idle timer leave of LMC. -/
theorem finish_lmc (s : State) : (finish s).lmc.ramp = s.lmc.ramp ∧ (finish s).lmc.coolLeft = s.lmc.coolLeft
    ∧ (finish s).lmc.coolRunning = s.lmc.coolRunning ∧ (finish s).lmc.coolDone = s.lmc.coolDone
    ∧ (finish s).lmc.restrike = s.lmc.restrike ∧ (finish s).lmc.deferred = s.lmc.deferred
    ∧ (finish s).lmc.guardCap = s.lmc.guardCap ∧ (finish s).lmc.guardElapsed = s.lmc.guardElapsed
    ∧ (finish s).lmc.output = s.lmc.output ∧ (finish s).lmc.owed = s.lmc.owed
    ∧ (finish s).lmc.showLevel = s.lmc.showLevel := by
  rw [finish_eq]
  exact ⟨rfl, rfl, rfl, rfl, rfl, rfl, rfl, rfl, rfl, rfl, rfl⟩

theorem lampOff_burning (h : Awake s) (hc : classOk .panel .lamp s = true)
    (hl : s.lmc.lamp = .preheat ∨ s.lmc.lamp = .lit) :
    ∃ t, exec .lampOff s = .next t ∧ t.pnp.resp = some ⟨.ok, []⟩ ∧ t.lmc.lamp = .cooling ∧ t.lmc.output = 0
      ∧ t.lmc.ramp = ⟨0, 0, 0, 0, 0⟩ ∧ t.lmc.coolLeft = s.lmc.cfg.minCool ∧ t.lmc.coolRunning = true
      ∧ t.lmc.restrike = false ∧ t.lmc.deferred = false ∧ t.lmc.guardCap = false ∧ t.lmc.guardElapsed = 0
      ∧ t.lmc.trip = s.lmc.trip ∧ t.lmc.hours = s.lmc.hours ∧ t.lmc.temp = s.lmc.temp
      ∧ t.pnp.hoursWaiting = (if s.lmc.lamp = .lit ∧ s.pnp.memPresent = true then some s.lmc.hours
          else s.pnp.hoursWaiting)
      ∧ t.mem = s.mem ∧ t.dkc = s.dkc ∧ t.shc = s.shc ∧ t.rmi = s.rmi ∧ t.lkc = s.lkc ∧ t.cdc = s.cdc := by
  obtain ⟨hcooled, hhours⟩ := lampOut_burning hl
  have hsame : SameLamp (cooled s.lmc) (lampReports (lampOut s)).lmc := by
    rw [← hcooled]
    exact lampReports_sameLamp (by rw [hcooled]; nofun) (by rw [hcooled]; nofun) (by rw [hcooled]; rfl)
  obtain ⟨hlamp, hramp, hleft, hrun, -, hre, hdef, htrip, hhrs, htemp, -⟩ := hsame.shows
  have hout : (lampReports (lampOut s)).lmc.output = 0 := output_unlit (by rw [hlamp]; nofun) (by rw [hlamp]; nofun)
  obtain ⟨framp, fleft, frun, -, fre, fdef, fcap, felapsed, fout, -⟩ :=
    finish_lmc (answered .ok [] (lampReports (lampOut s)))
  refine ⟨_, lampOff_ok h hc, ?_⟩
  rw [framp, fleft, frun, fre, fdef, fcap, felapsed, fout]
  simp only [finish_frame]
  refine ⟨rfl, hlamp, hout, hramp, hleft, hrun, hre, hdef, hsame.cap rfl, hsame.elapsed rfl, htrip, hhrs, htemp, ?_, ?_⟩
  · exact (lampReports_frame (lampOut s)).2.2.2.2.2.2.2.2.2.2.2.2.2.2.2.2.2.2.2.2.2.2.2.2.2.2.2.2.1.trans hhours
  · simp [answered]

theorem lampOff_dark (h : Awake s) (hc : classOk .panel .lamp s = true) (hp : s.lmc.lamp ≠ .preheat)
    (hl : s.lmc.lamp ≠ .lit) : ∃ t, exec .lampOff s = .next t ∧ t.pnp.resp = some ⟨.ok, []⟩
      ∧ t.lmc.lamp = s.lmc.lamp ∧ t.lmc.restrike = false ∧ t.lmc.deferred = false ∧ t.lmc.trip = s.lmc.trip
      ∧ t.pnp.hoursWaiting = s.pnp.hoursWaiting := by
  have hdark := lampOut_dark hp hl
  have hsame : SameLamp s.lmc.clearMarks (lampReports (lampOut s)).lmc := by
    rw [hdark]
    exact lampReports_sameLamp (s := setLmc Lmc.clearMarks s) hp hl rfl
  obtain ⟨hlamp, -, -, -, -, hre, hdef, htrip, -⟩ := hsame.shows
  obtain ⟨-, -, -, -, fre, fdef, -⟩ := finish_lmc (answered .ok [] (lampReports (lampOut s)))
  refine ⟨_, lampOff_ok h hc, ?_⟩
  rw [fre, fdef]
  simp only [finish_frame]
  refine ⟨rfl, hlamp, hre, hdef, htrip, ?_⟩
  simp [answered, hdark, setLmc]

/-! ## The preheat ends -/

theorem preheatExpiry_lights (hp : Powered s) (hl : s.lmc.lamp = .preheat) :
    ∃ t, exec .preheatExpiry s = .next t ∧ t.lmc.lamp = .lit
      ∧ t.lmc.ramp = ⟨0, s.lmc.showLevel, s.sar.cfg.fade, 0, 0⟩
      ∧ (s.pnp.power ≠ .resetHeld → t.shc.causes.lamp = false) ∧ t.lmc.showLevel = s.lmc.showLevel
      ∧ t.csq = s.csq ∧ t.sar = s.sar ∧ t.tru = s.tru ∧ t.mem = s.mem := by
  have hlmc : (enterLit s).lmc = { s.lmc with
      lamp := .lit, preheatMs := 0, openMs := 0, ramp := .from 0 s.lmc.showLevel s.sar.cfg.fade } := by
    simp [enterLit, setLmc]
  obtain ⟨framp, -, -, -, -, -, -, -, -, -, fshow⟩ := finish_lmc (enterLit s)
  refine ⟨_, run_of_eq hp (if_pos hl), ?_⟩
  rw [framp, fshow]
  simp only [finish_frame, hlmc, enterLit_frame, and_self, and_true, true_and]
  exact ⟨rfl, fun hr => removeCause_out .lamp hr⟩

/-! ## The cooling ends -/

theorem endCooling_cold (hon : s.lmc.coolingOn = true) (hr : s.lmc.coolRunning = false) (ht : s.lmc.temp.getD 45 < 45) :
    endCooling s = setLmc (fun l => if l.lamp = .cooling then (l.darken .off).stopCooling
      else { l.stopCooling with coolDone := true }) s := by
  unfold endCooling Config.coolDoneTemp
  dsimp only
  cases htemp : s.lmc.temp with
  | none => simp [htemp] at ht
  | some v =>
    rw [htemp] at ht
    exact if_pos ⟨hon, hr, decide_eq_true ht⟩

theorem endCooling_warm (ht : 45 ≤ s.lmc.temp.getD 45) : endCooling s = s := by
  unfold endCooling Config.coolDoneTemp
  dsimp only
  refine if_neg ?_
  rintro ⟨-, -, hcold⟩
  cases htemp : s.lmc.temp with
  | none => simp [htemp] at hcold
  | some v =>
    simp only [htemp, Option.getD_some, decide_eq_true_eq] at ht hcold
    omega

theorem coolingTimerExpiry_eq (hp : Powered s) (hon : s.lmc.coolingOn = true) :
    exec .coolingTimerExpiry s = .next (finish (endCooling (setLmc Lmc.stopCooling s))) :=
  run_of_eq hp (if_pos hon)

/-! ## The lamp fails open -/

/-- LMC as a lamp that has failed open leaves it. -/
def failed (l : Lmc) : Lmc := { (l.clearMarks.darken .fault).startCooling with coolDone := false }

theorem lampFails_lmc (s : State) : (lampFails s).lmc = failed s.lmc := by
  simp [lampFails, setLmc, raiseFault, failed]

theorem lampFails_pnp (s : State) : (lampFails s).pnp.pend.fault = true
    ∧ (lampFails s).pnp.hoursWaiting = (if s.pnp.memPresent = true then some s.lmc.hours else s.pnp.hoursWaiting) := by
  refine ⟨?_, ?_⟩
  · unfold lampFails
    rw [addCause_showOnly]
    simp only [setLmc, handHours]
    split <;> rfl
  · cases hm : s.pnp.memPresent <;> simp [lampFails, addCause_frame, setLmc, handHours, raiseFault, hm]

theorem lampFails_cause (h : s.pnp.power ≠ .resetHeld) : (lampFails s).shc.causes.lamp = true := by
  unfold lampFails
  rw [addCause_causes _ (by simpa [setLmc, raiseFault] using h)]
  exact Causes.get_set .lamp true _

theorem openRuns_eq_true_iff (s : State) :
    s.openRuns = true ↔ s.lmc.lamp = .lit ∧ 0 < s.lmc.output ∧ s.pins.lcur = false := by
  simp [State.openRuns, and_assoc]

theorem lampOpenDetect_fails (hp : Powered s) (ho : s.openRuns = true) :
    ∃ t, exec .lampOpenDetect s = .next t ∧ t.lmc.lamp = .fault ∧ t.lmc.output = 0 ∧ t.lmc.coolDone = false
      ∧ t.lmc.coolLeft = s.lmc.cfg.minCool ∧ t.lmc.coolRunning = true ∧ t.lmc.restrike = false
      ∧ t.lmc.deferred = false ∧ t.lmc.guardCap = false ∧ t.lmc.guardElapsed = 0
      ∧ t.pnp.faults = s.pnp.faults.set .lampOpen ∧ t.pnp.pend.fault = true
      ∧ (s.pnp.power ≠ .resetHeld → t.shc.causes.lamp = true)
      ∧ t.pnp.hoursWaiting = (if s.pnp.memPresent = true then some s.lmc.hours else s.pnp.hoursWaiting)
      ∧ t.tru = s.tru ∧ t.mem = s.mem ∧ t.rmi = s.rmi ∧ t.lkc = s.lkc := by
  have hlmc := lampFails_lmc s
  obtain ⟨hfault, hhours⟩ := lampFails_pnp s
  have hsame : SameLamp (failed s.lmc) (lampReports (lampFails s)).lmc := by
    rw [← hlmc]
    exact lampReports_sameLamp (by rw [hlmc]; nofun) (by rw [hlmc]; nofun) (by rw [hlmc]; rfl)
  obtain ⟨hlamp, -, hleft, hrun, hdone, hre, hdef, -⟩ := hsame.shows
  have hout : (lampReports (lampFails s)).lmc.output = 0 := output_unlit (by rw [hlamp]; nofun) (by rw [hlamp]; nofun)
  have hmark := (lampReports_marks (lampFails s)).fault.trans hfault
  have hshc : (lampReports (lampFails s)).shc = (lampFails s).shc := by simp
  have hwait : (lampReports (lampFails s)).pnp.hoursWaiting = (lampFails s).pnp.hoursWaiting := by simp
  obtain ⟨-, fleft, frun, fdone, fre, fdef, fcap, felapsed, fout, -⟩ := finish_lmc (lampReports (lampFails s))
  refine ⟨_, run_of_eq hp (if_pos ho), ?_⟩
  rw [fleft, frun, fdone, fre, fdef, fcap, felapsed, fout, (finish_pend _).1, finish_faults, lampReports_faults,
    lampFails_faults]
  simp only [finish_frame, hshc, hwait, hhours, lampReports_frame, lampFails_frame, and_self, and_true, true_and]
  exact ⟨hlamp, hout, hdone, hleft, hrun, hre, hdef, hsame.cap rfl, hsame.elapsed rfl, hmark,
    fun hr => lampFails_cause hr⟩

/-- Settles O33: a lamp that is put out cools (`lampOut_burning`), whatever LMC's reports then end or start
(`lampReports_sameLamp`); preheat, cooling and the open lamp by their events. -/
theorem lampOffPreheatAndCooling : Obligations.LampOffPreheatAndCooling := by
  refine ⟨fun s h hc hl => lampOff_burning h hc hl, fun s h hc hp hl => lampOff_dark h hc hp hl,
    fun s h hc => run_answers h (panelRequest_disabled hc _), fun s hp hl => preheatExpiry_lights hp hl,
    fun s hp hl => run_of_eq hp (if_neg hl), fun s hp hl ht => ?_, fun s hp hl ht => ?_, fun s hp hl hd ht => ?_,
    fun s hp hc hf => run_of_eq hp (if_neg (by simp [Lmc.coolingOn, hc, hf])), fun s a hp => ?_,
    fun s hp hl ho hc => lampOpenDetect_fails hp ((openRuns_eq_true_iff s).mpr ⟨hl, ho, hc⟩),
    fun s hp h => run_of_eq hp (if_neg (mt (openRuns_eq_true_iff s).mp ?_))⟩
  · have hon : (setLmc Lmc.stopCooling s).lmc.coolingOn = true := (coolingOn_iff _).mpr (.inl hl)
    rw [coolingTimerExpiry_eq hp hon, endCooling_cold hon rfl ht]
    simp only [setLmc, Lmc.stopCooling, hl, if_true]
    rfl
  · rw [coolingTimerExpiry_eq hp ((coolingOn_iff _).mpr (.inl hl)), endCooling_warm (s := setLmc Lmc.stopCooling s) ht]
    rfl
  · have hon : (setLmc Lmc.stopCooling s).lmc.coolingOn = true := (coolingOn_iff _).mpr (.inr ⟨hl, hd⟩)
    rw [coolingTimerExpiry_eq hp hon, endCooling_cold hon rfl ht]
    simp [setLmc, Lmc.stopCooling, hl]
  · refine ⟨_, runPin_of_eq hp rfl, rfl, ?_⟩
    rw [finish_eq]
    refine ⟨fun h => if_neg ?_, fun ha hl ho => if_pos ⟨hl, ho, ha⟩⟩
    rintro ⟨hl, ho, ha⟩
    rcases h with h | h | h
    · exact Bool.false_ne_true (ha.symm.trans h)
    · exact h hl
    · exact absurd h (Nat.ne_of_gt ho)
  · rintro ⟨hl, ho, hc⟩
    rcases h with h | h | h
    · exact h hl
    · exact absurd h (Nat.ne_of_gt ho)
    · exact Bool.false_ne_true (hc.symm.trans h)

end Sys2Proof.Machine
end

section
/-! The show level, the lamp's ramp and the heat guard (04 R78 to R81, R85). -/

namespace Sys2Proof.Machine
open Sys2Proof

/-! ## The lamp that is lit -/

/-- LMC lit with the lamp record `m`: claim, marks, guard and ramp may differ. -/
structure StaysLit (m l : Lmc) : Prop where
  lamp : l.lamp = .lit
  showLevel : l.showLevel = m.showLevel

theorem StaysLit.refl {m : Lmc} (h : m.lamp = .lit) : StaysLit m m := ⟨h, rfl⟩

variable {m : Lmc} {s : State}

theorem endOfReveal_staysLit (h : StaysLit m s.lmc) : StaysLit m (endOfReveal s).lmc :=
  have ⟨_, _, _, _, _, hshow, _⟩ := endOfReveal_lmc s
  ⟨endOfReveal_lamp h.lamp, hshow.trans h.showLevel⟩

theorem startBlanking_lit (h : StaysLit m s.lmc) (f : Flight) : StaysLit m (startBlanking f s).lmc := by
  have hmark : s.lmc.markDim = { s.lmc with dim := true } := if_neg (by rw [h.lamp]; nofun)
  have hfade : StaysLit m (s.lmc.markDim.fadeClaim f.fade) := by
    rw [hmark]
    unfold Lmc.fadeClaim
    split
    · exact ⟨h.lamp, h.showLevel⟩
    · dsimp only
      split <;> exact ⟨h.lamp, h.showLevel⟩
  unfold startBlanking
  dsimp only
  split
  · split
    · simp only [blankingEnd_frame]
      exact ⟨hfade.lamp, hfade.showLevel⟩
    · exact hfade
  · split
    · simp only [blankingEnd_frame]
      exact h
    · exact h

theorem startBlanking_owed (f : Flight) (s : State) : (startBlanking f s).lmc.owed = s.lmc.owed := by
  have hmark (l : Lmc) : l.markDim.owed = l.owed := by
    unfold Lmc.markDim
    dsimp only
    split <;> rfl
  have hfade (l : Lmc) : (l.fadeClaim f.fade).owed = l.owed := by
    unfold Lmc.fadeClaim
    split
    · rfl
    · dsimp only
      split <;> rfl
  unfold startBlanking
  dsimp only
  split
  · split
    · simp only [blankingEnd_frame]
      exact (hfade _).trans (hmark _)
    · exact (hfade _).trans (hmark _)
  · split
    · simp only [blankingEnd_frame]
      rfl
    · rfl

/-- The lamp record with which a change goes into BLANKING. -/
theorem startChange_lmc (src : Source) (k : ChangeKind) (q d : Nat) (s : State) :
    ∃ (f : Flight) (t : State), startChange src k q d s = startBlanking f t ∧ t.lmc = s.lmc.clearGuard := by
  refine ⟨_, _, rfl, ?_⟩
  change (if s.csq.state = .stalled then removeCause .transport (endTenure s) else endTenure s).lmc.clearGuard = _
  split <;> simp [endTenure]

theorem startPending_staysLit (h : StaysLit m s.lmc) :
    StaysLit m (startPending s).lmc ∧ (startPending s).lmc.owed = s.lmc.owed := by
  unfold startPending
  split
  · exact ⟨h, rfl⟩
  · split
    · exact ⟨h, rfl⟩
    · split
      · exact ⟨by simpa using h, by simp⟩
      · next w _ _ _ q _ =>
        have hpre (t : State) (ht : t.lmc = s.lmc) : StaysLit m (startChange w.source w.kind q w.fade t).lmc
            ∧ (startChange w.source w.kind q w.fade t).lmc.owed = s.lmc.owed := by
          obtain ⟨f, u, heq, hu⟩ := startChange_lmc w.source w.kind q w.fade t
          rw [heq, startBlanking_owed, hu, ht]
          exact ⟨startBlanking_lit (by rw [hu, ht]; exact ⟨h.lamp, h.showLevel⟩) f, rfl⟩
        refine hpre _ ?_
        split <;> rfl

theorem revealOver_owed (s : State) : (revealOver s).lmc.owed = s.lmc.owed := by
  rw [revealOver_lmc]
  exact (endOfReveal_lmc (setCsq revealedCsq s)).2.2.2.1

theorem endReveal_staysLit (h : StaysLit m s.lmc) :
    StaysLit m (endReveal s).lmc ∧ (endReveal s).lmc.owed = s.lmc.owed := by
  have hover : StaysLit m (revealOver s).lmc := by
    rw [revealOver_lmc]
    exact endOfReveal_staysLit (s := setCsq revealedCsq s) h
  rw [endReveal_eq]
  obtain ⟨hlit, howed⟩ := startPending_staysLit hover
  exact ⟨hlit, howed.trans (revealOver_owed s)⟩

/-- LMC's report of a complete reveal leaves a lit lamp lit, and nothing owed. -/
theorem revealReported_staysLit (h : StaysLit m s.lmc) :
    StaysLit m (revealReported s).lmc ∧ (revealReported s).lmc.owed = false := by
  unfold revealReported revealCheck
  split
  · exact endReveal_staysLit
      (s := setCsq (fun q => { q with lampDone := true }) (setLmc (fun l => { l with owed := false }) s))
      ⟨h.lamp, h.showLevel⟩
  · exact ⟨⟨h.lamp, h.showLevel⟩, rfl⟩

theorem lampReports_staysLit (h : StaysLit m s.lmc) : StaysLit m (lampReports s).lmc := by
  have hfaded : StaysLit m (faded s).lmc := by
    unfold faded
    split
    · simp only [blankingEnd_frame]
      exact ⟨h.lamp, h.showLevel⟩
    · exact h
  rw [lampReports_eq]
  split
  · exact (revealReported_staysLit hfaded).1
  · exact hfaded

/-! ## The reveal reported complete -/

/-- The state in which LMC's report reaches CSQ. -/
def reported (s : State) : State :=
  setCsq (fun q => { q with lampDone := true }) (setLmc (fun l => { l with owed := false }) s)

theorem reported_owner (s : State) : (reported s).csq.ownerNow = s.csq.ownerNow := rfl

theorem revealReported_waits (h : s.csq.shutDone = false) : revealReported s = reported s :=
  revealCheck_neg (.inr (.inl h))

theorem revealReported_ends (hs : s.csq.state = .revealing) (hd : s.csq.shutDone = true) :
    revealReported s = endReveal (reported s) := revealCheck_pos hs hd rfl

theorem revealReported_over (hs : s.csq.state = .revealing) (hd : s.csq.shutDone = true)
    (hn : StartsNothing s.csq.ownerNow s) : revealReported s = revealOver (reported s) := by
  rw [revealReported_ends hs hd]
  exact endReveal_nothing (s := reported s) hn

/-- Where the report starts nothing the ramp runs on. -/
theorem revealReported_ramp (hn : StartsNothing s.csq.ownerNow s) : (revealReported s).lmc.ramp = s.lmc.ramp := by
  have heq : revealReported s = revealCheck (reported s) := rfl
  rw [heq, revealCheck_nothing (s := reported s) hn]
  split
  · exact (revealOver_lamp (reported s)).2.1
  · rfl

theorem revealOver_dim (s : State) : (revealOver s).lmc.dim = false := by
  rw [revealOver_lmc]
  exact (endOfReveal_lmc _).1

theorem revealOver_guard (s : State) : (revealOver s).lmc.guardCap = s.lmc.guardCap
    ∧ (revealOver s).lmc.guardElapsed = 0 := by
  obtain ⟨-, -, helapsed, -, -, -, hcap⟩ := endOfReveal_lmc (setCsq revealedCsq s)
  rw [revealOver_lmc]
  exact ⟨hcap, helapsed⟩

/-! ## SET LEVEL -/

/-- LMC as SET LEVEL writes it, before a reveal ramp that it replaces is reported. -/
def leveled (level fade : Nat) (s : State) : State :=
  setLmc (fun l => { (if level ≤ 200 then { l with showLevel := level }.clearGuard else { l with showLevel := level }) with
    ramp := .from s.lmc.output level fade }) s

theorem setLevelTaken_lit {level fade : Nat} (hl : s.lmc.lamp = .lit) (hc : s.lmc.claim = .none) :
    setLevelTaken level fade s = (revealReplaced (leveled level fade s), .ok) := by
  unfold setLevelTaken
  dsimp only
  rw [if_pos ⟨hl, hc⟩]
  rfl

theorem setLevelTaken_dark {level fade : Nat} (h : s.lmc.lamp ≠ .lit ∨ s.lmc.claim ≠ .none) :
    setLevelTaken level fade s = (setLmc (fun l => if level ≤ 200 then { l with showLevel := level }.clearGuard
      else { l with showLevel := level }) s, .ok) := by
  unfold setLevelTaken
  dsimp only
  rw [if_neg (fun ⟨hl, hc⟩ => h.elim (· hl) (· hc))]
  rfl

theorem setLevel_ok {level fade : Byte} {t : State} (h : Awake s) (hc : classOk .panel .lamp s = true)
    (hf : fade.toNat ≤ 99 ∨ fade = 0xFF) (ht : setLevelTaken level.toNat (fadeOf s fade) s = (t, .ok)) :
    exec (.setLevel level fade) s = .next (finish (answered .ok [] t)) := by
  have hfade : fadeOk fade = true := by
    rcases hf with hf | hf <;> simp [fadeOk, hf, Config.defaultFadeByte]
  exact (run_answers h (panelRequest_ok hc ((if_pos hfade).trans ht))).trans rfl

theorem setLevel_badFade {level fade : Byte} (h : Awake s) (hc : classOk .panel .lamp s = true)
    (hf : 99 < fade.toNat) (hne : fade ≠ 0xFF) :
    exec (.setLevel level fade) s = .next (finish (answered .badArg [] s)) := by
  have hbyte : fade ≠ Config.defaultFadeByte := hne
  have hfade : fadeOk fade = false := by simp [fadeOk, hbyte, hf]
  exact run_answers h (panelRequest_refused hc (if_neg (by simp [hfade])) nofun)

theorem leveled_frame (level fade : Nat) (s : State) : (leveled level fade s).csq = s.csq
    ∧ (leveled level fade s).sar = s.sar ∧ (leveled level fade s).pnp = s.pnp ∧ (leveled level fade s).tru = s.tru
    ∧ (leveled level fade s).lmc.owed = s.lmc.owed ∧ (leveled level fade s).lmc.showLevel = level
    ∧ (leveled level fade s).lmc.ramp = ⟨s.lmc.output, level, fade, 0, 0⟩
    ∧ (leveled level fade s).lmc.lamp = s.lmc.lamp
    ∧ (level ≤ 200 → (leveled level fade s).lmc.guardCap = false ∧ (leveled level fade s).lmc.guardElapsed = 0)
    ∧ (200 < level → (leveled level fade s).lmc.guardCap = s.lmc.guardCap) := by
  unfold leveled setLmc
  dsimp only
  split
  · next h => exact ⟨rfl, rfl, rfl, rfl, rfl, rfl, rfl, rfl, fun _ => ⟨rfl, rfl⟩, fun h' => absurd h (by omega)⟩
  · next h => exact ⟨rfl, rfl, rfl, rfl, rfl, rfl, rfl, rfl, fun h' => absurd h' h, fun _ => rfl⟩

theorem RevealStartsNothing.congr {s t : State} (hcsq : t.csq.ownerNow = s.csq.ownerNow) (hsar : t.sar = s.sar)
    (hpnp : t.pnp = s.pnp) (howed : t.lmc.owed = s.lmc.owed) (h : RevealStartsNothing s) : RevealStartsNothing t :=
  fun ho => hcsq ▸ StartsNothing.congr hsar hpnp (h (howed ▸ ho))

/-- A reveal ramp that is replaced, where its report starts nothing. -/
theorem revealReplaced_lit {m : Lmc} (h : StaysLit m s.lmc) (hn : RevealStartsNothing s) :
    StaysLit m (revealReplaced s).lmc ∧ (revealReplaced s).lmc.ramp = s.lmc.ramp
      ∧ (revealReplaced s).lmc.owed = false ∧ (revealReplaced s).lmc.guardCap = s.lmc.guardCap
      ∧ (s.lmc.guardElapsed = 0 → (revealReplaced s).lmc.guardElapsed = 0)
      ∧ (s.lmc.owed = false → (revealReplaced s).csq = s.csq)
      ∧ (s.lmc.owed = true → s.csq.state = .revealing → s.csq.shutDone = true →
          (revealReplaced s).csq.state = .idle ∧ (revealReplaced s).csq.flight = none)
      ∧ (s.lmc.owed = true → s.csq.state = .revealing → s.csq.shutDone = false →
          (revealReplaced s).csq = { s.csq with lampDone := true }) := by
  rw [revealReplaced_eq]
  cases ho : s.lmc.owed with
  | false => exact ⟨h, rfl, ho, rfl, fun he => he, fun _ => rfl, nofun, nofun⟩
  | true =>
    have hn' := hn ho
    obtain ⟨hlit, howed⟩ := revealReported_staysLit h
    have hcap : (revealReported s).lmc.guardCap = s.lmc.guardCap
        ∧ (s.lmc.guardElapsed = 0 → (revealReported s).lmc.guardElapsed = 0) := by
      have heq : revealReported s = revealCheck (reported s) := rfl
      rw [heq, revealCheck_nothing (s := reported s) hn']
      split
      · obtain ⟨hcap, helapsed⟩ := revealOver_guard (reported s)
        exact ⟨hcap, fun _ => helapsed⟩
      · exact ⟨rfl, id⟩
    refine ⟨hlit, revealReported_ramp hn', howed, hcap.1, hcap.2, nofun, fun _ hs hd => ?_, fun _ _ hd => ?_⟩
    · rw [if_pos rfl, revealReported_over hs hd hn', revealOver_csq]
      exact ⟨rfl, rfl⟩
    · rw [if_pos rfl, revealReported_waits hd]
      rfl

theorem setLevel_lit {l f : Byte} (h : Awake s) (hc : classOk .panel .lamp s = true) (hf : f.toNat ≤ 99 ∨ f = 0xFF)
    (hl : s.lmc.lamp = .lit) (hcl : s.lmc.claim = .none) (hn : RevealStartsNothing s) :
    ∃ t, exec (.setLevel l f) s = .next t ∧ t.pnp.resp = some ⟨.ok, []⟩ ∧ t.lmc.showLevel = l.toNat
      ∧ t.lmc.ramp = ⟨s.lmc.output, l.toNat, if f = 0xFF then s.sar.cfg.fade else f.toNat, 0, 0⟩
      ∧ (l.toNat ≤ 200 → t.lmc.guardCap = false ∧ t.lmc.guardElapsed = 0)
      ∧ (200 < l.toNat → t.lmc.guardCap = s.lmc.guardCap)
      ∧ t.lmc.lamp = .lit ∧ t.tru = s.tru ∧ t.mem = s.mem ∧ t.dkc = s.dkc ∧ t.rmi = s.rmi ∧ t.lkc = s.lkc
      ∧ t.lmc.owed = false ∧ (s.lmc.owed = false → t.csq = s.csq)
      ∧ (s.lmc.owed = true → s.csq.state = .revealing → s.csq.shutDone = true → t.csq.state = .idle
          ∧ t.csq.flight = none)
      ∧ (s.lmc.owed = true → s.csq.state = .revealing → s.csq.shutDone = false →
          t.csq = { s.csq with lampDone := true }) := by
  obtain ⟨hcsq, hsar, hpnp, htru, howed, hshow, hramp, hlamp, hlow, hhigh⟩ := leveled_frame l.toNat (fadeOf s f) s
  have hlit : StaysLit (leveled l.toNat (fadeOf s f) s).lmc (leveled l.toNat (fadeOf s f) s).lmc :=
    .refl (hlamp.trans hl)
  have hn' : RevealStartsNothing (leveled l.toNat (fadeOf s f) s) :=
    RevealStartsNothing.congr (congrArg (·.ownerNow) hcsq) hsar hpnp howed hn
  obtain ⟨hstay, hramp', howed', hcap, helapsed, hfree, hidle, hwait⟩ := revealReplaced_lit hlit hn'
  rw [howed, hcsq] at hfree hidle hwait
  obtain ⟨framp, -, -, -, -, -, fcap, felapsed, -, fowed, fshow⟩ :=
    finish_lmc (answered .ok [] (revealReplaced (leveled l.toNat (fadeOf s f) s)))
  refine ⟨_, setLevel_ok h hc hf (setLevelTaken_lit hl hcl), ?_⟩
  rw [framp, fcap, felapsed, fowed, fshow]
  simp only [finish_frame]
  refine ⟨rfl, hstay.showLevel.trans hshow, hramp'.trans hramp, fun hle => ?_, fun hlt => hcap.trans (hhigh hlt),
    hstay.lamp, by simp [answered, htru], by simp [answered, leveled, setLmc], by simp [answered, leveled, setLmc],
    by simp [answered, leveled, setLmc], by simp [answered, leveled, setLmc], howed', hfree, hidle, hwait⟩
  obtain ⟨hc0, he0⟩ := hlow hle
  exact ⟨hcap.trans hc0, helapsed he0⟩

theorem setLevel_starts {l f : Byte} {w : Waiting} {q : Nat} (h : Awake s) (hc : classOk .panel .lamp s = true)
    (hf : f.toNat ≤ 99 ∨ f = 0xFF) (hl : s.lmc.lamp = .lit) (hcl : s.lmc.claim = .none) (ho : s.lmc.owed = true)
    (hs : s.csq.state = .revealing) (hd : s.csq.shutDone = true) (hw : s.sar.waiting = some w)
    (hin : LetIn s.csq.ownerNow s w) (hq : startCheck w s = .ok q) :
    ∃ t, exec (.setLevel l f) s = .next t ∧ t.pnp.resp = some ⟨.ok, []⟩ ∧ t.lmc.showLevel = l.toNat
      ∧ StartedPending w q s t ∧ t.tru = s.tru := by
  obtain ⟨hcsq, hsar, hpnp, htru, howed, hshow, -, hlamp, -⟩ := leveled_frame l.toNat (fadeOf s f) s
  have hlit : StaysLit (leveled l.toNat (fadeOf s f) s).lmc (leveled l.toNat (fadeOf s f) s).lmc :=
    .refl (hlamp.trans hl)
  obtain ⟨hstay, -⟩ := revealReported_staysLit hlit
  have heq : revealReplaced (leveled l.toNat (fadeOf s f) s) = endReveal (reported (leveled l.toNat (fadeOf s f) s)) := by
    rw [revealReplaced_eq, if_pos (howed.trans ho)]
    exact revealReported_ends (hcsq ▸ hs) (hcsq ▸ hd)
  have hstart : StartedPending w q s (endReveal (reported (leveled l.toNat (fadeOf s f) s))) :=
    endReveal_started (s := reported (leveled l.toNat (fadeOf s f) s)) hw hin hq
  have hshow' : (revealReplaced (leveled l.toNat (fadeOf s f) s)).lmc.showLevel = l.toNat := by
    rw [revealReplaced_eq, if_pos (howed.trans ho)]
    exact hstay.showLevel.trans hshow
  refine ⟨_, setLevel_ok h hc hf (setLevelTaken_lit hl hcl), ?_⟩
  rw [finish_showLevel, StartedPending, finish_awaited]
  simp only [finish_frame]
  refine ⟨rfl, hshow', ?_, by simp [answered, htru]⟩
  simp only [answered, heq]
  exact hstart

/-! ## LAMP_RAMP_TICK -/

/-- The ramp a tick further. -/
def ticked (s : State) : State :=
  setLmc (fun l => { l with ramp := { l.ramp with elapsed := l.ramp.elapsed + 1, ms := 0 } }) s

theorem lampRampTick_eq (hp : Powered s) (hl : s.lmc.lamp = .lit) (hr : s.lmc.ramp.elapsed < s.lmc.ramp.duration) :
    exec .lampRampTick s = .next (finish (lampReports (ticked s))) := run_of_eq hp (if_pos ⟨hl, hr⟩)

theorem faded_other (h : s.lmc.claim ≠ .fade) : faded s = s := if_neg fun hc => h hc.1

theorem lampReports_nothing (hc : s.lmc.claim ≠ .fade) (h : s.lmc.owed = false ∨ (s.lmc.lamp = .lit
    ∧ s.lmc.ramp.complete = false)) : lampReports s = s := by
  rw [lampReports_eq, faded_other hc, if_neg]
  rintro ⟨ho, hrep⟩
  rcases h with h | ⟨hl, hcomplete⟩
  · exact Bool.false_ne_true (h.symm.trans ho)
  · rcases hrep with hrep | hrep
    · exact hrep hl
    · exact Bool.false_ne_true (hcomplete.symm.trans hrep)

theorem lampReports_complete (hc : s.lmc.claim ≠ .fade) (ho : s.lmc.owed = true) (hr : s.lmc.ramp.complete = true) :
    lampReports s = revealReported s := by
  rw [lampReports_eq, faded_other hc, if_pos ⟨ho, .inr hr⟩]

theorem blankingEnd_owner (s : State) : (blankingEnd s).csq.ownerNow = s.csq.ownerNow := by
  have hkept : (blankingEnd s).csq.keptOwner = s.csq.keptOwner := by
    unfold blankingEnd
    split
    · dsimp only
      split
      · unfold toTarget
        (repeat' split) <;> rfl
      · rfl
    · rfl
  rw [Csq.ownerNow, Csq.ownerNow, hkept]
  simp

theorem faded_owner (s : State) : (faded s).csq.ownerNow = s.csq.ownerNow := by
  unfold faded
  split
  · exact blankingEnd_owner (setLmc Lmc.holdClaim s)
  · rfl

theorem faded_frame (s : State) : (faded s).sar = s.sar ∧ (faded s).pnp = s.pnp ∧ (faded s).lmc.ramp = s.lmc.ramp
    ∧ (faded s).lmc.owed = s.lmc.owed := by
  unfold faded
  split
  · simp [setLmc, Lmc.holdClaim]
  · exact ⟨rfl, rfl, rfl, rfl⟩

/-- Where the report of a reveal starts nothing, LMC's reports leave the ramp. -/
theorem lampReports_ramp (hn : RevealStartsNothing s) : (lampReports s).lmc.ramp = s.lmc.ramp := by
  obtain ⟨hsar, hpnp, hramp, howed⟩ := faded_frame s
  have hn' : RevealStartsNothing (faded s) := RevealStartsNothing.congr (faded_owner s) hsar hpnp howed hn
  rw [lampReports_eq]
  split
  · next h => exact (revealReported_ramp (hn' h.1)).trans hramp
  · exact hramp

theorem lampRampTick_lit (hp : Powered s) (hl : s.lmc.lamp = .lit) (hr : s.lmc.ramp.elapsed < s.lmc.ramp.duration) :
    ∃ t, exec .lampRampTick s = .next t
      ∧ (RevealStartsNothing s →
          t.lmc.ramp = { s.lmc.ramp with elapsed := s.lmc.ramp.elapsed + 1, ms := 0 })
      ∧ (s.lmc.claim ≠ .fade → s.lmc.owed = false → t.csq = s.csq ∧ t.lmc.claim = s.lmc.claim)
      ∧ (s.lmc.claim ≠ .fade → s.lmc.ramp.elapsed + 1 < s.lmc.ramp.duration → t.csq = s.csq)
      ∧ t.lmc.lamp = .lit ∧ t.lmc.showLevel = s.lmc.showLevel ∧ t.mem = s.mem ∧ t.dkc = s.dkc := by
  have hstay : StaysLit s.lmc (lampReports (ticked s)).lmc := lampReports_staysLit (s := ticked s) ⟨hl, rfl⟩
  refine ⟨_, lampRampTick_eq hp hl hr, ?_⟩
  rw [(finish_guard _).2.2, finish_showLevel]
  simp only [finish_frame]
  refine ⟨fun hn => lampReports_ramp (s := ticked s) hn, fun hc ho => ?_, fun hc hlt => ?_, hstay.lamp, hstay.showLevel,
    by simp [ticked, setLmc], by simp [ticked, setLmc]⟩
  · rw [lampReports_nothing (s := ticked s) hc (.inl ho)]
    exact ⟨rfl, rfl⟩
  · rw [lampReports_nothing (s := ticked s) hc (.inr ⟨hl, decide_eq_false (Nat.ne_of_lt hlt)⟩)]
    rfl

theorem output_of_level_zero {l : Lmc} (hl : l.lamp = .lit) (h0 : l.ramp.level = 0) : l.output = 0 := by
  by_cases hc : l.claim = .hold
  · exact output_of_hold hc
  · rw [output_of_lit hc hl, h0]
    (repeat' split) <;> rfl

theorem lampRampTick_blanks {f : Flight} (hp : Powered s) (hl : s.lmc.lamp = .lit)
    (hr : s.lmc.ramp.elapsed + 1 = s.lmc.ramp.duration) (ht : s.lmc.ramp.target = 0) (hc : s.lmc.claim = .fade)
    (hs : s.csq.state = .blanking) (hf : s.csq.flight = some f) (ho : s.lmc.owed = false) :
    ∃ t, exec .lampRampTick s = .next t ∧ t.lmc.claim = .hold ∧ t.lmc.output = 0 ∧ t.csq.shutMs = none
      ∧ t.csq.flight = some f ∧ t.csq.gate = s.csq.gate
      ∧ (s.csq.gate ≠ .empty → t.csq.state = .lifting ∧ t.csq.drive = .lift)
      ∧ (s.csq.gate = .empty → s.tru.position = some f.target → t.csq.state = .dropping ∧ t.csq.drive = .drop)
      ∧ (s.csq.gate = .empty → s.tru.position ≠ some f.target → t.csq.state = .indexing)
      ∧ t.sar = s.sar ∧ t.tru = s.tru := by
  have hlevel : (ticked s).lmc.ramp.level = 0 :=
    (level_at_end (r := (ticked s).lmc.ramp) (by change 0 < s.lmc.ramp.duration; omega) hr).trans ht
  have hout : (ticked s).lmc.output = 0 := output_of_level_zero hl hlevel
  have hfade : faded (ticked s) = blankingEnd (setLmc Lmc.holdClaim (ticked s)) := if_pos ⟨hc, hout⟩
  have heq : lampReports (ticked s) = blankingEnd (setLmc Lmc.holdClaim (ticked s)) := by
    rw [lampReports_eq, hfade, if_neg]
    rintro ⟨howed, -⟩
    simp only [blankingEnd_frame] at howed
    exact Bool.false_ne_true (ho.symm.trans howed)
  refine ⟨_, lampRampTick_eq hp hl (by omega), ?_⟩
  rw [finish_output, heq]
  simp only [finish_frame]
  refine ⟨by simp [setLmc, Lmc.holdClaim], by rw [output_of_hold (by simp [setLmc, Lmc.holdClaim])], ?_,
    by simpa [setLmc, ticked] using hf, by simp [setLmc, ticked], fun hg => ?_, fun hg hpos => ?_, fun hg hpos => ?_,
    by simp [setLmc, ticked], by simp [setLmc, ticked]⟩
  · by_cases hg : s.csq.gate = .empty
    · rw [blankingEnd_turns (s := setLmc Lmc.holdClaim (ticked s)) hs hg hf]
      dsimp only
      split <;> rfl
    · rw [blankingEnd_lifts (s := setLmc Lmc.holdClaim (ticked s)) hs hg]
  · rw [blankingEnd_lifts (s := setLmc Lmc.holdClaim (ticked s)) hs hg]
    exact ⟨rfl, rfl⟩
  · rw [blankingEnd_turns (s := setLmc Lmc.holdClaim (ticked s)) hs hg hf]
    dsimp only
    rw [if_pos (show (setLmc Lmc.holdClaim (ticked s)).tru.position = some f.target from hpos)]
    exact ⟨rfl, rfl⟩
  · rw [blankingEnd_turns (s := setLmc Lmc.holdClaim (ticked s)) hs hg hf]
    dsimp only
    rw [if_neg (show ¬ (setLmc Lmc.holdClaim (ticked s)).tru.position = some f.target from hpos)]

/-- The tick that completes the reveal ramp. -/
theorem lampRampTick_completes (hp : Powered s) (hl : s.lmc.lamp = .lit)
    (hr : s.lmc.ramp.elapsed + 1 = s.lmc.ramp.duration) (hc : s.lmc.claim = .none) (ho : s.lmc.owed = true) :
    exec .lampRampTick s = .next (finish (revealReported (ticked s))) := by
  rw [lampRampTick_eq hp hl (by omega)]
  rw [lampReports_complete (s := ticked s) (by rw [show (ticked s).lmc.claim = .none from hc]; nofun) ho
    (decide_eq_true hr)]

theorem lampRampTick_ends {f : Flight} (hp : Powered s) (hl : s.lmc.lamp = .lit)
    (hr : s.lmc.ramp.elapsed + 1 = s.lmc.ramp.duration) (hc : s.lmc.claim = .none) (ho : s.lmc.owed = true)
    (hs : s.csq.state = .revealing) (hd : s.csq.shutDone = true) (hf : s.csq.flight = some f)
    (hn : StartsNothing f.owner s) :
    ∃ t, exec .lampRampTick s = .next t ∧ t.lmc.owed = false ∧ t.lmc.dim = false ∧ t.csq.state = .idle
      ∧ t.csq.flight = none ∧ Ended f (if f.halt then .halted else .done) (finalNow s) s t := by
  have howner : (ticked s).csq.ownerNow = f.owner := ownerNow_flight (q := (ticked s).csq) hf
  have hover : revealReported (ticked s) = revealOver (reported (ticked s)) :=
    revealReported_over (s := ticked s) hs hd (howner ▸ hn)
  have hend := revealOver_ended (s := reported (ticked s)) (f := f) hf
  refine ⟨_, lampRampTick_completes hp hl hr hc ho, ?_⟩
  obtain ⟨-, -, -, -, -, -, -, -, -, fowed, -⟩ := finish_lmc (revealReported (ticked s))
  rw [fowed, hover, Ended]
  simp only [finish_frame, revealOver_csq, revealOver_owed, revealOver_dim, true_and]
  exact ⟨rfl, rfl, hend⟩

theorem lampRampTick_starts {f : Flight} {w : Waiting} {q : Nat} (hp : Powered s) (hl : s.lmc.lamp = .lit)
    (hr : s.lmc.ramp.elapsed + 1 = s.lmc.ramp.duration) (hc : s.lmc.claim = .none) (ho : s.lmc.owed = true)
    (hs : s.csq.state = .revealing) (hd : s.csq.shutDone = true) (hf : s.csq.flight = some f)
    (hw : s.sar.waiting = some w) (hin : LetIn f.owner s w) (hq : startCheck w s = .ok q) :
    ∃ t, exec .lampRampTick s = .next t ∧ t.lmc.owed = false ∧ StartedPending w q s t := by
  have howner : (ticked s).csq.ownerNow = f.owner := ownerNow_flight (q := (ticked s).csq) hf
  have hstart : StartedPending w q s (endReveal (reported (ticked s))) :=
    endReveal_started (s := reported (ticked s)) hw
      (show LetIn (ticked s).csq.ownerNow s w from howner ▸ hin) hq
  have howed := (revealReported_staysLit (m := (ticked s).lmc) (s := ticked s) (.refl hl)).2
  refine ⟨_, lampRampTick_completes hp hl hr hc ho, ?_⟩
  obtain ⟨-, -, -, -, -, -, -, -, -, fowed, -⟩ := finish_lmc (revealReported (ticked s))
  rw [fowed, StartedPending, finish_awaited]
  simp only [finish_frame]
  rw [revealReported_ends (s := ticked s) hs hd] at howed ⊢
  exact ⟨howed, hstart⟩

/-- Settles O35: SET LEVEL starts a ramp where the lamp is lit and unclaimed and reports the reveal it replaces
(`revealReplaced_lit`), a tick moves the ramp on and reports at its end, and the guard caps where its timer runs. -/
theorem showLevelAndHeatGuard : Obligations.ShowLevelAndHeatGuard := by
  refine ⟨fun s l f h hc hf hl hcl hn => setLevel_lit h hc hf hl hcl hn,
    fun s l f w q h hc hf hl hcl ho hs hd hw hin hq => setLevel_starts h hc hf hl hcl ho hs hd hw hin hq,
    fun s l f h hc hf hd hlt => ?_, fun s l f h hc hf hd hle => ?_,
    fun s l f h hc hf hne => setLevel_badFade h hc hf hne,
    fun s l f h hc => run_answers h (panelRequest_disabled hc _), fun s hp hl hr => lampRampTick_lit hp hl hr,
    fun s f hp hl hr ht hc hs hf ho => lampRampTick_blanks hp hl hr ht hc hs hf ho,
    fun s f hp hl hr hc ho hs hd hf hn => lampRampTick_ends hp hl hr hc ho hs hd hf hn,
    fun s f w q hp hl hr hc ho hs hd hf hw hin hq => lampRampTick_starts hp hl hr hc ho hs hd hf hw hin hq,
    fun s hp hl hr hc ho hs hd => ?_, fun s hp h => run_of_eq hp (if_neg fun ⟨hl, hr⟩ => ?_),
    fun s hp hg hl ho hh hc => run_of_eq hp (if_pos ((guardRuns_iff s).mpr ⟨hg, hl, ho, hh, hc⟩)),
    fun s hp h => run_of_eq hp (if_neg (mt (guardRuns_iff s).mp ?_))⟩
  · have htaken := setLevelTaken_dark (level := l.toNat) (fade := fadeOf s f) hd
    simp only [if_neg (Nat.not_le.mpr hlt)] at htaken
    exact setLevel_ok h hc hf htaken
  · have htaken := setLevelTaken_dark (level := l.toNat) (fade := fadeOf s f) hd
    simp only [if_pos hle] at htaken
    exact setLevel_ok h hc hf htaken
  · refine ⟨_, lampRampTick_completes hp hl hr hc ho, ?_⟩
    obtain ⟨-, -, -, -, -, -, -, -, -, fowed, -⟩ := finish_lmc (revealReported (ticked s))
    rw [fowed]
    simp only [finish_frame]
    rw [revealReported_waits (s := ticked s) hd]
    exact ⟨rfl, rfl, rfl⟩
  · rintro ⟨hg, hl, ho, hh, hc⟩
    rcases h with h | h | h | h | h
    · exact h hg
    · exact h hl
    · omega
    · exact hh h
    · exact Bool.false_ne_true (hc.symm.trans h)
  · rcases h with h | h
    · exact h hl
    · omega

end Sys2Proof.Machine
end

section
/-! LAMP_REPLACED, CLEAR_FAULT_TRIP, SET_LAMP and READ_LAMP (04 R77, R83, R89, R90). -/

namespace Sys2Proof.Machine
open Sys2Proof

theorem finish_hours (s : State) : (finish s).lmc.part = s.lmc.part ∧ (finish s).lmc.derate = s.lmc.derate := by
  rw [finish_eq]
  exact ⟨rfl, rfl⟩

/-- What `finish` leaves of a state apart from LMC and PNP. -/
theorem finish_rest (s : State) : finish s = { s with lmc := (finish s).lmc, pnp := (finish s).pnp } := by
  rw [finish_eq]

theorem finish_answered_rest (st : Status) (p : List Byte) {s t : State}
    (h : t = { s with lmc := t.lmc, pnp := t.pnp }) :
    finish (answered st p t) = { s with
      lmc := (finish (answered st p t)).lmc
      pnp := (finish (answered st p t)).pnp
      psdo := [0xFF] } := by
  rw [finish_rest]
  generalize finish (answered st p t) = u
  rw [answered, h]

theorem handHours_eq (s : State) : handHours s = { s with
    pnp := { s.pnp with
      hoursWaiting := if s.pnp.memPresent = true then some s.lmc.hours else s.pnp.hoursWaiting } } := by
  unfold handHours
  split <;> rfl

theorem resetHours_eq (s : State) : resetHours s = { s with
    lmc := { s.lmc with hours := 0, part := 0, partMs := 0 }
    pnp := { s.pnp with hoursWaiting := if s.pnp.memPresent = true then some 0 else s.pnp.hoursWaiting } } := by
  unfold resetHours
  rw [handHours_eq]
  rfl

/-- The state at once after a lamp is fitted anew (R77). -/
def lampFitted (s : State) : State :=
  resetHours (if s.lmc.lamp = .fault then setLmc (fun l => { l.darken .off with coolDone := false }) s else s)

theorem lampFitted_eq (s : State) : lampFitted s = { s with
    lmc := { (if s.lmc.lamp = .fault then { s.lmc.darken .off with coolDone := false } else s.lmc) with
      hours := 0, part := 0, partMs := 0 }
    pnp := { s.pnp with hoursWaiting := if s.pnp.memPresent = true then some 0 else s.pnp.hoursWaiting } } := by
  rw [lampFitted, resetHours_eq]
  split <;> rfl

theorem lampReplaced_ok {s : State} (h : Awake s)
    (hl : (s.lmc.lamp = .fault ∧ s.lmc.coolDone = true) ∨ s.lmc.lamp = .off) :
    exec .lampReplaced s = .next (finish (answered .ok [] (lampFitted s))) := by
  refine run_answers h ?_
  obtain ⟨hf, hd⟩ | ho := hl
  · simp [lampFitted, hf, hd, reply, Response.of]
  · simp [lampFitted, ho, reply, Response.of]

theorem lampReplaced_hot {s : State} (h : Awake s) (hl : s.lmc.lamp = .fault) (hd : s.lmc.coolDone = false) :
    exec .lampReplaced s = .next (finish (answered .hot [] s)) :=
  run_answers h (by simp [hl, hd, reply, Response.of])

theorem lampReplaced_busy {s : State} (h : Awake s)
    (hl : s.lmc.lamp = .preheat ∨ s.lmc.lamp = .lit ∨ s.lmc.lamp = .cooling) :
    exec .lampReplaced s = .next (finish (answered .busy [] s)) := by
  refine run_answers h ?_
  obtain hl | hl | hl := hl <;> rw [hl] <;> rfl

theorem LampSettings.parse_eq_some {b : LampBytes} (h1 : 50 ≤ b.warn.toNat) (h2 : b.warn.toNat ≤ 150)
    (h3 : b.warn.toNat + 5 ≤ b.trip.toNat) (h4 : b.trip.toNat ≤ 180) (h5 : b.minCool.toNat ≤ 600) :
    LampSettings.parse b
      = some ⟨b.warn.toNat, b.trip.toNat, b.minCool.toNat, b.heat.toNat, b.initShow.toNat⟩ :=
  if_pos ⟨h1, h2, h3, h4, h5⟩

theorem LampSettings.parse_eq_none {b : LampBytes} (h : b.warn.toNat < 50 ∨ 150 < b.warn.toNat
    ∨ b.trip.toNat < b.warn.toNat + 5 ∨ 180 < b.trip.toNat ∨ 600 < b.minCool.toNat) :
    LampSettings.parse b = none :=
  if_neg (by omega)

theorem Lmc.rederate_derate (l : Lmc) : l.rederate.derate = decide (∃ v ∈ l.temp, l.cfg.warn ≤ v) := by
  unfold Lmc.rederate
  cases l.temp <;> simp

theorem Lmc.applySettings_eq (l : Lmc) (v : LampSettings) : l.applySettings v = { l with
    cfg := v
    derate := decide (∃ t ∈ l.temp, v.warn ≤ t)
    guardCap := if v.heat = 0 then false else l.guardCap
    guardElapsed := if v.heat = 0 then 0 else l.guardElapsed
    guardMs := if v.heat = 0 then 0 else l.guardMs } := by
  have hd := Lmc.rederate_derate { l with cfg := v }
  dsimp only at hd
  rw [← hd]
  unfold Lmc.applySettings
  split <;> rfl

/-- New lamp settings with the guard's cap as the heat time leaves it. -/
theorem applyLamp_eq (v : LampSettings) (s : State) : ∃ c, (v.heat = 0 → c = false)
    ∧ applyLamp v s = { s with lmc := { s.lmc.applySettings v with guardCap := c } } := by
  unfold applyLamp guardCheck
  split
  next hr =>
    obtain ⟨-, -, -, hheat, -⟩ := (guardRuns_iff _).1 hr.1
    refine ⟨true, fun h0 => absurd ?_ hheat, rfl⟩
    rw [setLmc, Lmc.applySettings_eq]
    exact h0
  next =>
    refine ⟨(s.lmc.applySettings v).guardCap, fun h0 => ?_, rfl⟩
    rw [Lmc.applySettings_eq]
    exact if_pos h0

/-- SET_LAMP with settings in their ranges. -/
theorem setLamp_taken {s : State} {b : LampBytes} {v : LampSettings} (h : Awake s)
    (hv : LampSettings.parse b = some v) :
    ∃ t, exec (.setLamp b) s = .next t ∧ t.pnp.resp = some ⟨.ok, []⟩ ∧ t.lmc.cfg = v
      ∧ t.lmc.derate = decide (∃ x ∈ s.lmc.temp, v.warn ≤ x)
      ∧ (v.heat = 0 → t.lmc.guardCap = false ∧ t.lmc.guardElapsed = 0)
      ∧ t.lmc.showLevel = s.lmc.showLevel ∧ t.lmc.lamp = s.lmc.lamp ∧ t.lmc.coolLeft = s.lmc.coolLeft
      ∧ t = { s with lmc := t.lmc, pnp := t.pnp, psdo := [0xFF] } := by
  obtain ⟨c, hc, heq⟩ := applyLamp_eq v s
  refine ⟨_, run_setting_some h hv _, ?_⟩
  have hrest := finish_answered_rest .ok [] (s := s) (t := applyLamp v s) (by rw [heq])
  rw [(finish_hours _).2, (finish_lmc _).2.1]
  simp only [finish_frame, finish_lmc]
  refine ⟨rfl, ?_, ?_, fun h0 => ?_, ?_, ?_, ?_, hrest⟩ <;> simp only [answered, heq, Lmc.applySettings_eq]
  exact ⟨hc h0, if_pos h0⟩

theorem lampPayload_eq (l : Lmc) : lampPayload l =
    [match l.lamp with
        | .off => (0 : Byte)
        | .preheat => 1
        | .lit => 2
        | .cooling => 3
        | .fault => 4,
     b8 l.output, b8 l.showLevel, b8 l.ramp.target, b8 (l.ramp.duration - l.ramp.elapsed),
     b8 (bit l.restrike 0 + bit l.deferred 1 + bit l.trip 2 + bit l.derate 3
       + bit l.guardCap 4 + bit l.dim 5 + bit l.coolDone 6 + bit l.fanStall 7),
     match l.claim with
        | .none => 0
        | .fade => 1
        | .hold => 2,
     optByte 0xFF l.temp,
     match l.fan with
        | .off => 0
        | .low => 1
        | .high => 2,
     b8 (if l.lamp = .cooling ∨ (l.lamp = .fault ∧ l.coolDone = false) then l.coolLeft else 0),
     b8 ((if l.lamp = .cooling ∨ (l.lamp = .fault ∧ l.coolDone = false) then l.coolLeft else 0) / 256),
     b8 l.guardElapsed, b8 l.hours, b8 (l.hours / 256), b8 l.cfg.warn, b8 l.cfg.trip] := by
  have hlamp : b8 l.lamp.code = (match l.lamp with
      | .off => (0 : Byte)
      | .preheat => 1
      | .lit => 2
      | .cooling => 3
      | .fault => 4) := by cases l.lamp <;> rfl
  have hclaim : b8 l.claim.code = (match l.claim with
      | .none => (0 : Byte)
      | .fade => 1
      | .hold => 2) := by cases l.claim <;> rfl
  have hfan : b8 l.fan.code = (match l.fan with
      | .off => (0 : Byte)
      | .low => 1
      | .high => 2) := by cases l.fan <;> rfl
  rw [lampPayload, hlamp, hclaim, hfan]
  simp only [coolingOn_iff]
  rfl

/-- Settles O36: the lamp commands by the state of the lamp and the marks. -/
theorem lampServiceCommands : Obligations.LampServiceCommands := by
  unfold Obligations.LampServiceCommands
  refine ⟨fun s h hl => ?_, fun s h hl hd => lampReplaced_hot h hl hd, fun s h hl => lampReplaced_busy h hl,
    fun s h ht => quiet_answers h (if_pos ht), fun s h ht hhot => ?_, fun s h ht hcool hf => ?_,
    fun s h ht hcool hf => ?_, fun s b h h1 h2 h3 h4 h5 => ?_,
    fun s b h hb => run_setting_none h (LampSettings.parse_eq_none hb) _, fun s h => ?_⟩
  · refine ⟨_, lampReplaced_ok h hl, ?_⟩
    have hrest := finish_answered_rest .ok [] (s := s) (t := lampFitted s) (by rw [lampFitted_eq])
    rw [(finish_hours _).1, finish_faults, (finish_lmc _).2.2.2.1]
    simp only [finish_frame]
    refine ⟨rfl, ?_, ?_, ?_, fun hf => ?_, ?_, ?_, ?_, hrest⟩ <;>
      simp only [answered, lampFitted_eq]
    · split
      · rfl
      · next hnf => exact hl.resolve_left fun hl => hnf hl.1
    · rw [if_pos hf]
    · split <;> rfl
  · have hot := (tooHot_iff s.lmc).2 hhot
    exact quiet_answers h (by simp [ht, hot, reply, Response.of])
  · have hot : s.lmc.tooHot = false := Bool.eq_false_iff.2 (mt (tooHot_iff s.lmc).1 (by omega))
    exact quiet_answers h (by simp [ht, hot, hf, reply, Response.of])
  · have hot : s.lmc.tooHot = false := Bool.eq_false_iff.2 (mt (tooHot_iff s.lmc).1 (by omega))
    exact quiet_answers h (by simp [ht, hot, hf, reply, Response.of, setLmc])
  · obtain ⟨t, hx, hresp, hcfg, hder, hheat, hrest⟩ := setLamp_taken h (LampSettings.parse_eq_some h1 h2 h3 h4 h5)
    exact ⟨t, hx, hresp, hcfg, hder, fun h0 => hheat (by simp [h0]), hrest⟩
  · exact quiet_answers h (Prod.ext rfl (congrArg (Response.mk .ok) (lampPayload_eq s.lmc)))

end Sys2Proof.Machine
end

section
/-! TEMPERATURE_SAMPLE in its stages: the trip, the residual cooling, the end of cooling and the restrike (04 R70, R73,
R75, R83, R91). -/

namespace Sys2Proof.Machine
open Sys2Proof

/-! ## The derate cap under LMC's reports -/

theorem endOfReveal_derate (s : State) : (endOfReveal s).lmc.derate = s.lmc.derate := by
  unfold endOfReveal
  dsimp only
  (repeat' split) <;> rfl

theorem startBlanking_derate (f : Flight) (s : State) : (startBlanking f s).lmc.derate = s.lmc.derate := by
  have hmark (l : Lmc) : l.markDim.derate = l.derate := by
    unfold Lmc.markDim
    dsimp only
    split <;> rfl
  have hfade (l : Lmc) : (l.fadeClaim f.fade).derate = l.derate := by
    unfold Lmc.fadeClaim
    split
    · rfl
    · dsimp only
      split <;> rfl
  unfold startBlanking
  dsimp only
  split
  · split
    · simpa using (hfade _).trans (hmark s.lmc)
    · exact (hfade _).trans (hmark s.lmc)
  · split <;> simp [setCsq]

theorem startPending_derate (s : State) : (startPending s).lmc.derate = s.lmc.derate := by
  have start (src : Source) (k : ChangeKind) (q d : Nat) (t : State) :
      (startChange src k q d t).lmc.derate = t.lmc.derate := by
    obtain ⟨f, u, heq, hu⟩ := startChange_lmc src k q d t
    rw [heq, startBlanking_derate, hu]
    rfl
  unfold startPending
  split
  · rfl
  · split
    · rfl
    · split
      · simp
      · rw [start]
        split <;> rfl

theorem lampReports_derate (s : State) : (lampReports s).lmc.derate = s.lmc.derate := by
  have hfaded : (faded s).lmc.derate = s.lmc.derate := by
    unfold faded
    split <;> simp [setLmc, Lmc.holdClaim]
  rw [lampReports_eq]
  split
  · refine Eq.trans ?_ hfaded
    unfold revealReported revealCheck
    split
    · rw [endReveal_eq, startPending_derate, revealOver_lmc, endOfReveal_derate]
      rfl
    · rfl
  · exact hfaded

/-! ## LMC's reports that leave the lamp -/

section
variable {s : State}

theorem faded_sameLamp : SameLamp s.lmc (faded s).lmc := by
  unfold faded
  split
  · simp only [blankingEnd_frame]
    exact (SameLamp.refl s.lmc).claimed .hold
  · exact .refl _

theorem faded_dim : (faded s).lmc.dim = s.lmc.dim ∧ (faded s).lmc.owed = s.lmc.owed := by
  unfold faded
  split <;> simp [setLmc, Lmc.holdClaim]

theorem lampReports_unowed (ho : s.lmc.owed = false) : lampReports s = faded s := by
  rw [lampReports_eq, if_neg]
  rintro ⟨h, -⟩
  exact Bool.false_ne_true (ho.symm.trans (faded_dim.2.symm.trans h))

/-- Where the report of the reveal starts nothing, and no preheat is deferred to it, the lamp stands. -/
theorem lampReports_sameLamp_nothing (hd : s.lmc.deferred = false) (hn : RevealStartsNothing s) :
    SameLamp s.lmc (lampReports s).lmc := by
  obtain ⟨hsar, hpnp, -, howed⟩ := faded_frame s
  have hn' : RevealStartsNothing (faded s) := RevealStartsNothing.congr (faded_owner s) hsar hpnp howed hn
  rw [lampReports_eq]
  split
  · next h =>
    have heq : revealReported (faded s) = revealCheck (reported (faded s)) := rfl
    rw [heq, revealCheck_nothing (s := reported (faded s)) (hn' h.1)]
    split
    · rw [revealOver_lmc]
      exact endOfReveal_sameLamp hd (faded_sameLamp.reported false)
    · exact faded_sameLamp.reported false
  · exact faded_sameLamp

end

/-! ## The stages of a sample -/

/-- The reading as LMC takes it. -/
def readingOf (v : Option Nat) : Nat := min (v.getD 200) 200

theorem readingOf_some {v b : Nat} (h : v < b) (hb : b ≤ 200) : readingOf (some v) = v :=
  Nat.min_eq_left (by simp only [Option.getD_some]; omega)

/-- LMC with the sample written, before its trip and its cap. -/
def sampled (v : Option Nat) (s : State) : State :=
  setLmc (fun l => { l with
    temp := some (readingOf v), answered := v.isSome, sampleMs := if v.isSome then l.sampleMs else 0 }) s

/-- The stages of a sample after its trip. -/
def settled (v : Option Nat) (s t : State) : State :=
  sampleRestrike (readingOf v) (endCooling (residualCooling (readingOf v) s.lmc.temp.isNone (setLmc Lmc.rederate t)))

theorem takeSample_eq (v : Option Nat) (s : State) : takeSample v s
    = lampReports (settled v s (sampleTrip (readingOf v) s.lmc.temp.isNone (sampled v s))) := rfl

theorem temperatureSample_eq {s : State} (v : Option Nat) (h : Powered s) :
    exec (.temperatureSample v) s
      = .next (finish (lampReports (settled v s (sampleTrip (readingOf v) s.lmc.temp.isNone (sampled v s))))) := by
  rw [← takeSample_eq]
  exact run_powered h

section
variable {s : State} {t : Nat} {first : Bool}

theorem sampleTrip_none (h : t < s.lmc.cfg.trip ∨ s.lmc.trip = true) : sampleTrip t first s = s := by
  refine if_neg ?_
  rintro ⟨hle, hf⟩
  rcases h with h | h
  · omega
  · exact Bool.false_ne_true (hf.symm.trans h)

theorem sampleTrip_standby (h : s.lmc.cfg.trip ≤ t) (hf : s.lmc.trip = false) (hp : s.pnp.power = .standby) :
    sampleTrip t first s = setLmc (fun l => { l with trip := true }) s := by
  rw [sampleTrip, if_pos ⟨h, hf⟩, if_pos hp]

theorem sampleTrip_takes (h : s.lmc.cfg.trip ≤ t) (hf : s.lmc.trip = false) (hp : s.pnp.power ≠ .standby) :
    sampleTrip t first s = takeTrip .overtempTrip first s := by
  rw [sampleTrip, if_pos ⟨h, hf⟩, if_neg hp]

theorem residualCooling_none
    (h : first = false ∨ t < 45 ∨ s.lmc.lamp ≠ .off ∨ s.pnp.power = .standby) : residualCooling t first s = s := by
  refine if_neg ?_
  rintro ⟨h1, h2, h3, h4⟩
  simp only [Config.coolDoneTemp] at h2
  rcases h with h | h | h | h
  · exact Bool.false_ne_true (h.symm.trans h1)
  · omega
  · exact h h3
  · exact h4 h

theorem residualCooling_cools (ht : 45 ≤ t) (hl : s.lmc.lamp = .off) (hp : s.pnp.power ≠ .standby) :
    residualCooling t true s = setLmc (fun l => (l.darken .cooling).stopCooling) s := if_pos ⟨rfl, ht, hl, hp⟩

theorem endCooling_none (h : s.lmc.lamp ≠ .cooling ∧ s.lmc.lamp ≠ .fault ∨ s.lmc.coolRunning = true) :
    endCooling s = s := by
  unfold endCooling
  dsimp only
  refine if_neg ?_
  rintro ⟨hon, hr, -⟩
  rcases h with ⟨hc, hf⟩ | h
  · exact ((coolingOn_iff _).1 hon).elim hc fun h => hf h.1
  · exact Bool.false_ne_true (hr.symm.trans h)

theorem sampleRestrike_none (h : 60 ≤ t ∨ s.lmc.restrike = false ∨ (s.lmc.lamp ≠ .off ∧ s.lmc.lamp ≠ .cooling)
    ∨ s.pnp.power = .standby) : sampleRestrike t s = s := by
  refine if_neg ?_
  rintro ⟨h1, h2, h3, h4⟩
  simp only [Config.restrikeTemp] at h1
  rcases h with h | h | ⟨ho, hc⟩ | h
  · omega
  · exact Bool.false_ne_true (h.symm.trans h2)
  · exact h3.elim ho hc
  · exact h4 h

theorem sampleRestrike_deferred (ht : t < 60) (hr : s.lmc.restrike = true)
    (hl : s.lmc.lamp = .off ∨ s.lmc.lamp = .cooling) (hp : s.pnp.power ≠ .standby) (hd : s.lmc.dim = true) :
    sampleRestrike t s = setLmc (fun l => { l with restrike := false, deferred := true }) s := by
  rw [sampleRestrike, if_pos ⟨ht, hr, hl, hp⟩, if_pos hd]

theorem sampleRestrike_preheats (ht : t < 60) (hr : s.lmc.restrike = true)
    (hl : s.lmc.lamp = .off ∨ s.lmc.lamp = .cooling) (hp : s.pnp.power ≠ .standby) (hd : s.lmc.dim = false) :
    sampleRestrike t s = enterPreheat s := by
  rw [sampleRestrike, if_pos ⟨ht, hr, hl, hp⟩, if_neg (by simp [hd])]

theorem endCooling_cases (s : State) : endCooling s = s ∨ endCooling s
    = setLmc (fun l => if l.lamp = .cooling then (l.darken .off).stopCooling
        else { l.stopCooling with coolDone := true }) s := by
  unfold endCooling
  dsimp only
  exact (ite_eq_or_eq _ _ _).symm

/-- What the end of cooling leaves of LMC. -/
theorem endCooling_lmc (s : State) : (endCooling s).lmc.trip = s.lmc.trip ∧ (endCooling s).lmc.restrike = s.lmc.restrike
    ∧ (endCooling s).lmc.deferred = s.lmc.deferred ∧ (endCooling s).lmc.dim = s.lmc.dim
    ∧ (endCooling s).lmc.owed = s.lmc.owed ∧ (endCooling s).lmc.derate = s.lmc.derate
    ∧ (s.lmc.lamp = .off ∨ s.lmc.lamp = .cooling →
        (endCooling s).lmc.lamp = .off ∨ (endCooling s).lmc.lamp = .cooling) := by
  rcases endCooling_cases s with heq | heq
  · rw [heq]
    exact ⟨rfl, rfl, rfl, rfl, rfl, rfl, id⟩
  · rw [heq]
    simp only [setLmc]
    split
    · exact ⟨rfl, rfl, rfl, rfl, rfl, rfl, fun _ => .inl rfl⟩
    · exact ⟨rfl, rfl, rfl, rfl, rfl, rfl, fun h => h⟩

theorem residualCooling_lmc (t : Nat) (first : Bool) (s : State) :
    (residualCooling t first s).lmc.restrike = s.lmc.restrike
    ∧ (residualCooling t first s).lmc.deferred = s.lmc.deferred ∧ (residualCooling t first s).lmc.owed = s.lmc.owed
    ∧ (residualCooling t first s).lmc.derate = s.lmc.derate
    ∧ (s.lmc.lamp = .off ∨ s.lmc.lamp = .cooling →
        (residualCooling t first s).lmc.lamp = .off ∨ (residualCooling t first s).lmc.lamp = .cooling) := by
  unfold residualCooling
  split
  · exact ⟨rfl, rfl, rfl, rfl, fun _ => .inr rfl⟩
  · exact ⟨rfl, rfl, rfl, rfl, id⟩

theorem sampleRestrike_derate (t : Nat) (s : State) : (sampleRestrike t s).lmc.derate = s.lmc.derate := by
  unfold sampleRestrike
  (repeat' split) <;> rfl

theorem settled_frame (v : Option Nat) (s u : State) : (settled v s u).shc = u.shc ∧ (settled v s u).pnp = u.pnp
    ∧ (settled v s u).csq = u.csq ∧ (settled v s u).sar = u.sar ∧ (settled v s u).lmc.trip = u.lmc.trip
    ∧ (settled v s u).lmc.dim = u.lmc.dim ∧ (settled v s u).lmc.derate = u.lmc.rederate.derate := by
  unfold settled
  refine ⟨?_, ?_, ?_, ?_, ?_, ?_, ?_⟩
  · simp
  · simp
  · simp
  · simp
  · simp [(endCooling_lmc _).1, Lmc.rederate]
  · simp [(endCooling_lmc _).2.2.2.1, Lmc.rederate]
  · obtain ⟨-, -, -, -, -, hcool, -⟩ := endCooling_lmc
      (residualCooling (readingOf v) s.lmc.temp.isNone (setLmc Lmc.rederate u))
    obtain ⟨-, -, -, hres, -⟩ := residualCooling_lmc (readingOf v) s.lmc.temp.isNone (setLmc Lmc.rederate u)
    rw [sampleRestrike_derate, hcool, hres]
    rfl

end

/-- A first sample of a lamp that is OFF and warm begins the residual cooling. -/
theorem settled_residual {s u : State} {v : Option Nat} (hfirst : s.lmc.temp.isNone = true) (hl : u.lmc.lamp = .off)
    (hp : u.pnp.power ≠ .standby) (htemp : u.lmc.temp = some (readingOf v)) (hw : 45 ≤ readingOf v)
    (hr : u.lmc.restrike = false ∨ 60 ≤ readingOf v) :
    settled v s u = setLmc (fun l => (l.rederate.darken .cooling).stopCooling) u := by
  have hcool : residualCooling (readingOf v) s.lmc.temp.isNone (setLmc Lmc.rederate u)
      = setLmc (fun l => (l.rederate.darken .cooling).stopCooling) u := by
    rw [hfirst]
    exact residualCooling_cools (s := setLmc Lmc.rederate u) hw hl hp
  have hwarm : 45 ≤ (setLmc (fun l => (l.rederate.darken .cooling).stopCooling) u).lmc.temp.getD 45 := by
    change 45 ≤ u.lmc.temp.getD 45
    rw [htemp]
    exact hw
  rw [settled, hcool, endCooling_warm hwarm]
  exact sampleRestrike_none (hr.elim (fun hr => .inr (.inl hr)) .inl)

/-- A sample that changes nothing of a lamp that is OFF. -/
theorem settled_off {s u : State} {v : Option Nat} (hl : u.lmc.lamp = .off)
    (hres : s.lmc.temp.isNone = false ∨ readingOf v < 45 ∨ u.pnp.power = .standby)
    (hr : u.lmc.restrike = false ∨ u.pnp.power = .standby) : settled v s u = setLmc Lmc.rederate u := by
  have hcool : residualCooling (readingOf v) s.lmc.temp.isNone (setLmc Lmc.rederate u) = setLmc Lmc.rederate u :=
    residualCooling_none (hres.imp_right fun h => h.imp_right .inr)
  have hend : endCooling (setLmc Lmc.rederate u) = setLmc Lmc.rederate u := by
    refine endCooling_none (.inl ?_)
    change u.lmc.lamp ≠ .cooling ∧ u.lmc.lamp ≠ .fault
    rw [hl]
    exact ⟨nofun, nofun⟩
  rw [settled, hcool, hend]
  exact sampleRestrike_none (hr.elim (fun hr => .inr (.inl hr)) fun h => .inr (.inr (.inr h)))

/-! ## A trip -/

section
variable {s : State} {f : FaultFlag} {first : Bool}

/-- LMC as a trip leaves it with a lamp that burns. -/
def tripped (l : Lmc) : Lmc := ({ l.clearMarks with trip := true }.darken .cooling).startCooling

theorem burning_eq_true (h : s.lmc.lamp = .preheat ∨ s.lmc.lamp = .lit) : burning s = true := by
  rcases h with h | h <;> simp [burning, h]

theorem burning_eq_false (hp : s.lmc.lamp ≠ .preheat) (hl : s.lmc.lamp ≠ .lit) : burning s = false := by
  simp [burning, hp, hl]

theorem takeTrip_burning (h : s.lmc.lamp = .preheat ∨ s.lmc.lamp = .lit) : (takeTrip f first s).lmc = tripped s.lmc
    ∧ (s.pnp.power ≠ .resetHeld → (takeTrip f first s).shc.causes.lamp = true)
    ∧ (s.lmc.lamp = .lit → s.pnp.memPresent = true →
        (takeTrip f first s).pnp.hoursWaiting = some s.lmc.hours) := by
  unfold takeTrip
  simp only [burning_eq_true h, if_true, Bool.true_or]
  refine ⟨?_, fun hr => ?_, fun hl hm => ?_⟩
  · simp only [addCause_frame, enterCooling]
    split <;> simp [setLmc, raiseFault, tripped]
  · rw [addCause_causes _ (by simpa [setLmc, raiseFault] using hr)]
    exact Causes.get_set .lamp true _
  · simp [addCause_frame, enterCooling, setLmc, raiseFault, hl, handHours, hm]

theorem takeTrip_dark (hp : s.lmc.lamp ≠ .preheat) (hl : s.lmc.lamp ≠ .lit) :
    (takeTrip f first s).lmc = { s.lmc.clearMarks with trip := true }
    ∧ (first = false → (takeTrip f first s).shc = s.shc)
    ∧ (first = true → s.pnp.power ≠ .resetHeld → (takeTrip f first s).shc.causes.lamp = true) := by
  unfold takeTrip
  simp only [burning_eq_false hp hl]
  cases first with
  | false => exact ⟨rfl, fun _ => rfl, nofun⟩
  | true =>
    refine ⟨by simp [setLmc, raiseFault], nofun, fun _ hr => ?_⟩
    rw [if_pos (by rfl), if_neg (by simp), addCause_causes _ (by simpa [setLmc, raiseFault] using hr)]
    exact Causes.get_set .lamp true _

theorem takeTrip_pend (f : FaultFlag) (first : Bool) (s : State) : (takeTrip f first s).pnp.pend.fault = true := by
  have hcool (t : State) (h : t.pnp.pend.fault = true) :
      (if burning s then enterCooling t else t).pnp.pend.fault = true := by
    unfold enterCooling handHours
    (repeat' split) <;> exact h
  unfold takeTrip
  dsimp only
  split
  · exact (addCause_showOnly .lamp _).marksStand.fault.trans (hcool _ rfl)
  · exact hcool _ rfl

end

/-- LMC's work in a sample that trips outside STANDBY. -/
def tripSample (v : Option Nat) (s : State) : State :=
  lampReports (settled v s (takeTrip .overtempTrip s.lmc.temp.isNone (sampled v s)))

theorem takeTrip_trip (f : FaultFlag) (first : Bool) (s : State) : (takeTrip f first s).lmc.trip = true := by
  unfold takeTrip
  dsimp only
  (repeat' split) <;> simp [setLmc]

theorem tripSample_marks (v : Option Nat) (s : State) : (tripSample v s).lmc.trip = true
    ∧ (tripSample v s).pnp.faults = s.pnp.faults.set .overtempTrip ∧ (tripSample v s).pnp.pend.fault = true
    ∧ (tripSample v s).shc = (takeTrip .overtempTrip s.lmc.temp.isNone (sampled v s)).shc
    ∧ (tripSample v s).pnp.hoursWaiting
        = (takeTrip .overtempTrip s.lmc.temp.isNone (sampled v s)).pnp.hoursWaiting := by
  obtain ⟨hshc, hpnp, -, -, htrip, -⟩ := settled_frame v s (takeTrip .overtempTrip s.lmc.temp.isNone (sampled v s))
  unfold tripSample
  refine ⟨?_, ?_, ?_, ?_, ?_⟩
  · simp [htrip, takeTrip_trip]
  · rw [lampReports_faults, hpnp, takeTrip_faults]
    rfl
  · rw [(lampReports_marks _).fault, hpnp, takeTrip_pend]
  · simp [hshc]
  · simp [hpnp]

/-- The stages of a sample before its restrike, with a lamp that waits for one. -/
def cooledDown (v : Option Nat) (s : State) : State :=
  endCooling (residualCooling (readingOf v) s.lmc.temp.isNone (setLmc Lmc.rederate (sampled v s)))

theorem cooledDown_lmc {s : State} (v : Option Nat) (hl : s.lmc.lamp = .off ∨ s.lmc.lamp = .cooling) :
    (cooledDown v s).lmc.restrike = s.lmc.restrike ∧ (cooledDown v s).lmc.owed = s.lmc.owed
    ∧ (cooledDown v s).lmc.dim = s.lmc.dim ∧ (cooledDown v s).pnp = s.pnp ∧ (cooledDown v s).csq = s.csq
    ∧ (cooledDown v s).sar = s.sar
    ∧ ((cooledDown v s).lmc.lamp = .off ∨ (cooledDown v s).lmc.lamp = .cooling)
    ∧ (s.lmc.lamp = .off → s.lmc.temp ≠ none → (cooledDown v s).lmc.lamp = .off)
    ∧ (s.lmc.lamp = .cooling → s.lmc.coolRunning = true → (cooledDown v s).lmc.lamp = .cooling) := by
  obtain ⟨-, hre, -, hdim, howed, -, hlamp⟩ := endCooling_lmc
    (residualCooling (readingOf v) s.lmc.temp.isNone (setLmc Lmc.rederate (sampled v s)))
  obtain ⟨hre', -, howed', -, hlamp'⟩ := residualCooling_lmc (readingOf v) s.lmc.temp.isNone
    (setLmc Lmc.rederate (sampled v s))
  refine ⟨hre.trans hre', howed.trans howed', ?_, ?_, ?_, ?_, hlamp (hlamp' hl), fun ho hne => ?_, fun hc hrun => ?_⟩
  · rw [cooledDown, hdim]
    simp [sampled, setLmc, Lmc.rederate]
  · simp [cooledDown, sampled, setLmc]
  · simp [cooledDown, sampled, setLmc]
  · simp [cooledDown, sampled, setLmc]
  · have hold : s.lmc.temp.isNone = false := by simpa using Option.ne_none_iff_isSome.1 hne
    rw [cooledDown, residualCooling_none (.inl hold), endCooling_none (.inl ?_)] <;>
      simp [setLmc, Lmc.rederate, sampled, ho]
  · rw [cooledDown, residualCooling_none (.inr (.inr (.inl ?_))), endCooling_none (.inr ?_)] <;>
      simp [setLmc, Lmc.rederate, sampled, hc, hrun]

/-! ## The samples of O37 -/

section
variable {s : State} {v : Option Nat} (h : Powered s)
include h

theorem sample_reads : ∃ t, exec (.temperatureSample v) s = .next t ∧ t.lmc.temp = some (readingOf v)
    ∧ t.lmc.derate = decide (s.lmc.cfg.warn ≤ readingOf v) ∧ t.lmc.cfg = s.lmc.cfg
    ∧ t.tru = s.tru ∧ t.mem = s.mem ∧ t.rmi = s.rmi ∧ t.lkc = s.lkc ∧ t.psdo = s.psdo := by
  have hcap (u : State) (htemp : u.lmc.temp = some (readingOf v)) (hcfg : u.lmc.cfg = s.lmc.cfg) :
      (lampReports (settled v s u)).lmc.derate = decide (s.lmc.cfg.warn ≤ readingOf v) := by
    obtain ⟨-, -, -, -, -, -, hder⟩ := settled_frame v s u
    rw [lampReports_derate, hder, Lmc.rederate_derate, htemp, hcfg]
    simp
  refine ⟨_, temperatureSample_eq v h, ?_⟩
  rw [(finish_hours _).2]
  simp only [finish_frame]
  refine ⟨?_, hcap _ (by simp [sampled, setLmc]) (by simp [sampled, setLmc]), ?_, ?_, ?_, ?_, ?_, ?_⟩ <;>
    simp [settled, sampled, setLmc, Lmc.rederate, endCooling_temp]

theorem sample_trips (ht : s.lmc.cfg.trip ≤ readingOf v) (hf : s.lmc.trip = false) (hp : s.pnp.power ≠ .standby) :
    exec (.temperatureSample v) s = .next (finish (tripSample v s)) := by
  rw [temperatureSample_eq v h, sampleTrip_takes (s := sampled v s) ht hf hp]
  rfl

theorem sample_tripsBurning (ht : s.lmc.cfg.trip ≤ readingOf v) (hf : s.lmc.trip = false)
    (hl : s.lmc.lamp = .preheat ∨ s.lmc.lamp = .lit) (hp : s.pnp.power ≠ .standby) :
    ∃ t, exec (.temperatureSample v) s = .next t ∧ t.lmc.trip = true ∧ t.lmc.lamp = .cooling
      ∧ t.lmc.output = 0 ∧ t.lmc.coolLeft = s.lmc.cfg.minCool ∧ t.lmc.restrike = false
      ∧ t.lmc.deferred = false ∧ t.pnp.faults = s.pnp.faults.set .overtempTrip ∧ t.pnp.pend.fault = true
      ∧ (s.pnp.power ≠ .resetHeld → t.shc.causes.lamp = true)
      ∧ (s.lmc.lamp = .lit → s.pnp.memPresent = true → t.pnp.hoursWaiting = some s.lmc.hours) := by
  obtain ⟨hlmc, hcause, hwait⟩ := takeTrip_burning (f := .overtempTrip) (first := s.lmc.temp.isNone) (s := sampled v s) hl
  have hset : (settled v s (takeTrip .overtempTrip s.lmc.temp.isNone (sampled v s))).lmc
      = (tripped (sampled v s).lmc).rederate := by
    unfold settled
    rw [residualCooling_none (.inr (.inr (.inl ?_))), endCooling_none (.inr ?_), sampleRestrike_none (.inr (.inl ?_))]
    all_goals simp only [setLmc, hlmc]
    all_goals simp [tripped, Lmc.rederate, Lmc.startCooling, Lmc.clearMarks, Lmc.darken, Lmc.clearGuard]
  have hsame : SameLamp (tripped (sampled v s).lmc).rederate (tripSample v s).lmc := by
    rw [← hset]
    exact lampReports_sameLamp (by rw [hset]; nofun) (by rw [hset]; nofun) (by rw [hset]; rfl)
  obtain ⟨hlamp, -, hleft, -, -, hre, hdef, -⟩ := hsame.shows
  have hout : (tripSample v s).lmc.output = 0 := output_unlit (by rw [hlamp]; nofun) (by rw [hlamp]; nofun)
  obtain ⟨htrip, hfaults, hmark, hshc, hhours⟩ := tripSample_marks v s
  obtain ⟨-, fleft, -, -, fre, fdef, -, -, fout, -⟩ := finish_lmc (tripSample v s)
  refine ⟨_, sample_trips h ht hf hp, ?_⟩
  rw [fleft, fre, fdef, fout, (finish_pend _).1, finish_faults]
  simp only [finish_frame]
  exact ⟨htrip, hlamp, hout, hleft, hre, hdef, hfaults, hmark, fun hr => (congrArg (·.causes.lamp) hshc).trans (hcause hr),
    fun hl hm => hhours.trans (hwait hl hm)⟩

theorem sample_tripsDark (ht : s.lmc.cfg.trip ≤ readingOf v) (hf : s.lmc.trip = false)
    (hl : s.lmc.lamp = .off ∨ s.lmc.lamp = .cooling ∨ s.lmc.lamp = .fault) (hp : s.pnp.power ≠ .standby)
    (hold : s.lmc.temp ≠ none) :
    ∃ t, exec (.temperatureSample v) s = .next t ∧ t.lmc.trip = true ∧ t.shc = s.shc
      ∧ t.pnp.faults = s.pnp.faults.set .overtempTrip ∧ t.pnp.pend.fault = true := by
  have hfirst : s.lmc.temp.isNone = false := by
    simpa using Option.ne_none_iff_isSome.1 hold
  have hdark : s.lmc.lamp ≠ .preheat ∧ s.lmc.lamp ≠ .lit := by
    rcases hl with hl | hl | hl <;> rw [hl] <;> exact ⟨nofun, nofun⟩
  obtain ⟨-, hshow, -⟩ := takeTrip_dark (f := .overtempTrip) (first := s.lmc.temp.isNone) (s := sampled v s)
    hdark.1 hdark.2
  obtain ⟨htrip, hfaults, hmark, hshc, -⟩ := tripSample_marks v s
  refine ⟨_, sample_trips h ht hf hp, ?_⟩
  rw [(finish_pend _).1, finish_faults]
  simp only [finish_frame]
  exact ⟨htrip, hshc.trans (hshow hfirst), hfaults, hmark⟩

theorem sample_tripsFirst (htemp : s.lmc.temp = none) (hl : s.lmc.lamp = .off) (hp : s.pnp.power ≠ .standby)
    (ht : s.lmc.cfg.trip ≤ readingOf v) (hf : s.lmc.trip = false) :
    ∃ t, exec (.temperatureSample v) s = .next t ∧ t.lmc.trip = true ∧ t.lmc.restrike = false
      ∧ (45 ≤ s.lmc.cfg.trip → t.lmc.lamp = .cooling ∧ t.lmc.coolLeft = 0)
      ∧ t.pnp.faults = s.pnp.faults.set .overtempTrip ∧ t.pnp.pend.fault = true
      ∧ (s.pnp.power ≠ .resetHeld → t.shc.causes.lamp = true) := by
  have hfirst : s.lmc.temp.isNone = true := by rw [htemp]; rfl
  have hdark : s.lmc.lamp ≠ .preheat ∧ s.lmc.lamp ≠ .lit := by rw [hl]; exact ⟨nofun, nofun⟩
  obtain ⟨hlmc, -, hcause⟩ := takeTrip_dark (f := .overtempTrip) (first := s.lmc.temp.isNone) (s := sampled v s)
    hdark.1 hdark.2
  obtain ⟨htrip, hfaults, hmark, hshc, -⟩ := tripSample_marks v s
  have hu : (takeTrip .overtempTrip s.lmc.temp.isNone (sampled v s)).lmc.lamp = .off
      ∧ (takeTrip .overtempTrip s.lmc.temp.isNone (sampled v s)).lmc.restrike = false
      ∧ (takeTrip .overtempTrip s.lmc.temp.isNone (sampled v s)).lmc.deferred = false
      ∧ (takeTrip .overtempTrip s.lmc.temp.isNone (sampled v s)).lmc.temp = some (readingOf v) := by
    rw [hlmc]
    exact ⟨hl, rfl, rfl, rfl⟩
  obtain ⟨hoff, hre, hdef, hread⟩ := hu
  have hset : (settled v s (takeTrip .overtempTrip s.lmc.temp.isNone (sampled v s))).lmc.restrike = false
      ∧ (settled v s (takeTrip .overtempTrip s.lmc.temp.isNone (sampled v s))).lmc.deferred = false
      ∧ (settled v s (takeTrip .overtempTrip s.lmc.temp.isNone (sampled v s))).lmc.lamp
          = (if 45 ≤ readingOf v then .cooling else .off)
      ∧ (45 ≤ readingOf v →
          (settled v s (takeTrip .overtempTrip s.lmc.temp.isNone (sampled v s))).lmc.coolLeft = 0) := by
    by_cases hw : 45 ≤ readingOf v
    · rw [settled_residual hfirst hoff (by simpa [sampled, setLmc] using hp) hread hw (.inl hre), if_pos hw]
      exact ⟨hre, hdef, rfl, fun _ => rfl⟩
    · rw [settled_off hoff (.inr (.inl (by omega))) (.inl hre), if_neg hw]
      exact ⟨hre, hdef, hoff, fun h => absurd h hw⟩
  obtain ⟨hre', hdef', hlamp, hleft⟩ := hset
  have hsame := lampReports_sameLamp (s := settled v s (takeTrip .overtempTrip s.lmc.temp.isNone (sampled v s)))
    (by rw [hlamp]; split <;> nofun) (by rw [hlamp]; split <;> nofun) hdef'
  obtain ⟨slamp, -, sleft, -, -, sre, -⟩ := hsame.shows
  obtain ⟨-, fleft, -, -, fre, -⟩ := finish_lmc (tripSample v s)
  refine ⟨_, sample_trips h ht hf hp, ?_⟩
  rw [fleft, fre, (finish_pend _).1, finish_faults]
  simp only [finish_frame]
  refine ⟨htrip, sre.trans hre', fun hc => ?_, hfaults, hmark,
    fun hr => (congrArg (·.causes.lamp) hshc).trans (hcause hfirst hr)⟩
  have hw : 45 ≤ readingOf v := by omega
  exact ⟨slamp.trans (hlamp.trans (if_pos hw)), sleft.trans (hleft hw)⟩

theorem sample_untripped (hn : readingOf v < s.lmc.cfg.trip ∨ s.lmc.trip = true) :
    exec (.temperatureSample v) s = .next (finish (lampReports (settled v s (sampled v s)))) := by
  rw [temperatureSample_eq v h, sampleTrip_none (s := sampled v s) hn]

theorem sample_residual (htemp : s.lmc.temp = none) (hl : s.lmc.lamp = .off) (hp : s.pnp.power ≠ .standby)
    (hw : 45 ≤ readingOf v) (hn : readingOf v < s.lmc.cfg.trip ∨ s.lmc.trip = true)
    (hr : s.lmc.restrike = false ∨ 60 ≤ readingOf v) (ho : s.lmc.owed = false ∨ s.lmc.deferred = false) :
    ∃ t, exec (.temperatureSample v) s = .next t ∧ t.lmc.lamp = .cooling ∧ t.lmc.coolLeft = 0
      ∧ t.lmc.coolRunning = false ∧ t.lmc.trip = s.lmc.trip ∧ t.shc = s.shc ∧ t.pnp.faults = s.pnp.faults := by
  have hset : settled v s (sampled v s) = setLmc (fun l => (l.rederate.darken .cooling).stopCooling) (sampled v s) :=
    settled_residual (by rw [htemp]; rfl) hl hp rfl hw hr
  have hsame : SameLamp ((sampled v s).lmc.rederate.darken .cooling).stopCooling
      (lampReports (settled v s (sampled v s))).lmc := by
    rw [hset]
    rcases ho with ho | hd
    · rw [lampReports_unowed (s := setLmc (fun l => (l.rederate.darken .cooling).stopCooling) (sampled v s)) ho]
      exact faded_sameLamp (s := setLmc (fun l => (l.rederate.darken .cooling).stopCooling) (sampled v s))
    · exact lampReports_sameLamp (s := setLmc (fun l => (l.rederate.darken .cooling).stopCooling) (sampled v s))
        nofun nofun hd
  obtain ⟨hlamp, -, hleft, hrun, -, -, -, htrip, -⟩ := hsame.shows
  obtain ⟨-, fleft, frun, -⟩ := finish_lmc (lampReports (settled v s (sampled v s)))
  obtain ⟨hshc, hpnp, -⟩ := settled_frame v s (sampled v s)
  refine ⟨_, sample_untripped h hn, ?_⟩
  rw [fleft, frun, finish_faults, lampReports_faults, hpnp]
  simp only [finish_frame, lampReports_frame, hshc]
  exact ⟨hlamp, hleft, hrun, by simpa [sampled, setLmc] using htrip, rfl, rfl⟩

theorem sample_stays_off {n : Nat} (hc : n < 200) (htemp : s.lmc.temp = none) (hl : s.lmc.lamp = .off) (hn : n < 45)
    (ht : n < s.lmc.cfg.trip) (hr : s.lmc.restrike = false) (hd : s.lmc.deferred = false) :
    ∃ t, exec (.temperatureSample (some n)) s = .next t ∧ t.lmc.lamp = .off ∧ t.shc = s.shc := by
  have hread : readingOf (some n) = n := readingOf_some hc (by omega)
  have hset : settled (some n) s (sampled (some n) s) = setLmc Lmc.rederate (sampled (some n) s) :=
    settled_off hl (.inr (.inl (by omega))) (.inl hr)
  have hlamp : SameLamp (sampled (some n) s).lmc.rederate (lampReports (settled (some n) s (sampled (some n) s))).lmc := by
    rw [hset]
    refine lampReports_sameLamp (s := setLmc Lmc.rederate (sampled (some n) s)) ?_ ?_ hd <;>
    · change s.lmc.lamp ≠ _
      rw [hl]
      nofun
  obtain ⟨hshc, -⟩ := settled_frame (some n) s (sampled (some n) s)
  refine ⟨_, sample_untripped h (.inl (by omega)), ?_⟩
  simp only [finish_frame, lampReports_frame, hshc]
  exact ⟨hlamp.lamp.trans hl, rfl⟩

theorem sample_standby (hp : s.pnp.power = .standby) (hl : s.lmc.lamp = .off) (ho : s.lmc.owed = false)
    (ht : s.lmc.cfg.trip ≤ readingOf v) (hf : s.lmc.trip = false) :
    ∃ t, exec (.temperatureSample v) s = .next t ∧ t.lmc.trip = true ∧ t.lmc.lamp = .off
      ∧ t.lmc.restrike = s.lmc.restrike ∧ t.lmc.deferred = s.lmc.deferred ∧ t.pnp.faults = s.pnp.faults
      ∧ t.shc = s.shc := by
  have hset : settled v s (setLmc (fun l => { l with trip := true }) (sampled v s))
      = setLmc Lmc.rederate (setLmc (fun l => { l with trip := true }) (sampled v s)) :=
    settled_off hl (.inr (.inr hp)) (.inr hp)
  have hsame := faded_sameLamp (s := setLmc Lmc.rederate (setLmc (fun l => { l with trip := true }) (sampled v s)))
  rw [← lampReports_unowed (s := setLmc Lmc.rederate (setLmc (fun l => { l with trip := true }) (sampled v s))) ho]
    at hsame
  obtain ⟨hlamp, -, -, -, -, hre, hdef, htrip, -⟩ := hsame.shows
  obtain ⟨-, -, -, -, fre, fdef, -⟩ :=
    finish_lmc (lampReports (setLmc Lmc.rederate (setLmc (fun l => { l with trip := true }) (sampled v s))))
  refine ⟨_, temperatureSample_eq v h, ?_⟩
  rw [sampleTrip_standby (s := sampled v s) ht hf hp, hset, fre, fdef, finish_faults, lampReports_faults]
  simp only [finish_frame]
  exact ⟨htrip, hlamp.trans hl, hre, hdef, rfl, by simp [setLmc, sampled]⟩

theorem sample_defers {n : Nat} (hn : n < 60) (ht : n < s.lmc.cfg.trip) (hr : s.lmc.restrike = true)
    (hl : s.lmc.lamp = .off ∨ s.lmc.lamp = .cooling) (hd : s.lmc.dim = true) (hp : s.pnp.power ≠ .standby)
    (ho : s.lmc.owed = false) :
    ∃ t, exec (.temperatureSample (some n)) s = .next t ∧ t.lmc.restrike = false ∧ t.lmc.deferred = true
      ∧ t.lmc.dim = true ∧ (s.lmc.lamp = .off → s.lmc.temp ≠ none → t.lmc.lamp = .off)
      ∧ (s.lmc.lamp = .cooling → s.lmc.coolRunning = true → t.lmc.lamp = .cooling) := by
  obtain ⟨hre, howed, hdim, hpnp, -, -, hlamp, hoff, hcool⟩ := cooledDown_lmc (some n) hl
  have hset : settled (some n) s (sampled (some n) s)
      = setLmc (fun l => { l with restrike := false, deferred := true }) (cooledDown (some n) s) := by
    refine sampleRestrike_deferred (s := cooledDown (some n) s) ?_ (hre.trans hr) hlamp (by rw [hpnp]; exact hp)
      (hdim.trans hd)
    exact lt_of_le_of_lt (Nat.min_le_left _ _) hn
  have hsame := faded_sameLamp (s := setLmc (fun l => { l with restrike := false, deferred := true })
    (cooledDown (some n) s))
  have hrep : lampReports (settled (some n) s (sampled (some n) s))
      = faded (setLmc (fun l => { l with restrike := false, deferred := true }) (cooledDown (some n) s)) := by
    rw [hset]
    exact lampReports_unowed (howed.trans ho)
  obtain ⟨slamp, -, -, -, -, sre, sdef, -⟩ := hsame.shows
  obtain ⟨-, -, -, -, fre, fdef, -⟩ := finish_lmc (lampReports (settled (some n) s (sampled (some n) s)))
  refine ⟨_, sample_untripped h (.inl (lt_of_le_of_lt (Nat.min_le_left _ _) ht)), ?_⟩
  rw [fre, fdef]
  simp only [finish_frame]
  rw [hrep]
  exact ⟨sre, sdef, faded_dim.1.trans (hdim.trans hd), fun ho hne => slamp.trans (hoff ho hne),
    fun hc hrun => slamp.trans (hcool hc hrun)⟩

theorem sample_restrikes {n : Nat} (hn : n < 60) (ht : n < s.lmc.cfg.trip) (hr : s.lmc.restrike = true)
    (hl : s.lmc.lamp = .off ∨ s.lmc.lamp = .cooling) (hd : s.lmc.dim = false) (hp : s.pnp.power ≠ .standby)
    (hnothing : RevealStartsNothing s) :
    ∃ t, exec (.temperatureSample (some n)) s = .next t ∧ t.lmc.lamp = .preheat ∧ t.lmc.restrike = false
      ∧ t.lmc.deferred = false := by
  obtain ⟨hre, howed, hdim, hpnp, hcsq, hsar, hlamp, -⟩ := cooledDown_lmc (some n) hl
  have hset : settled (some n) s (sampled (some n) s) = enterPreheat (cooledDown (some n) s) := by
    refine sampleRestrike_preheats (s := cooledDown (some n) s) ?_ (hre.trans hr) hlamp (by rw [hpnp]; exact hp)
      (hdim.trans hd)
    exact lt_of_le_of_lt (Nat.min_le_left _ _) hn
  have hn' : RevealStartsNothing (enterPreheat (cooledDown (some n) s)) :=
    RevealStartsNothing.congr (by simp [hcsq]) (by simp [hsar]) (by simp [hpnp]) howed hnothing
  have hsame := lampReports_sameLamp_nothing (s := enterPreheat (cooledDown (some n) s)) rfl hn'
  rw [← hset] at hsame
  obtain ⟨slamp, -, -, -, -, sre, sdef, -⟩ := hsame.shows
  obtain ⟨-, -, -, -, fre, fdef, -⟩ := finish_lmc (lampReports (settled (some n) s (sampled (some n) s)))
  refine ⟨_, sample_untripped h (.inl (lt_of_le_of_lt (Nat.min_le_left _ _) ht)), ?_⟩
  rw [fre, fdef]
  simp only [finish_frame]
  rw [hset] at slamp sre sdef ⊢
  exact ⟨slamp, sre, sdef⟩

theorem sample_ends_cooling {n : Nat} (hn : n < 45) (ht : n < s.lmc.cfg.trip) (hr : s.lmc.restrike = false)
    (hl : s.lmc.lamp = .cooling) (hrun : s.lmc.coolRunning = false) (hd : s.lmc.deferred = false) :
    ∃ t, exec (.temperatureSample (some n)) s = .next t ∧ t.lmc.lamp = .off ∧ t.lmc.ramp = ⟨0, 0, 0, 0, 0⟩ := by
  have hread : readingOf (some n) = n := readingOf_some (b := 45) hn (by omega)
  have hset : settled (some n) s (sampled (some n) s)
      = setLmc (fun l => (l.rederate.darken .off).stopCooling) (sampled (some n) s) := by
    have hcold : endCooling (setLmc Lmc.rederate (sampled (some n) s))
        = setLmc (fun l => (l.rederate.darken .off).stopCooling) (sampled (some n) s) := by
      have hon : (setLmc Lmc.rederate (sampled (some n) s)).lmc.coolingOn = true := (coolingOn_iff _).2 (.inl hl)
      rw [endCooling_cold hon hrun (by simp [setLmc, Lmc.rederate, sampled, hread, hn])]
      simp [setLmc, Lmc.rederate, sampled, hl]
    rw [settled, residualCooling_none (.inr (.inl (by omega))), hcold]
    exact sampleRestrike_none (.inr (.inl hr))
  have hsame := lampReports_sameLamp (s := setLmc (fun l => (l.rederate.darken .off).stopCooling) (sampled (some n) s))
    nofun nofun hd
  rw [← hset] at hsame
  obtain ⟨slamp, sramp, -⟩ := hsame.shows
  refine ⟨_, sample_untripped h (.inl (by omega)), ?_⟩
  rw [(finish_lmc _).1]
  simp only [finish_frame]
  rw [hset] at slamp sramp ⊢
  exact ⟨slamp, sramp⟩

end

/-! ## The fan and the hours -/

/-- The fan that cools a lamp runs HIGH, and its stall mark stands. -/
theorem finish_cooling_fan {u : State} (hp : u.pnp.power ≠ .standby) (hl : u.lmc.lamp = .cooling)
    (ht : u.lmc.temp ≠ none) : (finish u).lmc.fan = .high ∧ (finish u).lmc.fanStall = u.lmc.fanStall := by
  have hcmd : fanCommand u.pnp.power u.lmc = .high := by
    unfold fanCommand
    rw [if_neg hp]
    split
    · rfl
    · exact if_pos ((coolingOn_iff _).2 (.inl hl))
  rw [finish_eq, hcmd]
  exact ⟨rfl, Bool.and_true _⟩

section
variable {s : State} (h : Powered s)
include h

theorem fanTachPulse_turns (hf : s.lmc.fan ≠ .off) :
    exec .fanTachPulse s = .next (finish { s with lmc := { s.lmc with stallMs := 0, fanStall := false } }) := by
  change execFanTachPulse s = _
  rw [execFanTachPulse, run_powered h, if_neg hf, setLmc]

theorem fanTachPulse_off (hf : s.lmc.fan = .off) : exec .fanTachPulse s = .next (finish s) := by
  change execFanTachPulse s = _
  rw [execFanTachPulse, run_powered h, if_pos hf]

theorem fanStallExpiry_dark (hf : s.lmc.fan ≠ .off) (hs : s.lmc.fanStall = false) (hp : s.lmc.lamp ≠ .preheat)
    (hl : s.lmc.lamp ≠ .lit) : exec .fanStallExpiry s = .next (finish { s with
      lmc := { s.lmc with fanStall := true, stallMs := 2000 }
      pnp := { s.pnp with faults := { s.pnp.faults with fanStall := true },
                          pend := { s.pnp.pend with fault := true } } }) := by
  refine run_of_eq h ?_
  rw [if_pos ⟨hf, hs⟩]
  simp only [burning_eq_false hp hl]
  rfl

/-- LMC with the stall mark set. -/
def stalledFan (s : State) : State := setLmc (fun l => { l with fanStall := true, stallMs := 2000 }) s

theorem fanStallExpiry_burning (hf : s.lmc.fan ≠ .off) (hs : s.lmc.fanStall = false) (ht : s.lmc.temp ≠ none)
    (hp : s.pnp.power ≠ .standby) (hl : s.lmc.lamp = .preheat ∨ s.lmc.lamp = .lit) :
    ∃ t, exec .fanStallExpiry s = .next t ∧ t.lmc.fanStall = true ∧ t.lmc.fan = .high
      ∧ t.lmc.lamp = .cooling ∧ t.lmc.trip = true ∧ t.lmc.output = 0 ∧ t.lmc.restrike = false
      ∧ t.lmc.deferred = false ∧ t.pnp.faults = s.pnp.faults.set .fanStall ∧ t.pnp.pend.fault = true
      ∧ (s.pnp.power ≠ .resetHeld → t.shc.causes.lamp = true) := by
  obtain ⟨hlmc, hcause, -⟩ := takeTrip_burning (f := .fanStall) (first := false) (s := stalledFan s) hl
  have hrun : exec .fanStallExpiry s
      = .next (finish (lampReports (takeTrip .fanStall false (stalledFan s)))) := by
    refine run_of_eq h ?_
    rw [if_pos ⟨hf, hs⟩]
    simp only [burning_eq_true hl, if_true]
    rfl
  have hsame : SameLamp (tripped (stalledFan s).lmc) (lampReports (takeTrip .fanStall false (stalledFan s))).lmc := by
    rw [← hlmc]
    exact lampReports_sameLamp (by rw [hlmc]; nofun) (by rw [hlmc]; nofun) (by rw [hlmc]; rfl)
  obtain ⟨hlamp, -, -, -, -, hre, hdef, htrip, -, htemp, -⟩ := hsame.shows
  have hstall : (lampReports (takeTrip .fanStall false (stalledFan s))).lmc.fanStall = true := by rw [hsame.eq]; rfl
  have hout := output_unlit (l := (lampReports (takeTrip .fanStall false (stalledFan s))).lmc)
    (by rw [hlamp]; nofun) (by rw [hlamp]; nofun)
  have hpow : (lampReports (takeTrip .fanStall false (stalledFan s))).pnp.power ≠ .standby := by
    simpa [stalledFan, setLmc] using hp
  have hshc : (lampReports (takeTrip .fanStall false (stalledFan s))).shc
      = (takeTrip .fanStall false (stalledFan s)).shc := by simp
  obtain ⟨hfan, hmark⟩ := finish_cooling_fan hpow hlamp (by rw [htemp]; exact ht)
  obtain ⟨-, -, -, -, fre, fdef, -, -, fout, -⟩ := finish_lmc (lampReports (takeTrip .fanStall false (stalledFan s)))
  refine ⟨_, hrun, ?_⟩
  rw [fre, fdef, fout, (finish_pend _).1, finish_faults, lampReports_faults, takeTrip_faults,
    (lampReports_marks _).fault, takeTrip_pend]
  simp only [finish_frame]
  exact ⟨hmark.trans hstall, hfan, hlamp, htrip, hout, hre, hdef, rfl, trivial,
    fun hr => (congrArg (·.causes.lamp) hshc).trans (hcause hr)⟩

end

/-- Settles O37: a sample through its stages, by what the lamp is and what the sample trips, restrikes or ends. -/
theorem samplesStallsAndHours : Obligations.SamplesStallsAndHours := by
  unfold Obligations.SamplesStallsAndHours
  refine ⟨fun s v h => sample_reads h, fun s v h ht hf hl hp => sample_tripsBurning h ht hf hl hp,
    fun s v h ht hf hl hp hold => sample_tripsDark h ht hf hl hp hold,
    fun s v h hn ht hr hl hd hp ho => sample_defers h hn ht hr hl hd hp ho,
    fun s v h htemp hl hp hw hn hr ho => sample_residual h htemp hl hp hw hn hr ho,
    fun s v h htemp hl hn ht hr hd => sample_stays_off h (by omega) htemp hl hn ht hr hd,
    fun s v h htemp hl hp ht hf => sample_tripsFirst h htemp hl hp ht hf,
    fun s v h hp hl ho ht hf => sample_standby h hp hl ho ht hf,
    fun s v h hn ht hr hl hd hp hno => sample_restrikes h hn ht hr hl hd hp hno,
    fun s v h hn ht hr hl hrun hd => sample_ends_cooling h hn ht hr hl hrun hd,
    fun s h hf => fanTachPulse_turns h hf, fun s h hf => fanTachPulse_off h hf,
    fun s h hf hs hp hl => fanStallExpiry_dark h hf hs hp hl,
    fun s h hf hs ht hp hl => fanStallExpiry_burning h hf hs ht hp hl,
    fun s h hf => run_of_eq h (if_neg ?_), fun s h hl hp => ?_, fun s h hl => quiet_of_eq h (if_neg fun hc => hl hc.1)⟩
  · rintro ⟨hne, hs⟩
    exact hf.elim hne fun ht => Bool.false_ne_true (hs.symm.trans ht)
  · exact quiet_of_eq h (if_pos ⟨hl, hp⟩)

end Sys2Proof.Machine
end

section
/-! The claims on the deck (05 R93 to R98). -/

namespace Sys2Proof.Machine
open Sys2Proof

section
variable {s : State}

/-- The deck as a PLAY claim that starts it leaves it, with RUNNING inactive. -/
def deckStarting (d : Deck) (s : State) : State :=
  { s with dkc := { s.dkc with deck := d, timerMs := 0, stall := none, stopPulse := none } }

theorem deckStart_stopped (h : s.pins.running = false) : deckStart s = deckStarting .starting s :=
  if_neg fun hc => Bool.false_ne_true (h.symm.trans hc.2)

theorem deckStart_running (h : s.pins.running = true) (he : s.pins.tapeEnd = false) :
    deckStart s = deckStarting .playing s := by
  unfold deckStart deckSettle
  rw [if_pos ⟨rfl, h⟩]
  simp only [he]
  rfl

/-- The decks that a PLAY claim starts (05 Table 5.3). -/
theorem playClaim_starts {fromHost : Bool} (hp : s.shc.phase ≠ .held) (hs : s.dkc.deck ≠ .starting)
    (hpl : s.dkc.deck ≠ .playing) (hf : s.dkc.deck = .fault → fromHost = true)
    (he : s.dkc.deck = .ended → s.pins.tapeEnd = false) : playClaim fromHost s = (deckStart s, .ok) := by
  unfold playClaim
  rw [if_neg hp]
  split
  · rfl
  · rfl
  · rfl
  · next h => exact absurd h hs
  · next h => exact absurd h hpl
  · next h => rw [if_neg (by rw [he h]; nofun)]
  · next h => rw [if_pos (hf h)]

theorem playClaim_held {fromHost : Bool} (hp : s.shc.phase = .held) : playClaim fromHost s = (s, .held) := if_pos hp

theorem playClaim_stands {fromHost : Bool} (hp : s.shc.phase ≠ .held) (hd : s.dkc.deck = .starting ∨ s.dkc.deck = .playing) :
    playClaim fromHost s = (s, .ok) := by
  rw [playClaim, if_neg hp]
  rcases hd with hd | hd <;> rw [hd] <;> rfl

theorem playClaim_end {fromHost : Bool} (hp : s.shc.phase ≠ .held) (hd : s.dkc.deck = .ended)
    (he : s.pins.tapeEnd = true) : playClaim fromHost s = (s, .deckEnd) := by
  rw [playClaim, if_neg hp, hd]
  exact if_pos he

theorem playClaim_fault (hp : s.shc.phase ≠ .held) (hd : s.dkc.deck = .fault) : playClaim false s = (s, .busy) := by
  rw [playClaim, if_neg hp, hd] <;> rfl

/-- A cause that goes without an end of HELD only leaves the set. -/
theorem removeCause_deck_plain (hr : s.pnp.power ≠ .resetHeld) (hh : s.shc.phase ≠ .held ∨ s.shc.autoResume = false) :
    removeCause .deck s = { s with shc := { s.shc with causes := { s.shc.causes with deck := false } } } := by
  unfold removeCause
  split
  · next h =>
    have hout : s.shc.causes.deck = false := h.resolve_left hr
    rw [← hout]
  · dsimp only
    rw [if_neg]
    · rfl
    · rintro ⟨hp, -, ha⟩
      exact hh.elim (fun hn => hn hp) fun hf => Bool.false_ne_true (hf.symm.trans ha)

theorem reportDeck_other {old : Deck} (h : old = .ended ∨ s.dkc.deck ≠ .ended) : reportDeck old s = s :=
  if_neg fun hc => h.elim hc.1 fun hn => hn hc.2

/-- DECK_PLAY whose claim is taken by a deck that is not in FAULT, or is refused. -/
theorem deckPlayFrom_plain {t : State} {st : Status} (hc : playClaim true s = (t, st))
    (hf : s.dkc.deck ≠ .fault ∨ st ≠ .ok) (he : s.dkc.deck = .ended ∨ t.dkc.deck ≠ .ended) :
    deckPlayFrom true s = (t, st) := by
  unfold deckPlayFrom
  simp only [hc]
  rw [if_neg fun h => hf.elim (· h.1) (· h.2), reportDeck_other he]

theorem deckPlay_answers {t : State} {st : Status} (h : Awake s) (hd : deckPlayFrom true s = (t, st)) :
    exec .deckPlay s = .next (finish (answered st [] t)) := by
  refine run_answers h ?_
  rw [panelDeck, hd]
  rfl

/-- DECK_PLAY with a deck that starts (05 R94). -/
theorem deckPlay_starts {d : Deck} (h : Awake s) (hp : s.shc.phase ≠ .held) (hs : s.dkc.deck ≠ .starting)
    (hpl : s.dkc.deck ≠ .playing) (hf : s.dkc.deck ≠ .fault) (he : s.dkc.deck = .ended → s.pins.tapeEnd = false)
    (hd : d ≠ .ended) (hstart : deckStart s = deckStarting d s) :
    exec .deckPlay s = .next (finish (answered .ok [] (deckStarting d s))) := by
  have hc : playClaim true s = (deckStarting d s, .ok) := by
    rw [← hstart]
    exact playClaim_starts hp hs hpl (fun hfault => absurd hfault hf) he
  exact deckPlay_answers h (deckPlayFrom_plain hc (.inl hf) (.inr hd))

/-- DECK_PLAY out of FAULT (05 R94, R99). -/
theorem deckPlay_fault (h : Awake s) (hp : s.shc.phase ≠ .held) (hf : s.dkc.deck = .fault)
    (hr : s.pins.running = false) : exec .deckPlay s = .next (finish (answered .ok [] { s with
      dkc := { s.dkc with deck := .starting, timerMs := 0, stall := none, stopPulse := none }
      shc := { s.shc with causes := { s.shc.causes with deck := false } } })) := by
  have hc : playClaim true s = (deckStarting .starting s, .ok) := by
    rw [← deckStart_stopped hr]
    exact playClaim_starts hp (by rw [hf]; nofun) (by rw [hf]; nofun) (fun _ => rfl) (by rw [hf]; nofun)
  refine deckPlay_answers h ?_
  unfold deckPlayFrom
  simp only [hc]
  rw [if_pos ⟨hf, trivial⟩, removeCause_deck_plain (s := deckStarting .starting s) (power_ne_reset h) (.inl hp),
    reportDeck_other (.inr ?_)]
  · rfl
  · simp [deckStarting]

theorem pauseClaim_pauses (hd : s.dkc.deck = .playing ∨ s.dkc.deck = .starting) : pauseClaim s = (deckPause s, .ok) := by
  unfold pauseClaim
  rcases hd with hd | hd <;> rw [hd]

theorem pauseClaim_stands (hd : s.dkc.deck = .pausing ∨ s.dkc.deck = .paused) : pauseClaim s = (s, .ok) := by
  unfold pauseClaim
  rcases hd with hd | hd <;> rw [hd]

theorem pauseClaim_busy (hd : s.dkc.deck = .stopped ∨ s.dkc.deck = .ended ∨ s.dkc.deck = .fault) :
    pauseClaim s = (s, .busy) := by
  unfold pauseClaim
  rcases hd with hd | hd | hd <;> rw [hd]

theorem deckPause_answers {t : State} {st : Status} (h : Awake s) (hc : pauseClaim s = (t, st)) :
    exec .deckPause s = .next (answered st [] t) := by
  refine quiet_answers h ?_
  rw [panelDeck, hc]
  rfl

theorem deckStop_answers {t : State} (h : Awake s) (hd : deckStopAll s = t) :
    exec .deckStop s = .next (finish (answered .ok [] t)) := by
  refine run_answers h ?_
  rw [← hd]
  rfl

theorem deckStopAll_plain (hf : s.dkc.deck ≠ .fault) : deckStopAll s = deckHalt s := if_neg hf

theorem deckStopAll_fault (hr : s.pnp.power ≠ .resetHeld) (hf : s.dkc.deck = .fault) (ha : s.shc.autoResume = false) :
    deckStopAll s = { deckHalt s with shc := { s.shc with causes := { s.shc.causes with deck := false } } } := by
  rw [deckStopAll, if_pos hf]
  exact removeCause_deck_plain (s := deckHalt s) hr (.inr ha)

theorem stopPulseEnd_ends (h : Powered s) :
    exec .stopPulseEnd s = .next { s with dkc := { s.dkc with stopPulse := none } } := by
  change execStopPulseEnd s = _
  rw [execStopPulseEnd, quiet_powered h]

end

/-- Settles O38: the claims by 05 Table 5.3, each through what `playClaim`, `pauseClaim` and `deckStopAll` make of it. -/
theorem deckClaims : Obligations.DeckClaims := by
  unfold Obligations.DeckClaims
  refine ⟨fun s h hp => deckPlay_answers h (deckPlayFrom_plain (playClaim_held hp) (.inr nofun) ?_),
    fun s h hp hd => deckPlay_answers h (deckPlayFrom_plain (playClaim_stands hp hd) (.inl ?_) ?_),
    fun s h hp hd he => deckPlay_answers h (deckPlayFrom_plain (playClaim_end hp hd he) (.inr nofun) (.inl hd)),
    fun s h hp hs hpl hf he hr => deckPlay_starts h hp hs hpl hf he nofun (deckStart_stopped hr),
    fun s h hp hs hpl hf he hr => deckPlay_starts h hp hs hpl hf (fun _ => he) nofun (deckStart_running hr he),
    fun s h hp hf hr => deckPlay_fault h hp hf hr, fun s hf hp => playClaim_fault hp hf,
    fun s h hd => deckPause_answers h (pauseClaim_pauses hd), fun s h hd => deckPause_answers h (pauseClaim_stands hd),
    fun s h hd => deckPause_answers h (pauseClaim_busy hd), fun s h hf => deckStop_answers h (deckStopAll_plain hf),
    fun s h hf ha => deckStop_answers h (deckStopAll_fault (power_ne_reset h) hf ha), fun s h => stopPulseEnd_ends h⟩
  · exact Decidable.em _
  · rcases hd with hd | hd <;> rw [hd] <;> nofun
  · rcases hd with hd | hd <;> rw [hd] <;> exact .inr nofun

end Sys2Proof.Machine
end

section
/-! The deck's lines and time limits (05 R95 to R100). -/

namespace Sys2Proof.Machine
open Sys2Proof

section
variable {s : State}

/-! ## RUNNING and END -/

/-- A change of RUNNING with no new END. -/
theorem deckEdge_running {r e : Bool} (hr : s.pins.running ≠ r) (he : e = true → s.pins.tapeEnd = true) :
    deckEdge r e s = if r then runningUp (setDeckPins r e s) else runningDown (setDeckPins r e s) := by
  have hend : (e && !s.pins.tapeEnd) = false := by
    cases e with
    | false => rfl
    | true => simp [he rfl]
  unfold deckEdge
  simp only [hend]
  rw [if_neg fun h => hr h.symm]
  rfl

theorem endActive_other (h : s.dkc.deck ≠ .playing) : endActive s = s := if_neg fun hc => h hc.2

/-- A change of RUNNING of a deck that is not PLAYING. -/
theorem deckEdge_still {r e : Bool} (hr : s.pins.running ≠ r) (hd : s.dkc.deck ≠ .playing) :
    deckEdge r e s = if r then runningUp (setDeckPins r e s) else runningDown (setDeckPins r e s) := by
  have hend : endActive (setDeckPins r e s) = setDeckPins r e s := endActive_other (s := setDeckPins r e s) hd
  unfold deckEdge
  simp only [hend, ite_self]
  rw [if_neg fun h => hr h.symm]

/-- The level of RUNNING stands while END rises. -/
theorem deckEdge_end (r : Bool) (hr : s.pins.running = r) :
    deckEdge r true s = if s.pins.tapeEnd then setDeckPins r true s else endActive (setDeckPins r true s) := by
  unfold deckEdge
  simp only [Bool.true_and]
  rw [if_pos hr.symm]
  cases s.pins.tapeEnd <;> rfl

theorem runningRise_eq {t : State} {e : Bool} (h : Powered s) (ht : deckEdge true e s = t) :
    exec (.runningRise e) s = .next (finish t) := runPin_of_eq h ht

theorem runningFall_eq {t : State} {e : Bool} (h : Powered s) (ht : deckEdge false e s = t) :
    exec (.runningFall e) s = .next (finish t) := runPin_of_eq h ht

theorem endRise_eq (h : Powered s) {t : State} (ht : deckEdge s.pins.running true s = t) :
    exec .endRise s = .next (finish t) := runPin_of_eq h ht

theorem ne_of_eq_false {b : Bool} (h : b = false) : b ≠ true := by simp [h]

theorem ne_of_eq_true {b : Bool} (h : b = true) : b ≠ false := by simp [h]

theorem runningUp_starting (ha : deckActs s = true) (hd : s.dkc.deck = .starting) :
    runningUp s = reportDeck .starting (deckSettle s) := by
  unfold runningUp
  rw [ha, hd] <;> rfl

theorem runningUp_playing (ha : deckActs s = true) (hd : s.dkc.deck = .playing) :
    runningUp s = { s with dkc := { s.dkc with stall := none } } := by
  unfold runningUp
  rw [ha, hd] <;> rfl

theorem runningUp_stopped (ha : deckActs s = true) (hd : s.dkc.deck = .stopped) :
    runningUp s = if s.dkc.stopPulse = none ∧ s.shc.phase ≠ .held then
      (if s.dkc.cfg.external then (startShow (setDeck .playing s)).1 else setDeck .playing s) else s := by
  unfold runningUp
  rw [ha, hd] <;> rfl

theorem runningDown_playing (ha : deckActs s = true) (hd : s.dkc.deck = .playing) (he : s.pins.tapeEnd = false) :
    runningDown s = { s with dkc := { s.dkc with stall := some 0 } } := by
  unfold runningDown
  rw [ha, hd] <;> simp [he]

theorem runningDown_pausing (ha : deckActs s = true) (hd : s.dkc.deck = .pausing) :
    runningDown s = { s with dkc := { s.dkc with deck := .paused, timerMs := 0 } } := by
  unfold runningDown
  rw [ha, hd] <;> rfl

theorem deckSettle_runs (hd : s.dkc.deck = .starting) (hr : s.pins.running = true) :
    deckSettle s = setDeck (if s.pins.tapeEnd then .ended else .playing) s := if_pos ⟨hd, hr⟩

/-- Where the show does not run an ENDED deck reports nothing. -/
theorem deckEnded_other (hp : s.shc.phase ≠ .running) : deckEnded s = s := if_neg hp

theorem endActive_ends (ha : deckActs s = true) (hd : s.dkc.deck = .playing) :
    endActive s = deckEnded { s with dkc := { s.dkc with deck := .ended, stall := none } } := if_pos ⟨ha, hd⟩

/-- SHOW START of a stopped show with a playing deck (08 Table 8.4). -/
theorem startShow_playing (hp : s.shc.phase = .stopped) (hc : s.shc.causes = Causes.empty)
    (hr : s.pnp.power = .run) (hd : s.dkc.deck = .playing) :
    (startShow s).1 = setPhase .running (setEnded false { s with
      crn := { s.crn with queue := [], current := 0 }, dkc := { s.dkc with clock := 0, clockMs := 0 } }) := by
  have hclaim : playClaim false s = (s, .ok) := playClaim_stands (by rw [hp]; nofun) (.inr hd)
  unfold startShow
  rw [if_neg (by simp [hp]), if_neg (by rw [hc]; decide), if_neg (by simp [hr])]
  simp only [hclaim]
  rfl

/-! ## The entry to FAULT -/

theorem enterHeld_dkc (hpl : s.dkc.deck ≠ .playing) (hs : s.dkc.deck ≠ .starting) : (enterHeld s).dkc = s.dkc := by
  unfold enterHeld
  dsimp only
  have hdkc : (setPhase .held (setEnded (s.shc.phase = .ending) s)).dkc = s.dkc := by
    unfold setPhase
    split <;> rfl
  rw [hdkc, if_neg fun h => h.elim hpl hs, hdkc]

theorem enterHeld_phase (s : State) : (enterHeld s).shc.phase = .held := by
  have hphase : (setPhase .held (setEnded (s.shc.phase = .ending) s)).shc.phase = .held := by
    unfold setPhase
    split
    · next h => exact h
    · rfl
  unfold enterHeld
  dsimp only
  split <;> exact hphase

/-- A cause that comes while the deck does not play leaves the deck, and holds a show that goes on. -/
theorem addCause_still (c : Cause) (h : s.pnp.power ≠ .resetHeld) (hpl : s.dkc.deck ≠ .playing)
    (hs : s.dkc.deck ≠ .starting) : (addCause c s).dkc = s.dkc
      ∧ (s.shc.phase = .running ∨ s.shc.phase = .ending → (addCause c s).shc.phase = .held) := by
  unfold addCause
  rw [if_neg h]
  dsimp only
  split
  · exact ⟨enterHeld_dkc (s := setCause c true s) hpl hs, fun _ => enterHeld_phase _⟩
  · next hp => exact ⟨rfl, fun h => absurd h hp⟩

/-- What the entry to FAULT leaves (05 R99). -/
theorem deckFail_eq (f : FaultFlag) (h : s.pnp.power ≠ .resetHeld) :
    (deckFail f s).dkc = { s.dkc with deck := .fault, stopPulse := some (s.dkc.stopPulse.getD 0), timerMs := 0, stall := none }
    ∧ (deckFail f s).pnp.pend.fault = true ∧ (deckFail f s).shc.causes = { s.shc.causes with deck := true }
    ∧ (s.shc.phase = .running ∨ s.shc.phase = .ending → (deckFail f s).shc.phase = .held) := by
  obtain ⟨hdkc, hphase⟩ := addCause_still .deck (s := setDeck .fault (deckHalt (raiseFault f s))) h nofun nofun
  exact ⟨hdkc, (addCause_showOnly .deck _).marksStand.fault, addCause_causes .deck h, hphase⟩

theorem mute_of_fault {t : State} (h : t.dkc.deck = .fault) : t.mute = true := by simp [State.mute, h]

/-- The outcome of a time limit that fails the deck. -/
theorem deckFail_run {c : Instr} (f : FaultFlag) (h : s.pnp.power ≠ .resetHeld)
    (hrun : exec c s = .next (finish (deckFail f s))) :
    ∃ t, exec c s = .next t ∧ t.dkc.deck = .fault ∧ t.dkc.stopPulse = some (s.dkc.stopPulse.getD 0)
      ∧ t.dkc.timerMs = 0 ∧ t.dkc.stall = none ∧ t.pnp.faults = s.pnp.faults.set f
      ∧ t.pnp.pend.fault = true ∧ t.shc.causes = { s.shc.causes with deck := true }
      ∧ (s.shc.phase = .running ∨ s.shc.phase = .ending → t.shc.phase = .held) ∧ t.mute = true
      ∧ t.tru = s.tru ∧ t.csq = s.csq ∧ t.crn = s.crn ∧ t.mem = s.mem := by
  obtain ⟨hdkc, hfault, hcauses, hphase⟩ := deckFail_eq f h
  have hmute : (finish (deckFail f s)).mute = true := mute_of_fault (by simp [hdkc])
  refine ⟨_, hrun, ?_⟩
  rw [(finish_pend _).1, finish_faults, deckFail_faults]
  simp only [finish_frame, deckFail_frame]
  rw [hdkc]
  exact ⟨rfl, rfl, rfl, rfl, trivial, hfault, hcauses, hphase, hmute, trivial, trivial, trivial, trivial⟩

theorem startTimeout_eq (h : Powered s) : exec .startTimeout s
    = .next (finish (if s.dkc.deck = .starting then deckFail .deckNoStart s else s)) := run_powered h

theorem stallTimeout_eq (h : Powered s) : exec .stallTimeout s
    = .next (finish (if s.dkc.deck = .playing ∧ s.dkc.stall ≠ none then deckFail .deckStall s else s)) := run_powered h

theorem pauseTimeout_eq (h : Powered s) : exec .pauseTimeout s
    = .next (finish (if s.dkc.deck = .pausing then deckFail .deckNoPause s else s)) := run_powered h

/-! ## The lines of O39 -/

theorem runningRise_starting {e : Bool} (h : Awake s) (hd : s.dkc.deck = .starting) (hr : s.pins.running = false)
    (hp : e = true → s.shc.phase ≠ .running) : exec (.runningRise e) s = .next (finish { s with
      pins := { s.pins with running := true, tapeEnd := e }
      dkc := { s.dkc with deck := if e then .ended else .playing } }) := by
  refine runningRise_eq h.1 ?_
  rw [deckEdge_still (ne_of_eq_false hr) (by rw [hd]; nofun), if_pos rfl,
    runningUp_starting (s := setDeckPins true e s) (deckActs_awake h) hd,
    deckSettle_runs (s := setDeckPins true e s) hd rfl]
  cases e with
  | false => exact reportDeck_other (.inr nofun)
  | true =>
    rw [reportDeck, if_pos ⟨nofun, rfl⟩]
    exact deckEnded_other (hp rfl)

theorem runningRise_external (h : Powered s) (hp : s.pnp.power = .run) (hd : s.dkc.deck = .stopped)
    (hr : s.pins.running = false) (hpulse : s.dkc.stopPulse = none) (hph : s.shc.phase = .stopped)
    (hc : s.shc.causes = Causes.empty) (hx : s.dkc.cfg.external = true) :
    ∃ t, exec (.runningRise false) s = .next t ∧ t.dkc.deck = .playing ∧ t.dkc.clock = 0
      ∧ t.shc.phase = .running ∧ t.crn.queue = [] ∧ t.crn.current = 0 ∧ t.pnp.pend.showChg = true := by
  refine ⟨_, runningRise_eq h rfl, ?_⟩
  rw [(finish_pend _).1, deckEdge_still (ne_of_eq_false hr) (by rw [hd]; nofun), if_pos rfl,
    runningUp_stopped (s := setDeckPins true false s) (deckActs_awake ⟨h, .inl hp⟩) hd,
    if_pos ⟨hpulse, by rw [setDeckPins, hph]; nofun⟩,
    if_pos (show (setDeckPins true false s).dkc.cfg.external = true from hx),
    startShow_playing (s := setDeck .playing (setDeckPins true false s)) hph hc hp rfl]
  simp only [finish_frame]
  have hne : s.shc.phase ≠ .running := by rw [hph]; nofun
  simp [setPhase, setEnded, setDeck, setDeckPins, raiseShow, hne]

theorem endRise_running (h : Awake s) (hd : s.dkc.deck = .playing) (he : s.pins.tapeEnd = false)
    (hp : s.shc.phase = .running) (hq : s.crn.queue ≠ []) :
    ∃ t, exec .endRise s = .next t ∧ t.dkc = { s.dkc with deck := .ended, stall := none }
      ∧ t.shc = { s.shc with phase := .ending } ∧ t.pnp.pend.showChg = true ∧ t.crn = s.crn := by
  have hout (t : State) (ht : t.crn = s.crn) : t.runOut = false := by
    have hne : s.crn.queue.isEmpty = false := by simpa using hq
    simp [State.runOut, ht, hne]
  have hedge : deckEdge s.pins.running true s = setPhase .ending
      { setDeckPins s.pins.running true s with dkc := { s.dkc with deck := .ended, stall := none } } := by
    rw [deckEdge_end _ rfl, he, if_neg (by simp),
      endActive_ends (s := setDeckPins s.pins.running true s) (deckActs_awake h) hd, deckEnded]
    refine (if_pos hp).trans ?_
    rw [endCheck, if_neg]
    · rfl
    · rintro ⟨-, hrun⟩
      refine Bool.false_ne_true ((hout _ ?_).symm.trans hrun)
      simp [setDeckPins]
  refine ⟨_, endRise_eq h.1 hedge, ?_⟩
  rw [(finish_pend _).1]
  simp only [finish_frame]
  simp [setPhase, setDeckPins, raiseShow, hp]

end

/-- Settles O39: RUNNING and END through `deckEdge`, each limit through `deckFail_run`. -/
theorem deckFollowsItsLinesAndLimits : Obligations.DeckFollowsItsLinesAndLimits := by
  unfold Obligations.DeckFollowsItsLinesAndLimits
  refine ⟨fun s e h hd hr he => ?_, fun s e h hd hr he hp => ?_, fun s h hd hr he => ?_,
    fun s h hd hr hpulse hp hx => ?_,
    fun s h hp hd hr hpulse hph hc hx => runningRise_external h hp hd hr hpulse hph hc hx,
    fun s h hd hr hor => ?_, fun s h hd hr => ?_, fun s e h hd hr => ?_, fun s h hd he hp => ?_,
    fun s h hd he hp hq => endRise_running h hd he hp hq, fun s h hd => ?_,
    fun s h hp hd => deckFail_run .deckNoStart hp ((startTimeout_eq h).trans (by rw [if_pos hd])),
    fun s h hp hd hs => ?_, fun s h hp hd => ?_,
    fun s h hd => by rw [startTimeout_eq h, if_neg hd], fun s h hd => by rw [stallTimeout_eq h, if_neg fun hc => hd hc.1],
    fun s h hd => by rw [pauseTimeout_eq h, if_neg hd]⟩
  · rw [runningRise_starting h hd hr (fun ht => by simp [he] at ht), if_neg (ne_of_eq_false he)]
  · rw [runningRise_starting h hd hr (fun _ => hp), if_pos he]
  · refine runningRise_eq h.1 ?_
    rw [deckEdge_running (e := false) (ne_of_eq_false hr) nofun, if_pos rfl,
      runningUp_playing (s := setDeckPins true false s) (deckActs_awake h) hd]
    simp [setDeckPins, he]
  · refine runningRise_eq h.1 ?_
    rw [deckEdge_running (e := false) (ne_of_eq_false hr) nofun, if_pos rfl,
      runningUp_stopped (s := setDeckPins true false s) (deckActs_awake h) hd, if_pos ⟨hpulse, hp⟩,
      if_neg (by simpa [setDeckPins] using hx)]
    rfl
  · refine runningRise_eq h.1 ?_
    rw [deckEdge_running (e := false) (ne_of_eq_false hr) nofun, if_pos rfl,
      runningUp_stopped (s := setDeckPins true false s) (deckActs_awake h) hd, if_neg]
    · rfl
    · rintro ⟨hpulse, hp⟩
      exact hor.elim (· hpulse) hp
  · refine runningFall_eq h.1 ?_
    rw [deckEdge_running (e := false) (ne_of_eq_true hr) nofun, if_neg (by simp),
      runningDown_playing (s := setDeckPins false false s) (deckActs_awake h) hd rfl]
    rfl
  · refine runningFall_eq h.1 ?_
    rw [deckEdge_still (ne_of_eq_true hr) (by rw [hd]; nofun), if_neg (by simp),
      runningDown_pausing (s := setDeckPins false e s) (deckActs_awake h) hd]
    rfl
  · refine endRise_eq h.1 ?_
    rw [deckEdge_end _ rfl, he, if_neg (by simp),
      endActive_ends (s := setDeckPins s.pins.running true s) (deckActs_awake h) hd]
    exact deckEnded_other hp
  · refine endRise_eq h.1 ?_
    rw [deckEdge_end _ rfl, endActive_other (s := setDeckPins s.pins.running true s) hd, ite_self]
    rfl
  · obtain ⟨t, hx, h1, h2, h3, h4, h5, h6, h7, h8, h9, -⟩ :=
      deckFail_run .deckStall hp ((stallTimeout_eq h).trans (by rw [if_pos ⟨hd, hs⟩]))
    exact ⟨t, hx, h1, h2, h3, h4, h5, h6, h7, h9, h8⟩
  · obtain ⟨t, hx, h1, h2, h3, h4, h5, h6, h7, -, h9, -⟩ :=
      deckFail_run .deckNoPause hp ((pauseTimeout_eq h).trans (by rw [if_pos hd]))
    exact ⟨t, hx, h1, h2, h3, h4, h5, h6, h7, h9⟩

end Sys2Proof.Machine
end

section
/-! The decoder: judgments, the class, pulses and words (06). -/

namespace Sys2Proof.Machine
open Sys2Proof

/-! ## Causes beside the decoder -/

section
variable (f : Cdc → Cdc) (s : State)

theorem setPhase_setCdc (p : Show) : setPhase p (setCdc f s) = setCdc f (setPhase p s) := by
  unfold setPhase
  rw [apply_ite (setCdc f)]
  rfl

theorem enterHeld_setCdc : enterHeld (setCdc f s) = setCdc f (enterHeld s) := by
  have hset : setPhase .held (setEnded ((setCdc f s).shc.phase = .ending) (setCdc f s))
      = setCdc f (setPhase .held (setEnded (s.shc.phase = .ending) s)) := setPhase_setCdc f (setEnded _ s) .held
  unfold enterHeld
  dsimp only
  rw [hset, apply_ite (setCdc f)]
  rfl

theorem addCause_setCdc (c : Cause) : addCause c (setCdc f s) = setCdc f (addCause c s) := by
  unfold addCause
  dsimp only
  rw [apply_ite (setCdc f), apply_ite (setCdc f), ← enterHeld_setCdc]
  rfl

end

/-! ## The end of a pulse run -/

/-- A cue that is delivered to the queue. -/
def delivered (l : LastCue) (k : CueKind) (s : State) : State :=
  { s with
    cdc := { s.cdc with
      last := l
      flags := { s.cdc.flags with overrun := s.cdc.flags.overrun
        || (s.shc.phase ≠ .stopped && decide (8 ≤ s.crn.queue.length)) } }
    crn := if s.shc.phase ≠ .stopped ∧ s.crn.queue.length < 8 then
        { s.crn with queue := s.crn.queue ++ [⟨.tape, k, s.dkc.clock⟩] }
      else s.crn }

theorem deliverCue_eq (l : LastCue) (k : CueKind) (s : State) : deliverCue l k s = delivered l k s := by
  unfold deliverCue offerCue delivered Config.cueQueueMax
  simp only [setCdc]
  by_cases hp : s.shc.phase = .stopped
  · simp [hp]
  · by_cases hq : s.crn.queue.length < 8
    · simp [hp, hq, pushCue, Nat.not_le.2 hq]
    · simp [hp, hq, setFlags, setCdc, Nat.not_lt.1 hq]

theorem endPulse_eq (s : State) : endPulse s = pulseEnded s := by
  unfold endPulse pulseEnded
  cases s.cdc.pulse with
  | measuring ms lo hi hold =>
    dsimp only
    by_cases h1 : hold ≤ ms
    · rw [if_pos h1, if_pos h1]
      rfl
    · rw [if_neg h1, if_neg h1]
      by_cases h2 : ms < lo
      · rw [if_pos h2, if_pos h2]
        rfl
      · rw [if_neg h2, if_neg h2, deliverCue_eq]
        by_cases h3 : ms ≤ hi
        · rw [if_pos h3, if_neg (by omega)]
          rfl
        · rw [if_neg h3, if_pos (by omega)]
          rfl
  | none => rfl
  | spent => rfl

/-- A change of CDC beside the pulse run, the last cue and the flags. -/
def SparesPulse (f : Cdc → Cdc) : Prop :=
  ∀ c p l fl, f { c with pulse := p, last := l, flags := fl } = { f c with pulse := p, last := l, flags := fl }

theorem SparesPulse.fields {f : Cdc → Cdc} (h : SparesPulse f) (c : Cdc) :
    (f c).pulse = c.pulse ∧ (f c).last = c.last ∧ (f c).flags = c.flags := by
  have heq : f c = { f c with pulse := c.pulse, last := c.last, flags := c.flags } := h c c.pulse c.last c.flags
  rw [heq]
  exact ⟨rfl, rfl, rfl⟩

/-- Such a change may come before the end of the run or after it. -/
theorem pulseEnded_setCdc {f : Cdc → Cdc} (h : SparesPulse f) (s : State) :
    pulseEnded (setCdc f s) = setCdc f (pulseEnded s) := by
  obtain ⟨hpulse, hlast, hflags⟩ := h.fields s.cdc
  have hout (p : PulseRun) (l : LastCue) (fl : CdcFlags) (k : Crn) :
      { s with cdc := { f s.cdc with pulse := p, last := l, flags := fl }, crn := k }
        = { s with cdc := f { s.cdc with pulse := p, last := l, flags := fl }, crn := k } :=
    congrArg (fun c => { s with cdc := c, crn := k }) (h s.cdc p l fl).symm
  unfold pulseEnded
  conv_lhs => simp only [setCdc, hpulse]
  cases s.cdc.pulse with
  | none =>
    dsimp only
    rw [hlast, hflags]
    exact hout ..
  | spent =>
    dsimp only
    rw [hlast, hflags]
    exact hout ..
  | measuring ms lo hi hold =>
    dsimp only
    by_cases h1 : hold ≤ ms
    · rw [if_pos h1, if_pos h1, hflags, hout]
      by_cases hph : s.shc.phase = .stopped
      · refine (if_pos hph).trans ?_
        rw [if_pos hph]
        rfl
      · refine (if_neg hph).trans ?_
        rw [if_neg hph]
        rw [← addCause_setCdc]
        rfl
    · rw [if_neg h1, if_neg h1]
      by_cases h2 : ms < lo
      · rw [if_pos h2, if_pos h2, hlast, hflags]
        exact hout ..
      · rw [if_neg h2, if_neg h2]
        by_cases h3 : hi < ms
        · rw [if_pos h3, if_pos h3, hlast, hflags]
          exact hout ..
        · rw [if_neg h3, if_neg h3, hflags]
          exact hout ..

/-! ## Judgments -/

section
variable {s : State}

theorem decoderActs_awake (h : Awake s) : decoderActs s = true := by
  rcases h.2 with hr | hr <;> simp [decoderActs, hr]

theorem decoderActs_eq_false (h : s.pnp.power = .standby ∨ s.pnp.power = .resetHeld) : decoderActs s = false := by
  rcases h with h | h <;> simp [decoderActs, h]

/-- CDC at a rising edge. -/
def edgeTaken (c : Cdc) : Cdc := { c with watchMs := 0, risen := true, highUs := 0 }

theorem periodJudgment_eq (n : Nat) (h : Awake s) : exec (.periodJudgment n) s = .next (
    if s.cdc.risen then takeJudgment (judge (s.cdc.highUs + n)) (setCdc edgeTaken s) else setCdc edgeTaken s) := by
  change execPeriodJudgment n s = _
  rw [execPeriodJudgment, quiet_powered h.1, decoderActs_awake h]
  rfl

theorem periodJudgment_judges {n : Nat} {j : Judgment} {t : State} (h : Awake s) (hr : s.cdc.risen = true)
    (hj : judge (s.cdc.highUs + n) = j) (ht : takeJudgment j (setCdc edgeTaken s) = t) :
    exec (.periodJudgment n) s = .next t := by
  rw [periodJudgment_eq n h, if_pos hr, hj, ht]

theorem takeJudgment_agrees {j : Judgment} (h : j.tone = s.cdc.tone) : takeJudgment j s
    = setCdc (fun c => { c with count := 0, waitQuiet := c.waitQuiet && c.tone ≠ .none }) s := if_pos h

theorem takeJudgment_counts {j : Judgment} (hne : j.tone ≠ s.cdc.tone) (hn : s.cdc.candidate ≠ j ∨ s.cdc.count < 3) :
    takeJudgment j s = setCdc (fun c => { c with
      candidate := j, count := if c.candidate = j then c.count + 1 else 1 }) s := by
  refine (if_neg hne).trans ?_
  have hlow : ¬ 4 ≤ (if j = s.cdc.candidate then s.cdc.count + 1 else 1) := by
    split
    · next h => exact hn.elim (fun hc => absurd h.symm hc) fun hc => by omega
    · omega
  rw [if_neg hlow]
  simp only [setCdc, eq_comm (a := j)]

theorem takeJudgment_changes {j : Judgment} (hne : j.tone ≠ s.cdc.tone) (hc : s.cdc.candidate = j)
    (hn : 3 ≤ s.cdc.count) :
    takeJudgment j s = changeTone j.tone (setCdc (fun c => { c with count := c.count + 1 }) s) := by
  refine (if_neg hne).trans ?_
  subst hc
  rw [if_pos rfl, if_pos (by omega)]
  rfl

/-- CDC with the class `t`. -/
def classified (t : Tone) (c : Cdc) : Cdc := { c with tone := t, count := 0 }

/-- A change of the class, with the end of a pulse run after it: the run does not look at the class. -/
theorem changeTone_from_a (t : Tone) (h : s.cdc.tone = .toneA) : changeTone t s = pulseEnded (match t with
    | .none => setCdc (fun c => { c with waitQuiet := false }) (setCdc (classified t) s)
    | .toneA => setCdc (classified t) s
    | .toneB => setCdc startWord (setCdc (classified t) s)) := by
  have hclass : SparesPulse (classified t) := fun _ _ _ _ => rfl
  have hquiet : SparesPulse fun c => { c with waitQuiet := false } := fun _ _ _ _ => rfl
  have hword : SparesPulse startWord := fun c p l fl => by
    unfold startWord
    have hbegin : mayBegin { c with pulse := p, last := l, flags := fl } = mayBegin c := rfl
    rw [hbegin]
    dsimp only
    split <;> rfl
  unfold changeTone
  simp only [h, if_true, endPulse_eq]
  cases t with
  | none =>
    rw [pulseEnded_setCdc hquiet, pulseEnded_setCdc hclass]
    rfl
  | toneA =>
    rw [pulseEnded_setCdc hclass]
    rfl
  | toneB =>
    rw [pulseEnded_setCdc hword, pulseEnded_setCdc hclass]
    rfl

theorem changeTone_other (t : Tone) (h : s.cdc.tone ≠ .toneA) : changeTone t s = match t with
    | .none => setCdc (fun c => { c with waitQuiet := false }) (setCdc (classified t) s)
    | .toneA => if s.cdc.tone = .none then setCdc startPulseRun (setCdc (classified t) s) else setCdc (classified t) s
    | .toneB => setCdc startWord (setCdc (classified t) s) := by
  unfold changeTone
  dsimp only
  rw [if_neg h]
  cases t <;> rfl

theorem mayBegin_iff (c : Cdc) : mayBegin c = true ↔ c.cfg.mode ≠ .off ∧ c.word = .idle ∧ c.waitQuiet = false := by
  simp [mayBegin, and_assoc]

theorem startPulseRun_eq (c : Cdc) : startPulseRun c = { c with
    pulse := if c.cfg.mode ≠ .off ∧ c.word = .idle ∧ c.waitQuiet = false ∧ c.cfg.pulseOn = true then
        .measuring 0 c.cfg.pulseMin c.cfg.pulseMax c.cfg.holdMin
      else c.pulse } := by
  unfold startPulseRun
  simp only [Bool.and_eq_true, mayBegin_iff, and_assoc]
  split <;> rfl

theorem startWord_eq (c : Cdc) : startWord c =
    if c.cfg.mode ≠ .off ∧ c.word = .idle ∧ c.waitQuiet = false ∧ c.cfg.wordOn = true then
      { c with word := .startCheck, element := 0, bits := [], wordMs := 0, elementMs := c.cfg.element,
               wordParity := c.cfg.parity }
    else c := by
  unfold startWord
  simp only [Bool.and_eq_true, mayBegin_iff, and_assoc]

/-- The fourth judgment of a run outside TONE_A. -/
theorem periodJudgment_changes {n : Nat} {j : Judgment} {t : State} (h : Awake s) (hr : s.cdc.risen = true)
    (hj : judge (s.cdc.highUs + n) = j) (hne : j.tone ≠ s.cdc.tone) (hc : s.cdc.candidate = j) (hn : 3 ≤ s.cdc.count)
    (ht : changeTone j.tone (setCdc (fun c => { edgeTaken c with count := c.count + 1 }) s) = t) :
    exec (.periodJudgment n) s = .next t :=
  periodJudgment_judges h hr hj ((takeJudgment_changes (s := setCdc edgeTaken s) hne hc hn).trans ht)

end

/-- Settles O42: an edge, its judgment, and the fourth judgment of a run by the class that it leaves and makes. -/
theorem toneClassFollowsThePeriods : Obligations.ToneClassFollowsThePeriods := by
  unfold Obligations.ToneClassFollowsThePeriods
  refine ⟨fun _ => rfl, fun s n h => ?_, fun s n h hp => ?_, fun s n h hr => ?_, fun s n h hr hj => ?_,
    fun s n h hr hj hn => ?_, fun s n h hr hj ht hc hn => ?_, fun s n h hr hj ht hc hn hm hw hq ho => ?_,
    fun s n h hr hj ht hc hn => ?_, fun s n h hr hj ht hc hn => ?_, fun s n h hr hj ht hc hn => ?_,
    fun s n h hr hj ht hc hn => ?_⟩
  · change execCueinFallingEdge n s = _
    rw [execCueinFallingEdge, quiet_powered h.1, decoderActs_awake h]
    rfl
  · have hno := decoderActs_eq_false hp
    refine ⟨quiet_of_eq h (if_neg (by simp [hno])), quiet_of_eq h (if_neg (by simp [hno])),
      quiet_of_eq h (if_neg (by simp [hno]))⟩
  · rw [periodJudgment_eq n h, hr]
    rfl
  · exact periodJudgment_judges h hr rfl (takeJudgment_agrees (s := setCdc edgeTaken s) hj)
  · exact periodJudgment_judges h hr rfl (takeJudgment_counts (s := setCdc edgeTaken s) hj hn)
  · refine periodJudgment_changes h hr hj (by rw [ht]; nofun) hc hn ?_
    rw [Judgment.tone, changeTone_other _ (by simp [setCdc, edgeTaken, ht])]
    refine (if_pos ht).trans ?_
    simp only [setCdc, startPulseRun_eq]
    rfl
  · refine periodJudgment_changes h hr hj (by rw [ht]; nofun) hc hn ?_
    rw [Judgment.tone, changeTone_other _ (by simp [setCdc, edgeTaken, ht])]
    simp only [setCdc, startWord_eq]
    rw [if_pos ⟨hm, hw, hq, ho⟩]
    rfl
  · refine periodJudgment_changes h hr hj (by rw [ht]; nofun) hc hn ?_
    rw [Judgment.tone, changeTone_other _ (by simp [setCdc, edgeTaken, ht])]
    simp only [setCdc, edgeTaken, ht]
    rfl
  · refine periodJudgment_changes h hr hj (by rw [ht]; nofun) hc hn ?_
    rw [Judgment.tone, changeTone_other _ (by simp [setCdc, edgeTaken, ht])]
    rfl
  · refine periodJudgment_changes h hr hj (by rw [ht]; nofun) hc hn ?_
    rw [Judgment.tone, changeTone_from_a _ (by simp [setCdc, edgeTaken, ht])]
    rfl
  · refine periodJudgment_changes h hr hj (by rw [ht]; nofun) hc hn ?_
    rw [Judgment.tone, changeTone_from_a _ (by simp [setCdc, edgeTaken, ht])]
    simp only [setCdc, startWord_eq]
    rfl

end Sys2Proof.Machine
end

section
/-! Pulses and words as cues (06 R109 to R114). -/

namespace Sys2Proof.Machine
open Sys2Proof

section
variable {s : State}

/-! ## The edge watch -/

/-- CDC after 3 ms without an edge, but for a pulse run that ends. -/
def silent (c : Cdc) : Cdc :=
  { c with tone := .none, waitQuiet := false, count := 0, risen := false, watchMs := 3 }

theorem edgeWatchExpiry_eq (h : Awake s) : exec .edgeWatchExpiry s = .next (edgeWatch s) := by
  change execEdgeWatchExpiry s = _
  rw [execEdgeWatchExpiry, quiet_powered h.1, decoderActs_awake h]
  rfl

theorem edgeWatch_other (h : s.cdc.tone ≠ .toneA) : edgeWatch s = setCdc silent s := by
  unfold edgeWatch
  dsimp only
  split
  · next ht => simp [setCdc, silent, ht, Config.edgeWatchMs]
  · rw [changeTone_other _ h]
    rfl

theorem edgeWatch_from_a (h : s.cdc.tone = .toneA) : edgeWatch s = pulseEnded (setCdc silent s) := by
  have hlast : SparesPulse fun c => { c with count := 0, risen := false, watchMs := Config.edgeWatchMs } :=
    fun _ _ _ _ => rfl
  unfold edgeWatch
  dsimp only
  rw [if_neg (by rw [h]; nofun), changeTone_from_a _ h, ← pulseEnded_setCdc hlast]
  rfl

theorem edgeWatchExpiry_ends {t : State} (h : Awake s) (ht : s.cdc.tone = .toneA)
    (hp : pulseEnded (setCdc silent s) = t) : exec .edgeWatchExpiry s = .next t := by
  rw [edgeWatchExpiry_eq h, edgeWatch_from_a ht, hp]

section
variable {ms lo hi hold : Nat} (hp : s.cdc.pulse = .measuring ms lo hi hold)
include hp

theorem pulseEnded_hold (hh : hold ≤ ms) : pulseEnded s = yieldHold (setCdc (fun c => { c with pulse := .none }) s) := by
  rw [pulseEnded, hp]
  exact if_pos hh

theorem pulseEnded_noise (hh : ms < hold) (hlo : ms < lo) : pulseEnded s = setCdc (fun c => { c with
    pulse := .none, flags := { c.flags with noise := true } }) s := by
  rw [pulseEnded, hp]
  exact (if_neg (by omega)).trans (if_pos hlo)

theorem pulseEnded_long (hh : ms < hold) (hlo : lo ≤ ms) (hhi : hi < ms) : pulseEnded s = setCdc (fun c => { c with
    pulse := .none, flags := { c.flags with long := true } }) s := by
  rw [pulseEnded, hp]
  exact (if_neg (by omega)).trans ((if_neg (by omega)).trans (if_pos hhi))

theorem pulseEnded_next (hh : ms < hold) (hlo : lo ≤ ms) (hhi : ms ≤ hi) :
    pulseEnded s = delivered .next .next (setCdc (fun c => { c with pulse := .none }) s) := by
  rw [pulseEnded, hp]
  exact (if_neg (by omega)).trans ((if_neg (by omega)).trans (if_neg (by omega)))

end

/-! ## HOLD cues -/

/-- CDC with the cue HOLD. -/
def holdHeard (c : Cdc) : Cdc := { c with last := .hold, flags := { c.flags with holdSeen := true } }

theorem yieldHold_stopped (hp : s.shc.phase = .stopped) : yieldHold s = setCdc holdHeard s := if_pos hp

/-- A show that goes on, held by a cue. -/
def heldByCue (s : State) : State :=
  { s with
    cdc := holdHeard s.cdc
    shc := { s.shc with
      phase := .held, causes := { s.shc.causes with cueHold := true }, ended := decide (s.shc.phase = .ending) } }

/-- A HOLD cue holds a show that goes on (06 R110, 08 R142). -/
theorem yieldHold_holds (hr : s.pnp.power ≠ .resetHeld) (hp : s.shc.phase = .running ∨ s.shc.phase = .ending) :
    (yieldHold s).cdc = holdHeard s.cdc
    ∧ (yieldHold s).shc = { s.shc with
        phase := .held, causes := { s.shc.causes with cueHold := true }, ended := decide (s.shc.phase = .ending) }
    ∧ (yieldHold s).dkc = (if s.dkc.deck = .playing ∨ s.dkc.deck = .starting then
        { s.dkc with deck := if s.pins.running then .pausing else .paused, timerMs := 0, stall := none } else s.dkc)
    ∧ (yieldHold s).pnp.pend.showChg = true ∧ (yieldHold s).tru = s.tru ∧ (yieldHold s).csq = s.csq
    ∧ (yieldHold s).sar = s.sar ∧ (yieldHold s).crn = s.crn := by
  have hne : s.shc.phase ≠ .stopped := by rcases hp with hp | hp <;> rw [hp] <;> nofun
  have hnh : s.shc.phase ≠ .held := by rcases hp with hp | hp <;> rw [hp] <;> nofun
  have heq : yieldHold s = enterHeld (setCause .cueHold true (setCdc holdHeard s)) := by
    refine (if_neg hne).trans ?_
    exact (if_neg hr).trans (if_pos hp)
  have hset : setPhase .held (setEnded ((setCause .cueHold true (setCdc holdHeard s)).shc.phase = .ending)
      (setCause .cueHold true (setCdc holdHeard s))) = raiseShow (heldByCue s) := if_neg hnh
  have hheld : enterHeld (setCause .cueHold true (setCdc holdHeard s))
      = if s.dkc.deck = .playing ∨ s.dkc.deck = .starting then deckPause (raiseShow (heldByCue s))
        else raiseShow (heldByCue s) := by
    unfold enterHeld
    dsimp only
    rw [hset]
    rfl
  rw [heq, hheld]
  split <;> exact ⟨rfl, rfl, rfl, rfl, rfl, rfl, rfl, rfl⟩

theorem holdCue_measuring {ms lo hi hold : Nat} (hp : s.cdc.pulse = .measuring ms lo hi hold) :
    holdCue s = yieldHold (setCdc (fun c => { c with pulse := .spent }) s) := by
  rw [holdCue, hp]

theorem holdCue_other (hp : s.cdc.pulse = .none ∨ s.cdc.pulse = .spent) : holdCue s = s := by
  unfold holdCue
  rcases hp with hp | hp <;> rw [hp]

/-! ## Words -/

theorem wordStartCheck_eq (h : Powered s) : exec .wordStartCheck s = .next (startCheckWord s) := quiet_powered h

theorem wordElementSample_eq (h : Powered s) : exec .wordElementSample s = .next (sampleWord s) := quiet_powered h

theorem wordCue_eq (h : Powered s) : exec .wordCue s = .next (sampleWord s) := quiet_powered h

/-- CDC with a word discarded for its framing. -/
def misframed (s : State) : State :=
  { s with cdc := { s.cdc with word := .idle, waitQuiet := true, flags := { s.cdc.flags with framing := true } } }

theorem sampleWord_data (hw : s.cdc.word = .data) :
    sampleWord s = if s.cdc.tone = .none then misframed s else setCdc (sampleData (s.cdc.tone = .toneA)) s := by
  rw [sampleWord, hw] <;> rfl

theorem sampleWord_parity (hw : s.cdc.word = .parity) : sampleWord s = if s.cdc.tone = .none then misframed s
    else if parityOk s.cdc.wordParity (s.cdc.bits ++ [decide (s.cdc.tone = .toneA)]) then
      { s with cdc := { s.cdc with word := .stop } }
    else { s with cdc := { s.cdc with
      word := .idle, waitQuiet := true, flags := { s.cdc.flags with parity := true } } } := by
  rw [sampleWord, hw] <;> rfl

theorem sampleWord_stop (hw : s.cdc.word = .stop) :
    sampleWord s = if s.cdc.tone = .toneA then completeWord s else misframed s := by
  rw [sampleWord, hw] <;> rfl

theorem parityOk_iff {p : Parity} (h : p ≠ .none) (bits : List Bool) :
    parityOk p bits = true ↔ (bits.count true % 2 = 0) = (p = .even) := by
  cases p with
  | none => exact absurd rfl h
  | even => simp [parityOk]
  | odd => simp [parityOk]

theorem sampleData_eq (b : Bool) {c : Cdc} (hw : c.word = .data) : sampleData b c = { c with
    bits := c.bits ++ [b]
    element := if c.element < 7 then c.element + 1 else c.element
    word := if c.element < 7 then .data else if c.wordParity = .none then .stop else .parity } := by
  unfold sampleData
  dsimp only
  split
  · rw [← hw]
  · rfl

theorem completeWord_value (h : bitsValue s.cdc.bits = 0 ∨ 254 < bitsValue s.cdc.bits) : completeWord s
    = { s with cdc := { s.cdc with word := .idle, flags := { s.cdc.flags with value := true } } } :=
  if_neg (by omega)

theorem completeWord_step (h1 : 1 ≤ bitsValue s.cdc.bits) (h2 : bitsValue s.cdc.bits ≤ 254) : completeWord s
    = delivered (.step (bitsValue s.cdc.bits)) (.step (bitsValue s.cdc.bits))
        (setCdc (fun c => { c with word := .idle }) s) := by
  refine (if_pos ⟨h1, h2⟩).trans ?_
  rw [deliverCue_eq]

end

/-- Settles O43: the end of a pulse run by its length, and the samples of a word by its state. -/
theorem pulsesAndWordsBecomeCues : Obligations.PulsesAndWordsBecomeCues := by
  unfold Obligations.PulsesAndWordsBecomeCues
  refine ⟨fun s h ht => ?_, fun s ms lo hi hold h ht hp hh hor => ?_, fun s ms lo hi hold h ht hp hh hlo hhi => ?_,
    fun s ms lo hi hold h ht hp hh hst => ?_, fun s ms lo hi hold h ht hp hh hrun => ?_,
    fun s ms lo hi hold h hp hst => ?_, fun s ms lo hi hold h hp hrun => ?_, fun s h hp => ?_, fun s h hw ht => ?_,
    fun s h hw ht => ?_, fun s h hw => ?_, fun s h hw ht => ?_, fun s h hw ht => ?_, fun s h hw ht hpar => ?_,
    fun s h hw ht => ?_, fun s h hw ht hv => ?_, fun s h hw ht h1 h2 => ?_, fun b bs => ?_⟩
  · rw [edgeWatchExpiry_eq h, edgeWatch_other ht]
    rfl
  · refine edgeWatchExpiry_ends h ht ?_
    by_cases hlo : ms < lo
    · rw [pulseEnded_noise (s := setCdc silent s) hp hh hlo]
      simp [setCdc, silent, hlo, Nat.not_le.2 hlo]
    · rw [pulseEnded_long (s := setCdc silent s) hp hh (by omega) (by omega)]
      simp [setCdc, silent, hlo, Nat.not_lt.1 hlo]
  · refine edgeWatchExpiry_ends h ht ?_
    rw [pulseEnded_next (s := setCdc silent s) hp hh hlo hhi]
    rfl
  · refine edgeWatchExpiry_ends h ht ?_
    rw [pulseEnded_hold (s := setCdc silent s) hp hh]
    exact yieldHold_stopped (s := setCdc (fun c => { c with pulse := .none }) (setCdc silent s)) hst
  · obtain ⟨hcdc, hshc, -, -, -, hcsq, -, hcrn⟩ :=
      yieldHold_holds (s := setCdc (fun c => { c with pulse := .none }) (setCdc silent s)) (power_ne_reset h) hrun
    exact ⟨_, edgeWatchExpiry_ends h ht (pulseEnded_hold (s := setCdc silent s) hp hh), hcdc, hshc, hcrn, hcsq⟩
  · refine run_of_eq h ?_
    rw [holdCue_measuring hp]
    exact yieldHold_stopped (s := setCdc (fun c => { c with pulse := .spent }) s) hst
  · obtain ⟨hcdc, hshc, hdkc, hshow, htru, hcsq, hsar, hcrn⟩ :=
      yieldHold_holds (s := setCdc (fun c => { c with pulse := .spent }) s) (power_ne_reset h) hrun
    refine ⟨_, run_of_eq h.1 (holdCue_measuring hp), ?_⟩
    rw [(finish_pend _).1]
    simp only [finish_frame]
    exact ⟨hcdc, hshc, hdkc, hshow, htru, hcsq, hsar, hcrn⟩
  · exact run_of_eq h (holdCue_other hp)
  · rw [wordStartCheck_eq h, startCheckWord, if_pos hw, if_pos ht]
    rfl
  · rw [wordStartCheck_eq h, startCheckWord, if_pos hw, if_neg ht]
    rfl
  · rw [wordStartCheck_eq h, startCheckWord, if_neg hw]
  · rw [wordElementSample_eq h, sampleWord_data hw, if_neg ht, setCdc, sampleData_eq _ hw]
  · rw [wordElementSample_eq h]
    rcases hw with hw | hw
    · rw [sampleWord_data hw, if_pos ht]
      rfl
    · rw [sampleWord_parity hw, if_pos ht]
      rfl
  · rw [wordElementSample_eq h, sampleWord_parity hw, if_neg ht]
    simp only [parityOk_iff hpar]
    split <;> rfl
  · rw [wordCue_eq h, sampleWord_stop hw, if_neg ht]
    rfl
  · rw [wordCue_eq h, sampleWord_stop hw, if_pos ht, completeWord_value hv]
  · rw [wordCue_eq h, sampleWord_stop hw, if_pos ht, completeWord_step h1 h2]
    rfl
  · cases b <;> rfl

end Sys2Proof.Machine
end

section
/-! What the actions of a step leave of the step, the show level, the deck and the link (07 R128 to R131). -/

namespace Sys2Proof.Machine
open Sys2Proof

/-! ## The latched record and the marks of a fault -/

/-- The parts of CRN that only a step's start, its abandonment and its faults write. -/
structure KeepsStep (s t : State) : Prop where
  latched : t.crn.latched = s.crn.latched
  queue : t.crn.queue = s.crn.queue
  current : t.crn.current = s.crn.current
  table : t.crn.table = s.crn.table

theorem KeepsStep.refl (s : State) : KeepsStep s s := ⟨rfl, rfl, rfl, rfl⟩

theorem KeepsStep.of_crn {s t : State} (h : t.crn = s.crn) : KeepsStep s t := by
  constructor <;> rw [h]

theorem KeepsStep.trans {s t u : State} (h : KeepsStep s t) (h' : KeepsStep t u) : KeepsStep s u :=
  ⟨h'.latched.trans h.latched, h'.queue.trans h.queue, h'.current.trans h.current, h'.table.trans h.table⟩

theorem stepComplete_crn (s : State) : (stepComplete s).crn = { s.crn with
    progress := (stepComplete s).crn.progress
    awaited := (stepComplete s).crn.awaited
    dwell := (stepComplete s).crn.dwell
    dwellMs := (stepComplete s).crn.dwellMs } := by
  unfold stepComplete
  split
  · rfl
  · dsimp only
    split
    · split <;> rfl
    · rfl

theorem stepComplete_keeps (s : State) : KeepsStep s (stepComplete s) := by
  constructor <;> rw [stepComplete_crn]

theorem endCheck_keeps (s : State) : KeepsStep s (endCheck s) := by
  refine ⟨?_, by simp, by simp, by simp⟩
  unfold endCheck
  split
  · simp [endShow, stopDwell]
  · rfl

theorem leaveHeld_keeps (s : State) : KeepsStep s (leaveHeld s) := by
  refine ⟨?_, by simp, by simp, by simp⟩
  simp only [leaveHeld, (endCheck_keeps _).latched]
  (repeat' split) <;> simp

theorem removeCause_keeps (c : Cause) (s : State) : KeepsStep s (removeCause c s) := by
  refine ⟨?_, by simp, by simp, by simp⟩
  unfold removeCause
  split
  · rfl
  · dsimp only
    split
    · rw [(leaveHeld_keeps _).latched]
      simp
    · simp

theorem startChange_keeps (src : Source) (k : ChangeKind) (q d : Nat) (s : State) :
    KeepsStep s (startChange src k q d s) := by
  refine ⟨?_, by simp, by simp, by simp⟩
  simp only [startChange, startBlanking_frame]
  change (if s.csq.state = .stalled then removeCause .transport (endTenure s) else endTenure s).crn.latched = _
  split
  · exact (removeCause_keeps ..).latched
  · rfl

theorem dropWaiting_keeps (o : ChangeOutcome) (s : State) : KeepsStep s (dropWaiting o s) := by
  unfold dropWaiting
  split
  · exact .refl s
  · dsimp only
    split
    · exact (KeepsStep.of_crn (by simp)).trans (stepComplete_keeps _)
    · exact .of_crn (by simp)

theorem changeEnd_keeps (o : ChangeOutcome) (p : FinalPos) (s : State) : KeepsStep s (changeEnd o p s) := by
  unfold changeEnd
  split
  · exact .refl s
  · next f _ =>
    have htenure : KeepsStep s (startTenure f.owner (writeRecord f.owner f.kind f.target o p
        { s with csq := { s.csq with flight := none } })) := .of_crn (by simp [startTenure])
    have hdrop (t : State) (ht : KeepsStep s t) :
        KeepsStep s (if o = .jammed ∨ o = .stalled then dropWaiting .flushed t else t) := by
      split
      · exact ht.trans (dropWaiting_keeps ..)
      · exact ht
    have hstep (t : State) (ht : KeepsStep s t) :
        KeepsStep s (if f.owner = .program ∧ t.crn.awaited = .started then stepComplete t else t) := by
      split
      · exact ht.trans (stepComplete_keeps t)
      · exact ht
    exact hstep _ (hdrop _ htenure)

theorem startPending_keeps (s : State) : KeepsStep s (startPending s) := by
  unfold startPending
  split
  · exact .refl s
  · split
    · exact .refl s
    · split
      · unfold refuseStart
        dsimp only
        split
        · refine KeepsStep.trans ?_ (stepComplete_keeps _)
          exact ⟨by simp [setStepFault, setWaiting], by simp, by simp, by simp⟩
        · exact .of_crn (by simp [setWaiting])
      · refine KeepsStep.trans ?_ (startChange_keeps ..)
        split
        · exact ⟨rfl, rfl, rfl, rfl⟩
        · exact .of_crn rfl

theorem revealOver_keeps (s : State) : KeepsStep s (revealOver s) := by
  have hend : (endOfReveal (setCsq revealedCsq s)).crn = s.crn := by simp
  unfold revealOver
  dsimp only
  split
  · exact (KeepsStep.of_crn hend).trans (changeEnd_keeps ..)
  · exact .of_crn hend

theorem revealReplaced_keeps (s : State) : KeepsStep s (revealReplaced s) := by
  have hend (t : State) (ht : t.crn = s.crn) : KeepsStep s (revealCheck t) := by
    unfold revealCheck
    split
    · rw [endReveal_eq]
      exact ((KeepsStep.of_crn ht).trans (revealOver_keeps t)).trans (startPending_keeps _)
    · exact .of_crn ht
  rw [revealReplaced_eq]
  split
  · exact hend (reported s) rfl
  · exact .refl s

theorem setLevelTaken_keeps (l f : Nat) (s : State) : KeepsStep s (setLevelTaken l f s).1 := by
  unfold setLevelTaken
  dsimp only
  split
  · refine KeepsStep.trans (KeepsStep.of_crn ?_) (revealReplaced_keeps _)
    rfl
  · exact .of_crn rfl

/-! ## A request at SAR -/

/-- What a change request leaves besides CSQ and SAR: the step, the show level, a link overflow, and the deck of a show
that is not held. -/
structure Requested (s t : State) : Prop where
  step : KeepsStep s t
  level : t.lmc.showLevel = s.lmc.showLevel
  overflow : s.lkc.overflow = true → t.lkc.overflow = true
  deck : s.shc.phase ≠ .held → t.dkc = s.dkc ∧ t.shc.phase ≠ .held

theorem Requested.refl (s : State) : Requested s s := ⟨.refl s, rfl, id, fun h => ⟨rfl, h⟩⟩

theorem Requested.trans {s t u : State} (h : Requested s t) (h' : Requested t u) : Requested s u where
  step := h.step.trans h'.step
  level := h'.level.trans h.level
  overflow := h'.overflow ∘ h.overflow
  deck hp := by
    obtain ⟨hd, hph⟩ := h.deck hp
    obtain ⟨hd', hph'⟩ := h'.deck hph
    exact ⟨hd'.trans hd, hph'⟩

/-- A state that differs in none of these blocks. -/
theorem Requested.of_eq {s t : State} (hc : t.crn = s.crn) (hl : t.lmc = s.lmc) (hk : t.lkc = s.lkc) (hd : t.dkc = s.dkc)
    (hs : t.shc = s.shc) : Requested s t :=
  ⟨.of_crn hc, by rw [hl], by rw [hk]; exact id, fun h => ⟨hd, by rw [hs]; exact h⟩⟩

theorem removeCause_unheld (c : Cause) {s : State} (h : s.shc.phase ≠ .held) :
    (removeCause c s).dkc = s.dkc ∧ (removeCause c s).shc.phase = s.shc.phase := by
  unfold removeCause
  split
  · exact ⟨rfl, rfl⟩
  · dsimp only
    rw [if_neg fun hc => h hc.1]
    exact ⟨rfl, rfl⟩

theorem startBlanking_showLevel (f : Flight) (s : State) : (startBlanking f s).lmc.showLevel = s.lmc.showLevel := by
  have hmark (l : Lmc) : l.markDim.showLevel = l.showLevel := by
    unfold Lmc.markDim
    dsimp only
    split <;> rfl
  have hfade (l : Lmc) : (l.fadeClaim f.fade).showLevel = l.showLevel := by
    unfold Lmc.fadeClaim
    split
    · rfl
    · dsimp only
      split <;> rfl
  unfold startBlanking
  dsimp only
  split
  · split
    · simpa using (hfade _).trans (hmark s.lmc)
    · exact (hfade _).trans (hmark s.lmc)
  · split <;> simp [setCsq]

theorem startChange_showLevel (src : Source) (k : ChangeKind) (q d : Nat) (s : State) :
    (startChange src k q d s).lmc.showLevel = s.lmc.showLevel := by
  obtain ⟨f, t, heq, ht⟩ := startChange_lmc src k q d s
  rw [heq, startBlanking_showLevel, ht]
  rfl

theorem startChange_requested (src : Source) (k : ChangeKind) (q d : Nat) (s : State) :
    Requested s (startChange src k q d s) := by
  refine ⟨startChange_keeps .., startChange_showLevel .., by simp, fun hp => ?_⟩
  simp only [startChange, startBlanking_frame]
  change (if s.csq.state = .stalled then removeCause .transport (endTenure s) else endTenure s).dkc = s.dkc
    ∧ (if s.csq.state = .stalled then removeCause .transport (endTenure s) else endTenure s).shc.phase ≠ .held
  split
  · obtain ⟨hd, hph⟩ := removeCause_unheld .transport (s := endTenure s) hp
    exact ⟨hd, by rw [hph]; exact hp⟩
  · exact ⟨rfl, hp⟩

theorem dropWaiting_requested (o : ChangeOutcome) (s : State) : Requested s (dropWaiting o s) :=
  ⟨dropWaiting_keeps o s, by simp, by simp, fun h => ⟨by simp, by simpa using h⟩⟩

theorem setWaiting_requested (w : Option Waiting) (s : State) : Requested s (setWaiting w s) := .of_eq rfl rfl rfl rfl rfl

theorem merge_requested (w : Waiting) (src : Source) (c : Int) (d : Nat) (s : State) :
    Requested s (merge w src c d s).1 := by
  by_cases h0 : w.count + c = 0
  · rw [merge_out h0]
    exact dropWaiting_requested ..
  · by_cases h15 : 15 < (w.count + c).natAbs
    · rw [merge_range h15]
      exact .refl s
    · cases hr : s.tru.resolve (mergedKind (w.count + c)) (w.count + c).natAbs ((expected s).getD 0) with
      | error st =>
        rw [merge_error h0 (Nat.not_lt.mp h15) hr]
        exact .refl s
      | ok r =>
        rw [merge_resolved h0 (Nat.not_lt.mp h15) hr]
        split
        · exact setWaiting_requested ..
        · exact .refl s

theorem pend_requested (src : Source) (k : ChangeKind) (n q d : Nat) (s : State) :
    Requested s (pend src k n q d s).1 := by
  unfold pend
  dsimp only
  split
  · exact setWaiting_requested ..
  · split
    · split
      · exact merge_requested ..
      · exact (dropWaiting_requested ..).trans (setWaiting_requested ..)
    · split
      · exact (dropWaiting_requested ..).trans (setWaiting_requested ..)
      · exact .refl s

theorem requestHere_requested (src : Source) (k : ChangeKind) (n d : Nat) (s : State) :
    Requested s (requestHere src k n d s).1 := by
  unfold requestHere
  split
  · exact .refl s
  · unfold place
    split
    · exact startChange_requested ..
    · exact pend_requested ..

theorem enqueue_overflow (l : Lkc) (dest kind : Byte) (p : List Byte) :
    (l.enqueue dest kind p).overflow = l.overflow := by
  unfold Lkc.enqueue
  dsimp only
  split
  · unfold Lkc.seek
    rfl
  · rfl

theorem offered_requested (dest kind : Byte) (p : List Byte) (s : State) :
    Requested s { s with lkc := offered s.lkc dest kind p } := by
  refine ⟨.of_crn rfl, rfl, fun ho => ?_, fun h => ⟨rfl, h⟩⟩
  unfold offered
  dsimp only
  split
  · rw [enqueue_overflow, ho]
  · rfl

theorem requestRouted_requested (src : Source) (k : ChangeKind) (n d : Nat) (s : State) :
    Requested s (requestRouted src k n d s).1 := by
  have hhere := requestHere_requested src k n d s
  unfold requestRouted
  dsimp only
  split
  · unfold offerFrame
    split
    · next hc =>
      have hq := offered_requested (s.sar.sources.get src).dest.byte 1 (changePayload k n d) s
      rw [offered, if_pos hc] at hq
      exact hq
    · exact .refl s
  · split <;> exact hhere
  · split
    · exact hhere
    · rw [offerOrOverflow_eq]
      exact hhere.trans (offered_requested ..)

theorem countRefusal_requested (src : Source) (s : State) : Requested s (countRefusal src s) := by
  unfold countRefusal
  split <;> exact .of_eq rfl rfl rfl rfl rfl

theorem changeRequest_requested (src : Source) (k : ChangeKind) (n : Nat) (f : Byte) (s : State) :
    Requested s (changeRequest src k n f s).1 := by
  unfold changeRequest
  split
  · exact countRefusal_requested ..
  · split
    · exact countRefusal_requested ..
    · dsimp only
      split
      · exact (requestRouted_requested ..).trans (countRefusal_requested ..)
      · exact (requestRouted_requested ..).trans (.of_eq rfl rfl rfl rfl rfl)

end Sys2Proof.Machine
end

section
/-! CUE_TAKE (07 R127 to R135): the actions of a step in their order, and the DIRECT mode. -/

namespace Sys2Proof.Machine
open Sys2Proof

section
variable {s : State} {n : Nat} {r : StepRec}

/-! ## The level of a step -/

theorem revealReplaced_showLevel (s : State) : (revealReplaced s).lmc.showLevel = s.lmc.showLevel := by
  have hstart (t : State) : (startPending t).lmc.showLevel = t.lmc.showLevel := by
    unfold startPending
    split
    · rfl
    · split
      · rfl
      · split
        · simp
        · rw [startChange_showLevel]
          split <;> rfl
  rw [revealReplaced_eq]
  split
  · unfold revealReported revealCheck
    split
    · rw [endReveal_eq, hstart, revealOver_lmc, (endOfReveal_lmc _).2.2.2.2.2.1]
      rfl
    · rfl
  · rfl

theorem setLevelTaken_ok (l f : Nat) (s : State) :
    (setLevelTaken l f s).2 = .ok ∧ (setLevelTaken l f s).1.lmc.showLevel = l := by
  have hset : (setLmc (fun m => if l ≤ 200 then { m with showLevel := l }.clearGuard else { m with showLevel := l }) s).lmc.showLevel
      = l := by
    simp only [setLmc]
    split <;> rfl
  by_cases hl : s.lmc.lamp = .lit ∧ s.lmc.claim = .none
  · rw [setLevelTaken_lit hl.1 hl.2]
    refine ⟨rfl, ?_⟩
    rw [revealReplaced_showLevel]
    exact (leveled_frame l f s).2.2.2.2.2.1
  · rw [setLevelTaken_dark (by tauto)]
    exact ⟨rfl, hset⟩

theorem stepLevel_none (h : r.level = none) : stepLevel n r s = s := by
  rw [stepLevel, h]

theorem stepLevel_taken {l : Nat} (h : r.level = some l) (hc : classOk .program .lamp s = true) :
    stepLevel n r s = idleZero (setLevelTaken l r.fade s).1 := by
  rw [stepLevel, h]
  simp only [sourced, hc, Bool.true_eq_false, if_false, (setLevelTaken_ok l r.fade s).1, if_true]

theorem countRefusal_program (s : State) : countRefusal .program s = s := if_neg (by decide)

theorem stepLevel_disabled {l : Nat} (h : r.level = some l) (hc : classOk .program .lamp s = false) :
    stepLevel n r s = setStepFault n .disabled s := by
  rw [stepLevel, h]
  simp only [sourced, hc, if_true, countRefusal_program]
  rfl

theorem stepLevel_keeps (n : Nat) (r : StepRec) (s : State) : KeepsStep s (stepLevel n r s) := by
  cases hl : r.level with
  | none =>
    rw [stepLevel_none hl]
    exact .refl s
  | some l =>
    cases hc : classOk .program .lamp s with
    | true =>
      rw [stepLevel_taken hl hc]
      exact (setLevelTaken_keeps l r.fade s).trans (.of_crn rfl)
    | false =>
      rw [stepLevel_disabled hl hc]
      exact ⟨rfl, rfl, rfl, rfl⟩

/-- With nothing pending no reveal that a level replaces starts a change. -/
theorem revealReplaced_flight (hf : s.csq.flight = none) (hw : s.sar.waiting = none) :
    (revealReplaced s).csq.flight = none := by
  rw [revealReplaced_eq]
  split
  · have heq : revealReported s = revealCheck (reported s) := rfl
    rw [heq, revealCheck_nothing (s := reported s) (startsNothing_of_none hw)]
    split
    · rw [revealOver_csq]
    · exact hf
  · exact hf

theorem stepLevel_flight (hf : s.csq.flight = none) (hw : s.sar.waiting = none) :
    (stepLevel n r s).csq.flight = none := by
  cases hl : r.level with
  | none =>
    rw [stepLevel_none hl]
    exact hf
  | some l =>
    cases hc : classOk .program .lamp s with
    | true =>
      rw [stepLevel_taken hl hc]
      unfold setLevelTaken
      dsimp only
      split
      · exact revealReplaced_flight hf hw
      · exact hf
    | false =>
      rw [stepLevel_disabled hl hc]
      exact hf

/-! ## Sound, link and deck of a step -/

theorem stepAudio_audio {a : Nat × Nat} (h : r.audio = some a) :
    (stepAudio r s).dkc.audio = ⟨s.dkc.audio.level, a.1, a.2, 0, 0⟩ := by
  rw [stepAudio, h]
  rfl

theorem stepLink_overflow {l : LinkAction} (h : r.link = some l) (hc : s.lkc.canTake = false) :
    (stepLink r s).lkc.overflow = true := by
  rw [stepLink, h]
  simp only [offerOrOverflow_eq]
  rw [offered, if_neg (by simp [hc])]

theorem deckPlayFrom_keeps (b : Bool) (s : State) : KeepsStep s (deckPlayFrom b s).1 := by
  have hclaim : (playClaim b s).1.crn = s.crn := by
    unfold playClaim
    (repeat' split) <;> simp
  have hcause (t : State) (ht : t.crn = s.crn) (c : Prop) [Decidable c] :
      KeepsStep s (if c then removeCause .deck t else t) := by
    split
    · exact (KeepsStep.of_crn ht).trans (removeCause_keeps ..)
    · exact .of_crn ht
  have hreport (o : Deck) (t : State) (ht : KeepsStep s t) : KeepsStep s (reportDeck o t) := by
    unfold reportDeck deckEnded
    split
    · split
      · refine ht.trans (KeepsStep.trans ?_ (endCheck_keeps _))
        exact .of_crn (by simp)
      · exact ht
    · exact ht
  exact hreport _ _ (hcause _ hclaim _)

theorem deckStopAll_keeps (s : State) : KeepsStep s (deckStopAll s) := by
  unfold deckStopAll
  dsimp only
  split
  · exact (KeepsStep.of_crn (s := s) (t := deckHalt s) rfl).trans (removeCause_keeps ..)
  · exact .of_crn rfl

theorem stepDeck_keeps (n : Nat) (r : StepRec) (s : State) : KeepsStep s (stepDeck n r s) := by
  unfold stepDeck
  split
  · exact .refl s
  · exact deckStopAll_keeps s
  · dsimp only
    split
    · exact deckPlayFrom_keeps false s
    · exact (deckPlayFrom_keeps false s).trans ⟨rfl, rfl, rfl, rfl⟩

/-- A STOP claim of a show that is not held. -/
theorem deckStopAll_unheld (h : s.shc.phase ≠ .held) :
    (deckStopAll s).dkc = (deckHalt s).dkc ∧ (deckStopAll s).shc.phase ≠ .held := by
  unfold deckStopAll
  dsimp only
  split
  · obtain ⟨hd, hp⟩ := removeCause_unheld .deck (s := deckHalt s) h
    exact ⟨hd, by rw [hp]; exact h⟩
  · exact ⟨rfl, h⟩

/-! ## The transport action -/

theorem awaitAnswer_requested (n : Nat) (a : Except Status Taken) (s : State) : Requested s (awaitAnswer n s a) := by
  have hcomplete (t : State) : Requested t (stepComplete t) :=
    ⟨stepComplete_keeps t, by simp, by simp, fun h => ⟨by simp, by simpa using h⟩⟩
  have hcrn (f : Crn → Crn) (h : ∀ c, (f c).latched = c.latched ∧ (f c).queue = c.queue ∧ (f c).current = c.current
      ∧ (f c).table = c.table) : Requested s (setCrn f s) := by
    obtain ⟨h1, h2, h3, h4⟩ := h s.crn
    exact ⟨⟨h1, h2, h3, h4⟩, rfl, id, fun h => ⟨rfl, h⟩⟩
  cases a with
  | error st =>
    have hfault : Requested s (setStepFault n st s) := ⟨⟨rfl, rfl, rfl, rfl⟩, rfl, id, fun h => ⟨rfl, h⟩⟩
    exact hfault.trans (hcomplete _)
  | ok t =>
    unfold awaitAnswer
    dsimp only
    split
    · exact hcrn _ fun _ => ⟨rfl, rfl, rfl, rfl⟩
    · exact hcrn _ fun _ => ⟨rfl, rfl, rfl, rfl⟩
    · exact hcrn _ fun _ => ⟨rfl, rfl, rfl, rfl⟩
    · exact hcomplete s

theorem stepTransport_requested (n : Nat) (r : StepRec) (s : State) : Requested s (stepTransport n r s) := by
  have request (k : ChangeKind) (a : Nat) (f : Byte) : Requested s (runnerRequest n k a f s) :=
    (changeRequest_requested ..).trans (awaitAnswer_requested ..)
  unfold stepTransport
  split
  · exact ⟨stepComplete_keeps s, by simp, by simp, fun h => ⟨by simp, by simpa using h⟩⟩
  · exact request ..
  · exact request ..
  · exact request ..
  · exact request ..

theorem runnerRequest_disabled {k : ChangeKind} {a : Nat} {f : Byte} (hc : classOk .program .transport s = false) :
    runnerRequest n k a f s = stepComplete (setStepFault n .disabled s) := by
  rw [runnerRequest, changeRequest_disabled hc, countRefusal_program]
  rfl

theorem stepTransport_disabled (ha : r.action ≠ .none) (hc : classOk .program .transport s = false) :
    stepTransport n r s = stepComplete (setStepFault n .disabled s) := by
  unfold stepTransport
  split
  · next h => exact absurd h ha
  all_goals exact runnerRequest_disabled hc

/-! ## The start of a step -/

/-- CRN at the start of a step (07 R128). -/
def stepBegun (n : Nat) (r : StepRec) (s : State) : State :=
  setCrn (fun c => { c with current := n, latched := some r, progress := some ⟨false, n⟩, awaited := .none }) s

/-- The step's actions before its transport action. -/
def stepPrepared (n : Nat) (r : StepRec) (s : State) : State :=
  stepDeck n r (stepLink r (stepAudio r (stepLevel n r (stepBegun n r s))))

theorem startStep_eq (n : Nat) (r : StepRec) (s : State) :
    startStep n r s = stepTransport n r (stepPrepared n r s) := rfl

theorem stepPrepared_keeps (n : Nat) (r : StepRec) (s : State) : KeepsStep (stepBegun n r s) (stepPrepared n r s) := by
  have haudio : KeepsStep (stepLevel n r (stepBegun n r s)) (stepLink r (stepAudio r (stepLevel n r (stepBegun n r s)))) :=
    .of_crn (by simp)
  exact ((stepLevel_keeps ..).trans haudio).trans (stepDeck_keeps ..)

theorem stepPrepared_stop (hd : r.deck = .stop) (hp : s.shc.phase ≠ .held) :
    (stepPrepared n r s).dkc.deck = .stopped ∧ (stepPrepared n r s).dkc.stopPulse ≠ none
    ∧ (stepPrepared n r s).shc.phase ≠ .held := by
  have hph : (stepLink r (stepAudio r (stepLevel n r (stepBegun n r s)))).shc.phase ≠ .held := by
    simpa [stepBegun, setCrn] using hp
  obtain ⟨hdkc, hheld⟩ := deckStopAll_unheld hph
  have hstep : stepPrepared n r s = deckStopAll (stepLink r (stepAudio r (stepLevel n r (stepBegun n r s)))) := by
    rw [stepPrepared, stepDeck, hd]
  rw [hstep, hdkc]
  exact ⟨rfl, nofun, hheld⟩

theorem stepPrepared_level {l : Nat} (hl : r.level = some l) (hc : classOk .program .lamp s = true) :
    (stepPrepared n r s).lmc.showLevel = l := by
  have hlmc : (stepPrepared n r s).lmc = (stepLevel n r (stepBegun n r s)).lmc := by simp [stepPrepared]
  rw [hlmc, stepLevel_taken hl (s := stepBegun n r s) hc]
  exact (setLevelTaken_ok ..).2

theorem stepPrepared_audio {a : Nat × Nat} (ha : r.audio = some a) :
    (stepPrepared n r s).dkc.audio = ⟨s.dkc.audio.level, a.1, a.2, 0, 0⟩ := by
  have hdkc : (stepPrepared n r s).dkc.audio = (stepAudio r (stepLevel n r (stepBegun n r s))).dkc.audio := by
    simp [stepPrepared]
  rw [hdkc, stepAudio_audio ha]
  simp [stepBegun, setCrn]

theorem stepPrepared_overflow {l : LinkAction} (hl : r.link = some l) (hc : s.lkc.canTake = false) :
    (stepPrepared n r s).lkc.overflow = true := by
  have hlkc : (stepPrepared n r s).lkc = (stepLink r (stepAudio r (stepLevel n r (stepBegun n r s)))).lkc := by
    simp [stepPrepared]
  rw [hlkc, stepLink_overflow hl]
  simpa [stepBegun, setCrn] using hc

theorem stepPrepared_flight (hf : s.csq.flight = none) (hw : s.sar.waiting = none) :
    (stepPrepared n r s).csq.flight = none := by
  have hcsq : (stepPrepared n r s).csq = (stepLevel n r (stepBegun n r s)).csq := by simp [stepPrepared]
  rw [hcsq]
  exact stepLevel_flight (s := stepBegun n r s) hf hw

theorem stepPrepared_class (hc : classOk .program .transport s = false) :
    classOk .program .transport (stepPrepared n r s) = false := by
  have hsrc : (stepPrepared n r s).sar.sources = s.sar.sources := by simp [stepPrepared, stepBegun, setCrn]
  rw [← hc, classOk, classOk, hsrc]

/-! ## The take of a record -/

/-- The state from which a taken record acts. -/
def headTaken (rest : List CueRec) (s : State) : State :=
  { s with crn := { s.crn with queue := rest, dwell := none, dwellMs := 0 } }

theorem takeWait_zero_iff (hq : s.crn.queue ≠ []) : s.takeWait = 0 ↔
    ((s.shc.phase = .running ∨ s.shc.phase = .ending) ∧ s.crn.progress = none ∧ s.csq.flight = none
      ∧ (s.sar.holder = none ∨ s.sar.holder = some .program) ∧ s.sar.waiting = none) := by
  have hne : s.crn.queue.isEmpty = false := by simpa using hq
  simp only [State.takeWait, hne, Option.isSome_iff_ne_none]
  by_cases h1 : s.shc.phase ≠ .running ∧ s.shc.phase ≠ .ending
  · simp [h1]
  · by_cases h2 : s.crn.progress = none
    · by_cases h3 : s.csq.flight = none
      · by_cases h4 : s.sar.holder ≠ none ∧ s.sar.holder ≠ some .program
        · simp [h1, h2, h3, h4]
        · by_cases h5 : s.sar.waiting = none
          · simp [h1, h2, h3, h4, h5]
            tauto
          · simp [h1, h2, h3, h4, h5]
      · simp [h1, h2, h3]
    · simp [h1, h2]

section
variable {k : CueRec} {rest : List CueRec} (hq : s.crn.queue = k :: rest) (hw : s.takeWait = 0)
include hq hw

theorem takeCue_program (hm : s.cdc.cfg.mode ≠ .direct) : takeCue s = takeProgram k.kind (headTaken rest s) := by
  unfold takeCue
  simp only [hq, hw, ne_eq, not_true_eq_false, if_false, hm]
  rfl

theorem takeCue_direct (hm : s.cdc.cfg.mode = .direct) : takeCue s = takeDirect k.kind (headTaken rest s) := by
  unfold takeCue
  simp only [hq, hw, ne_eq, not_true_eq_false, if_false, hm, if_true]
  rfl

theorem takeCue_step (hm : s.cdc.cfg.mode ≠ .direct) (hr : s.crn.step (namedStep s.crn k.kind) = some r) :
    takeCue s = startStep (namedStep s.crn k.kind) r (headTaken rest s) := by
  have hn : namedStep (headTaken rest s).crn k.kind = namedStep s.crn k.kind := by
    cases k.kind <;> rfl
  have hr' : (headTaken rest s).crn.step (namedStep s.crn k.kind) = some r := hr
  rw [takeCue_program hq hw hm, takeProgram]
  simp only [hn, hr']

theorem takeCue_empty (hm : s.cdc.cfg.mode ≠ .direct) (hr : s.crn.step (namedStep s.crn k.kind) = none) :
    takeCue s = setStepEmpty (namedStep s.crn k.kind) (headTaken rest s) := by
  have hn : namedStep (headTaken rest s).crn k.kind = namedStep s.crn k.kind := by
    cases k.kind <;> rfl
  have hr' : (headTaken rest s).crn.step (namedStep s.crn k.kind) = none := hr
  rw [takeCue_program hq hw hm, takeProgram]
  simp only [hn, hr']

end

theorem cueTake_eq (h : Powered s) : exec .cueTake s = .next (finish (takeCue s)) := run_powered h

/-- A taken record starts the step that it names. -/
theorem cueTake_step {k : CueRec} {rest : List CueRec} (h : Powered s) (hq : s.crn.queue = k :: rest)
    (hw : s.takeWait = 0) (hm : s.cdc.cfg.mode ≠ .direct) (hr : s.crn.step (namedStep s.crn k.kind) = some r) :
    ∃ t, exec .cueTake s = .next t ∧ t.crn.queue = rest ∧ t.crn.current = namedStep s.crn k.kind
      ∧ t.crn.latched = some r ∧ t.crn.table = s.crn.table
      ∧ (∀ l ∈ r.level, classOk .program .lamp s = true → t.lmc.showLevel = l)
      ∧ (∀ a ∈ r.audio, t.dkc.audio = ⟨s.dkc.audio.level, a.1, a.2, 0, 0⟩)
      ∧ (r.deck = .stop → t.dkc.deck = .stopped ∧ t.dkc.stopPulse ≠ none)
      ∧ (∀ l ∈ r.link, s.lkc.canTake = false → t.lkc.overflow = true)
      ∧ (r.action ≠ .none → classOk .program .transport s = false →
          t.crn.stepFault = true ∧ t.crn.faultStep = namedStep s.crn k.kind
            ∧ t.crn.faultStatus = some .disabled ∧ t.csq.flight = none) := by
  obtain ⟨hrun, -, hf, -, hwait⟩ := (takeWait_zero_iff (by simp [hq])).mp hw
  have hp : s.shc.phase ≠ .held := by rcases hrun with hrun | hrun <;> rw [hrun] <;> nofun
  generalize hn : namedStep s.crn k.kind = n at hr
  have htake : takeCue s = stepTransport n r (stepPrepared n r (headTaken rest s)) := by
    subst hn
    exact takeCue_step hq hw hm hr
  have hreq := stepTransport_requested n r (stepPrepared n r (headTaken rest s))
  have hkeep := (stepPrepared_keeps n r (headTaken rest s)).trans hreq.step
  refine ⟨_, (cueTake_eq h).trans (by rw [htake]), ?_⟩
  rw [finish_showLevel]
  simp only [finish_frame]
  refine ⟨hkeep.queue, hkeep.current, hkeep.latched, hkeep.table, fun l hl hc => ?_, fun a ha => ?_, fun hd => ?_,
    fun l hl hc => ?_, fun ha hc => ?_⟩
  · exact hreq.level.trans (stepPrepared_level (s := headTaken rest s) hl hc)
  · simp only [stepTransport_frame]
    exact stepPrepared_audio (s := headTaken rest s) ha
  · obtain ⟨hstop, hpulse, hph⟩ := stepPrepared_stop (n := n) (s := headTaken rest s) hd hp
    rw [(hreq.deck hph).1]
    exact ⟨hstop, hpulse⟩
  · exact hreq.overflow (stepPrepared_overflow (s := headTaken rest s) hl hc)
  · rw [stepTransport_disabled ha (stepPrepared_class (s := headTaken rest s) hc), stepComplete_crn]
    exact ⟨rfl, rfl, rfl, by simpa [setStepFault] using stepPrepared_flight (s := headTaken rest s) hf hwait⟩

/-! ## DIRECT mode -/

/-- A DIRECT request outstanding. -/
def directBegun (n : Nat) (s : State) : State :=
  setCrn (fun c => { c with progress := some ⟨true, n⟩, awaited := .none }) s

theorem stepComplete_progress {p : Progress} (hp : s.crn.progress = some p) (hl : s.crn.latched = some r) :
    stepComplete s = { s with
      crn := { s.crn with
        progress := none, awaited := .none
        dwell := if p.direct = true ∨ s.cdc.cfg.mode = .direct ∨ r.dwell = 0 then s.crn.dwell else some r.dwell
        dwellMs := if p.direct = true ∨ s.cdc.cfg.mode = .direct ∨ r.dwell = 0 then s.crn.dwellMs else 0 } } := by
  unfold stepComplete
  simp only [hp, hl]
  cases hd : p.direct with
  | true => simp
  | false =>
    by_cases hz : r.dwell = 0
    · simp [hz]
    · by_cases hm : s.cdc.cfg.mode = .direct <;> simp [hz, hm]

/-- A step without actions is complete at its start. -/
theorem startStep_idle (ha : r.action = .none) (hl : r.level = none) (hau : r.audio = none) (hd : r.deck = .none)
    (hk : r.link = none) (hm : s.cdc.cfg.mode ≠ .direct) : startStep n r s = { s with
      crn := { s.crn with
        current := n, latched := some r, progress := none, awaited := .none
        dwell := if r.dwell = 0 then s.crn.dwell else some r.dwell
        dwellMs := if r.dwell = 0 then s.crn.dwellMs else 0 } } := by
  have hprep : stepPrepared n r s = stepBegun n r s := by
    rw [stepPrepared, stepLevel_none hl, stepAudio, hau]
    simp only [stepLink, hk, stepDeck, hd]
  rw [startStep_eq, hprep, stepTransport, ha]
  refine (stepComplete_progress (s := stepBegun n r s) rfl rfl).trans ?_
  have hmode : ¬ (stepBegun n r s).cdc.cfg.mode = .direct := hm
  simp only [hmode, false_or, Bool.false_eq_true]
  rfl

theorem stepComplete_direct (hp : s.crn.progress = some ⟨true, n⟩) :
    stepComplete s = { s with crn := { s.crn with progress := none, awaited := .none } } := by
  unfold stepComplete
  simp only [hp]

theorem takeDirect_outside (h : n = 0 ∨ 99 < n) : takeDirect (.step n) s = setStepFault n .range s :=
  if_neg (by omega)

theorem takeDirect_next_disabled (hc : classOk .program .transport s = false) : takeDirect .next s = { s with
    crn := { s.crn with
      progress := none, awaited := .none, stepFault := true, faultStep := 0, faultStatus := some .disabled } } :=
  (runnerRequest_disabled (s := directBegun 0 s) hc).trans (stepComplete_direct rfl)

theorem startChange_crn (src : Source) (k : ChangeKind) (q d : Nat) (h : s.csq.state ≠ .stalled) :
    (startChange src k q d s).crn = s.crn := by
  simp only [startChange, startBlanking_frame]
  change (if s.csq.state = .stalled then removeCause .transport (endTenure s) else endTenure s).crn = _
  rw [if_neg h]
  rfl

theorem argRefusal_seek (h : n ≤ 99) : argRefusal .seek n 0xFF = none := by
  have hn : ¬ 99 < n := by omega
  simp [argRefusal, ChangeKind.steps, hn, fadeOk, Config.defaultFadeByte]

/-- A seek of the cue program that can start at once. -/
theorem changeRequest_seeks (hc : classOk .program .transport s = true) (hn : n ≤ 99)
    (hroute : s.sar.sources.program.route = .here) (hplaced : Placed s .seek) (hslot : (s.tru.slot n).retired = false)
    (hlo : s.sar.sources.program.base ≤ n) (hhi : n ≤ s.sar.sources.program.limit) (hpow : s.pnp.power = .run)
    (hidle : s.csq.state = .idle) (hten : s.sar.holder = none ∨ s.sar.holder = some .program)
    (hwait : s.sar.waiting = none) :
    changeRequest .program .seek n 0xFF s = (idleZero (startChange .program .seek n s.sar.cfg.fade s),
      .ok ⟨.started, .started, some n⟩) := by
  have hres : s.tru.resolve .seek n ((expected s).getD 0) = .ok n := if_neg (by simp [hslot])
  have hlets : tenureLets .program s = true := by
    refine (tenureLets_iff _ _).mpr fun x hx => ?_
    rcases hten with hten | hten
    · rw [hten] at hx
      exact nomatch hx
    · rw [hten] at hx
      exact .inl (Option.some.inj hx)
  have hplace := place_starts (n := n) (q := n) (d := s.sar.cfg.fade)
    ((canStart_iff .seek s).mpr ⟨hpow, .inl hidle⟩) hlets (.inr hwait)
  have hhere : requestHere .program .seek n s.sar.cfg.fade s = _ :=
    (requestHere_placed (admitRequest_ok (src := .program) hplaced hres (.inr ⟨hlo, hhi⟩))).trans hplace
  exact changeRequest_ok hc (argRefusal_seek hn) (requestRouted_here (src := .program) (s := s) hroute hhere)

/-- A DIRECT step record starts its seek (07 R133). -/
theorem cueTake_seeks {o : CueOrigin} {x : Nat} {rest : List CueRec} (h : Powered s)
    (hq : s.crn.queue = ⟨o, .step n, x⟩ :: rest) (hw : s.takeWait = 0) (hm : s.cdc.cfg.mode = .direct) (h1 : 1 ≤ n)
    (hn : n ≤ 99) (hpow : s.pnp.power = .run) (hidle : s.csq.state = .idle)
    (hc : classOk .program .transport s = true) (hroute : s.sar.sources.program.route = .here)
    (hpresent : s.tru.present = true) (hpos : s.tru.position ≠ none) (horphan : s.csq.orphaned = false)
    (hslot : (s.tru.slot n).retired = false) (hlo : s.sar.sources.program.base ≤ n)
    (hhi : n ≤ s.sar.sources.program.limit) :
    ∃ t, exec .cueTake s = .next t ∧ t.crn.queue = rest ∧ t.crn.dwell = none
      ∧ t.crn.progress = some ⟨true, n⟩ ∧ t.crn.awaited = .started ∧ t.csq.state.active = true
      ∧ t.csq.flight.map (fun f => (f.kind, f.owner, f.target, f.fade))
        = some (.seek, .program, n, s.sar.cfg.fade) ∧ t.sar.holder = none ∧ t.tru = s.tru := by
  obtain ⟨-, -, -, hten, hwait⟩ := (takeWait_zero_iff (by simp [hq])).mp hw
  have htake : takeCue s = setCrn (fun c => { c with awaited := .started })
      (idleZero (startChange .program .seek n s.sar.cfg.fade (directBegun n (headTaken rest s)))) := by
    rw [takeCue_direct hq hw hm]
    refine (if_pos ⟨h1, hn⟩).trans ?_
    change runnerRequest n .seek n 0xFF (directBegun n (headTaken rest s)) = _
    rw [runnerRequest, changeRequest_seeks (s := directBegun n (headTaken rest s)) hc hn hroute
      ⟨hpresent, fun hnone => absurd hnone hpos, horphan⟩ hslot hlo hhi hpow hidle hten hwait]
    rfl
  have hcrn := startChange_crn .program .seek n s.sar.cfg.fade (s := directBegun n (headTaken rest s))
    (by rw [directBegun, setCrn, headTaken, hidle]; nofun)
  refine ⟨_, (cueTake_eq h).trans (by rw [htake]), ?_⟩
  rw [finish_awaited]
  simp only [finish_frame, setCrn, idleZero, hcrn, startChange_flight, startChange_sar]
  exact ⟨rfl, rfl, rfl, trivial, (startChange_underway ..).1, rfl, trivial, by simp [directBegun, headTaken, setCrn]⟩

end

/-- Settles O46: the take by what bars it, a step through its actions in their order (`cueTake_step`), the DIRECT mode,
and the completion of a step. -/
theorem cueTakeStartsTheNamedStep : Obligations.CueTakeStartsTheNamedStep := by
  unfold Obligations.CueTakeStartsTheNamedStep
  refine ⟨fun s h hno => ?_, fun s hq => takeWait_zero_iff hq, fun s k rest h hq hw hm hr => ?_,
    fun c => ⟨fun _ => rfl, fun hc => if_pos hc, fun r hc hr => ?_, fun hc hr => ?_⟩,
    fun s k rest r h hq hw hm hr ha hl hau hd hk => ?_,
    fun s k rest r h hq hw hm hr => cueTake_step h hq hw hm hr, fun s o n x rest h hq hw hm hn => ?_,
    fun s k rest h hq hw hm hc hk => ?_,
    fun s o n x rest h hq hw hm h1 hn hpow hidle hc hroute hpresent hpos horphan hslot hlo hhi =>
      cueTake_seeks h hq hw hm h1 hn hpow hidle hc hroute hpresent hpos horphan hslot hlo hhi,
    fun s p r hp hr => stepComplete_progress hp hr⟩
  · have hstay : takeCue s = s := by
      unfold takeCue
      split
      · rfl
      · next hq => exact if_pos (hno.resolve_left (by simp [hq]))
    rw [cueTake_eq h, hstay]
  · rw [cueTake_eq h, takeCue_empty hq hw hm hr]
    rfl
  · simp [namedStep, hc, hr]
  · simp [namedStep, hc, hr]
  · rw [cueTake_eq h, takeCue_step hq hw hm hr,
      startStep_idle (s := headTaken rest s) ha hl hau hd hk (fun hdir => hm hdir)]
    simp only [headTaken, ite_self]
  · rw [cueTake_eq h, takeCue_direct hq hw hm, takeDirect_outside hn]
    rfl
  · rw [cueTake_eq h, takeCue_direct hq hw hm, hk, takeDirect_next_disabled (s := headTaken rest s) hc]
    rfl

end Sys2Proof.Machine
end

section
/-! SHOW_START and SHOW_STOP (08 R144, R145). -/

namespace Sys2Proof.Machine
open Sys2Proof

section
variable {s : State}

theorem request_taken {i : Instr} {c : ReqClass} {t : State} {f : State → State × Status} (h : Awake s)
    (hi : exec i s = run (panel (panelRequest c f)) s) (hc : classOk .panel c s = true) (hf : f s = (t, .ok)) :
    exec i s = .next (finish (answered .ok [] t)) :=
  (hi.trans (run_answers h (panelRequest_ok hc hf))).trans rfl

theorem request_refused {i : Instr} {c : ReqClass} {st : Status} {f : State → State × Status} (h : Awake s)
    (hi : exec i s = run (panel (panelRequest c f)) s) (hc : classOk .panel c s = true) (hf : f s = (s, st))
    (hst : st ≠ .ok) : exec i s = .next (finish (answered st [] s)) :=
  hi.trans (run_answers h (panelRequest_refused hc hf hst))

theorem request_disabled {i : Instr} {c : ReqClass} {f : State → State × Status} (h : Awake s)
    (hi : exec i s = run (panel (panelRequest c f)) s) (hc : classOk .panel c s = false) :
    exec i s = .next (finish (answered .disabled [] s)) :=
  hi.trans (run_answers h (panelRequest_disabled hc f))

/-! ## SHOW START -/

theorem causes_isEmpty_iff (c : Causes) : c.isEmpty = true ↔ c = Causes.empty := by
  obtain ⟨a, b, d, e, f, g⟩ := c
  simp [Causes.isEmpty, Causes.empty, and_assoc]

theorem startShow_busy (hp : s.shc.phase ≠ .stopped) : startShow s = (s, .busy) := if_pos hp

theorem startShow_held (hp : s.shc.phase = .stopped) (hc : s.shc.causes ≠ Causes.empty) : startShow s = (s, .held) := by
  have hne : s.shc.causes.isEmpty = false := eq_false_of_ne_true (mt (causes_isEmpty_iff _).mp hc)
  rw [startShow, if_neg (by simp [hp]), if_pos hne]

section
variable (hp : s.shc.phase = .stopped) (hc : s.shc.causes = Causes.empty)
include hp hc

theorem startShow_standby (hr : s.pnp.power = .standbyPending) : startShow s = (s, .standby) := by
  rw [startShow, if_neg (by simp [hp]), if_neg (by rw [hc]; decide), if_pos hr]

theorem startShow_refused {st : Status} (hr : s.pnp.power = .run) (hclaim : playClaim false s = (s, st))
    (hst : st ≠ .ok) : startShow s = (s, st) := by
  rw [startShow, if_neg (by simp [hp]), if_neg (by rw [hc]; decide), if_neg (by simp [hr])]
  simp only [hclaim]
  exact if_pos hst

/-- The show as SHOW START leaves it, with the deck of the PLAY claim. -/
def showStarted (s u : State) : State :=
  { s with
    dkc := { u.dkc with clock := 0, clockMs := 0 }
    crn := { s.crn with queue := [], current := 0 }
    shc := { s.shc with phase := .running, ended := false }
    pnp := { s.pnp with pend := { s.pnp.pend with showChg := true } } }

theorem startShow_taken {u : State} (hr : s.pnp.power = .run) (hclaim : playClaim false s = (u, .ok))
    (hu : u = { s with dkc := u.dkc }) : startShow s = (showStarted s u, .ok) := by
  rw [startShow, if_neg (by simp [hp]), if_neg (by rw [hc]; decide), if_neg (by simp [hr])]
  simp only [hclaim, ne_eq, not_true_eq_false, if_false]
  rw [hu]
  refine congrArg (·, Status.ok) ?_
  refine (if_neg ?_).trans rfl
  change s.shc.phase ≠ .running
  rw [hp]
  nofun

end

/-- A PLAY claim that is taken moves the deck alone. -/
theorem playClaim_taken {b : Bool} (hp : s.shc.phase ≠ .held) (hf : s.dkc.deck ≠ .fault)
    (he : s.dkc.deck = .ended → s.pins.tapeEnd = false) : ∃ u, playClaim b s = (u, .ok) ∧ u = { s with dkc := u.dkc }
      ∧ (s.dkc.deck = .starting ∨ s.dkc.deck = .playing → u = s)
      ∧ (s.dkc.deck ≠ .starting → s.dkc.deck ≠ .playing → s.pins.running = false → u = deckStarting .starting s) := by
  by_cases hd : s.dkc.deck = .starting ∨ s.dkc.deck = .playing
  · exact ⟨s, playClaim_stands hp hd, rfl, fun _ => rfl, fun h1 h2 => (hd.elim h1 h2).elim⟩
  · obtain ⟨h1, h2⟩ := not_or.mp hd
    refine ⟨deckStart s, playClaim_starts hp h1 h2 (fun h => absurd h hf) he, ?_, fun h => absurd h hd,
      fun _ _ hr => deckStart_stopped hr⟩
    unfold deckStart deckSettle
    split <;> rfl

/-! ## SHOW STOP -/

/-- A show that is stopped, but for a pending change of the cue program. -/
def showHalted (s : State) : State := stopDwell (abandonStep (flushQueue (stopClaimPlain s)))

theorem showHalted_eq (s : State) : showHalted s = { s with
    shc := { s.shc with causes := { s.shc.causes with deck := s.shc.causes.deck && s.dkc.deck ≠ .fault } }
    dkc := { s.dkc with deck := .stopped, stopPulse := some (s.dkc.stopPulse.getD 0), timerMs := 0, stall := none }
    crn := { s.crn with
      queue := [], progress := none, dwell := none, dwellMs := 0
      awaited := if s.crn.progress = none then s.crn.awaited else .none
      latched := if s.crn.progress = none then s.crn.latched else none } } := by
  rw [showHalted, stopClaimPlain_eq]
  rfl

/-- The causes and the phase of a show that is stopped (08 R145). -/
def showEnded (s : State) : State :=
  { s with
    shc := { s.shc with
      phase := .stopped, ended := false
      causes := { s.shc.causes with operator := false, cueHold := false, link := false } }
    pnp := { s.pnp with pend := { s.pnp.pend with showChg := s.pnp.pend.showChg || s.shc.phase ≠ .stopped } } }

theorem setPhase_ends (s : State) : setPhase .stopped (setEnded false
    (setCause .operator false (setCause .cueHold false (setCause .link false s)))) = showEnded s := by
  by_cases h : s.shc.phase = .stopped
  · refine (if_pos h).trans ?_
    simp [setEnded, setCause, Causes.set, showEnded, h]
  · refine (if_neg h).trans ?_
    simp [setEnded, setCause, Causes.set, showEnded, raiseShow, h]

theorem showStopTaken_other (hw : ∀ w ∈ s.sar.waiting, w.source ≠ .program) :
    showStopTaken s = (showEnded (showHalted s), .ok) := by
  have hsar : (showHalted s).sar = s.sar := by rw [showHalted_eq]
  rw [← setPhase_ends]
  change (setPhase .stopped (setEnded false (setCause .operator false (setCause .cueHold false (setCause .link false
    (match (showHalted s).sar.waiting with
    | some w => if w.source = .program then dropWaiting .flushed (showHalted s) else showHalted s
    | none => showHalted s))))), Status.ok) = _
  rw [hsar]
  cases hwait : s.sar.waiting with
  | none => rfl
  | some w => simp only [if_neg (hw w hwait)]

theorem showStopTaken_program {w : Waiting} (hw : s.sar.waiting = some w) (hs : w.source = .program) :
    showStopTaken s = (showEnded (dropWaiting .flushed (showHalted s)), .ok) := by
  have hsar : (showHalted s).sar = s.sar := by rw [showHalted_eq]
  rw [← setPhase_ends]
  change (setPhase .stopped (setEnded false (setCause .operator false (setCause .cueHold false (setCause .link false
    (match (showHalted s).sar.waiting with
    | some w => if w.source = .program then dropWaiting .flushed (showHalted s) else showHalted s
    | none => showHalted s))))), Status.ok) = _
  rw [hsar, hw]
  simp only [if_pos hs]

theorem showEnded_frame (s : State) : (showEnded s).tru = s.tru ∧ (showEnded s).csq = s.csq
    ∧ (showEnded s).sar = s.sar ∧ (showEnded s).crn = s.crn ∧ (showEnded s).dkc = s.dkc := ⟨rfl, rfl, rfl, rfl, rfl⟩

theorem showStart_starts (h : Awake s) (hc : classOk .panel .shows s = true) (hp : s.shc.phase = .stopped)
    (hcause : s.shc.causes = Causes.empty) (hr : s.pnp.power = .run) (hf : s.dkc.deck ≠ .fault)
    (he : s.dkc.deck = .ended → s.pins.tapeEnd = false) :
    ∃ t, exec .showStart s = .next t ∧ t.pnp.resp = some ⟨.ok, []⟩
      ∧ t.shc = { s.shc with phase := .running, ended := false }
      ∧ t.crn = { s.crn with queue := [], current := 0 } ∧ t.dkc.clock = 0
      ∧ (s.dkc.deck = .starting ∨ s.dkc.deck = .playing → t.dkc = { s.dkc with clock := 0, clockMs := 0 })
      ∧ (s.dkc.deck ≠ .starting → s.dkc.deck ≠ .playing → s.pins.running = false →
          t.dkc = { s.dkc with deck := .starting, timerMs := 0, stall := none, stopPulse := none, clock := 0,
                               clockMs := 0 })
      ∧ t.pnp.pend = { s.pnp.pend with showChg := true } ∧ t.tru = s.tru ∧ t.csq = s.csq ∧ t.sar = s.sar := by
  obtain ⟨u, hclaim, hu, hstay, hstart⟩ := playClaim_taken (b := false) (by rw [hp]; nofun) hf he
  have htaken := startShow_taken hp hcause hr hclaim hu
  refine ⟨_, request_taken h rfl hc htaken, ?_⟩
  rw [(finish_pend _).1]
  simp only [finish_frame]
  refine ⟨rfl, rfl, rfl, rfl, fun hd => ?_, fun h1 h2 hr => ?_, rfl, rfl, rfl, rfl⟩
  · simp [answered, showStarted, hstay hd]
  · simp [answered, showStarted, hstart h1 h2 hr, deckStarting]

theorem showStop_stops (h : Awake s) (hc : classOk .panel .shows s = true)
    (hw : ∀ w ∈ s.sar.waiting, w.source ≠ .program) :
    ∃ t, exec .showStop s = .next t ∧ t.pnp.resp = some ⟨.ok, []⟩
      ∧ t.shc = { s.shc with phase := .stopped, ended := false,
                             causes := { s.shc.causes with
                               operator := false, cueHold := false, link := false,
                               deck := s.shc.causes.deck && s.dkc.deck ≠ .fault } }
      ∧ t.crn = { s.crn with
          queue := [], progress := none, dwell := none, dwellMs := 0
          awaited := if s.crn.progress = none then s.crn.awaited else .none
          latched := if s.crn.progress = none then s.crn.latched else none }
      ∧ t.dkc = { s.dkc with deck := .stopped, stopPulse := some (s.dkc.stopPulse.getD 0), timerMs := 0,
                             stall := none }
      ∧ t.pnp.pend = { s.pnp.pend with showChg := s.pnp.pend.showChg || s.shc.phase ≠ .stopped }
      ∧ t.tru = s.tru ∧ t.csq = s.csq ∧ t.sar = s.sar := by
  refine ⟨_, request_taken h rfl hc (showStopTaken_other hw), ?_⟩
  rw [(finish_pend _).1, showHalted_eq]
  simp only [finish_frame]
  exact ⟨rfl, rfl, rfl, rfl, rfl, rfl, rfl, rfl⟩

theorem showStop_flushes {w : Waiting} (h : Awake s) (hc : classOk .panel .shows s = true) (hw : s.sar.waiting = some w)
    (hs : w.source = .program) : ∃ t, exec .showStop s = .next t ∧ t.pnp.resp = some ⟨.ok, []⟩
      ∧ t.shc.phase = .stopped ∧ t.sar.waiting = none ∧ t.crn.queue = []
      ∧ t.sar.last.program = ⟨some w.kind, some w.target, .flushed, .none, s.sar.last.program.refusals⟩ := by
  have hsar : (showHalted s).sar = s.sar := by rw [showHalted_eq]
  refine ⟨_, request_taken h rfl hc (showStopTaken_program hw hs), ?_⟩
  simp only [finish_frame]
  have hlast := dropWaiting_last (s := showHalted s) (w := w) (by rw [hsar, hw]) .flushed
  rw [hs, hsar] at hlast
  have hqueue : (dropWaiting .flushed (showHalted s)).crn.queue = [] := by
    rw [(dropWaiting_keeps ..).queue, showHalted_eq]
  exact ⟨rfl, rfl, dropWaiting_waiting .flushed (showHalted s), hqueue, hlast⟩

end

/-- Settles O47: SHOW START by its checks and its PLAY claim, SHOW STOP with or without a pending change of the cue
program. -/
theorem showStartAndStop : Obligations.ShowStartAndStop := by
  unfold Obligations.ShowStartAndStop
  refine ⟨fun s h hc => ⟨request_disabled h rfl hc, request_disabled h rfl hc⟩,
    fun s h hc hp => request_refused h rfl hc (startShow_busy hp) nofun,
    fun s h hc hp hcause => request_refused h rfl hc (startShow_held hp hcause) nofun,
    fun s h hc hp hcause hr => request_refused h rfl hc (startShow_standby hp hcause hr) nofun,
    fun s h hc hp hcause hr hf => request_refused h rfl hc
      (startShow_refused hp hcause hr (playClaim_fault (by rw [hp]; nofun) hf) nofun) nofun,
    fun s h hc hp hcause hr hd he => request_refused h rfl hc
      (startShow_refused hp hcause hr (playClaim_end (by rw [hp]; nofun) hd he) nofun) nofun,
    fun s h hc hp hcause hr hf he => showStart_starts h hc hp hcause hr hf he,
    fun s h hc hw => showStop_stops h hc hw, fun s w h hc hw hs => showStop_flushes h hc hw hs⟩

end Sys2Proof.Machine
end

section
/-! HOLD, RESUME, SET_SHOW, READ_SHOW and ENDING_SHOW_END (08 R140 to R148). -/

namespace Sys2Proof.Machine
open Sys2Proof

section
variable {s : State}

/-! ## Causes that come -/

theorem addCause_other (c : Cause) (hr : s.pnp.power ≠ .resetHeld) (hp : s.shc.phase = .stopped ∨ s.shc.phase = .held) :
    addCause c s = setCause c true s := by
  rw [addCause, if_neg hr]
  refine if_neg ?_
  rcases hp with hp | hp <;> rw [hp] <;> simp

/-- The show that a cause holds (08 R142). -/
def showHeld (c : Cause) (s : State) : State :=
  { s with
    shc := { s.shc with phase := .held, ended := decide (s.shc.phase = .ending), causes := s.shc.causes.set c true }
    dkc := if s.dkc.deck = .playing ∨ s.dkc.deck = .starting then
        { s.dkc with deck := if s.pins.running then .pausing else .paused, timerMs := 0, stall := none }
      else s.dkc
    pnp := { s.pnp with pend := { s.pnp.pend with showChg := true } } }

theorem addCause_holds (c : Cause) (hr : s.pnp.power ≠ .resetHeld)
    (hp : s.shc.phase = .running ∨ s.shc.phase = .ending) : addCause c s = showHeld c s := by
  have hnh : s.shc.phase ≠ .held := by rcases hp with hp | hp <;> rw [hp] <;> nofun
  have hset : setPhase .held (setEnded ((setCause c true s).shc.phase = .ending) (setCause c true s))
      = raiseShow { s with shc := { s.shc with
          phase := .held, ended := decide (s.shc.phase = .ending), causes := s.shc.causes.set c true } } := if_neg hnh
  refine (if_neg hr).trans ((if_pos hp).trans ?_)
  unfold enterHeld
  dsimp only
  rw [hset]
  by_cases hd : s.dkc.deck = .playing ∨ s.dkc.deck = .starting
  · refine (if_pos hd).trans ?_
    rw [showHeld, if_pos hd]
    rfl
  · refine (if_neg hd).trans ?_
    rw [showHeld, if_neg hd]
    rfl

/-! ## Causes that go -/

theorem Causes.set_get (c : Causes) (k : Cause) : c.set k (c.get k) = c := by
  cases k <;> rfl

/-- A cause that goes without an end of HELD only leaves the set. -/
theorem removeCause_plain (c : Cause) (hr : s.pnp.power ≠ .resetHeld) (ha : s.shc.autoResume = false) :
    removeCause c s = { s with shc := { s.shc with causes := s.shc.causes.set c false } } := by
  unfold removeCause
  split
  · next h =>
    have hout := Causes.set_get s.shc.causes c
    rw [h.resolve_left hr] at hout
    rw [hout]
  · refine if_neg ?_
    rintro ⟨-, -, h⟩
    exact Bool.false_ne_true (ha.symm.trans h)

/-- The causes that RESUME takes away (08 R146). -/
def resumeCauses (s : State) : State :=
  { s with shc := { s.shc with causes := { s.shc.causes with operator := false, cueHold := false, link := false } } }

theorem resumeShow_eq (s : State) : resumeShow s =
    if s.shc.phase = .held ∧ (resumeCauses s).shc.causes.isEmpty = true then leaveHeld (resumeCauses s)
    else resumeCauses s := rfl

theorem resumeCauses_empty_iff (s : State) : (resumeCauses s).shc.causes.isEmpty = true ↔
    s.shc.causes.transport = false ∧ s.shc.causes.lamp = false ∧ s.shc.causes.deck = false := by
  simp [resumeCauses, Causes.isEmpty, and_assoc]

theorem resumeCauses_eq_empty (ht : s.shc.causes.transport = false) (hl : s.shc.causes.lamp = false)
    (hd : s.shc.causes.deck = false) : (resumeCauses s).shc.causes = Causes.empty := by
  simp [resumeCauses, Causes.empty, ht, hl, hd]

/-! ## Leaving HELD -/

/-- The show and its mark after HELD (08 R143). -/
def showGoesOn (p : Show) (s : State) : State :=
  { s with
    shc := { s.shc with phase := p, ended := false }
    pnp := { s.pnp with pend := { s.pnp.pend with showChg := true } } }

theorem setPhase_goesOn {p : Show} (hp : s.shc.phase = .held) (hne : p ≠ .held) :
    setPhase p (setEnded false s) = showGoesOn p s := by
  refine if_neg ?_
  change s.shc.phase ≠ p
  rw [hp]
  exact hne.symm

theorem leaveHeld_eq {p : Show} (hp : s.shc.phase = .held) (hl : leaveTo s = p) (hne : p ≠ .held) :
    leaveHeld s = endCheck (if s.dkc.deck = .pausing ∨ s.dkc.deck = .paused then
      (if p = .running then deckStart (showGoesOn p s) else deckHalt (showGoesOn p s)) else showGoesOn p s) := by
  unfold leaveHeld
  simp only [hl, setPhase_goesOn hp hne]

theorem endCheck_other (h : s.shc.phase ≠ .ending ∨ s.runOut = false) : endCheck s = s := by
  refine if_neg ?_
  rintro ⟨hp, hr⟩
  exact h.elim (fun h => h hp) fun h => Bool.false_ne_true (h.symm.trans hr)

theorem leaveHeld_restarts (hp : s.shc.phase = .held) (he : s.shc.ended = false) (hd : s.dkc.deck = .paused)
    (ht : s.pins.tapeEnd = false) (hr : s.pins.running = false) :
    leaveHeld s = deckStarting .starting (showGoesOn .running s) := by
  have hto : leaveTo s = .running := by simp [leaveTo, he, hd, ht]
  rw [leaveHeld_eq hp hto nofun, if_pos (.inr hd), if_pos rfl, deckStart_stopped (s := showGoesOn .running s) hr]
  exact endCheck_other (.inl nofun)

theorem leaveHeld_ends (hp : s.shc.phase = .held) (he : s.shc.ended = true) (h1 : s.dkc.deck ≠ .paused)
    (h2 : s.dkc.deck ≠ .pausing) (hq : s.crn.queue ≠ []) : leaveHeld s = showGoesOn .ending s := by
  have hto : leaveTo s = .ending := by simp [leaveTo, he]
  rw [leaveHeld_eq hp hto nofun, if_neg (not_or.mpr ⟨h2, h1⟩)]
  refine endCheck_other (.inr ?_)
  have hne : s.crn.queue.isEmpty = false := by simpa using hq
  simp [State.runOut, showGoesOn, hne]

theorem leaveHeld_runs (hp : s.shc.phase = .held) (he : s.shc.ended = false) (hd : s.dkc.deck = .stopped) :
    leaveHeld s = showGoesOn .running s := by
  have hto : leaveTo s = .running := by simp [leaveTo, he, hd]
  rw [leaveHeld_eq hp hto nofun, if_neg (by simp [hd])]
  exact endCheck_other (.inl nofun)

/-! ## SET_SHOW and the end of an ENDING show -/

theorem applyAutoResume_plain {v : Bool} (h : v = false ∨ s.shc.phase ≠ .held ∨ s.shc.causes ≠ Causes.empty) :
    applyAutoResume v s = { s with shc := { s.shc with autoResume := v } } := by
  refine if_neg ?_
  rintro ⟨hv, hp, hc⟩
  rcases h with h | h | h
  · exact Bool.false_ne_true (h.symm.trans hv)
  · exact h hp
  · exact h ((causes_isEmpty_iff _).mp hc)

theorem applyAutoResume_leaves (hp : s.shc.phase = .held) (hc : s.shc.causes = Causes.empty)
    (he : s.shc.ended = false) (hd : s.dkc.deck = .stopped) :
    applyAutoResume true s = showGoesOn .running { s with shc := { s.shc with autoResume := true } } := by
  refine (if_pos ⟨rfl, hp, ?_⟩).trans (leaveHeld_runs (s := { s with shc := { s.shc with autoResume := true } }) hp he hd)
  rw [hc]
  rfl

theorem runOut_iff (s : State) :
    s.runOut = true ↔ s.crn.queue = [] ∧ s.crn.progress = none ∧ s.crn.dwell = none := by
  simp [State.runOut, and_assoc]

theorem endShow_ending (hp : s.shc.phase = .ending) (hd : s.crn.dwell = none) : endShow s = { s with
    shc := { s.shc with
      phase := .stopped, causes := { s.shc.causes with deck := s.shc.causes.deck && s.dkc.deck ≠ .fault } }
    dkc := { s.dkc with deck := .stopped, stopPulse := some (s.dkc.stopPulse.getD 0), timerMs := 0, stall := none }
    crn := { s.crn with dwellMs := 0 }
    pnp := { s.pnp with pend := { s.pnp.pend with showChg := true } } } := by
  have hphase : setPhase .stopped (stopClaimPlain s) = raiseShow { s with
      shc := { s.shc with
        phase := .stopped, causes := { s.shc.causes with deck := s.shc.causes.deck && s.dkc.deck ≠ .fault } }
      dkc := { s.dkc with
        deck := .stopped, stopPulse := some (s.dkc.stopPulse.getD 0), timerMs := 0, stall := none } } := by
    rw [stopClaimPlain_eq]
    refine if_neg ?_
    change s.shc.phase ≠ .stopped
    rw [hp]
    nofun
  rw [endShow, hphase, stopDwell]
  simp [raiseShow, hd]

theorem endingShowEnd_eq (h : Powered s) : exec .endingShowEnd s = .next (finish (endCheck s)) := run_powered h

theorem showPayload_eq (c : Shc) : showPayload c =
    [b8 (match c.phase with
        | .stopped => 0
        | .running => 1
        | .held => 2
        | .ending => 3),
     b8 (bit c.causes.operator 0 + bit c.causes.cueHold 1 + bit c.causes.transport 2
       + bit c.causes.lamp 3 + bit c.causes.deck 4 + bit c.causes.link 5),
     b8 (bit c.ended 0 + bit c.autoResume 1)] := by
  unfold showPayload
  cases c.phase <;> rfl

end

/-- Settles O48: causes that come and go, and what the show becomes as HELD or ENDING ends. -/
theorem holdsAndTheirEnd : Obligations.HoldsAndTheirEnd := by
  unfold Obligations.HoldsAndTheirEnd
  refine ⟨fun s h hc hp => ?_, fun s h hc hp => ?_,
    fun s h hc => ⟨request_disabled h rfl hc, request_disabled h rfl hc⟩, fun s h hc hno => ?_,
    fun s h hc hp ht hl hd he hne hdeck hend hrun => ?_, fun s h hc hp ht hl hd he h1 h2 hq => ?_,
    fun s a v h hv hno => ?_, fun s a h ha hp hc he hd => ?_,
    fun s a h ha => run_setting_none h ((onOff_eq_none_iff a).mpr ha) _, fun s h => ?_, fun s h hp hq hpr hd => ?_,
    fun s h hno => ?_, fun s c hp hr ha => removeCause_plain c hr ha⟩
  · refine request_taken h rfl hc ?_
    rw [holdTaken, addCause_other .operator (power_ne_reset h) hp]
    rfl
  · refine request_taken h rfl hc ?_
    rw [holdTaken, addCause_holds .operator (power_ne_reset h) hp]
    rfl
  · refine request_taken h rfl hc ?_
    rw [resumeTaken, resumeShow_eq, if_neg]
    · rfl
    · rintro ⟨hp, hem⟩
      obtain ⟨ht, hl, hd⟩ := (resumeCauses_empty_iff s).mp hem
      simp [hp, ht, hl, hd] at hno
  · refine request_taken h rfl hc ?_
    rw [resumeTaken, resumeShow_eq, if_pos ⟨hp, (resumeCauses_empty_iff s).mpr ⟨ht, hl, hd⟩⟩,
      leaveHeld_restarts (s := resumeCauses s) hp he hdeck hend hrun]
    have hem := resumeCauses_eq_empty ht hl hd
    simp only [deckStarting, showGoesOn, hem]
    simp [resumeCauses, he]
  · refine request_taken h rfl hc ?_
    rw [resumeTaken, resumeShow_eq, if_pos ⟨hp, (resumeCauses_empty_iff s).mpr ⟨ht, hl, hd⟩⟩,
      leaveHeld_ends (s := resumeCauses s) hp he h1 h2 hq]
    have hem := resumeCauses_eq_empty ht hl hd
    simp only [showGoesOn, hem]
    simp [resumeCauses]
  · rw [← applyAutoResume_plain hno]
    exact run_setting_some h hv _
  · have hv : onOff a = some true := by simp [onOff, BitVec.toNat_eq, ha]
    refine (run_setting_some h hv _).trans ?_
    rw [applyAutoResume_leaves hp hc he hd]
    simp [showGoesOn, he]
  · exact quiet_answers h (Prod.ext rfl (congrArg (Response.mk .ok) (showPayload_eq s.shc)))
  · rw [endingShowEnd_eq h, endCheck, if_pos ⟨hp, (runOut_iff s).mpr ⟨hq, hpr, hd⟩⟩, endShow_ending hp hd]
  · rw [endingShowEnd_eq h, endCheck_other]
    by_cases hp : s.shc.phase = .ending
    · refine .inr (eq_false_of_ne_true fun hr => ?_)
      obtain ⟨hq, hpr, hd⟩ := (runOut_iff s).mp hr
      simp [hp, hq, hpr, hd] at hno
    · exact .inl hp

end Sys2Proof.Machine
end

section
/-! What a wired line's reading does: the pins, the marks, the press record and the key's action (09 R151, R156). -/

namespace Sys2Proof.Machine
open Sys2Proof

variable {s : State} {l : Line} {v : Bool} {a : KeyAction} {m : RepeatMode}

/-! ## The readings of a line -/

theorem wiredLine_watched (h : Powered s) (hr : s.pnp.power ≠ .resetHeld) (ht : s.rmi.test = false) :
    exec (.wiredLineChange l v) s = .next (finish (lineReading l v (setLinePin l v s))) := by
  have hw : linesWatched s = true := by simp [linesWatched, hr, ht]
  change execWiredLineChange l v s = _
  rw [execWiredLineChange, runPin_powered h, if_pos hw]

theorem wiredLine_unwatched (h : Powered s) (hs : s.pnp.power = .resetHeld ∨ s.rmi.test = true) :
    exec (.wiredLineChange l v) s = .next (finish (setLinePin l v s)) := by
  have hw : linesWatched s = false := by
    rcases hs with hr | ht
    · simp [linesWatched, hr]
    · simp [linesWatched, ht]
  change execWiredLineChange l v s = _
  rw [execWiredLineChange, runPin_powered h, if_neg (by simp [hw])]

/-- The line with its reading over, its pin at the level read. -/
def lineWatched (l : Line) (v : Bool) (s : State) : State :=
  { s with pins := s.pins.setLine l v, rmi := s.rmi.setLine l { s.rmi.line l with reading := .watched } }

theorem lineReading_pinned (hread : ∀ n, (s.rmi.line l).reading ≠ .first n) :
    lineReading l v (setLinePin l v s) = lineEvent l v (lineWatched l v s) :=
  lineReading_event (s := setLinePin l v s) hread v

theorem lineWatched_line : (lineWatched l v s).rmi.line l = { s.rmi.line l with reading := .watched } :=
  (Rmi.line_setLine ..).trans (if_pos rfl)

theorem lineWatched_entry (k : Nat) : (lineWatched l v s).rmi.entry k = s.rmi.entry k :=
  Rmi.entry_of_keys (Rmi.setLine_fields ..).1 k

theorem wiredLine_same (h : Powered s) (hr : s.pnp.power ≠ .resetHeld) (ht : s.rmi.test = false)
    (hread : ∀ n, (s.rmi.line l).reading ≠ .first n) (hv : (s.rmi.line l).pressed = v) :
    exec (.wiredLineChange l v) s = .next (finish (lineWatched l v s)) := by
  have hsame : ((lineWatched l v s).rmi.line l).pressed = v := by
    rw [lineWatched_line]
    exact hv
  rw [wiredLine_watched h hr ht, lineReading_pinned hread, lineEvent_same hsame]

/-- The first reading after a reset gives no mark and no press, and the press record is spent (09 R163). -/
theorem wiredLine_first {n : Nat} (h : Powered s) (hr : s.pnp.power ≠ .resetHeld) (ht : s.rmi.test = false)
    (hread : (s.rmi.line l).reading = .first n) :
    exec (.wiredLineChange l v) s = .next (finish { s with
      pins := s.pins.setLine l v
      rmi := s.rmi.setLine l ((s.rmi.line l).sampled v (s.rmi.entry (lineCode l))) }) := by
  rw [wiredLine_watched h hr ht, lineReading_first (s := setLinePin l v s) hread]
  rfl

theorem wiredLine_release (h : Powered s) (hr : s.pnp.power ≠ .resetHeld) (ht : s.rmi.test = false)
    (hp : (s.rmi.line l).pressed = true) (hread : ∀ n, (s.rmi.line l).reading ≠ .first n) :
    exec (.wiredLineChange l false) s = .next (finish { s with
      pins := s.pins.setLine l false
      rmi := { s.rmi.setLine l ⟨false, (s.rmi.line l).pressedChg, true, none, .watched⟩ with
        focus := if s.rmi.focus.drivenBy (lineCode l) then .stopped else s.rmi.focus } }) := by
  have hpressed : ((lineWatched l false s).rmi.line l).pressed = true := by
    rw [lineWatched_line]
    exact hp
  have hfocus : (lineWatched l false s).rmi.focus = s.rmi.focus := (Rmi.setLine_fields ..).2.2.2.1
  rw [wiredLine_watched h hr ht, lineReading_pinned hread, lineEvent_release hpressed, lineWatched_line, hfocus]
  simp only [lineWatched, Rmi.setLine_setLine]

/-! ## A press -/

theorem pressed_after {x : LineRec} (hp : x.pressed = false) (e : KeyEntry) :
    ({ x with reading := .watched } : LineRec).after true e
      = ⟨true, true, x.releasedChg, some ⟨e.action, e.mode, 0, false⟩, .watched⟩ := by
  rw [LineRec.after, if_neg (by simp [hp]), if_pos rfl]

/-- A press outside STANDBY fires the key's action on the line's mark and press record (09 R156). -/
theorem wiredLine_press (h : Powered s) (hr : s.pnp.power ≠ .resetHeld) (hs : s.pnp.power ≠ .standby)
    (hk : Pressing l a m s) :
    exec (.wiredLineChange l true) s = .next (finish (fireKey a m (lineCode l) (pressedLine l a m s))) := by
  obtain ⟨ht, hp, hread, hentry⟩ := hk
  have hpressed : ((lineWatched l true s).rmi.line l).pressed = false := by
    rw [lineWatched_line]
    exact hp
  rw [wiredLine_watched h hr ht, lineReading_pinned hread, lineEvent_press (s := lineWatched l true s) hs hpressed, lineWatched_line,
    lineWatched_entry, hentry, pressed_after hp]
  simp only [lineWatched, Rmi.setLine_setLine, pressedLine]

theorem wiredLine_fires (h : Awake s) (hk : Pressing l a m s) :
    exec (.wiredLineChange l true) s = .next (finish (fireKey a m (lineCode l) (pressedLine l a m s))) := by
  have hc : Counting s := h.2
  exact wiredLine_press h.1 (power_ne_reset h) hc.ne_standby hk

/-- The line pressed in STANDBY: its mark, and its press record spent (09 R164). -/
def pressedAsleep (l : Line) (a : KeyAction) (m : RepeatMode) (s : State) : State :=
  { s with
    pins := s.pins.setLine l true
    rmi := s.rmi.setLine l ⟨true, true, (s.rmi.line l).releasedChg, some ⟨a, m, 0, true⟩, .watched⟩ }

theorem wiredLine_standby (h : Powered s) (hs : s.pnp.power = .standby) (hk : Pressing l a m s) :
    exec (.wiredLineChange l true) s = .next (finish (standbyKey a (pressedAsleep l a m s))) := by
  obtain ⟨ht, hp, hread, hentry⟩ := hk
  have hr : s.pnp.power ≠ .resetHeld := by simp [hs]
  have hpressed : ((lineWatched l true s).rmi.line l).pressed = false := by
    rw [lineWatched_line]
    exact hp
  have hkey (x : LineRec) : ((lineWatched l true s).rmi.setLine l x).entry (lineCode l) = ⟨a, m⟩ :=
    (Rmi.entry_of_keys (Rmi.setLine_fields ..).1 _).trans ((lineWatched_entry _).trans hentry)
  have hpower : (lineWatched l true s).pnp.power = .standby := hs
  rw [wiredLine_watched h hr ht, lineReading_pinned hread]
  simp only [lineEvent, hpressed, reduceCtorEq, if_false, if_true, pressKey, setRmi, hkey, hpower, setPress_line,
    Rmi.line_setLine]
  rw [lineWatched_line]
  simp only [lineWatched, Rmi.setLine_setLine, pressedAsleep]

end Sys2Proof.Machine
end

section
/-! What each action of Table 9.5 does where its request is taken (09 R156, R164). -/

namespace Sys2Proof.Machine
open Sys2Proof

section
variable {s : State}

/-! ## Requests of the remote -/

theorem remoteRequest_taken {c : ReqClass} {f : State → State × Status} {t : State} (hc : classOk .remote c s = true)
    (hf : f s = (t, .ok)) : remoteRequest c f s = idleZero t := by
  unfold remoteRequest sourced
  rw [if_neg (by simp [hc])]
  simp only [hf, if_true]

theorem remoteRequest_disabled {c : ReqClass} (hc : classOk .remote c s = false) (f : State → State × Status) :
    remoteRequest c f s = countRefusal .remote s :=
  congrArg Prod.fst (if_pos hc)

theorem remoteChange_disabled (hc : classOk .remote .transport s = false) (k : ChangeKind) (n : Nat) :
    remoteChange k n s = countRefusal .remote s :=
  congrArg Prod.fst (changeRequest_disabled hc)

theorem countRefusal_remote (s : State) : countRefusal .remote s = { s with sar := { s.sar with last := { s.sar.last with
    remote := { s.sar.last.remote with refusals := min 255 (s.sar.last.remote.refusals + 1) } } } } := by
  have hinc : satInc 255 s.sar.last.remote.refusals = min 255 (s.sar.last.remote.refusals + 1) := by
    unfold satInc
    split <;> omega
  rw [← hinc]
  rfl

/-! ## The actions that a request carries -/

theorem fireKey_lampOn (m : RepeatMode) (k : Nat) (hr : s.pnp.power = .run) (hc : classOk .remote .lamp s = true)
    (hl : s.lmc.lamp = .off ∨ s.lmc.lamp = .cooling) (ht : s.lmc.trip = false) (hh : s.lmc.temp.getD 60 < 60)
    (hd : s.lmc.dim = false) : fireKey .lampOn m k s = idleZero (enterPreheat s) := by
  have hcold : s.lmc.tooHot = false := eq_false_of_ne_true fun h => absurd ((tooHot_iff _).mp h) (Nat.not_le.mpr hh)
  exact remoteRequest_taken hc (lampOnTaken_preheats hr ht hl hcold hd)

theorem fireKey_lampOff (m : RepeatMode) (k : Nat) (hc : classOk .remote .lamp s = true)
    (hl : s.lmc.lamp = .preheat ∨ s.lmc.lamp = .lit) : (fireKey .lampOff m k s).lmc.lamp = .cooling
    ∧ (fireKey .lampOff m k s).lmc.output = 0 := by
  have hfire : fireKey .lampOff m k s = idleZero (lampReports (lampOut s)) := remoteRequest_taken hc rfl
  obtain ⟨hcooled, -⟩ := lampOut_burning hl
  have hsame : SameLamp (cooled s.lmc) (lampReports (lampOut s)).lmc := by
    rw [← hcooled]
    exact lampReports_sameLamp (by rw [hcooled]; nofun) (by rw [hcooled]; nofun) (by rw [hcooled]; rfl)
  have hlamp : (lampReports (lampOut s)).lmc.lamp = .cooling := hsame.shows.1
  rw [hfire]
  exact ⟨hlamp, output_unlit (l := (lampReports (lampOut s)).lmc) (by rw [hlamp]; nofun) (by rw [hlamp]; nofun)⟩

theorem fireKey_hold (m : RepeatMode) (k : Nat) (h : s.pnp.power ≠ .resetHeld) (hc : classOk .remote .shows s = true) :
    (fireKey .hold m k s).shc.causes = { s.shc.causes with operator := true }
      ∧ (s.shc.phase = .running ∨ s.shc.phase = .ending → (fireKey .hold m k s).shc.phase = .held)
      ∧ (s.shc.phase = .stopped ∨ s.shc.phase = .held → (fireKey .hold m k s).shc.phase = s.shc.phase) := by
  have hfire : fireKey .hold m k s = idleZero (addCause .operator s) := remoteRequest_taken hc rfl
  rw [hfire]
  cases hp : s.shc.phase with
  | stopped =>
    rw [addCause_other _ h (.inl hp)]
    exact ⟨rfl, nofun, fun _ => hp⟩
  | held =>
    rw [addCause_other _ h (.inr hp)]
    exact ⟨rfl, nofun, fun _ => hp⟩
  | running =>
    rw [addCause_holds _ h (.inl hp)]
    exact ⟨rfl, fun _ => rfl, nofun⟩
  | ending =>
    rw [addCause_holds _ h (.inr hp)]
    exact ⟨rfl, fun _ => rfl, nofun⟩

theorem deckStart_only (s : State) : deckStart s = { s with dkc := (deckStart s).dkc } := by
  unfold deckStart deckSettle
  split <;> rfl

/-- A show whose cause DECK is out of the set keeps its causes at the end of ENDING, and is not HELD there. -/
theorem endCheck_shows (hp : s.shc.phase ≠ .held) (hd : s.shc.causes.deck = false) :
    (endCheck s).shc.causes = s.shc.causes ∧ (endCheck s).shc.phase ≠ .held := by
  by_cases h : s.shc.phase = .ending ∧ s.runOut = true
  · have hends : endCheck s = endShow s := if_pos h
    rw [hends, endShow_ending h.1 ((runOut_iff s).mp h.2).2.2, hd, Bool.false_and, ← hd]
    exact ⟨rfl, nofun⟩
  · have hstays : endCheck s = s := if_neg h
    rw [hstays]
    exact ⟨rfl, hp⟩

theorem leaveHeld_shows (hp : s.shc.phase = .held) (hd : s.shc.causes.deck = false) :
    (leaveHeld s).shc.causes = s.shc.causes ∧ (leaveHeld s).shc.phase ≠ .held := by
  have hto : leaveTo s ≠ .held := by
    unfold leaveTo
    split <;> nofun
  rw [leaveHeld_eq hp rfl hto]
  split
  · split
    · rw [deckStart_only]
      exact endCheck_shows (s := { showGoesOn _ s with dkc := _ }) hto hd
    · exact endCheck_shows (s := deckHalt (showGoesOn _ s)) hto hd
  · exact endCheck_shows (s := showGoesOn _ s) hto hd

theorem fireKey_resume (m : RepeatMode) (k : Nat) (hc : classOk .remote .shows s = true) :
    (fireKey .resume m k s).shc.causes = { s.shc.causes with operator := false, cueHold := false, link := false }
      ∧ (s.shc.phase = .held → s.shc.causes.transport = false → s.shc.causes.lamp = false →
          s.shc.causes.deck = false → (fireKey .resume m k s).shc.phase ≠ .held)
      ∧ (s.shc.phase ≠ .held → (fireKey .resume m k s).shc.phase = s.shc.phase) := by
  have hfire : fireKey .resume m k s = idleZero (resumeShow s) := remoteRequest_taken hc rfl
  rw [hfire, resumeShow_eq]
  by_cases h : s.shc.phase = .held ∧ (resumeCauses s).shc.causes.isEmpty = true
  · rw [if_pos h]
    obtain ⟨-, -, hd⟩ := (resumeCauses_empty_iff s).mp h.2
    obtain ⟨hcauses, hphase⟩ := leaveHeld_shows (s := resumeCauses s) h.1 hd
    exact ⟨hcauses, fun _ _ _ _ => hphase, fun hp => absurd h.1 hp⟩
  · rw [if_neg h]
    exact ⟨rfl, fun hp ht hl hd => absurd ⟨hp, (resumeCauses_empty_iff s).mpr ⟨ht, hl, hd⟩⟩ h, fun _ => rfl⟩

theorem fireKey_showStart (m : RepeatMode) (k : Nat) (hr : s.pnp.power = .run) (hc : classOk .remote .shows s = true)
    (hp : s.shc.phase = .stopped) (hcause : s.shc.causes = Causes.empty)
    (hd : s.dkc.deck = .stopped ∨ s.dkc.deck = .playing) :
    (fireKey .showStart m k s).shc.phase = .running ∧ (fireKey .showStart m k s).crn.queue = []
      ∧ (fireKey .showStart m k s).dkc.clock = 0
      ∧ (s.dkc.deck = .stopped → s.pins.running = false → (fireKey .showStart m k s).dkc.deck = .starting) := by
  obtain ⟨u, hclaim, hu, -, hstart⟩ := playClaim_taken (s := s) (b := false) (by rw [hp]; nofun)
    (by rcases hd with h | h <;> rw [h] <;> nofun) (by rcases hd with h | h <;> rw [h] <;> nofun)
  have hfire : fireKey .showStart m k s = idleZero (showStarted s u) :=
    remoteRequest_taken hc (startShow_taken hp hcause hr hclaim hu)
  rw [hfire]
  refine ⟨rfl, rfl, rfl, fun h hrun => ?_⟩
  have hdeck := hstart (by rw [h]; nofun) (by rw [h]; nofun) hrun
  simp [idleZero, showStarted, hdeck, deckStarting]

theorem fireKey_showStop (m : RepeatMode) (k : Nat) (hc : classOk .remote .shows s = true) :
    (fireKey .showStop m k s).shc.phase = .stopped ∧ (fireKey .showStop m k s).crn.queue = []
      ∧ (fireKey .showStop m k s).dkc.deck = .stopped ∧ (fireKey .showStop m k s).shc.causes.operator = false := by
  by_cases hw : ∃ w, s.sar.waiting = some w ∧ w.source = .program
  · obtain ⟨w, hw, hs⟩ := hw
    have hfire : fireKey .showStop m k s = idleZero (showEnded (dropWaiting .flushed (showHalted s))) :=
      remoteRequest_taken hc (showStopTaken_program hw hs)
    rw [hfire]
    simp [idleZero, showEnded, showHalted_eq]
  · have hother : ∀ w ∈ s.sar.waiting, w.source ≠ .program := fun w hm hs => hw ⟨w, hm, hs⟩
    have hfire : fireKey .showStop m k s = idleZero (showEnded (showHalted s)) :=
      remoteRequest_taken hc (showStopTaken_other hother)
    rw [hfire]
    simp [idleZero, showEnded, showHalted_eq]

theorem fireKey_nextStep (m : RepeatMode) (k : Nat) (hc : classOk .remote .shows s = true)
    (hp : s.shc.phase ≠ .stopped) (hq : s.crn.queue.length < 8) :
    fireKey .nextStep m k s = idleZero (pushCue .remote .next s) :=
  remoteRequest_taken hc (offerFrom_joins hp hq)

theorem fireKey_standby (m : RepeatMode) (k : Nat) (h : Counting s) (hc : classOk .remote .power s = true)
    (hp : s.shc.phase = .stopped) : (fireKey .standby m k s).pnp.power = .standbyPending := by
  have hfire {t : State} (hf : requestStandby s = (t, .ok)) : fireKey .standby m k s = idleZero t :=
    remoteRequest_taken hc hf
  rcases h with h | h
  · rw [hfire (t := lampReports (lampOut (setPower .standbyPending s))) (by simp [requestStandby, h, hp])]
    simp [idleZero, setPower]
  · rw [hfire (t := s) (by simp [requestStandby, h])]
    exact h

/-- A start of the pending change leaves JAMMED and STALLED where they stood, or begins a change. -/
theorem startPending_unjammed (h : s.csq.state ≠ .jammed) : (startPending s).csq.state ≠ .jammed := by
  cases hw : s.sar.waiting with
  | none =>
    rw [startPending_none hw]
    exact h
  | some w =>
    cases hr : pendingReady s with
    | false =>
      rw [startPending_unready hr]
      exact h
    | true =>
      cases hq : startCheck w s with
      | error st =>
        rw [startPending_error hw hr hq, refuseStart_csq]
        exact h
      | ok q =>
        rw [startPending_ok hw hr hq]
        intro hj
        have hactive := (startChange_underway w.source w.kind q w.fade (markStarted w s)).1
        rw [hj] at hactive
        exact Bool.false_ne_true hactive

theorem fireKey_clearJam (m : RepeatMode) (k : Nat) (h : s.pnp.power ≠ .resetHeld)
    (hc : classOk .remote .transport s = true) (hs : s.csq.state = .jammed) (hp : s.pins.sensed = .clear) :
    (fireKey .clearJam m k s).csq.state ≠ .jammed ∧ (fireKey .clearJam m k s).csq.gate = .empty
      ∧ (fireKey .clearJam m k s).shc.causes.transport = false := by
  have hfire : fireKey .clearJam m k s = idleZero (startPending (jamCleared s)) :=
    remoteRequest_taken hc (clearJamAt_clear hs hp)
  obtain ⟨hstate, hgate, -⟩ := jamCleared_csq s
  have hshow := (startPending_show (jamCleared s) (by rw [hstate]; nofun)).2
  rw [hfire]
  refine ⟨startPending_unjammed (by rw [hstate]; nofun), ?_, ?_⟩
  · exact (startPending_frame _).2.2.2.2.2.2.2.2.1.trans hgate
  · change (startPending (jamCleared s)).shc.causes.transport = false
    rw [hshow]
    exact removeCause_transport (by simpa [setCsq, setGate] using h)

end

end Sys2Proof.Machine
end

section
/-! Wired lines, key repeats, digits and focus ends (09 R151, R156 to R159, R162 to R164). -/

namespace Sys2Proof.Machine
open Sys2Proof

section
variable {s : State} {l : Line} {a : KeyAction} {m : RepeatMode}

/-! ## What a pressed line leaves -/

theorem Pins.setLine_fields (p : Pins) (l : Line) (v : Bool) : (p.setLine l v).porstLow = p.porstLow
    ∧ (p.setLine l v).fsi = p.fsi ∧ (p.setLine l v).fso = p.fso ∧ (p.setLine l v).sensed = p.sensed
    ∧ (p.setLine l v).running = p.running ∧ (p.setLine l v).tapeEnd = p.tapeEnd := by
  cases l <;> exact ⟨rfl, rfl, rfl, rfl, rfl, rfl⟩

theorem wiredLine_of_fire {t : State} (h : Awake s) (hk : Pressing l a m s)
    (hf : fireKey a m (lineCode l) (pressedLine l a m s) = t) :
    exec (.wiredLineChange l true) s = .next (finish t) := (wiredLine_fires h hk).trans (by rw [hf])

theorem pressedLine_line : (pressedLine l a m s).rmi.line l
    = ⟨true, true, (s.rmi.line l).releasedChg, some ⟨a, m, 0, false⟩, .watched⟩ :=
  (Rmi.line_setLine ..).trans (if_pos rfl)

theorem powered_of_pins {t u : State} (h : Powered t) (hp : u.pins.porstLow = t.pins.porstLow) : Powered u :=
  hp.trans h

/-! ## Focus keys -/

theorem startFocus_free (d : Bool) (e : FocusEnd) (h : (if d then s.pins.fsi else s.pins.fso) = false) :
    startFocus d e s = setRmi (fun r => { r with focus := .run d e 0 }) s := by
  have hstop : stopActive s.pins d = false := h
  unfold startFocus
  rw [if_neg (by simp [hstop])]

theorem startFocus_stopped (d : Bool) (e : FocusEnd) (h : (if d then s.pins.fsi else s.pins.fso) = true) :
    (startFocus d e s).rmi.focus = (if s.rmi.focus.runs d then .stopped else s.rmi.focus) := by
  have hstop : stopActive s.pins d = true := h
  unfold startFocus
  rw [if_pos hstop]
  split <;> rfl

theorem fireKey_focus (d : Bool) (m : RepeatMode) (k : Nat) (s : State) :
    fireKey (if d then .focusIn else .focusOut) m k s
      = startFocus d (if m = .whileHeld then .key k else .timed 100) s := by
  cases d <;> rfl

/-- A focus key whose end stop is not active runs the drive (09 R157, R159). -/
theorem wiredLine_focus_runs {d : Bool} (h : Awake s) (hk : Pressing l (if d then .focusIn else .focusOut) m s)
    (hstop : (if d then s.pins.fsi else s.pins.fso) = false) :
    ∃ t, exec (.wiredLineChange l true) s = .next t
      ∧ t.rmi.focus = .run d (if m = .whileHeld then .key (lineCode l) else .timed 100) 0
      ∧ t.outputs.fci = d ∧ t.outputs.fco = !d ∧ t.csq = s.csq ∧ t.sar = s.sar := by
  obtain ⟨hlow, hfsi, hfso, -⟩ := s.pins.setLine_fields l true
  have hfree : (if d then (pressedLine l (if d then .focusIn else .focusOut) m s).pins.fsi
      else (pressedLine l (if d then .focusIn else .focusOut) m s).pins.fso) = false := by
    simp only [pressedLine, hfsi, hfso]
    exact hstop
  have hfire := (fireKey_focus d m (lineCode l) (pressedLine l (if d then .focusIn else .focusOut) m s)).trans
    (startFocus_free d _ hfree)
  refine ⟨_, wiredLine_of_fire h hk hfire, ?_⟩
  have hpow : Powered (finish (setRmi (fun r => { r with
      focus := .run d (if m = .whileHeld then .key (lineCode l) else .timed 100) 0 })
      (pressedLine l (if d then .focusIn else .focusOut) m s))) :=
    powered_of_pins h.1 (by simp only [finish_frame, setRmi, pressedLine, hlow])
  obtain ⟨hin, hout⟩ := outputs_focus hpow
  rw [hin, hout]
  simp only [finish_frame]
  refine ⟨rfl, ?_, ?_, rfl, rfl⟩ <;> cases d <;> rfl

theorem wiredLine_focus_barred {d : Bool} (h : Awake s) (hk : Pressing l (if d then .focusIn else .focusOut) m s)
    (hstop : (if d then s.pins.fsi else s.pins.fso) = true) :
    ∃ t, exec (.wiredLineChange l true) s = .next t
      ∧ t.rmi.focus = (if s.rmi.focus.runs d then .stopped else s.rmi.focus) := by
  obtain ⟨-, hfsi, hfso, -⟩ := s.pins.setLine_fields l true
  have hbarred : (if d then (pressedLine l (if d then .focusIn else .focusOut) m s).pins.fsi
      else (pressedLine l (if d then .focusIn else .focusOut) m s).pins.fso) = true := by
    simp only [pressedLine, hfsi, hfso]
    exact hstop
  have hfocus : (pressedLine l (if d then .focusIn else .focusOut) m s).rmi.focus = s.rmi.focus :=
    (Rmi.setLine_fields ..).2.2.2.1
  refine ⟨_, wiredLine_of_fire h hk (fireKey_focus d m (lineCode l) _), ?_⟩
  simp only [finish_frame]
  rw [startFocus_stopped _ _ hbarred, hfocus]

/-! ## The two transport requests that a key places -/

theorem changeRequest_placed {src : Source} {k : ChangeKind} {n q : Nat} {t : State} {e : Disposition × Nat}
    (hc : classOk src .transport s = true) (ha : argRefusal k n 0xFF = none)
    (hroute : (s.sar.sources.get src).route = .here) (hplaced : Placed s k)
    (hres : s.tru.resolve k n ((expected s).getD 0) = .ok q)
    (hwin : k = .home ∨ ((s.sar.sources.get src).base ≤ q ∧ q ≤ (s.sar.sources.get src).limit))
    (hplace : place src k n q s.sar.cfg.fade s = (t, .ok e)) :
    changeRequest src k n 0xFF s = (idleZero t, .ok ⟨e.1, e.1, some e.2⟩) := by
  have hhere : requestHere src k n s.sar.cfg.fade s = (t, .ok e) :=
    (requestHere_placed (admitRequest_ok hplaced hres hwin)).trans hplace
  exact changeRequest_ok hc ha (requestRouted_here (src := src) (s := s) hroute hhere)

theorem tenureLets_unheld (src : Source) (h : s.sar.holder = none) : tenureLets src s = true := by
  refine (tenureLets_iff _ _).mpr fun x hx => ?_
  rw [h] at hx
  exact nomatch hx

theorem wiredLine_advances {q : Nat} (h : Powered s) (hr : s.pnp.power = .run) (hk : Pressing l .advance m s)
    (hc : classOk .remote .transport s = true) (hroute : s.sar.sources.remote.route = .here)
    (hpresent : s.tru.present = true) (hpos : s.tru.position ≠ none) (horphan : s.csq.orphaned = false)
    (hres : s.tru.resolve .advance 1 ((expected s).getD 0) = .ok q) (hlo : s.sar.sources.remote.base ≤ q)
    (hhi : q ≤ s.sar.sources.remote.limit) (hidle : s.csq.state = .idle) (hheld : s.sar.holder = none)
    (hwait : s.sar.waiting = none) :
    ∃ t, exec (.wiredLineChange l true) s = .next t ∧ t.csq.state.active = true
      ∧ t.csq.flight.map (fun f => (f.kind, f.owner, f.target, f.fade))
        = some (.advance, .remote, q, s.sar.cfg.fade) := by
  have hplace := place_starts (src := .remote) (k := .advance) (s := pressedLine l .advance m s) (n := 1) (q := q)
    (d := s.sar.cfg.fade) ((canStart_iff _ _).mpr ⟨hr, .inl hidle⟩) (tenureLets_unheld _ hheld) (.inr hwait)
  have hfire : fireKey .advance m (lineCode l) (pressedLine l .advance m s)
      = idleZero (startChange .remote .advance q s.sar.cfg.fade (pressedLine l .advance m s)) :=
    congrArg Prod.fst (changeRequest_placed (src := .remote) (s := pressedLine l .advance m s) hc rfl hroute
      ⟨hpresent, fun hnone => absurd hnone hpos, horphan⟩ hres (.inr ⟨hlo, hhi⟩) hplace)
  refine ⟨_, wiredLine_of_fire ⟨h, .inl hr⟩ hk hfire, ?_⟩
  simp only [finish_frame, idleZero, startChange_flight]
  exact ⟨(startChange_underway ..).1, rfl⟩

theorem remoteChange_merges {c q r u : Nat} {f : Flight} (hc : classOk .remote .transport s = true)
    (hroute : s.sar.sources.remote.route = .here) (hpresent : s.tru.present = true) (hpos : s.tru.position ≠ none)
    (horphan : s.csq.orphaned = false) (hf : s.csq.flight = some f) (hactive : s.csq.state.active = true)
    (hw : s.sar.waiting = some ⟨.remote, .advance, c, u, s.sar.cfg.fade⟩) (hlt : c < 15)
    (hres : s.tru.resolve .advance 1 f.target = .ok q) (hsum : s.tru.resolve .advance (c + 1) f.target = .ok r)
    (hqlo : s.sar.sources.remote.base ≤ q) (hqhi : q ≤ s.sar.sources.remote.limit)
    (hrlo : s.sar.sources.remote.base ≤ r) (hrhi : r ≤ s.sar.sources.remote.limit) :
    remoteChange .advance 1 s
      = idleZero (setWaiting (some ⟨.remote, .advance, c + 1, r, s.sar.cfg.fade⟩) s) := by
  have hexp : (expected s).getD 0 = f.target := by
    simp [expected, hf]
  have hbusy : ¬ (canStart .advance s = true ∧ tenureLets .remote s = true
      ∧ (s.sar.holder ≠ none ∨ s.sar.waiting = none)) := by
    rintro ⟨hcan, -⟩
    rcases ((canStart_iff _ _).mp hcan).2 with hidle | ⟨-, hk⟩
    · rw [hidle] at hactive
      exact Bool.false_ne_true hactive
    · exact nomatch hk
  have hcount : ((c : Int) + 1).natAbs = c + 1 := by omega
  have hkind : mergedKind ((c : Int) + 1) = .advance := if_pos (by omega)
  have hmerge := merge_resolved (s := s) (src := .remote) (d := s.sar.cfg.fade) (c := 1) (r := r)
    (w := ⟨.remote, .advance, c, u, s.sar.cfg.fade⟩) (by dsimp only; omega) (by dsimp only; omega)
    (by rw [hexp, hkind, hcount]; exact hsum)
  have hin := (insideWindow_iff (s.sar.sources.get .remote) (mergedKind ((c : Int) + 1)) r).mpr (.inr ⟨hrlo, hrhi⟩)
  have hplace : place .remote .advance 1 q s.sar.cfg.fade s
      = (setWaiting (some ⟨.remote, .advance, c + 1, r, s.sar.cfg.fade⟩) s, .ok (.merged, r)) := by
    rw [place_pends hbusy, pend_merges hw rfl rfl rfl]
    refine hmerge.trans ((if_pos hin).trans ?_)
    rw [hkind]
  exact congrArg Prod.fst (changeRequest_placed (src := .remote) hc rfl hroute
    ⟨hpresent, fun hnone => absurd hnone hpos, horphan⟩ (by rw [hexp]; exact hres) (.inr ⟨hqlo, hqhi⟩) hplace)

/-! ## Key repeats -/

theorem keyRepeat_fires {k n : Nat} {p : Press} (hp : pressOf k s = some p) (hs : p.spent = false)
    (hm : p.mode = .auto n) :
    keyRepeat k s = fireKey p.action p.mode k (setPress k (some { p with repeatMs := 0 }) s) := by
  simp only [keyRepeat, hp]
  split
  · exact if_neg (Bool.eq_false_iff.mp hs)
  · next hno => exact absurd hm (hno n)

theorem keyRepeat_still {k : Nat} {p : Press} (hp : pressOf k s = some p)
    (h : p.spent = true ∨ p.mode = .once ∨ p.mode = .whileHeld) : keyRepeat k s = s := by
  simp only [keyRepeat, hp]
  split
  · next n hm =>
    refine if_pos (h.resolve_right fun h => ?_)
    rcases h with h | h <;> exact nomatch h.symm.trans hm
  · rfl

theorem pressOf_setPress {k : Nat} {p : Press} (hp : pressOf k s = some p) (x : Option Press) :
    pressOf k (setPress k x s) = x := by
  unfold pressOf setPress at *
  split
  · next l hl =>
    simp only [setRmi, Rmi.line_setLine, if_true]
  · next hl =>
    simp only [hl] at hp
    have hheld : s.rmi.irHeld = some k := by
      by_contra hne
      rw [if_neg hne] at hp
      exact nomatch hp
    exact if_pos hheld

theorem pressOf_congr {t : State} (k : Nat) (hline : ∀ l, t.rmi.line l = s.rmi.line l)
    (hheld : t.rmi.irHeld = s.rmi.irHeld) (hpress : t.rmi.irPress = s.rmi.irPress) : pressOf k t = pressOf k s := by
  simp only [pressOf, hline, hheld, hpress]

theorem setPress_only (k : Nat) (p : Option Press) (s : State) :
    setPress k p s = { s with rmi := (setPress k p s).rmi } := OnlyRemote.setPress k p s

theorem keyRepeat_reports {k : Nat} {p : Press} (h : Powered s) (hp : pressOf k s = some p) (hs : p.spent = false)
    (h1 : p.mode ≠ .once) (h2 : p.mode ≠ .whileHeld) (ha : p.action = .report) :
    ∃ t, exec (.keyRepeatExpiry k) s = .next t ∧ pressOf k t = some { p with repeatMs := 0 }
      ∧ t.rmi.lastKey = some k ∧ t.rmi.unread = true ∧ t.csq = s.csq ∧ t.sar = s.sar ∧ t.tru = s.tru := by
  have hauto : ∃ n, p.mode = .auto n := by
    cases hm : p.mode with
    | once => exact absurd hm h1
    | whileHeld => exact absurd hm h2
    | auto n => exact ⟨n, rfl⟩
  obtain ⟨n, hm⟩ := hauto
  have hpress := pressOf_setPress hp (some { p with repeatMs := 0 })
  obtain ⟨r, hr⟩ : ∃ r, setPress k (some { p with repeatMs := 0 }) s = { s with rmi := r } := ⟨_, setPress_only ..⟩
  have hfire := (keyRepeat_fires hp hs hm).trans (congrArg (fireKey · p.mode k _) ha)
  rw [hr] at hpress hfire
  refine ⟨_, run_of_eq h hfire, ?_⟩
  have hrmi (u : State) : (finish u).rmi = u.rmi := by simp only [finish_frame]
  simp only [finish_frame]
  refine ⟨?_, rfl, rfl, rfl, rfl, rfl⟩
  refine (pressOf_congr k (fun l => ?_) ?_ ?_).trans hpress
  · rw [hrmi]
    cases l <;> rfl
  · rw [hrmi]
    rfl
  · rw [hrmi]
    rfl

theorem keyRepeat_merges {k n c q r u : Nat} {p : Press} {f : Flight} (h : Awake s) (hp : pressOf k s = some p)
    (hs : p.spent = false) (hm : p.mode = .auto n) (ha : p.action = .advance)
    (hc : classOk .remote .transport s = true)
    (hroute : s.sar.sources.remote.route = .here) (hpresent : s.tru.present = true) (hpos : s.tru.position ≠ none)
    (horphan : s.csq.orphaned = false) (hf : s.csq.flight = some f) (hactive : s.csq.state.active = true)
    (hw : s.sar.waiting = some ⟨.remote, .advance, c, u, s.sar.cfg.fade⟩) (hlt : c < 15)
    (hres : s.tru.resolve .advance 1 f.target = .ok q) (hsum : s.tru.resolve .advance (c + 1) f.target = .ok r)
    (hqlo : s.sar.sources.remote.base ≤ q) (hqhi : q ≤ s.sar.sources.remote.limit)
    (hrlo : s.sar.sources.remote.base ≤ r) (hrhi : r ≤ s.sar.sources.remote.limit) :
    ∃ t, exec (.keyRepeatExpiry k) s = .next t ∧ t.csq = s.csq
      ∧ t.sar.waiting = some ⟨.remote, .advance, c + 1, r, s.sar.cfg.fade⟩ := by
  obtain ⟨x, hx⟩ : ∃ r, setPress k (some { p with repeatMs := 0 }) s = { s with rmi := r } := ⟨_, setPress_only ..⟩
  have hfire := (keyRepeat_fires hp hs hm).trans (congrArg (fireKey · p.mode k _) ha)
  rw [hx] at hfire
  have hmerge := remoteChange_merges (s := { s with rmi := x }) hc hroute hpresent hpos horphan hf hactive hw hlt hres
    hsum hqlo hqhi hrlo hrhi
  refine ⟨_, run_of_eq h.1 (hfire.trans hmerge), ?_⟩
  simp only [finish_frame]
  exact ⟨rfl, rfl⟩

end

end Sys2Proof.Machine
end

section
/-! Keys in the standby states, digits and focus ends; the obligation on the remote's lines and keys. -/

namespace Sys2Proof.Machine
open Sys2Proof

section
variable {s : State} {l : Line} {a : KeyAction} {m : RepeatMode}

/-! ## Keys in STANDBY (R164) -/

theorem startPending_refusals (src : Source) (s : State) :
    ((startPending s).sar.last.get src).refusals = (s.sar.last.get src).refusals := by
  cases hw : s.sar.waiting with
  | none => rw [startPending_none hw]
  | some w =>
    cases hr : pendingReady s with
    | false => rw [startPending_unready hr]
    | true =>
      cases hq : startCheck w s with
      | error st =>
        rw [startPending_error hw hr hq, refuseStart_sar, writeRecord_refusals]
        rfl
      | ok q =>
        rw [startPending_ok hw hr hq, startChange_sar, markStarted_sar]

theorem wakeUp_standby (h : s.pnp.power = .standby ∨ s.pnp.power = .standbyPending) :
    (wakeUp s).pnp.power = .run ∧ (wakeUp s).rmi = s.rmi
      ∧ (wakeUp s).sar.last.remote.refusals = s.sar.last.remote.refusals := by
  obtain ⟨hpower, -⟩ := wakeUp_pnp h
  have hsar : (woken s).sar = s.sar := (woken_frame s).2.1
  have hlast := startPending_refusals .remote (woken s)
  rw [hsar] at hlast
  exact ⟨hpower, by simp, by rw [wakeUp_eq h]; exact hlast⟩

theorem standbyKey_other (h1 : a ≠ .wake) (h2 : a ≠ .lampOn) (s : State) :
    standbyKey a s = if s.rmi.cfg.wakeAny then wakeUp s else s := by
  unfold standbyKey
  split
  · exact absurd rfl h1
  · exact absurd rfl h2
  · rfl

theorem remoteRequest_counts {c : ReqClass} {f : State → State × Status} (hc : classOk .remote c s = true) :
    (remoteRequest c f s).pnp.power = (f s).1.pnp.power
      ∧ (remoteRequest c f s).sar.last.remote.refusals ≤ (f s).1.sar.last.remote.refusals + 1 := by
  by_cases hst : (f s).2 = .ok
  · rw [remoteRequest_taken hc (Prod.ext rfl hst)]
    exact ⟨rfl, Nat.le_succ _⟩
  · have hcount : remoteRequest c f s = countRefusal .remote (f s).1 := by
      unfold remoteRequest sourced
      rw [if_neg (by simp [hc])]
      exact congrArg Prod.fst (if_neg hst)
    rw [hcount, countRefusal_remote]
    exact ⟨rfl, Nat.min_le_right ..⟩

/-- LAMP_ON in STANDBY wakes the part where the class check lets it through. -/
theorem standbyKey_lampOn (h : s.pnp.power = .standby) :
    (standbyKey .lampOn s).pnp.power = (if classOk .remote .lamp s then .run else .standby)
      ∧ (standbyKey .lampOn s).sar.last.remote.refusals ≤ s.sar.last.remote.refusals + 1 := by
  by_cases hc : classOk .remote .lamp s = true
  · have hkey : standbyKey .lampOn s = remoteRequest .lamp lampOnTaken s := if_pos hc
    obtain ⟨x, st, hon, -⟩ := lampOnTaken_only s
    obtain ⟨hpower, -, hrefusals⟩ := wakeUp_standby (.inl h)
    obtain ⟨hp, hr⟩ := remoteRequest_counts (f := lampOnTaken) hc
    rw [hon] at hp hr
    rw [hkey, hp, if_pos hc]
    exact ⟨hpower, hr.trans (Nat.succ_le_succ hrefusals.le)⟩
  · have hkey : standbyKey .lampOn s = s := if_neg hc
    rw [hkey, if_neg hc]
    exact ⟨h, Nat.le_succ _⟩

theorem wiredLine_sleeps (h : Powered s) (hk : Pressing l a m s) (hs : s.pnp.power = .standby) (h1 : a ≠ .wake)
    (h2 : a ≠ .lampOn) : ∃ t, exec (.wiredLineChange l true) s = .next t ∧ (t.rmi.line l).pressedChg = true
      ∧ t.pnp.power = (if s.rmi.cfg.wakeAny then .run else .standby) := by
  have hcfg : (pressedAsleep l a m s).rmi.cfg = s.rmi.cfg := (Rmi.setLine_fields ..).2.2.2.2
  have hline : ((pressedAsleep l a m s).rmi.line l).pressedChg = true := by
    have hset : (pressedAsleep l a m s).rmi.line l
      = ⟨true, true, (s.rmi.line l).releasedChg, some ⟨a, m, 0, true⟩, .watched⟩ :=
      (Rmi.line_setLine ..).trans (if_pos rfl)
    rw [hset]
  refine ⟨_, wiredLine_standby h hs hk, ?_⟩
  rw [standbyKey_other h1 h2, hcfg]
  simp only [finish_frame]
  cases s.rmi.cfg.wakeAny with
  | false => exact ⟨hline, hs⟩
  | true =>
    obtain ⟨hpower, hrmi, -⟩ := wakeUp_standby (s := pressedAsleep l a m s) (.inl hs)
    simp only [if_true, hrmi]
    exact ⟨hline, hpower⟩

theorem wiredLine_reports_asleep (h : Powered s) (hs : s.pnp.power = .standby) (hk : Pressing l .report m s)
    (hw : s.rmi.cfg.wakeAny = false) :
    exec (.wiredLineChange l true) s = .next (finish (pressedAsleep l .report m s)) := by
  have hcfg : (pressedAsleep l .report m s).rmi.cfg = s.rmi.cfg := (Rmi.setLine_fields ..).2.2.2.2
  rw [wiredLine_standby h hs hk, standbyKey_other (a := .report) nofun nofun, hcfg, if_neg (Bool.eq_false_iff.mp hw)]

/-- WAKE wakes the part from both standby states. -/
theorem wiredLine_wakes (h : Powered s) (hk : Pressing l .wake m s)
    (hs : s.pnp.power = .standby ∨ s.pnp.power = .standbyPending) :
    ∃ t, exec (.wiredLineChange l true) s = .next t ∧ t.pnp.power = .run ∧ t.pnp.event = .woken
      ∧ t.pnp.pend.power = true := by
  have wakes {u : State} (hu : u.pnp.power = .standby ∨ u.pnp.power = .standbyPending) :
      (finish (wakeUp u)).pnp.power = .run ∧ (finish (wakeUp u)).pnp.event = .woken
        ∧ (finish (wakeUp u)).pnp.pend.power = true := by
    obtain ⟨hpower, hevent, hpend, -⟩ := wakeUp_pnp hu
    rw [(finish_pend _).1]
    simp only [finish_frame]
    exact ⟨hpower, hevent, hpend⟩
  rcases hs with hs | hs
  · exact ⟨_, wiredLine_standby h hs hk, wakes (u := pressedAsleep l .wake m s) (.inl hs)⟩
  · exact ⟨_, wiredLine_fires ⟨h, .inr hs⟩ hk, wakes (u := pressedLine l .wake m s) (.inr hs)⟩

/-! ## A refused request -/

theorem fireKey_disabled {c : ReqClass} {k : Nat} (ha : (a, c) ∈ [(KeyAction.advance, ReqClass.transport),
    (.reverse, .transport), (.home, .transport), (.clearJam, .transport), (.lampOn, .lamp), (.lampOff, .lamp),
    (.hold, .shows), (.resume, .shows), (.showStart, .shows), (.showStop, .shows), (.nextStep, .shows),
    (.standby, .power)]) (hc : classOk .remote c s = false) : fireKey a m k s = countRefusal .remote s := by
  simp only [List.mem_cons, Prod.mk.injEq, List.not_mem_nil, or_false] at ha
  rcases ha with ⟨rfl, rfl⟩ | ⟨rfl, rfl⟩ | ⟨rfl, rfl⟩ | ⟨rfl, rfl⟩ | ⟨rfl, rfl⟩ | ⟨rfl, rfl⟩ | ⟨rfl, rfl⟩ | ⟨rfl, rfl⟩
    | ⟨rfl, rfl⟩ | ⟨rfl, rfl⟩ | ⟨rfl, rfl⟩ | ⟨rfl, rfl⟩
  · exact remoteChange_disabled hc ..
  · exact remoteChange_disabled hc ..
  · exact remoteChange_disabled hc ..
  all_goals exact remoteRequest_disabled hc _

theorem wiredLine_refused (h : Awake s) (hk : Pressing l a m s) (ha : a = .advance ∨ a = .home)
    (hc : classOk .remote .transport s = false) :
    ∃ t, exec (.wiredLineChange l true) s = .next t
      ∧ t.sar.last.remote = { s.sar.last.remote with refusals := min 255 (s.sar.last.remote.refusals + 1) }
      ∧ (t.rmi.line l).pressedChg = true ∧ (t.rmi.line l).pressed = true ∧ t.csq = s.csq ∧ t.tru = s.tru := by
  have hfire : fireKey a m (lineCode l) (pressedLine l a m s) = countRefusal .remote (pressedLine l a m s) := by
    refine fireKey_disabled (c := .transport) ?_ hc
    rcases ha with rfl | rfl <;> decide
  refine ⟨_, wiredLine_of_fire h hk (hfire.trans (countRefusal_remote _)), ?_⟩
  simp only [finish_frame, pressedLine_line]
  exact ⟨rfl, trivial, trivial, rfl, rfl⟩

/-! ## Digits and focus ends -/

theorem focusEndStop_eq (h : Powered s) (a b : Bool) : exec (.focusEndStop a b) s = .next (finish { s with
    pins := { s.pins with fsi := a, fso := b }
    rmi := { s.rmi with focus := if (a = true ∧ s.outputs.fci = true) ∨ (b = true ∧ s.outputs.fco = true) then
      .stopped else s.rmi.focus } }) := by
  obtain ⟨hin, hout⟩ := outputs_focus h
  rw [hin, hout]
  refine runPin_of_eq h ?_
  unfold endStop
  simp only [Bool.or_eq_true, Bool.and_eq_true]
  split <;> rfl

theorem outputs_focus_run {d : Bool} {e : FocusEnd} {n : Nat} (h : Powered s) (hf : s.rmi.focus = .run d e n) :
    s.outputs.fci = d ∧ s.outputs.fco = !d := by
  obtain ⟨hin, hout⟩ := outputs_focus h
  rw [hin, hout, hf]
  cases d <;> exact ⟨rfl, rfl⟩

theorem outputs_focus_stopped (hf : s.rmi.focus = .stopped) : s.outputs.fci = false ∧ s.outputs.fco = false := by
  cases hp : s.pins.porstLow with
  | true =>
    rw [outputs_low hp]
    exact ⟨rfl, rfl⟩
  | false =>
    obtain ⟨hin, hout⟩ := outputs_focus hp
    rw [hin, hout, hf]
    exact ⟨rfl, rfl⟩

theorem digitKey_none (hd : s.rmi.digit = none) (d : Nat) :
    digitKey d s = setDigit (some d) s ∧ enterKey s = s := by
  simp [digitKey, enterKey, hd]

theorem digitKey_some {e : Nat} (hd : s.rmi.digit = some e) (d : Nat) :
    digitKey d s = remoteChange .seek (10 * e + d) (setDigit none s)
      ∧ enterKey s = remoteChange .seek e (setDigit none s) := by
  simp [digitKey, enterKey, hd]

end

/-- Settles O49: the readings of a line (`wiredLine_first`, `wiredLine_same`, `wiredLine_release`), the press that fires
the key's action (`wiredLine_fires`) and each action where its request is taken (`fireKey_lampOn` and the others). -/
theorem linesKeysDigitsAndFocusEnds : Obligations.LinesKeysDigitsAndFocusEnds := by
  refine ⟨fun s l v h hs => wiredLine_unwatched h hs, fun s l v h hr ht hread hv => wiredLine_same h hr ht hread hv,
    fun s l v n h hr ht hread => wiredLine_first h hr ht hread, fun n => ⟨rfl, rfl, rfl⟩,
    fun s l m h ht hp hread he => (wiredLine_fires h ⟨ht, hp, hread, he⟩).trans rfl,
    fun s l m h hs ht hp hread he hw => wiredLine_reports_asleep h hs ⟨ht, hp, hread, he⟩ hw,
    fun s l h hr ht hp hread => wiredLine_release h hr ht hp hread, fun s l m h ht hp hread he hc => ?_,
    fun s k p h hp hs h1 h2 ha => keyRepeat_reports h hp hs h1 h2 ha,
    fun s k p h hp hs => run_of_eq h (keyRepeat_still hp hs), fun s k h hp => run_of_eq h (by simp only [keyRepeat, hp]),
    fun s l a m h hk => wiredLine_fires h hk, fun s m k => ⟨rfl, rfl, rfl, rfl⟩,
    fun s a m k c ha hc => (fireKey_disabled ha hc).trans (countRefusal_remote s),
    fun s l d m h hk hstop => wiredLine_focus_runs h hk hstop,
    fun s l d m h hk hstop => wiredLine_focus_barred h hk hstop, fun s l m h hr hk hc hl ht hh hd => ?_,
    fun s l m h hk hc hl => ?_, fun s l m h hk hc => ?_, fun s l m h hk hc => ?_,
    fun s l m h hr hk hc hp hcause hd => ?_, fun s l m h hk hc => ?_, fun s l m h hk hc hp hq => ?_,
    fun s l m h hk hc hp => ?_, fun s l m h hk hc hs hp => ?_, fun s l m h hk hs => wiredLine_wakes h hk hs,
    fun s l a m h hk hs h1 h2 => wiredLine_sleeps h hk hs h1 h2, fun s l m h hk hs => ?_,
    fun s l m q h hr hk hc hroute hpresent hpos horphan hres hlo hhi hidle hheld hwait =>
      wiredLine_advances h hr hk hc hroute hpresent hpos horphan hres hlo hhi hidle hheld hwait,
    fun s k n p h hp hs hm => run_of_eq h (keyRepeat_fires hp hs hm),
    fun s k n c q r p f u h hp hs hm ha hc hroute hpresent hpos horphan hf hactive hw hlt hres hsum hqlo hqhi hrlo hrhi =>
      keyRepeat_merges h hp hs hm ha hc hroute hpresent hpos horphan hf hactive hw hlt hres hsum hqlo hqhi hrlo hrhi,
    fun s h => quiet_powered h, fun s d k m hd => digitKey_none hd d, fun s d e k m hd => digitKey_some hd d,
    fun s a b h => focusEndStop_eq h a b, fun s d t n h hf => ?_, fun s d k n h hf => ?_, fun s h => quiet_powered h,
    fun s d e n h hf => outputs_focus_run h hf, fun s hf => outputs_focus_stopped hf⟩
  · rcases he with he | he
    · exact wiredLine_refused h ⟨ht, hp, hread, he⟩ (.inl rfl) hc
    · exact wiredLine_refused h ⟨ht, hp, hread, he⟩ (.inr rfl) hc
  · have hfire := fireKey_lampOn (s := pressedLine l .lampOn m s) m (lineCode l) hr hc hl ht hh hd
    refine ⟨_, wiredLine_of_fire ⟨h, .inl hr⟩ hk hfire, ?_⟩
    simp only [finish_frame]
    exact ⟨rfl, rfl⟩
  · obtain ⟨hlamp, hout⟩ := fireKey_lampOff (s := pressedLine l .lampOff m s) m (lineCode l) hc hl
    refine ⟨_, wiredLine_fires h hk, ?_⟩
    rw [finish_output]
    simp only [finish_frame]
    exact ⟨hlamp, hout⟩
  · refine ⟨_, wiredLine_fires h hk, ?_⟩
    simp only [finish_frame]
    exact fireKey_hold (s := pressedLine l .hold m s) m (lineCode l) (power_ne_reset (s := s) h) hc
  · refine ⟨_, wiredLine_fires h hk, ?_⟩
    simp only [finish_frame]
    exact fireKey_resume (s := pressedLine l .resume m s) m (lineCode l) hc
  · obtain ⟨hphase, hqueue, hclock, hdeck⟩ :=
      fireKey_showStart (s := pressedLine l .showStart m s) m (lineCode l) hr hc hp hcause hd
    refine ⟨_, wiredLine_fires ⟨h, .inl hr⟩ hk, ?_⟩
    simp only [finish_frame]
    exact ⟨hphase, hqueue, hclock, fun hs hrun => hdeck hs ((Pins.setLine_fields ..).2.2.2.2.1.trans hrun)⟩
  · refine ⟨_, wiredLine_fires h hk, ?_⟩
    simp only [finish_frame]
    exact fireKey_showStop (s := pressedLine l .showStop m s) m (lineCode l) hc
  · have hfire := fireKey_nextStep (s := pressedLine l .nextStep m s) m (lineCode l) hc hp hq
    refine ⟨_, wiredLine_of_fire h hk hfire, ?_⟩
    simp only [finish_frame]
    rfl
  · refine ⟨_, wiredLine_fires h hk, ?_⟩
    simp only [finish_frame]
    exact fireKey_standby (s := pressedLine l .standby m s) m (lineCode l) h.2 hc hp
  · refine ⟨_, wiredLine_fires h hk, ?_⟩
    simp only [finish_frame]
    exact fireKey_clearJam (s := pressedLine l .clearJam m s) m (lineCode l) (power_ne_reset (s := s) h) hc hs
      ((Pins.setLine_fields ..).2.2.2.1.trans hp)
  · obtain ⟨hpower, hrefusals⟩ := standbyKey_lampOn (s := pressedAsleep l .lampOn m s) hs
    refine ⟨_, wiredLine_standby h hs hk, ?_⟩
    simp only [finish_frame]
    exact ⟨hpower, hrefusals⟩
  · have htimed : s.rmi.focus.isTimed = true := by
      rw [hf]
      rfl
    exact quiet_of_eq h (if_pos htimed)
  · have htimed : s.rmi.focus.isTimed = false := by
      rw [hf]
      rfl
    exact quiet_of_eq h (if_neg (Bool.eq_false_iff.mp htimed))

end Sys2Proof.Machine
end

section
/-! Infra-red frames through the receiver, and the keys that they press (09 R153, R154). -/

namespace Sys2Proof.Machine
open Sys2Proof

/-! ## The key that a frame carries -/

theorem bitsNat_nibble : ∀ c < 16, bitsNat ((List.range 4).map (Nat.testBit c)) = c := by decide

theorem bitsNat_six : ∀ k < 64, bitsNat ((List.range 6).map (Nat.testBit k)) = k := by decide

theorem irCode_fields (c k : Nat) : (irCode c k).take 4 = (List.range 4).map (Nat.testBit c)
    ∧ ((irCode c k).drop 4).take 6 = (List.range 6).map (Nat.testBit k)
    ∧ (irCode c k).drop 10 = (List.range 6).map (Nat.testBit (63 - k)) := ⟨rfl, rfl, rfl⟩

theorem irKey_irCode {c k : Nat} (hc : c < 16) (hk : k < 64) (ch : Option Nat) :
    irKey ch (irCode c k) = if k < 60 ∧ (ch = none ∨ ch = some c) then some k else none := by
  obtain ⟨hch, hkey, hcheck⟩ := irCode_fields c k
  unfold irKey
  rw [hch, hkey, hcheck, bitsNat_nibble c hc, bitsNat_six k hk, bitsNat_six (63 - k) (by omega)]
  simp only [true_and, and_comm]

theorem irKey_lt {ch : Option Nat} {bits : List Bool} {k : Nat} (h : irKey ch bits = some k) : k < 60 := by
  unfold irKey at h
  dsimp only at h
  split at h
  · next hc =>
    cases h
    exact hc.2.2
  · exact nomatch h

/-! ## Marks and spaces -/

/-- The receiver alone moves. -/
def setIrRx (x : IrRx) (s : State) : State := setRmi (fun r => { r with irRx := x }) s

/-- The receiver with the bits gathered so far. -/
def gathered (got : List Bool) : IrRx := if got.length < 16 then .bits got false else .trailer got

section
variable {s : State}

theorem irWalk_none {x y : IrRx} {p : IrPulse} (h : irStep x p = (y, .none)) (ps : List IrPulse) :
    irWalk (p :: ps) (setIrRx x s) = irWalk ps (setIrRx y s) := by
  change irWalk ps (irTake (irStep x p).2 (setIrRx (irStep x p).1 s)) = _
  rw [h]
  rfl

theorem irWalk_last {x y : IrRx} {p : IrPulse} {e : IrEvent} (h : irStep x p = (y, e)) :
    irWalk [p] (setIrRx x s) = irTake e (setIrRx y s) := by
  change irTake (irStep x p).2 (setIrRx (irStep x p).1 s) = _
  rw [h]

theorem irStep_bit {got : List Bool} (h : got.length < 16) {g : Nat} {b : Bool}
    (hg : (if b then longSpace g else shortPulse g) = true) :
    irStep (.bits got true) (.space g) = (gathered (got ++ [b]), .none) := by
  have hgather : gather got b = gathered (got ++ [b]) := by
    simp only [gather, gathered, List.length_append, List.length_singleton]
    split <;> split <;> first | rfl | omega
  rw [← hgather]
  cases b with
  | false => exact if_pos hg
  | true =>
    have hshort : ¬ shortPulse g = true := by
      simp only [longSpace, shortPulse, within, if_true, Bool.and_eq_true, decide_eq_true_eq] at hg ⊢
      omega
    exact (if_neg hshort).trans (if_pos hg)

/-- Bit marks and spaces and the trailer complete the frame of their bits. -/
theorem irWalk_tail : ∀ {bits : List Bool} {ps : List IrPulse} {got : List Bool}, irTail bits ps = true →
    got.length + bits.length = 16 →
    irWalk ps (setIrRx (gathered got) s) = irTake (.frame (got ++ bits)) (setIrRx .waitLeader s)
  | [], [.mark t], got, h, hlen => by
    have hfull : gathered got = .trailer got := if_neg (by simp at hlen; omega)
    rw [hfull, List.append_nil]
    exact irWalk_last (if_pos h)
  | b :: bs, .mark m :: .space g :: ps, got, h, hlen => by
    simp only [irTail, Bool.and_eq_true] at h
    obtain ⟨⟨hm, hg⟩, hrest⟩ := h
    have hlt : got.length < 16 := by simp at hlen; omega
    have hopen : gathered got = .bits got false := if_pos hlt
    have hmark : irStep (.bits got false) (.mark m) = (.bits got true, .none) := if_pos hm
    rw [hopen, irWalk_none hmark, irWalk_none (irStep_bit hlt hg), irWalk_tail hrest (by simp at hlen ⊢; omega),
      List.append_assoc]
    rfl

/-- A frame of 16 bits, from its leader mark on. -/
theorem irWalk_spells {bits : List Bool} {ps : List IrPulse} (h : irSpells bits ps = true) (hlen : bits.length = 16)
    (hrx : s.rmi.irRx = .waitLeader) : irWalk ps s = irTake (.frame bits) s := by
  have hwait : setIrRx .waitLeader s = s := by
    rw [setIrRx, setRmi, ← hrx]
  unfold irSpells at h
  split at h
  · next m g rest =>
    simp only [Bool.and_eq_true] at h
    obtain ⟨⟨hm, hg⟩, htail⟩ := h
    have hleader : irStep .waitLeader (.mark m) = (.leaderSpace, .none) := by
      simp only [irStep, if_pos hm]
    have hspace : irStep .leaderSpace (.space g) = (gathered [], .none) := if_pos hg
    conv => lhs; rw [← hwait]
    rw [irWalk_none hleader, irWalk_none hspace, irWalk_tail htail (by simpa using hlen), hwait, List.nil_append]
  · exact absurd h Bool.false_ne_true

theorem irSignal_on (hr : s.pnp.power ≠ .resetHeld) (ht : s.rmi.test = false) (ps : List IrPulse) :
    irSignal ps s = irWalk ps s := if_neg (by simp [hr, ht])

theorem irDrop_eq (s : State) : irDrop s = { s with rmi := { s.rmi with irDrops := min 255 (s.rmi.irDrops + 1) } } := by
  have hinc : satInc 255 s.rmi.irDrops = min 255 (s.rmi.irDrops + 1) := by
    unfold satInc
    split <;> omega
  rw [← hinc]
  rfl

theorem irTake_frame {bits : List Bool} {k : Nat} (h : irKey s.rmi.cfg.channel bits = some k) :
    irTake (.frame bits) s = irPressed k s := by
  simp only [irTake, h]

theorem irTake_dropped {bits : List Bool} (h : irKey s.rmi.cfg.channel bits = none) :
    irTake (.frame bits) s = irDrop s := by
  simp only [irTake, h]

/-- A key that the remote reports, pressed with no key held. -/
theorem irPressed_reports {k : Nat} {m : RepeatMode} (h : Awake s) (hk : k < 60) (hh : s.rmi.irHeld = none)
    (he : s.rmi.entry k = ⟨.report, m⟩) : irPressed k s = { s with
      rmi := { s.rmi with irHeld := some k, irReleaseMs := 0, irPress := some ⟨.report, m, 0, false⟩,
                          lastKey := some k, unread := true } } := by
  have hc : Counting s := h.2
  have hpress : irPressed k s = pressKey k (setRmi (fun r => { r with irHeld := some k, irReleaseMs := 0 }) s) := by
    simp only [irPressed, hh]
  have hentry : (setRmi (fun r => { r with irHeld := some k, irReleaseMs := 0 }) s).rmi.entry k = ⟨.report, m⟩ := he
  rw [hpress, pressKey_awake (s := setRmi _ s) hc.ne_standby, hentry, setPress_ir hk]
  rfl

theorem irPressed_again {k : Nat} (hh : s.rmi.irHeld = some k) :
    irPressed k s = { s with rmi := { s.rmi with irReleaseMs := 0 } } := by
  unfold irPressed
  split
  · next hn => exact nomatch hn.symm.trans hh
  · next k' hk' => exact if_pos (Option.some.inj (hk'.symm.trans hh))

theorem irReleaseTimeout_injected (h : Powered s) (hi : s.rmi.injected = true) :
    exec .irReleaseTimeout s = .next (finish s) := by
  change execIrReleaseTimeout s = _
  rw [execIrReleaseTimeout, run_powered h, if_pos hi]

theorem irReleaseTimeout_releases (h : Powered s) (hi : s.rmi.injected = false) :
    exec .irReleaseTimeout s = .next (finish (irReleased s)) := by
  change execIrReleaseTimeout s = _
  rw [execIrReleaseTimeout, run_powered h, if_neg (Bool.eq_false_iff.mp hi)]

/-- The three instructions of the receiver carry marks and spaces. -/
theorem exec_irFrame {t : State} {ps : List IrPulse} (h : Powered s) (ht : irSignal ps s = t) :
    exec (.irFrame ps) s = .next (finish t) ∧ exec (.irRepeat ps) s = .next (finish t)
      ∧ exec (.irFrameDrop ps) s = .next (finish t) := ⟨run_of_eq h ht, run_of_eq h ht, run_of_eq h ht⟩

/-- A leader mark, a space of a repeat frame and a trailer keep the held key (09 R154). -/
theorem irWalk_repeat {a g t : Nat} (hrx : s.rmi.irRx = .waitLeader) (ha : leaderMark a = true)
    (hlong : longSpace g = false) (hg : within 1800 3000 g = true) (ht : shortPulse t = true) :
    irWalk [.mark a, .space g, .mark t] s = irTake .again s := by
  have hwait : setIrRx .waitLeader s = s := by
    rw [setIrRx, setRmi, ← hrx]
  have hleader : irStep .waitLeader (.mark a) = (.leaderSpace, .none) := by
    simp only [irStep, if_pos ha]
  have hspace : irStep .leaderSpace (.space g) = (.repeatMark, .none) :=
    (if_neg (Bool.eq_false_iff.mp hlong)).trans (if_pos hg)
  have hmark : irStep .repeatMark (.mark t) = (.waitLeader, .again) := if_pos ht
  conv => lhs; rw [← hwait]
  rw [irWalk_none hleader, irWalk_none hspace, irWalk_last hmark, hwait]

theorem irTake_again (s : State) : irTake .again s
    = { s with rmi := { s.rmi with irReleaseMs := if s.rmi.irHeld = none then s.rmi.irReleaseMs else 0 } } := by
  by_cases h : s.rmi.irHeld = none
  · rw [if_pos h]
    exact if_pos h
  · rw [if_neg h]
    exact if_neg h

/-- A space after the leader mark that neither a frame nor a repeat has is dropped. -/
theorem irWalk_broken {a g : Nat} (hrx : s.rmi.irRx = .waitLeader) (ha : leaderMark a = true)
    (hlong : longSpace g = false) (hg : within 1800 3000 g = false) :
    irWalk [.mark a, .space g] s = irDrop s := by
  have hwait : setIrRx .waitLeader s = s := by
    rw [setIrRx, setRmi, ← hrx]
  have hleader : irStep .waitLeader (.mark a) = (.leaderSpace, .none) := by
    simp only [irStep, if_pos ha]
  have hspace : irStep .leaderSpace (.space g) = (.waitLeader, .drop) :=
    (if_neg (Bool.eq_false_iff.mp hlong)).trans (if_neg (Bool.eq_false_iff.mp hg))
  conv => lhs; rw [← hwait]
  rw [irWalk_none hleader, irWalk_last hspace, hwait]
  rfl

theorem within_iff (lo hi us : Nat) : within lo hi us = true ↔ lo ≤ us ∧ us ≤ hi := by
  simp [within]

theorem within_eq_false_iff (lo hi us : Nat) : within lo hi us = false ↔ us < lo ∨ hi < us := by
  rw [Bool.eq_false_iff, ne_eq, within_iff]
  omega

end

/-- Settles O50: the receiver gathers the bits of a frame (`irWalk_spells`), whose key is Table 9.2's (`irKey_irCode`),
and presses, keeps or drops. -/
theorem infraRedFramesPressTheirKey : Obligations.InfraRedFramesPressTheirKey := by
  refine ⟨fun c k hc hk ch => irKey_irCode hc hk ch, fun s qs h hs => exec_irFrame h (if_pos hs),
    fun s bits ps k m h ht hrx hps hlen hkey hh he => ?_, fun s bits ps k h hr ht hrx hps hlen hkey hh => ?_,
    fun s bits ps h hr ht hrx hps hlen hkey => ?_, fun s a g t h hr ht hrx ha1 ha2 hg1 hg2 ht1 ht2 => ?_,
    fun s a g h hr ht hrx ha1 ha2 hg => ?_, fun s k h hh hk hi => ?_, fun s h hs => ?_⟩
  · have hsignal := (irSignal_on (power_ne_reset h) ht ps).trans (irWalk_spells hps hlen hrx)
    rw [irTake_frame hkey, irPressed_reports h (irKey_lt hkey) hh he] at hsignal
    exact (exec_irFrame h.1 hsignal).1
  · have hsignal := (irSignal_on hr ht ps).trans (irWalk_spells hps hlen hrx)
    rw [irTake_frame hkey, irPressed_again hh] at hsignal
    exact (exec_irFrame h hsignal).1
  · have hsignal := (irSignal_on hr ht ps).trans (irWalk_spells hps hlen hrx)
    rw [irTake_dropped hkey, irDrop_eq] at hsignal
    exact (exec_irFrame h hsignal).2.2
  · have hwalk := irWalk_repeat hrx ((within_iff ..).mpr ⟨ha1, ha2⟩) ((within_eq_false_iff 900 1500 g).mpr (by omega))
      ((within_iff ..).mpr ⟨hg1, hg2⟩) ((within_iff ..).mpr ⟨ht1, ht2⟩)
    exact (exec_irFrame h ((irSignal_on hr ht _).trans (hwalk.trans (irTake_again s)))).2.1
  · have hwalk := irWalk_broken hrx ((within_iff ..).mpr ⟨ha1, ha2⟩) ((within_eq_false_iff 900 1500 g).mpr (by omega))
      ((within_eq_false_iff ..).mpr (by omega))
    exact (exec_irFrame h ((irSignal_on hr ht _).trans (hwalk.trans (irDrop_eq s)))).2.2
  · have hrelease := irReleased_key hh hk
    rw [← hi] at hrelease
    rw [irReleaseTimeout_releases h hi, hrelease]
  · cases hi : s.rmi.injected with
    | true => exact irReleaseTimeout_injected h hi
    | false =>
      have hh : s.rmi.irHeld = none := hs.resolve_right (Bool.eq_false_iff.mp hi)
      rw [irReleaseTimeout_releases h hi, irReleased_none hh]

end Sys2Proof.Machine
end

section
/-! What the link's receiver does with characters and with whole frames (10 R165 to R168, R170, R174, R176). -/

namespace Sys2Proof.Machine
open Sys2Proof

/-! ## Sound frames -/

theorem linkDest_isSome_iff (d : Byte) : (LinkDest.ofByte d).isSome = true ↔
    ((d.toNat / 64 = 0 ∧ d.toNat % 16 ≤ 14) ∨ (d.toNat / 64 = 1 ∧ 1 ≤ d.toNat % 16 ∧ d.toNat % 16 ≤ 8)
      ∨ d.toNat / 64 = 2) := by
  have hlt : d.toNat / 64 < 4 := by omega
  rw [← Option.ne_none_iff_isSome, ne_eq, linkDest_ofByte_none_iff]
  omega

/-- The kind, the length and the payload values that go together (Table 10.4). -/
theorem kindOk_iff (k : Nat) (p : List Byte) :
    kindLengthOk k p.length = true ∧ kindPayloadOk k p = true ↔
      ((k = 1 ∧ ∃ a b c, p = [a, b, c] ∧ 1 ≤ a.toNat ∧ a.toNat ≤ 4)
        ∨ (k = 2 ∧ p.length = 2)
        ∨ (k = 3 ∧ (p = [0] ∨ p = [1]))
        ∨ ((k = 4 ∨ k = 5 ∨ k = 7 ∨ k = 10 ∨ k = 11) ∧ p = [])
        ∨ (k = 6 ∧ ∃ a, p = [a] ∧ 1 ≤ a.toNat ∧ a.toNat ≤ 254)
        ∨ (k = 8 ∧ p.length = 5)
        ∨ (k = 9 ∧ p.length ≤ 8)) := by
  have lamp (a : Byte) : a.toNat ≤ 1 ↔ a = 0 ∨ a = 1 := by
    simp only [BitVec.toNat_eq, BitVec.reduceToNat]
    omega
  have empty : p.length = 0 ↔ p = [] := List.length_eq_zero_iff
  unfold kindLengthOk kindPayloadOk
  split <;> simp_all [List.length_eq_three, List.length_eq_one_iff]
  case h_1 =>
    constructor
    · rintro ⟨⟨a, b, c, rfl⟩, ha⟩
      exact ⟨a, ⟨b, c, rfl⟩, ha⟩
    · rintro ⟨a, ⟨b, c, rfl⟩, ha⟩
      exact ⟨⟨a, b, c, rfl⟩, ha⟩
  case h_3 =>
    constructor
    · rintro ⟨⟨a, rfl⟩, ha⟩
      simpa using ha
    · rintro (rfl | rfl) <;> simp
  case h_9 =>
    constructor
    · rintro ⟨⟨a, rfl⟩, ha⟩
      exact ⟨a, rfl, ha⟩
    · rintro ⟨a, rfl, ha⟩
      exact ⟨⟨a, rfl⟩, ha⟩

theorem byte_eq_iff (k : Byte) {n : Nat} (h : n < 256) : k = BitVec.ofNat 8 n ↔ k.toNat = n := by
  rw [BitVec.toNat_eq, BitVec.toNat_ofNat, Nat.mod_eq_of_lt h]

theorem frameOk_iff (d k : Byte) (p : List Byte) : frameOk d k p = true ↔
    ((d.toNat / 64 = 0 ∧ d.toNat % 16 ≤ 14) ∨ (d.toNat / 64 = 1 ∧ 1 ≤ d.toNat % 16 ∧ d.toNat % 16 ≤ 8)
      ∨ d.toNat / 64 = 2)
    ∧ ((k = 1 ∧ ∃ a b c, p = [a, b, c] ∧ 1 ≤ a.toNat ∧ a.toNat ≤ 4)
      ∨ (k = 2 ∧ p.length = 2)
      ∨ (k = 3 ∧ (p = [0] ∨ p = [1]))
      ∨ ((k = 4 ∨ k = 5 ∨ k = 7 ∨ k = 10 ∨ k = 11) ∧ p = [])
      ∨ (k = 6 ∧ ∃ a, p = [a] ∧ 1 ≤ a.toNat ∧ a.toNat ≤ 254)
      ∨ (k = 8 ∧ p.length = 5)
      ∨ (k = 9 ∧ p.length ≤ 8)) := by
  rw [frameOk, Bool.and_eq_true, Bool.and_eq_true, and_assoc, linkDest_isSome_iff, kindOk_iff]
  simp only [BitVec.toNat_eq, BitVec.reduceToNat]

/-! ## Bytes that give no frame -/

theorem parse_none_of {bs : List Byte} (h : ∀ f, LinkFrame.parse bs ≠ some f) : LinkFrame.parse bs = none :=
  Option.eq_none_iff_forall_ne_some.mpr h

theorem parse_sum {bs : List Byte} (h : bs.sum ≠ 0) : LinkFrame.parse bs = none := by
  refine parse_none_of fun f hf => ?_
  obtain ⟨head, check, -, hsum, -⟩ := (LinkFrame.parse_eq_some_iff bs f).mp hf
  exact h hsum

theorem parse_length {bs : List Byte} (h : bs.length ≠ 6 + (bs.getD 4 0).toNat) : LinkFrame.parse bs = none := by
  refine parse_none_of fun f hf => ?_
  obtain ⟨head, check, rfl, -, hlen, -⟩ := (LinkFrame.parse_eq_some_iff _ f).mp hf
  have hn : (b8 f.payload.length).toNat = f.payload.length := b8_toNat (by omega)
  refine h ?_
  simp [hn]
  omega

theorem parse_lead {bs : List Byte} {lead : Byte} (h : lead ≠ 0x7E) : LinkFrame.parse (lead :: bs) = none := by
  refine parse_none_of fun f hf => ?_
  obtain ⟨head, check, hbs, -⟩ := (LinkFrame.parse_eq_some_iff _ f).mp hf
  exact h (List.cons.inj hbs).1

/-! ## Characters -/

section
variable {s : State}

theorem hearsLine_hearing (h : Hearing s) : hearsLine s = true := by
  obtain ⟨-, hen, hpow, hloop, hacc⟩ := h
  simp [hearsLine, State.linkOn, hen, hpow, hloop, hacc]

theorem lineBusy_hears (h : Hearing s) (c : Byte) (b : Bool) :
    exec (.lineBusy c b) s = .next (finish (hearChar c b s)) := by
  change execLineBusy s c b = _
  rw [execLineBusy, run_powered h.1, if_pos (hearsLine_hearing h)]

theorem lineBusy_going {c : Byte} {b : Bool} {x : LinkRx} (h : Hearing s) (hg : s.lkc.rx.gather c b = .going x) :
    exec (.lineBusy c b) s = .next (finish { s with lkc := { s.lkc.busy 3 with rx := x } }) := by
  rw [lineBusy_hears h, hearChar, hg]
  rfl

theorem lineBusy_bad {c : Byte} {b : Bool} (h : Hearing s) (hg : s.lkc.rx.gather c b = .bad) :
    exec (.lineBusy c b) s = .next (finish { s with lkc := { s.lkc.busy 3 with rx := .waitIdle, rxError := true } }) := by
  rw [lineBusy_hears h, hearChar, hg]
  rfl

theorem lineBusy_whole {c : Byte} {b : Bool} {bs : List Byte} (h : Hearing s) (hg : s.lkc.rx.gather c b = .whole bs) :
    exec (.lineBusy c b) s = .next (finish (setLkc (·.busy 3) (takeBytes bs s))) := by
  rw [lineBusy_hears h, hearChar, hg]

theorem gather_goes {got : List Byte} {c : Byte} (h : got.length < 4
    ∨ ((got ++ [c]).getD 4 0).toNat ≤ 8 ∧ got.length < 5 + ((got ++ [c]).getD 4 0).toNat) :
    (LinkRx.inFrame got).gather c true = .going (.inFrame (got ++ [c])) := by
  have hlen : (got ++ [c]).length = got.length + 1 := List.length_append
  simp only [LinkRx.gather, Bool.true_eq_false, if_false, hlen]
  by_cases h4 : got.length < 4
  · rw [if_pos (by omega)]
  · obtain ⟨hn, hlt⟩ := h.resolve_left h4
    rw [if_neg (by omega), if_neg (by omega), if_pos (by omega)]

theorem gather_overlong {got : List Byte} {c : Byte} (h : 4 ≤ got.length) (hn : 8 < ((got ++ [c]).getD 4 0).toNat) :
    (LinkRx.inFrame got).gather c true = .bad := by
  have hlen : (got ++ [c]).length = got.length + 1 := List.length_append
  simp only [LinkRx.gather, Bool.true_eq_false, if_false, hlen]
  rw [if_neg (by omega), if_pos hn]

theorem gather_completes {got : List Byte} {c : Byte} (h : 5 ≤ got.length)
    (hn : ((got ++ [c]).getD 4 0).toNat ≤ 8) (hlast : got.length = 5 + ((got ++ [c]).getD 4 0).toNat) :
    (LinkRx.inFrame got).gather c true = .whole (got ++ [c]) := by
  have hlen : (got ++ [c]).length = got.length + 1 := List.length_append
  simp only [LinkRx.gather, Bool.true_eq_false, if_false, hlen]
  rw [if_neg (by omega), if_neg (by omega), if_neg (by omega)]

theorem lineBusy_unsound {got : List Byte} {c : Byte} (h : Hearing s) (hrx : s.lkc.rx = .inFrame got)
    (h5 : 5 ≤ got.length) (hn : ((got ++ [c]).getD 4 0).toNat ≤ 8)
    (hlast : got.length = 5 + ((got ++ [c]).getD 4 0).toNat) (hparse : LinkFrame.parse (got ++ [c]) = none) :
    exec (.lineBusy c true) s = .next (finish { s with
      lkc := { s.lkc.busy 3 with rx := .waitIdle, rxError := true } }) := by
  rw [lineBusy_whole h (by rw [hrx]; exact gather_completes h5 hn hlast), takeBytes_bad hparse]
  rfl

theorem lineBusy_sound {got : List Byte} {c : Byte} {f : LinkFrame} (h : Hearing s) (hrx : s.lkc.rx = .inFrame got)
    (h5 : 5 ≤ got.length) (hlast : got.length = 5 + f.payload.length)
    (hparse : LinkFrame.parse (got ++ [c]) = some f) :
    exec (.lineBusy c true) s = .next (finish { takeFrame f s with lkc := (takeFrame f s).lkc.busy 3 }) := by
  obtain ⟨head, check, hbs, -, hlen, -⟩ := (LinkFrame.parse_eq_some_iff _ f).mp hparse
  have hcount : ((got ++ [c]).getD 4 0).toNat = f.payload.length := by
    rw [hbs]
    exact b8_toNat (by omega)
  rw [lineBusy_whole h (by rw [hrx]; exact gather_completes h5 (by omega) (by omega)), takeBytes_sound hparse]
  rfl

theorem becomeIdle_eq (l : Lkc) : l.becomeIdle = { l with
    lineIdle := true, idleInUs := 0, idleForUs := 0, rx := .waitLead
    rxError := l.rxError || decide (l.rx ≠ .waitIdle ∧ l.rx ≠ .waitLead)
    access := if l.access = .waitIdle then .waitSlots else l.access } := by
  unfold Lkc.becomeIdle
  cases l.rx <;> rfl

/-! ## Frames that a row brings whole -/

theorem hears_reaches {h : FrameHead} {k : Byte} {p : List Byte} (hr : Reaches h s) (hok : frameOk h.dest k p = true) :
    s.hears h k p = .other := by
  obtain ⟨⟨-, hen, hpow, hloop, hacc⟩, hrx, hlevel, hsrc, hne, haccepts⟩ := hr
  have hon : s.linkOn = true := by simp [State.linkOn, hen, hpow]
  unfold State.hears
  rw [if_neg (by simp [hon, hloop, hacc]), if_neg hrx,
    if_neg (by simp only [hok, Config.unassigned, Bool.true_eq_false, or_false]; omega), if_neg (by simp [haccepts]), if_neg hne]

theorem onFrame_reaches {h : FrameHead} {k : Byte} {p : List Byte} (hr : Reaches h s) (hok : frameOk h.dest k p = true)
    (f : State → State) : onFrame h k p f s = f (setLkc Lkc.frameTaken s) := by
  unfold onFrame
  rw [hears_reaches hr hok]

theorem onFrame_waitIdle {h : FrameHead} {k : Byte} {p : List Byte} (hh : Hearing s) (hrx : s.lkc.rx = .waitIdle)
    (f : State → State) : onFrame h k p f s = setLkc Lkc.frameTaken s := by
  obtain ⟨-, hen, hpow, hloop, hacc⟩ := hh
  have hon : s.linkOn = true := by simp [State.linkOn, hen, hpow]
  have hears : s.hears h k p = .dropped := by
    unfold State.hears
    rw [if_neg (by simp [hon, hloop, hacc]), if_pos hrx]
  unfold onFrame
  rw [hears]

theorem onFrame_own {h : FrameHead} {k : Byte} {p : List Byte} (hh : Hearing s) (hrx : s.lkc.rx ≠ .waitIdle)
    (hlevel : h.level ≤ 15) (hsrc : h.src ≤ 14) (hown : h.src = s.lkc.node) (haccepts : s.lkc.accepts h.dest = true)
    (hok : frameOk h.dest k p = true) (f : State → State) :
    onFrame h k p f s = setLkc (fun l => l.frameTaken.store ⟨h.src, h.dest, k, p⟩) s := by
  obtain ⟨-, hen, hpow, hloop, hacc⟩ := hh
  have hon : s.linkOn = true := by simp [State.linkOn, hen, hpow]
  have hears : s.hears h k p = .own := by
    unfold State.hears
    rw [if_neg (by simp [hon, hloop, hacc]), if_neg hrx,
      if_neg (by simp only [hok, Config.unassigned, Bool.true_eq_false, or_false]; omega), if_neg (by simp [haccepts]), if_pos hown]
  unfold onFrame
  rw [hears]

theorem store_joins {l : Lkc} (h : l.rxbuf.length < 4) (e : RxEntry) :
    l.store e = { l with rxbuf := l.rxbuf ++ [e] } := if_pos h

theorem store_overflows {l : Lkc} (h : 4 ≤ l.rxbuf.length) (e : RxEntry) :
    l.store e = { l with rxOverflow := true } := if_neg (Nat.not_lt.mpr h)

theorem unlessStandby_on {f : State → State} (h : s.pnp.power ≠ .standby) : unlessStandby f s = f s := if_neg h

theorem unlessStandby_off {f : State → State} (h : s.pnp.power = .standby) : unlessStandby f s = s := if_pos h

theorem dataFrame_reaches {h : FrameHead} {k : Byte} {p : List Byte} (hr : Reaches h s)
    (hk : k.toNat = 8 ∨ k.toNat = 9) (hok : frameOk h.dest k p = true) :
    dataFrame h k p s
      = unlessStandby (setLkc (·.store ⟨h.src, h.dest, k, p⟩)) (setLkc Lkc.frameTaken s) :=
  (if_pos hk).trans (onFrame_reaches hr hok _)

theorem notAccepted_dropped {h : FrameHead} (hh : Hearing s) (hsrc : h.src ≤ 14) (hdest : LinkDest.ofByte h.dest ≠ none)
    (hacc : s.lkc.accepts h.dest = false) : notAccepted h s = setLkc Lkc.frameTaken s := by
  obtain ⟨-, hen, hpow, hloop, hsend⟩ := hh
  have hon : s.linkOn = true := by simp [State.linkOn, hen, hpow]
  have hsome : (LinkDest.ofByte h.dest).isNone = false :=
    Option.isNone_eq_false_iff.mpr (Option.ne_none_iff_isSome.mp hdest)
  unfold notAccepted
  rw [if_neg (by simp [hon, hacc, hsome]), if_neg (by simp [hloop]),
    if_neg (by simp only [hsend, Config.unassigned, false_or]; omega)]

/-! ## Addresses -/

theorem accepts_node {l : Lkc} {n : Nat} (h : n ≤ 14) : l.accepts (b8 n) = true ↔ n = l.node := by
  have hbyte : (b8 n).toNat = n := b8_toNat (by omega)
  have hdest : LinkDest.ofByte (b8 n) = some (.node n) := by
    unfold LinkDest.ofByte
    rw [hbyte]
    have hdiv : n / 64 = 0 := by omega
    have hmod : n % 16 = n := by omega
    simp only [hdiv, hmod]
    exact if_pos h
  have hun : Config.unassigned = 15 := rfl
  simp only [Lkc.accepts, hdest, Bool.and_eq_true, decide_eq_true_eq]
  omega

theorem accepts_group {l : Lkc} {g : Nat} (h1 : 1 ≤ g) (h8 : g ≤ 8) :
    l.accepts (b8 (0x40 + g)) = true ↔ (l.groups.getLsbD (g - 1) = true ∧ l.node ≠ 15) := by
  have hbyte : (b8 (0x40 + g)).toNat = 0x40 + g := b8_toNat (by omega)
  have hdest : LinkDest.ofByte (b8 (0x40 + g)) = some (.group g) := by
    unfold LinkDest.ofByte
    rw [hbyte]
    have hdiv : (0x40 + g) / 64 = 1 := by omega
    have hmod : (0x40 + g) % 16 = g := by omega
    simp only [hdiv, hmod]
    exact if_pos ⟨h1, h8⟩
  simp only [Lkc.accepts, hdest, Bool.and_eq_true, decide_eq_true_eq]
  exact Iff.rfl

end

end Sys2Proof.Machine
end

section
/-! The obligation on the link's receiver. -/

namespace Sys2Proof.Machine
open Sys2Proof

section
variable {s : State}

theorem lineIdle_eq (h : Powered s) (hen : s.lkc.enable = true) (hpow : s.pnp.power ≠ .resetHeld)
    (hacc : s.lkc.access ≠ .sending) (hidle : s.lkc.lineIdle = false) :
    exec .lineIdle s = .next { s with lkc := s.lkc.becomeIdle } := by
  have hon : s.linkOn = true := by simp [State.linkOn, hen, hpow]
  exact quiet_of_eq h (if_pos ⟨hon, hacc, hidle⟩)

theorem badFrame_eq (h : Hearing s) : exec .badFrame s = .next { s with lkc := s.lkc.hearBad } :=
  quiet_of_eq h.1 (if_pos (hearsLine_hearing h))

theorem stateOrData_eq {h : FrameHead} {k : Byte} {p : List Byte} (hr : Reaches h s) (hk : k.toNat = 8 ∨ k.toNat = 9)
    (hok : frameOk h.dest k p = true) (hp : s.pnp.power ≠ .standby) :
    exec (.linkStateOrDataFrame h k p) s
      = .next { s with lkc := s.lkc.frameTaken.store ⟨h.src, h.dest, k, p⟩ } :=
  quiet_of_eq hr.1.1 ((dataFrame_reaches hr hk hok).trans (unlessStandby_on hp))

theorem stateOrData_standby {h : FrameHead} {k : Byte} {p : List Byte} (hr : Reaches h s)
    (hk : k.toNat = 8 ∨ k.toNat = 9) (hok : frameOk h.dest k p = true) (hp : s.pnp.power = .standby) :
    exec (.linkStateOrDataFrame h k p) s = .next { s with lkc := s.lkc.frameTaken } :=
  quiet_of_eq hr.1.1 ((dataFrame_reaches hr hk hok).trans (unlessStandby_off hp))

theorem ownAddress_eq {d k : Byte} {p : List Byte} (h : Hearing s) (hrx : s.lkc.rx ≠ .waitIdle) (hn : s.lkc.node ≤ 14)
    (hl : s.lkc.cfg.level ≤ 15) (hacc : s.lkc.accepts d = true) (hok : frameOk d k p = true) :
    exec (.ownAddressFrame d k p) s
      = .next { s with lkc := s.lkc.frameTaken.store ⟨s.lkc.node, d, k, p⟩ } := by
  have hloop : s.lkc.cfg.loopback = false := h.2.2.2.1
  have hown : ownFrame d k p s = _ := (if_neg (by simp [hloop])).trans
    (onFrame_own (h := ⟨s.lkc.cfg.level, s.lkc.node, d⟩) h hrx hl hn rfl hacc hok id)
  exact quiet_of_eq h.1 hown

theorem ownAddress_looped {d k : Byte} {p : List Byte} {f : LinkFrame} (h : Powered s) (hen : s.lkc.enable = true)
    (hpow : s.pnp.power ≠ .resetHeld) (hloop : s.lkc.cfg.loopback = true) (hf : s.lkc.looped = some f)
    (hacc : s.lkc.accepts d = true) :
    exec (.ownAddressFrame d k p) s
      = .next { s with lkc := s.lkc.takeLooped.store ⟨s.lkc.node, d, k, p⟩ } := by
  have hon : s.linkOn = true := by simp [State.linkOn, hen, hpow]
  have hown : ownFrame d k p s = setLkc (fun l => l.takeLooped.store ⟨l.node, d, k, p⟩) s :=
    (if_pos hloop).trans (if_neg (by simp [hf, hon, hacc]))
  exact quiet_of_eq h hown

end

/-- Settles O53: the receiver's states character by character (`lineBusy_going`, `lineBusy_bad`, `lineBusy_sound`), the
judgment of a frame's bytes (`frameOk_iff`), and the frames that rows bring whole. -/
theorem theReceiverJudgesFrames : Obligations.TheReceiverJudgesFrames := by
  refine ⟨frameOk_iff, LinkFrame.parse_eq_some_iff, fun bs => parse_sum, fun bs => parse_length,
    fun bs lead => parse_lead, fun l => rfl, fun s c b h hrx => ?_, fun s h hrx => lineBusy_going h (by rw [hrx]; rfl),
    fun s c b h hrx hc => lineBusy_bad h ?_, fun s c got h hrx => lineBusy_bad h (by rw [hrx]; rfl),
    fun s c got h hrx hlen => lineBusy_going h (by rw [hrx]; exact gather_goes hlen),
    fun s c got h hrx h4 hn => lineBusy_bad h (by rw [hrx]; exact gather_overlong h4 hn),
    fun s c got h hrx h5 hn hlast hparse => lineBusy_unsound h hrx h5 hn hlast hparse,
    fun s c got f h hrx h5 hlast hparse => lineBusy_sound h hrx h5 hlast hparse,
    fun s h hen hpow hacc hidle => (lineIdle_eq h hen hpow hacc hidle).trans (by rw [becomeIdle_eq]),
    fun l => rfl, fun s h hrx => ?_, fun s h hrx => ?_,
    fun s h hh hsrc hdest hacc => quiet_of_eq hh.1 (notAccepted_dropped hh hsrc hdest hacc),
    fun l n g hn h1 h8 => ⟨accepts_node hn, rfl, accepts_group h1 h8⟩, fun s h k p hr hk hok hp hlen => ?_,
    fun s h k p hr hk hok hp hlen => ?_, fun s h k p hr hk hok hp => stateOrData_standby hr hk hok hp,
    fun s d k p h hrx hn hl hacc hok hlen => ?_, fun s d k p f h hen hpow hloop hf hacc hlen => ?_⟩
  · rw [lineBusy_hears h, hearChar_waitIdle hrx]
    rfl
  · rw [hrx]
    exact if_neg fun hgo => hc.elim (fun hne => hne hgo.2) fun hb => Bool.false_ne_true (hb.symm.trans hgo.1)
  · rw [badFrame_eq h, Lkc.hearBad, if_neg hrx]
    rfl
  · rw [badFrame_eq h, Lkc.hearBad, if_pos hrx]
  · rw [stateOrData_eq hr hk hok hp, store_joins (l := s.lkc.frameTaken) hlen]
    rfl
  · rw [stateOrData_eq hr hk hok hp, store_overflows (l := s.lkc.frameTaken) hlen]
  · rw [ownAddress_eq h hrx hn hl hacc hok, store_joins (l := s.lkc.frameTaken) hlen]
    rfl
  · rw [ownAddress_looped h hen hpow hloop hf hacc, store_joins (l := s.lkc.takeLooped) hlen]
    rfl

end Sys2Proof.Machine
end

section
/-! The request frames of the link (10 R166, R172, R173, R179). -/

namespace Sys2Proof.Machine
open Sys2Proof

section
variable {s : State} {h : FrameHead}

/-! ## A frame that reaches its meaning -/

/-- The state in which a whole frame's meaning is taken. -/
def framed (s : State) : State := { s with lkc := s.lkc.frameTaken }

theorem reaches_frameOk {k : Byte} {p : List Byte} (hr : Reaches h s) (hk : kindLengthOk k.toNat p.length = true)
    (hp : kindPayloadOk k.toNat p = true) : frameOk h.dest k p = true := by
  obtain ⟨-, -, -, -, -, haccepts⟩ := hr
  have hdest : (LinkDest.ofByte h.dest).isSome = true := by
    unfold Lkc.accepts at haccepts
    split at haccepts
    all_goals first | exact absurd haccepts Bool.false_ne_true | simp [*]
  rw [frameOk, hdest, hk, hp]
  rfl

theorem frame_taken {k : Byte} {p : List Byte} {f : State → State} (hr : Reaches h s) (hp : s.pnp.power ≠ .standby)
    (hk : kindLengthOk k.toNat p.length = true) (hv : kindPayloadOk k.toNat p = true) :
    onFrame h k p (unlessStandby f) s = f (framed s) :=
  (onFrame_reaches hr (reaches_frameOk hr hk hv) _).trans (unlessStandby_on hp)

theorem frame_standby {k : Byte} {p : List Byte} {f : State → State} (hr : Reaches h s) (hp : s.pnp.power = .standby)
    (hk : kindLengthOk k.toNat p.length = true) (hv : kindPayloadOk k.toNat p = true) :
    onFrame h k p (unlessStandby f) s = framed s :=
  (onFrame_reaches hr (reaches_frameOk hr hk hv) _).trans (unlessStandby_off hp)

theorem reaches_reset (hr : Reaches h s) : s.pnp.power ≠ .resetHeld := hr.1.2.2.1

/-! ## Requests of the link -/

theorem linkRequest_taken {c : ReqClass} {f : State → State × Status} {t : State} (hc : classOk .link c s = true)
    (hf : f s = (t, .ok)) : linkRequest c f s = idleZero t := by
  unfold linkRequest sourced
  rw [if_neg (by simp [hc])]
  simp only [hf, if_true]

theorem linkRequest_refused {c : ReqClass} {f : State → State × Status} {t : State} {st : Status}
    (hc : classOk .link c s = true) (hf : f s = (t, st)) (hst : st ≠ .ok) :
    linkRequest c f s = countRefusal .link t := by
  unfold linkRequest sourced
  rw [if_neg (by simp [hc])]
  simp only [hf, if_neg hst]

theorem countRefusal_link (s : State) : countRefusal .link s = { s with sar := { s.sar with last := { s.sar.last with
    link := { s.sar.last.link with refusals := min 255 (s.sar.last.link.refusals + 1) } } } } := by
  have hinc : satInc 255 s.sar.last.link.refusals = min 255 (s.sar.last.link.refusals + 1) := by
    unfold satInc
    split <;> omega
  rw [← hinc]
  rfl

/-! ## CHANGE frames -/

theorem changeFrame_taken {k a f : Byte} (hr : Reaches h s) (hp : s.pnp.power ≠ .standby) (h1 : 1 ≤ k.toNat)
    (h4 : k.toNat ≤ 4) :
    exec (.linkChangeFrame h k a f) s = .next (finish (linkChange k a f (framed s))) :=
  run_of_eq hr.1.1 (frame_taken (k := 1) (p := [k, a, f]) hr hp rfl (by simp [kindPayloadOk, h1, h4]))

theorem linkChange_code (k : ChangeKind) (a f : Byte) (s : State) : linkChange (b8 k.code) a f s
    = (changeRequest .link k (if k = .home then 0 else a.toNat) f s).1 := by
  cases k <;> rfl

theorem ChangeKind.code_toNat (k : ChangeKind) : 1 ≤ (b8 k.code).toNat ∧ (b8 k.code).toNat ≤ 4 := by
  cases k <;> decide

theorem changeFrame_disabled {k a f : Byte} (hr : Reaches h s) (h1 : 1 ≤ k.toNat) (h4 : k.toNat ≤ 4)
    (hp : s.pnp.power ≠ .standby) (hc : classOk .link .transport s = false) :
    exec (.linkChangeFrame h k a f) s = .next (finish (countRefusal .link (framed s))) := by
  have hchange : linkChange k a f (framed s) = countRefusal .link (framed s) := by
    have hdis (kind : ChangeKind) (n : Nat) :
        (changeRequest .link kind n f (framed s)).1 = countRefusal .link (framed s) :=
      congrArg Prod.fst (changeRequest_disabled (s := framed s) hc)
    have hkind : k.toNat = 1 ∨ k.toNat = 2 ∨ k.toNat = 3 ∨ k.toNat = 4 := by omega
    rcases hkind with hk | hk | hk | hk <;> simp only [linkChange, hk] <;> exact hdis ..
  rw [changeFrame_taken hr hp h1 h4, hchange]

/-- A SEEK frame that passes admission starts its change at once. -/
theorem changeFrame_seeks {a f : Byte} (hr : Reaches h s) (hrun : s.pnp.power = .run)
    (hc : classOk .link .transport s = true) (hroute : s.sar.sources.link.route = .here) (ha : a.toNat ≤ 99)
    (hf : f.toNat ≤ 99) (hpresent : s.tru.present = true) (hpos : s.tru.position ≠ none)
    (horphan : s.csq.orphaned = false) (hslot : (s.tru.slot a.toNat).retired = false)
    (hlo : s.sar.sources.link.base ≤ a.toNat) (hhi : a.toNat ≤ s.sar.sources.link.limit) (hidle : s.csq.state = .idle)
    (hheld : s.sar.holder = none) (hwait : s.sar.waiting = none) :
    exec (.linkChangeFrame h 3 a f) s
      = .next (finish (idleZero (startChange .link .seek a.toNat f.toNat (framed s)))) := by
  have hbyte : f ≠ Config.defaultFadeByte := by
    rintro rfl
    exact absurd hf (by decide)
  have hfade : fadeOf (framed s) f = f.toNat := if_neg hbyte
  have harg : argRefusal .seek a.toNat f = none := by
    simp [argRefusal, ChangeKind.steps, fadeOk, hf, Nat.not_lt.mpr ha]
  have hres : (framed s).tru.resolve .seek a.toNat ((expected (framed s)).getD 0) = .ok a.toNat :=
    if_neg (Bool.eq_false_iff.mp hslot)
  have hplace := place_starts (src := .link) (s := framed s) (n := a.toNat) (q := a.toNat) (d := f.toNat)
    ((canStart_iff .seek (framed s)).mpr ⟨hrun, .inl hidle⟩) (tenureLets_unheld (s := framed s) _ hheld) (.inr hwait)
  have hhere := (requestHere_placed (src := .link) (d := f.toNat) (admitRequest_ok (src := .link) (s := framed s)
    ⟨hpresent, fun hnone => absurd hnone hpos, horphan⟩ hres (.inr ⟨hlo, hhi⟩))).trans hplace
  have hrouted := requestRouted_here (src := .link) (s := framed s) hroute hhere
  rw [← hfade] at hrouted
  have hchange := changeRequest_ok (src := .link) (s := framed s) hc harg hrouted
  rw [hfade] at hchange
  rw [changeFrame_taken hr (by simp [hrun]) (by decide) (by decide)]
  exact congrArg (fun x => Host.Outcome.next (finish x.1)) hchange

/-! ## The other request frames -/

theorem levelFrame_taken (hr : Reaches h s) (hp : s.pnp.power ≠ .standby) (l f : Byte) :
    exec (.linkLevelFrame h l f) s = .next (finish (linkRequest .lamp (setLevelByte l f) (framed s))) :=
  run_of_eq hr.1.1 (frame_taken (k := 2) (p := [l, f]) hr hp rfl rfl)

theorem lampFrame_taken (hr : Reaches h s) (hp : s.pnp.power ≠ .standby) :
    exec (.linkLampFrame h 1) s = .next (finish (linkRequest .lamp lampOnTaken (framed s)))
      ∧ exec (.linkLampFrame h 0) s = .next (finish (linkRequest .lamp lampOffTaken (framed s))) :=
  ⟨run_of_eq hr.1.1 (frame_taken (k := 3) (p := [1]) hr hp rfl rfl),
    run_of_eq hr.1.1 (frame_taken (k := 3) (p := [0]) hr hp rfl rfl)⟩

theorem holdFrame_taken (hr : Reaches h s) (hp : s.pnp.power ≠ .standby) (hc : classOk .link .shows s = true) :
    exec (.linkHoldFrame h) s = .next (finish (idleZero (addCause .link (framed s)))) :=
  (run_of_eq hr.1.1 (frame_taken (k := 4) (p := []) hr hp rfl rfl)).trans
    (by rw [linkRequest_taken (s := framed s) hc rfl])

theorem resumeFrame_taken (hr : Reaches h s) (hp : s.pnp.power ≠ .standby) (hc : classOk .link .shows s = true) :
    exec (.linkResumeFrame h) s = .next (finish (idleZero (resumeShow (framed s)))) :=
  (run_of_eq hr.1.1 (frame_taken (k := 5) (p := []) hr hp rfl rfl)).trans
    (by rw [linkRequest_taken (s := framed s) hc rfl])

theorem stepFrame_taken {n : Byte} (hr : Reaches h s) (hp : s.pnp.power ≠ .standby) (h1 : 1 ≤ n.toNat)
    (h2 : n.toNat ≤ 254) : exec (.linkStepFrame h n) s
      = .next (finish (linkRequest .shows (offerFrom .link (.step n.toNat)) (framed s))) :=
  run_of_eq hr.1.1 (frame_taken (k := 6) (p := [n]) hr hp rfl (by simp [kindPayloadOk, h1, h2]))

theorem standbyFrame_taken (hr : Reaches h s) (hp : s.pnp.power ≠ .standby) :
    exec (.linkStandbyFrame h) s = .next (finish (linkRequest .power requestStandby (framed s))) :=
  run_of_eq hr.1.1 (frame_taken (k := 10) (p := []) hr hp rfl rfl)

theorem wakeFrame_taken (hr : Reaches h s) : exec (.linkWakeFrame h) s = .next (finish (wakeUp (framed s))) :=
  run_of_eq hr.1.1 (onFrame_reaches hr (reaches_frameOk (k := 11) (p := []) hr rfl rfl) _)

theorem askFrame_taken (hr : Reaches h s) : exec (.linkAskFrame h) s = .next (answerAsk h.src (framed s)) :=
  quiet_of_eq hr.1.1 (onFrame_reaches hr (reaches_frameOk (k := 7) (p := []) hr rfl rfl) _)

/-! ## Holds and resumes -/

theorem offerFrom_link_full {k : CueKind} (hp : s.shc.phase ≠ .stopped) (hq : 8 ≤ s.crn.queue.length) :
    offerFrom .link k s = ({ s with crn := { s.crn with cueLost := true } }, .busy) := by
  have hoffer : offerCue .link k s = (s, .full) := (if_neg hp).trans (if_neg (Nat.not_lt.mpr hq))
  simp only [offerFrom, hoffer]
  rfl

theorem resumeShow_stays (hs : s.shc.phase ≠ .held ∨ s.shc.causes.transport = true ∨ s.shc.causes.lamp = true
    ∨ s.shc.causes.deck = true) : resumeShow s = resumeCauses s := by
  rw [resumeShow_eq]
  refine if_neg fun ⟨hp, he⟩ => ?_
  obtain ⟨ht, hl, hd⟩ := (resumeCauses_empty_iff s).mp he
  rw [ht, hl, hd] at hs
  rcases hs with hs | hs | hs | hs
  · exact hs hp
  all_goals exact Bool.false_ne_true hs

theorem resumeShow_leaves (hp : s.shc.phase = .held) (ht : s.shc.causes.transport = false)
    (hl : s.shc.causes.lamp = false) (hd : s.shc.causes.deck = false) :
    resumeShow s = leaveHeld (resumeCauses s) := by
  rw [resumeShow_eq]
  exact if_pos ⟨hp, (resumeCauses_empty_iff s).mpr ⟨ht, hl, hd⟩⟩

theorem resumeFrame_restarts (hr : Reaches h s) (hp : s.pnp.power ≠ .standby) (hc : classOk .link .shows s = true)
    (hheld : s.shc.phase = .held) (ht : s.shc.causes.transport = false) (hl : s.shc.causes.lamp = false)
    (hd : s.shc.causes.deck = false) (he : s.shc.ended = false) (hdeck : s.dkc.deck = .paused)
    (htape : s.pins.tapeEnd = false) (hrun : s.pins.running = false) :
    exec (.linkResumeFrame h) s = .next (finish { s with
      lkc := s.lkc.frameTaken
      shc := { s.shc with phase := .running, causes := Causes.empty }
      dkc := { s.dkc with deck := .starting, timerMs := 0, stall := none, stopPulse := none }
      pnp := { s.pnp with idleElapsed := 0, idleMs := 0, pend := { s.pnp.pend with showChg := true } } }) := by
  have hcauses := resumeCauses_eq_empty (s := framed s) ht hl hd
  rw [resumeFrame_taken hr hp hc, resumeShow_leaves (s := framed s) hheld ht hl hd,
    leaveHeld_restarts (s := resumeCauses (framed s)) hheld he hdeck htape hrun]
  simp only [showGoesOn, deckStarting, idleZero, hcauses]
  rw [← he]
  rfl

theorem resumeFrame_ends (hr : Reaches h s) (hp : s.pnp.power ≠ .standby) (hc : classOk .link .shows s = true)
    (hheld : s.shc.phase = .held) (ht : s.shc.causes.transport = false) (hl : s.shc.causes.lamp = false)
    (hd : s.shc.causes.deck = false) (he : s.shc.ended = true) (h1 : s.dkc.deck ≠ .paused)
    (h2 : s.dkc.deck ≠ .pausing) (hq : s.crn.queue ≠ []) :
    exec (.linkResumeFrame h) s = .next (finish { s with
      lkc := s.lkc.frameTaken
      shc := { s.shc with phase := .ending, causes := Causes.empty, ended := false }
      pnp := { s.pnp with idleElapsed := 0, idleMs := 0, pend := { s.pnp.pend with showChg := true } } }) := by
  have hcauses := resumeCauses_eq_empty (s := framed s) ht hl hd
  rw [resumeFrame_taken hr hp hc, resumeShow_leaves (s := framed s) hheld ht hl hd,
    leaveHeld_ends (s := resumeCauses (framed s)) hheld he h1 h2 hq]
  simp only [showGoesOn, idleZero, hcauses]
  rfl

end

end Sys2Proof.Machine
end

section
/-! The answer to an ASK frame; the obligation on the link's request frames. -/

namespace Sys2Proof.Machine
open Sys2Proof

section
variable {s : State} {h : FrameHead}

/-! ## ASK -/

theorem enqueue_fields (l : Lkc) (d k : Byte) (p : List Byte) :
    (l.enqueue d k p).txq = l.txq ++ [⟨l.cfg.level, l.node, d, k, p⟩] ∧ (l.enqueue d k p).rxbuf = l.rxbuf := by
  unfold Lkc.enqueue Lkc.seek
  dsimp only
  split <;> exact ⟨rfl, rfl⟩

theorem answerAsk_taken {src : Nat} (hc : s.lkc.canTake = true) :
    answerAsk src s = setLkc (·.enqueue (b8 src) 8 (statePayload s)) s := by
  have hoffer : offerFrame (LinkDest.node src).byte 8 (statePayload s) s
      = (setLkc (·.enqueue (b8 src) 8 (statePayload s)) s, true) := if_pos hc
  simp only [answerAsk, hoffer, if_true]

theorem answerAsk_lost {src : Nat} (hc : s.lkc.canTake = false) :
    answerAsk src s = setLkc (fun l => { l with replyLost := true }) s := by
  have hoffer : offerFrame (LinkDest.node src).byte 8 (statePayload s) s = (s, false) :=
    if_neg (Bool.eq_false_iff.mp hc)
  simp only [answerAsk, hoffer, Bool.false_eq_true, if_false]

theorem statePayload_eq (s : State) : statePayload s = [optByte 0xFF s.tru.position,
    match s.csq.gate with
      | .empty => 0
      | .seated => 1
      | .partway => 2,
    match s.lmc.lamp with
      | .off => 0
      | .preheat => 1
      | .lit => 2
      | .cooling => 3
      | .fault => 4,
    match s.shc.phase with
      | .stopped => 0
      | .running => 1
      | .held => 2
      | .ending => 3,
    b8 s.crn.current] := by
  unfold statePayload
  cases s.csq.gate <;> cases s.lmc.lamp <;> cases s.shc.phase <;> rfl

theorem askFrame_answers (hr : Reaches h s) (hn : s.lkc.node ≤ 14) (hq : s.lkc.txq.length < 4) :
    ∃ t, exec (.linkAskFrame h) s = .next t ∧ t = { s with lkc := t.lkc } ∧ t.lkc.rxbuf = s.lkc.rxbuf
      ∧ t.lkc.txq = s.lkc.txq ++ [⟨s.lkc.cfg.level, s.lkc.node, b8 h.src, 8, statePayload s⟩] := by
  have hun : Config.unassigned = 15 := rfl
  have hnode : s.lkc.node ≠ Config.unassigned := by omega
  have htake : (framed s).lkc.canTake = true := by
    change (s.lkc.enable && decide (s.lkc.node ≠ Config.unassigned) && decide (s.lkc.txq.length < 4)) = true
    simp only [hr.1.2.1, hnode, hq, ne_eq, not_false_eq_true, decide_true, Bool.and_self]
  obtain ⟨htxq, hrxbuf⟩ := enqueue_fields (framed s).lkc (b8 h.src) 8 (statePayload s)
  refine ⟨_, (askFrame_taken hr).trans (by rw [answerAsk_taken htake]), rfl, hrxbuf, htxq⟩

theorem askFrame_lost (hr : Reaches h s) (hs : s.lkc.node = 15 ∨ 4 ≤ s.lkc.txq.length) :
    exec (.linkAskFrame h) s = .next { s with lkc := { s.lkc.frameTaken with replyLost := true } } := by
  have htake : (framed s).lkc.canTake = false := by
    change (s.lkc.enable && decide (s.lkc.node ≠ Config.unassigned) && decide (s.lkc.txq.length < 4)) = false
    rcases hs with hn | hq
    · have hun : ¬ s.lkc.node ≠ Config.unassigned := fun hne => hne hn
      rw [decide_eq_false hun, Bool.and_false, Bool.false_and]
    · rw [decide_eq_false (Nat.not_lt.mpr hq), Bool.and_false]
  rw [askFrame_taken hr, answerAsk_lost htake]
  rfl

/-! ## STANDBY and WAKE -/

theorem standbyFrame_dark (hr : Reaches h s) (hrun : s.pnp.power = .run) (hc : classOk .link .power s = true)
    (hp : s.shc.phase = .stopped) (hl : s.lmc.lamp = .off ∨ s.lmc.lamp = .cooling ∨ s.lmc.lamp = .fault)
    (ho : s.lmc.owed = false) (hcl : s.lmc.claim ≠ .fade) :
    exec (.linkStandbyFrame h) s
      = .next (finish (idleZero (setLmc Lmc.clearMarks (setPower .standbyPending (framed s))))) := by
  have hdark : lampOut (setPower .standbyPending (framed s))
      = setLmc Lmc.clearMarks (setPower .standbyPending (framed s)) :=
    lampOut_dark (s := setPower .standbyPending (framed s))
      (fun hpre => by
        have hlamp : s.lmc.lamp = .preheat := hpre
        simp [hlamp] at hl)
      (fun hlit => by
        have hlamp : s.lmc.lamp = .lit := hlit
        simp [hlamp] at hl)
  have hreports : lampReports (setLmc Lmc.clearMarks (setPower .standbyPending (framed s)))
      = setLmc Lmc.clearMarks (setPower .standbyPending (framed s)) :=
    (lampReports_unowed (s := setLmc Lmc.clearMarks (setPower .standbyPending (framed s))) ho).trans
      (if_neg fun hf => hcl hf.1)
  have htaken : requestStandby (framed s)
      = (setLmc Lmc.clearMarks (setPower .standbyPending (framed s)), .ok) := by
    have hpower : (framed s).pnp.power = .run := hrun
    have hphase : (framed s).shc.phase = .stopped := hp
    simp only [requestStandby, hpower, hphase, ne_eq, not_true_eq_false, if_false, hdark, hreports]
  rw [standbyFrame_taken hr (by simp [hrun]), linkRequest_taken (s := framed s) hc htaken]

theorem wakeFrame_wakes (hr : Reaches h s) (hs : s.pnp.power = .standby ∨ s.pnp.power = .standbyPending) :
    ∃ t, exec (.linkWakeFrame h) s = .next t ∧ t.pnp.power = .run ∧ t.pnp.event = .woken
      ∧ t.pnp.pend.power = true ∧ t.lkc = s.lkc.frameTaken
      ∧ (NoneDue s → t.csq = s.csq ∧ t.sar = s.sar)
      ∧ (∀ w q, s.sar.waiting = some w → DueAtRun s w → startCheck w s = .ok q → StartedPending w q s t) := by
  obtain ⟨hpower, hevent, hpend, -⟩ := wakeUp_pnp (s := framed s) hs
  refine ⟨_, wakeFrame_taken hr, ?_⟩
  rw [(finish_pend _).1]
  simp only [finish_frame, StartedPending, finish_awaited]
  refine ⟨hpower, hevent, hpend, by simp [framed], fun hn => ?_,
    fun w q hw hd hq => wakeUp_started (s := framed s) hs hw hd hq⟩
  obtain ⟨hcsq, hsar, -⟩ := woken_frame (framed s)
  rw [wakeUp_none (s := framed s) hs hn]
  exact ⟨hcsq, hsar⟩

/-! ## LEVEL and LAMP -/

theorem levelFrame_dark {l f : Byte} (hr : Reaches h s) (hp : s.pnp.power ≠ .standby)
    (hc : classOk .link .lamp s = true) (hf : f.toNat ≤ 99 ∨ f = 0xFF) (hd : s.lmc.lamp ≠ .lit) (hl : 200 < l.toNat) :
    exec (.linkLevelFrame h l f) s = .next (finish { s with
      lkc := s.lkc.frameTaken, lmc := { s.lmc with showLevel := l.toNat }
      pnp := { s.pnp with idleElapsed := 0, idleMs := 0 } }) := by
  have hfade : fadeOk f = true := by
    rcases hf with hf | hf <;> simp [fadeOk, hf, Config.defaultFadeByte]
  have htaken := setLevelTaken_dark (s := framed s) (level := l.toNat) (fade := fadeOf (framed s) f) (.inl hd)
  simp only [if_neg (Nat.not_le.mpr hl)] at htaken
  have hrequest := linkRequest_taken (s := framed s) (f := setLevelByte l f) hc ((if_pos hfade).trans htaken)
  rw [levelFrame_taken hr hp]
  exact congrArg (fun x => Host.Outcome.next (finish x)) hrequest

theorem lampFrame_lights (hr : Reaches h s) (hrun : s.pnp.power = .run) (hc : classOk .link .lamp s = true)
    (hl : s.lmc.lamp = .off) (ht : s.lmc.trip = false) (hh : s.lmc.temp.getD 60 < 60) (hd : s.lmc.dim = false) :
    exec (.linkLampFrame h 1) s = .next (finish (idleZero (enterPreheat (framed s)))) := by
  have hcold : (framed s).lmc.tooHot = false :=
    eq_false_of_ne_true fun h => absurd ((tooHot_iff _).mp h) (Nat.not_le.mpr hh)
  have htaken := lampOnTaken_preheats (s := framed s) hrun ht (.inl hl) hcold hd
  rw [(lampFrame_taken hr (by simp [hrun])).1, linkRequest_taken (s := framed s) hc htaken]

theorem lampReports_lampOut_burning (hl : s.lmc.lamp = .preheat ∨ s.lmc.lamp = .lit) :
    (lampReports (lampOut s)).lmc.lamp = .cooling := by
  obtain ⟨hcooled, -⟩ := lampOut_burning hl
  have hsame : SameLamp (cooled s.lmc) (lampReports (lampOut s)).lmc := by
    rw [← hcooled]
    exact lampReports_sameLamp (by rw [hcooled]; nofun) (by rw [hcooled]; nofun) (by rw [hcooled]; rfl)
  exact hsame.shows.1

end

/-- Settles O54: each request frame in the state that the receiver leaves (`frame_taken`, `onFrame_reaches`), what its
request does where it is taken, and what a frame does in STANDBY and in WAIT_IDLE. -/
theorem linkFramesBecomeRequests : Obligations.LinkFramesBecomeRequests := by
  refine ⟨fun s h k a f hr hp => ?_,
    fun s h a f hr hrun hc hroute ha hf hpresent hpos horphan hslot hlo hhi hidle hheld hwait => ?_,
    fun s h k a f hr h1 h4 hp hc => ?_, fun s h l f hr hp hc hf hd hl => levelFrame_dark hr hp hc hf hd hl,
    fun s h hr hrun hc hl ht hh hd => ?_, fun s h hr hp hc hl => ?_, fun s h hr hp hc hph => ?_,
    fun s h hr hp hc hph => ?_, fun s h hr hp hc hph => ?_, fun s h hr hp hc hheld hcause => ?_,
    fun s h hr hp hc hheld ht hl hd he hdeck htape hrun =>
      resumeFrame_restarts hr hp hc hheld ht hl hd he hdeck htape hrun,
    fun s h hr hp hc hheld ht hl hd he h1 h2 hq => resumeFrame_ends hr hp hc hheld ht hl hd he h1 h2 hq,
    fun s h n hr hp hc h1 h2 hph hq => ?_, fun s h n hr hp hc h1 h2 hph hq => ?_,
    fun s h hr hrun hc hp hl ho hcl => ?_, fun s h hr hs => wakeFrame_wakes hr hs, fun s h hr hn hq => ?_,
    fun s h hr hs => askFrame_lost hr hs, fun s h a b c hr hp h1 h4 => ?_, fun s h k a f hh hrx => ?_,
    fun s h k a f hp => ?_, fun s h k p hp hk => ?_⟩
  · obtain ⟨h1, h4⟩ := ChangeKind.code_toNat k
    rw [changeFrame_taken hr hp h1 h4, linkChange_code]
    rfl
  · refine ⟨_, changeFrame_seeks hr hrun hc hroute ha hf hpresent hpos horphan hslot hlo hhi hidle hheld hwait, ?_⟩
    simp only [finish_frame, idleZero, startChange_flight]
    exact ⟨by simp [framed], (startChange_underway ..).1, rfl, by simp [framed]⟩
  · refine ⟨_, changeFrame_disabled hr h1 h4 hp hc, ?_⟩
    rw [countRefusal_link]
    simp only [finish_frame]
    exact ⟨rfl, rfl, rfl⟩
  · refine ⟨_, lampFrame_lights hr hrun hc hl ht hh hd, ?_⟩
    simp only [finish_frame]
    exact ⟨rfl, rfl, rfl, rfl⟩
  · refine ⟨_, (lampFrame_taken hr hp).2, ?_⟩
    rw [linkRequest_taken (s := framed s) hc rfl]
    simp only [finish_frame]
    refine ⟨lampReports_lampOut_burning (s := framed s) hl, ?_, ?_, ?_⟩ <;> simp [idleZero, framed]
  · refine ⟨_, holdFrame_taken hr hp hc, ?_⟩
    rw [(finish_pend _).1, addCause_holds (s := framed s) _ (reaches_reset (s := s) hr) hph]
    simp only [finish_frame]
    exact ⟨rfl, rfl, rfl, rfl, rfl⟩
  · rw [resumeFrame_taken hr hp hc, resumeShow_stays (s := framed s) (.inl hph)]
    rfl
  · rw [holdFrame_taken hr hp hc, addCause_other (s := framed s) _ (reaches_reset (s := s) hr) hph]
    rfl
  · rw [resumeFrame_taken hr hp hc, resumeShow_stays (s := framed s) (.inr hcause)]
    rfl
  · rw [stepFrame_taken hr hp h1 h2, linkRequest_taken (s := framed s) hc (offerFrom_joins hph hq)]
    rfl
  · refine ⟨_, stepFrame_taken hr hp h1 h2, ?_⟩
    rw [linkRequest_refused (s := framed s) hc (offerFrom_link_full (s := framed s) hph hq) nofun, countRefusal_link]
    simp only [finish_frame]
    exact ⟨rfl, rfl⟩
  · refine ⟨_, standbyFrame_dark hr hrun hc hp hl ho hcl, ?_⟩
    obtain ⟨-, -, -, -, fre, fdef, -⟩ := finish_lmc (idleZero (setLmc Lmc.clearMarks (setPower .standbyPending (framed s))))
    rw [fre, fdef]
    simp only [finish_frame]
    exact ⟨rfl, rfl, rfl, rfl, rfl, rfl⟩
  · have hask := askFrame_answers hr hn hq
    rw [statePayload_eq] at hask
    exact hask
  · exact ⟨run_of_eq hr.1.1 (frame_standby (k := 1) (p := [a, b, c]) hr hp rfl (by simp [kindPayloadOk, h1, h4])),
      run_of_eq hr.1.1 (frame_standby (k := 2) (p := [b, c]) hr hp rfl rfl),
      run_of_eq hr.1.1 (frame_standby (k := 3) (p := [1]) hr hp rfl rfl),
      run_of_eq hr.1.1 (frame_standby (k := 4) (p := []) hr hp rfl rfl),
      run_of_eq hr.1.1 (frame_standby (k := 5) (p := []) hr hp rfl rfl),
      run_of_eq hr.1.1 (frame_standby (k := 6) (p := [5]) hr hp rfl rfl),
      run_of_eq hr.1.1 (frame_standby (k := 10) (p := []) hr hp rfl rfl)⟩
  · have ignored {kind : Byte} {p : List Byte} (g : State → State) : onFrame h kind p g s = framed s :=
      onFrame_waitIdle hh hrx g
    exact ⟨run_of_eq hh.1 (ignored _), run_of_eq hh.1 (ignored _), run_of_eq hh.1 (ignored _),
      run_of_eq hh.1 (ignored _), run_of_eq hh.1 (ignored _), run_of_eq hh.1 (ignored _), run_of_eq hh.1 (ignored _),
      run_of_eq hh.1 (ignored _), quiet_of_eq hh.1 (ignored _)⟩
  · exact ⟨run_powered hp, run_powered hp, run_powered hp, run_powered hp, run_powered hp, run_powered hp,
      quiet_powered hp, run_powered hp, run_powered hp⟩
  · have hdata : takeFrame ⟨h.level, h.src, h.dest, k, p⟩ s = dataFrame h k p s := by
      rcases hk with hk | hk <;> simp only [takeFrame, hk]
    rw [hdata]
    exact quiet_powered hp

end Sys2Proof.Machine
end

section
/-! Frames sent and given up, and the settings of the link (10 R167 to R171, R175 to R177). -/

namespace Sys2Proof.Machine
open Sys2Proof

section
variable {s : State}

/-! ## The transmit queue -/

/-- A frame that joins the queue asks for access where none is under way (10 R169, R170). -/
theorem enqueue_eq (l : Lkc) (d k : Byte) (p : List Byte) : l.enqueue d k p = { l with
    txq := l.txq ++ [⟨l.cfg.level, l.node, d, k, p⟩]
    access := if l.access = .none then (if l.lineIdle then .waitSlots else .waitIdle) else l.access } := by
  unfold Lkc.enqueue Lkc.seek
  dsimp only
  split
  · rw [if_neg (by simp)]
  · rfl

theorem nextFrame_eq (l : Lkc) (h : l.lineIdle = false) : l.nextFrame = { l with
    txq := l.txq.drop 1, retry := 0, sendUs := 0, access := if l.txq.length ≤ 1 then .none else .waitIdle } := by
  have hempty : (l.txq.drop 1).isEmpty = true ↔ l.txq.length ≤ 1 := by
    rw [List.isEmpty_iff, List.drop_eq_nil_iff]
  unfold Lkc.nextFrame Lkc.seek
  simp only [hempty, h, Bool.false_eq_true, if_false]

theorem sent_eq (l : Lkc) : l.sent = { l with
    txq := l.txq.drop 1, retry := 0, sendUs := 0, access := if l.txq.length ≤ 1 then .none else .waitIdle
    lineIdle := false, idleForUs := 0, rx := .waitIdle, idleInUs := 2 * l.charUs
    looped := if l.cfg.loopback then l.txq.head? else l.looped } := by
  rw [Lkc.sent, nextFrame_eq _ rfl]
  rfl

theorem collide_retries {l : Lkc} (h : l.retry < l.cfg.retryLimit) : l.collide = { l with
    retry := l.retry + 1, access := .waitIdle, rx := .waitIdle, sendUs := 0, lineIdle := false, idleForUs := 0
    idleInUs := 2 * l.charUs } := if_pos h

theorem collide_gives_up {l : Lkc} (h : l.cfg.retryLimit ≤ l.retry) : l.collide = { l with
    txq := l.txq.drop 1, retry := 0, giveup := true, rx := .waitIdle, sendUs := 0, lineIdle := false, idleForUs := 0
    idleInUs := 2 * l.charUs, access := if l.txq.length ≤ 1 then .none else .waitIdle } := by
  refine (if_neg (by omega)).trans ?_
  rw [nextFrame_eq _ rfl]
  rfl

theorem frameSent_eq (h : Powered s) (hs : s.lkc.access = .sending) :
    exec .frameSent s = .next { s with lkc := s.lkc.sent } := quiet_of_eq h (if_pos hs)

theorem collision_eq (h : Powered s) (hs : s.lkc.access = .sending) (hl : s.lkc.cfg.loopback = false) :
    exec .collision s = .next { s with lkc := s.lkc.collide } := quiet_of_eq h (if_pos ⟨hs, hl⟩)

theorem frameSendStart_sends {f : LinkFrame} (h : Powered s) (hen : s.lkc.enable = true)
    (hpow : s.pnp.power ≠ .resetHeld) (hacc : s.lkc.access = .waitSlots) (hidle : s.lkc.lineIdle = true)
    (hf : s.lkc.txq.head? = some f) :
    ∃ t, exec .frameSendStart s = .next t ∧ t = { s with lkc := t.lkc } ∧ t.lkc.access = .sending
      ∧ t.lkc.txq = { f with src := s.lkc.node } :: s.lkc.txq.drop 1 ∧ t.lkc.rx = .waitIdle
      ∧ t.lkc.lineIdle = false ∧ t.lkc.retry = s.lkc.retry ∧ t.outputs.lde = !s.lkc.cfg.loopback := by
  have hon : s.linkOn = true := by simp [State.linkOn, hen, hpow]
  obtain ⟨rest, hq⟩ : ∃ rest, s.lkc.txq = f :: rest := List.head?_eq_some_iff.mp hf
  have hstart : s.lkc.startSend = { s.lkc with
      txq := { f with src := s.lkc.node } :: rest, access := .sending, sendUs := f.bytes.length * s.lkc.charUs
      rx := .waitIdle, lineIdle := false, idleInUs := f.bytes.length * s.lkc.charUs + 2 * s.lkc.charUs
      idleForUs := 0 } := by
    unfold Lkc.startSend
    rw [hq]
  refine ⟨{ s with lkc := s.lkc.startSend }, quiet_of_eq h (if_pos ⟨hon, hacc, hidle⟩), rfl, ?_⟩
  rw [hstart, hq]
  have hpow' : s.pins.porstLow ≠ true := Bool.eq_false_iff.mp h
  refine ⟨rfl, rfl, rfl, rfl, rfl, ?_⟩
  rw [State.outputs, if_neg hpow']
  simp

/-! ## SEND_LINK -/

theorem canTake_iff (l : Lkc) : l.canTake = true ↔ l.enable = true ∧ l.node ≠ 15 ∧ l.txq.length < 4 := by
  unfold Lkc.canTake
  rw [Bool.and_eq_true, Bool.and_eq_true, decide_eq_true_eq, decide_eq_true_eq, and_assoc]
  exact Iff.rfl

theorem sendLink_of_eq {d k n : Byte} {p : List Byte} {t : State} {st : Status} (h : Awake s)
    (hf : (if n.toNat ≠ p.length ∨ frameOk d k p = false then reply s .badArg
      else if s.lkc.enable = false ∨ s.lkc.node = Config.unassigned then reply s .disabled
      else reply (offerFrame d k p s).1 (if (offerFrame d k p s).2 then .ok else .busy)) = (t, .of st)) :
    exec (.sendLink d k n p) s = .next (answered st [] t) := quiet_answers h hf

theorem sendLink_joins {d k n : Byte} {p : List Byte} (h : Awake s) (hn : n.toNat = p.length)
    (hok : frameOk d k p = true) (hen : s.lkc.enable = true) (hnode : s.lkc.node ≠ 15) (hq : s.lkc.txq.length < 4) :
    exec (.sendLink d k n p) s = .next (answered .ok [] { s with lkc := s.lkc.enqueue d k p }) := by
  have hoffer : offerFrame d k p s = ({ s with lkc := s.lkc.enqueue d k p }, true) :=
    if_pos ((canTake_iff _).mpr ⟨hen, hnode, hq⟩)
  refine sendLink_of_eq h ((if_neg (by simp [hn, hok])).trans ((if_neg ?_).trans ?_))
  · rintro (hoff | hun)
    · exact Bool.false_ne_true (hoff.symm.trans hen)
    · exact hnode hun
  · rw [hoffer]
    rfl

theorem sendLink_full {d k n : Byte} {p : List Byte} (h : Awake s) (hn : n.toNat = p.length)
    (hok : frameOk d k p = true) (hen : s.lkc.enable = true) (hnode : s.lkc.node ≠ 15) (hq : 4 ≤ s.lkc.txq.length) :
    exec (.sendLink d k n p) s = .next (answered .busy [] s) := by
  have hfull : s.lkc.canTake ≠ true := fun hc => absurd ((canTake_iff _).mp hc).2.2 (Nat.not_lt.mpr hq)
  have hoffer : offerFrame d k p s = (s, false) := if_neg hfull
  refine sendLink_of_eq h ((if_neg (by simp [hn, hok])).trans ((if_neg ?_).trans ?_))
  · rintro (hoff | hun)
    · exact Bool.false_ne_true (hoff.symm.trans hen)
    · exact hnode hun
  · rw [hoffer]
    rfl

/-! ## Settings -/

theorem setEnable_same {l : Lkc} {v : Bool} (h : v = l.enable) : l.setEnable v = l := if_pos h.symm

theorem enableLink_some {a : Byte} {v : Bool} (h : Awake s) (hv : onOff a = some v) :
    exec (.enableLink a) s = .next (finish (answered .ok [] { s with lkc := s.lkc.setEnable v })) :=
  run_setting_some h hv _

end

end Sys2Proof.Machine
end

section
/-! The obligation on frames sent and the link's settings. -/

namespace Sys2Proof.Machine
open Sys2Proof

section
variable {s : State}

theorem setNode_of_eq {a : Byte} {t : State} {st : Status} (h : Awake s)
    (hf : (if 14 < a.toNat then reply s .badArg else if s.lkc.lock then reply s .locked
      else reply (setLkc (fun l => { l with node := a.toNat, lock := true }) s) .ok) = (t, .of st)) :
    exec (.setNode a) s = .next (answered st [] t) := quiet_answers h hf

theorem setLink_enabled {r l n b : Byte} (h : Awake s) (hen : s.lkc.enable = true) :
    exec (.setLink r l n b) s = .next (answered .busy [] s) := quiet_answers h (if_pos hen)

theorem setLink_of_eq {r l n b : Byte} {t : State} {st : Status} (h : Awake s) (hen : s.lkc.enable = false)
    (hf : setting (LinkSettings.parse r l n b) (fun v => setLkc (fun x => { x with cfg := v })) s = (t, .of st)) :
    exec (.setLink r l n b) s = .next (answered st [] t) :=
  quiet_answers h ((if_neg (Bool.eq_false_iff.mp hen)).trans hf)

theorem linkSettings_parse {r l n b : Byte} {v : Bool} (hr : r.toNat ≤ 3) (hl : l.toNat ≤ 15)
    (hn : n.toNat = 1 ∨ n.toNat = 3 ∨ n.toNat = 7 ∨ n.toNat = 15) (hb : onOff b = some v) :
    LinkSettings.parse r l n b = some ⟨r.toNat, l.toNat, n.toNat, v⟩ := by
  simp only [LinkSettings.parse, hb]
  exact if_pos ⟨hr, hl, by simpa using hn⟩

theorem linkSettings_parse_none {r l n b : Byte} (h : 3 < r.toNat ∨ 15 < l.toNat
    ∨ (n.toNat ≠ 1 ∧ n.toNat ≠ 3 ∧ n.toNat ≠ 7 ∧ n.toNat ≠ 15) ∨ 1 < b.toNat) : LinkSettings.parse r l n b = none := by
  cases hb : onOff b with
  | none => simp only [LinkSettings.parse, hb]
  | some v =>
    have hle : ¬ 1 < b.toNat := fun hlt => nomatch ((onOff_eq_none_iff b).mpr hlt).symm.trans hb
    simp only [LinkSettings.parse, hb]
    refine if_neg fun ⟨hr, hl, hn⟩ => ?_
    simp only [List.mem_cons, List.not_mem_nil, or_false] at hn
    omega

/-! ## READ_LINK -/

theorem linkPayload_parts (l : Lkc) : (linkPayload l).take 6 = [b8 l.node,
      b8 (bit l.lock 0 + bit l.enable 1 + bit l.cfg.loopback 2 + bit l.lineIdle 3), l.groups, b8 l.cfg.rate,
      b8 (16 * l.cfg.level + l.cfg.retryLimit),
      b8 (bit l.giveup 0 + bit l.overflow 1 + bit l.rxOverflow 2 + bit l.rxError 3 + bit l.replyLost 4)]
    ∧ ((linkPayload l).drop 6).take 2 = [b8 (l.txq.length + 16 * accessCode l.access), b8 l.retry]
    ∧ (linkPayload l).drop 8 = b8 l.rxbuf.length :: (match l.rxbuf.head? with
        | some e => [b8 e.src, e.dest, e.kind, b8 e.payload.length] ++ e.payload
        | none => [0xFF, 0, 0, 0]) := ⟨rfl, rfl, rfl⟩

end

/-- Settles O55: frames join the queue, are sent, retried and given up (`sendLink_joins`, `sent_eq`, `collide_retries`,
`collide_gives_up`), and the settings and the read of the link. -/
theorem framesAreSentAndLinkSettings : Obligations.FramesAreSentAndLinkSettings := by
  refine ⟨fun s d k n p h hn hok hen hnode hq => ?_, fun s d k n p h hbad => sendLink_of_eq h (if_pos ?_),
    fun s d k n p h hn hok hoff => sendLink_of_eq h ((if_neg (by simp [hn, hok])).trans (if_pos hoff)),
    fun s d k n p h hn hok hen hnode hq => sendLink_full h hn hok hen hnode hq,
    fun s f h hen hpow hacc hidle hf => frameSendStart_sends h hen hpow hacc hidle hf, fun s h hs hq => ?_,
    fun s h hs hq => ?_, fun s h hs hl hr => ?_, fun s h hs hl hr => ?_,
    fun s h hs => ⟨quiet_of_eq h (if_neg hs), quiet_of_eq h (if_neg fun hc => hs hc.1)⟩,
    fun s a h ha hl => setNode_of_eq h ((if_neg (by omega)).trans (if_neg (Bool.eq_false_iff.mp hl))),
    fun s a h ha hl => setNode_of_eq h ((if_neg (by omega)).trans (if_pos hl)),
    fun s a h ha => setNode_of_eq h (if_pos ha), fun s g h => quiet_answers h rfl, fun s a v h hv hs => ?_,
    fun s a h ha hen => ?_, fun s a h ha hen => ?_,
    fun s a h ha => run_setting_none h ((onOff_eq_none_iff a).mpr ha) _, fun s r l n b h hen => setLink_enabled h hen,
    fun s r l n b v h hen hr hl hn hb => setLink_of_eq h hen (setting_some (linkSettings_parse hr hl hn hb) _ s),
    fun s r l n b h hen hbad => setLink_of_eq h hen (setting_none (linkSettings_parse_none hbad) _ s),
    fun s h => quiet_answers h rfl, fun l => ?_⟩
  · rw [sendLink_joins h hn hok hen hnode hq, enqueue_eq]
  · exact hbad
  · rw [frameSent_eq h hs, sent_eq, if_pos hq, List.drop_eq_nil_iff.mpr hq]
  · rw [frameSent_eq h hs, sent_eq, if_neg (Nat.not_le.mpr hq)]
  · rw [collision_eq h hs hl, collide_retries hr]
  · rw [collision_eq h hs hl, collide_gives_up hr]
  · rw [enableLink_some h hv, setEnable_same hs]
  · have hv : onOff a = some true := by simp [onOff, ha]
    have hset : s.lkc.setEnable true = { s.lkc with enable := true }.listen := if_neg (by simp [hen])
    rw [enableLink_some h hv, hset]
    rfl
  · have hv : onOff a = some false := by simp [onOff, ha]
    have hset : s.lkc.setEnable false = { s.lkc.flush with
        enable := false, rx := .waitIdle, lineIdle := false, idleInUs := 0, idleForUs := 0 } :=
      (if_neg (by simp [hen])).trans (if_neg nofun)
    rw [enableLink_some h hv, hset]
    rfl
  · obtain ⟨hsettings, hqueue, hbuffer⟩ := linkPayload_parts l
    rw [hsettings, hqueue, hbuffer]
    refine ⟨rfl, ?_, fun e he => ?_, fun he => ?_⟩
    · cases l.access <;> rfl
    · rw [he]
      rfl
    · rw [he]
      rfl

end Sys2Proof.Machine
end

section
/-! STANDBY, the entry to it, WAKE and the idle timer (11 R188, R189). -/

namespace Sys2Proof.Machine
open Sys2Proof

section
variable {s : State}

/-! ## The request for STANDBY -/

/-- The part on its way to STANDBY: the lamp put out, and LMC's reports. -/
def goneDown (s : State) : State := lampReports (lampOut (setPower .standbyPending s))

theorem requestStandby_run (hr : s.pnp.power = .run) (hp : s.shc.phase = .stopped) :
    requestStandby s = (goneDown s, .ok) := by
  simp only [requestStandby, hr, hp, ne_eq, not_true_eq_false, if_false, goneDown]

theorem requestStandby_active (hr : s.pnp.power = .run) (hp : s.shc.phase ≠ .stopped) :
    requestStandby s = (s, .showActive) := by
  simp [requestStandby, hr, hp]

theorem requestStandby_pending (hr : s.pnp.power = .standbyPending) : requestStandby s = (s, .ok) := by
  simp [requestStandby, hr]

theorem goneDown_burning (hl : s.lmc.lamp = .preheat ∨ s.lmc.lamp = .lit) :
    SameLamp (cooled s.lmc) (goneDown s).lmc := by
  obtain ⟨hcooled, -⟩ := lampOut_burning (s := setPower .standbyPending s) hl
  have hlmc : (lampOut (setPower .standbyPending s)).lmc = cooled s.lmc := hcooled
  unfold goneDown
  rw [← hlmc]
  exact lampReports_sameLamp (by rw [hlmc]; nofun) (by rw [hlmc]; nofun) (by rw [hlmc]; rfl)

theorem goneDown_dark (hp : s.lmc.lamp ≠ .preheat) (hl : s.lmc.lamp ≠ .lit) :
    SameLamp s.lmc.clearMarks (goneDown s).lmc := by
  have hdark : lampOut (setPower .standbyPending s) = setLmc Lmc.clearMarks (setPower .standbyPending s) :=
    lampOut_dark (s := setPower .standbyPending s) hp hl
  unfold goneDown
  rw [hdark]
  exact lampReports_sameLamp (s := setLmc Lmc.clearMarks (setPower .standbyPending s)) hp hl rfl

theorem goneDown_lamp (s : State) : (goneDown s).lmc.restrike = false ∧ (goneDown s).lmc.deferred = false
    ∧ (goneDown s).lmc.output = 0
    ∧ (s.lmc.lamp = .preheat ∨ s.lmc.lamp = .lit → (goneDown s).lmc.lamp = .cooling
      ∧ (goneDown s).lmc.coolLeft = s.lmc.cfg.minCool)
    ∧ (s.lmc.lamp ≠ .preheat → s.lmc.lamp ≠ .lit → (goneDown s).lmc.lamp = s.lmc.lamp) := by
  by_cases hl : s.lmc.lamp = .preheat ∨ s.lmc.lamp = .lit
  · obtain ⟨hlamp, -, hleft, -, -, hre, hdef, -⟩ := (goneDown_burning hl).shows
    exact ⟨hre, hdef, output_unlit (by rw [hlamp]; nofun) (by rw [hlamp]; nofun), fun _ => ⟨hlamp, hleft⟩,
      fun h1 h2 => (hl.elim h1 h2).elim⟩
  · obtain ⟨h1, h2⟩ := not_or.mp hl
    obtain ⟨hlamp, -, -, -, -, hre, hdef, -⟩ := (goneDown_dark h1 h2).shows
    have hsame : (goneDown s).lmc.lamp = s.lmc.lamp := hlamp
    exact ⟨hre, hdef, output_unlit (by rw [hsame]; exact h1) (by rw [hsame]; exact h2), fun h => absurd h hl,
      fun _ _ => hsame⟩

theorem goneDown_frame (s : State) : (goneDown s).pnp.power = .standbyPending ∧ (goneDown s).shc = s.shc
    ∧ (goneDown s).dkc = s.dkc ∧ (goneDown s).tru = s.tru ∧ (goneDown s).mem = s.mem ∧ (goneDown s).rmi = s.rmi
    ∧ (goneDown s).lkc = s.lkc := by
  simp [goneDown, setPower]

/-- LMC's reports to a CSQ in IDLE leave the arbiter. -/
theorem lampReports_sar_idle (h : s.csq.state = .idle) : (lampReports s).sar = s.sar := by
  have hfaded : (faded s).csq.state = .idle := by
    unfold faded
    split
    · have hend : blankingEnd (setLmc Lmc.holdClaim s) = setLmc Lmc.holdClaim s :=
        if_neg (by change s.csq.state ≠ .blanking; rw [h]; nofun)
      rw [hend]
      exact h
    · exact h
  have hsar : (faded s).sar = s.sar := (faded_frame s).1
  rw [lampReports_eq]
  split
  · rw [revealReported, revealCheck_neg]
    · exact hsar
    · refine .inl ?_
      change (faded s).csq.state ≠ .revealing
      rw [hfaded]
      nofun
  · exact hsar

/-! ## The entry to STANDBY -/

theorem endCheck_halted (hd : s.dkc.deck = .stopped) {n : Nat} (hn : s.dkc.stopPulse = some n) :
    (endCheck s).dkc.deck = .stopped ∧ (endCheck s).dkc.stopPulse = some n := by
  by_cases h : s.shc.phase = .ending ∧ s.runOut = true
  · have hends : endCheck s = endShow s := if_pos h
    rw [hends, endShow_ending h.1 ((runOut_iff s).mp h.2).2.2]
    exact ⟨rfl, by simp [hn]⟩
  · have hstays : endCheck s = s := if_neg h
    rw [hstays]
    exact ⟨hd, hn⟩

theorem leaveHeld_halted (hp : s.shc.phase = .held) (hd : s.dkc.deck = .stopped) {n : Nat}
    (hn : s.dkc.stopPulse = some n) :
    (leaveHeld s).dkc.deck = .stopped ∧ (leaveHeld s).dkc.stopPulse = some n := by
  have hto : leaveTo s ≠ .held := by
    unfold leaveTo
    split <;> nofun
  rw [leaveHeld_eq hp rfl hto, if_neg (by simp [hd])]
  exact endCheck_halted (s := showGoesOn _ s) hd hn

theorem removeCause_halted (c : Cause) (hd : s.dkc.deck = .stopped) {n : Nat} (hn : s.dkc.stopPulse = some n) :
    (removeCause c s).dkc.deck = .stopped ∧ (removeCause c s).dkc.stopPulse = some n := by
  unfold removeCause
  dsimp only
  split
  · exact ⟨hd, hn⟩
  · split
    · next h => exact leaveHeld_halted (s := setCause c false s) h.1 hd hn
    · exact ⟨hd, hn⟩

theorem deckStopAll_halted (s : State) : (deckStopAll s).dkc.deck = .stopped
    ∧ (deckStopAll s).dkc.stopPulse = some (s.dkc.stopPulse.getD 0) := by
  unfold deckStopAll
  dsimp only
  split
  · exact removeCause_halted (s := deckHalt s) .deck rfl rfl
  · exact ⟨rfl, rfl⟩

theorem sleep_spent (r : Rmi) : PressesSpent r.sleep := by
  have spent (x : Option Press) : (x.map Press.spend).all (·.spent) = true := by
    cases x <;> rfl
  intro p hp
  simp only [List.mem_cons, List.not_mem_nil, or_false] at hp
  rcases hp with rfl | rfl | rfl | rfl | rfl <;> exact spent _

theorem standbyReady_iff (s : State) : standbyReady s = true ↔ s.pnp.power = .standbyPending ∧ s.csq.state = .idle
    ∧ s.lmc.lamp = .off ∧ s.lkc.txq = [] := by
  simp [standbyReady, and_assoc]

theorem standbyEntry_enters (h : Powered s) (hr : s.pnp.power = .standbyPending) (hs : s.csq.state = .idle)
    (hl : s.lmc.lamp = .off) (hq : s.lkc.txq = []) : ∃ t, exec .standbyEntry s = .next t ∧ t.pnp.power = .standby
      ∧ t.pnp.event = .standbyEntered
      ∧ t.pnp.pend.power = true ∧ t.dkc.deck = .stopped ∧ t.dkc.stopPulse = some (s.dkc.stopPulse.getD 0)
      ∧ t.lmc.fan = .off ∧ t.outputs.mute = true ∧ t.rmi.focus = .stopped ∧ t.rmi.digit = none
      ∧ PressesSpent t.rmi ∧ t.cdc.tone = .none ∧ t.cdc.word = .idle ∧ t.cdc.pulse = .none
      ∧ t.sar = s.sar ∧ t.tru = s.tru ∧ t.csq = s.csq ∧ t.lkc = s.lkc ∧ t.mem = s.mem := by
  have henter := run_of_eq (f := fun s => if standbyReady s then enterStandby s else s) h
    (if_pos ((standbyReady_iff s).mpr ⟨hr, hs, hl, hq⟩))
  obtain ⟨hdeck, hpulse⟩ := deckStopAll_halted s
  have hpins : (finish (enterStandby s)).pins.porstLow ≠ true := by
    simpa [enterStandby, powerEvent, setPower] using h
  have hstandby : (enterStandby s).pnp.power = .standby := rfl
  have hpower : (finish (enterStandby s)).pnp.power = .standby := by simp only [finish_frame, hstandby]
  have hmute : (finish (enterStandby s)).outputs.mute = true := by
    rw [State.outputs, if_neg hpins]
    simp [State.mute, hstandby]
  have hfan : (finish (enterStandby s)).lmc.fan = .off := by
    rw [finish_eq]
    rfl
  refine ⟨_, henter, hpower, ?_⟩
  rw [(finish_pend _).1, hmute, hfan]
  simp only [finish_frame]
  refine ⟨rfl, rfl, hdeck, hpulse, trivial, trivial, rfl, rfl, sleep_spent _, rfl, rfl, rfl, ?_⟩
  simp [enterStandby, powerEvent, setPower]

end

end Sys2Proof.Machine
end

section
/-! WAKE and the idle timer; the obligation on the standby states. -/

namespace Sys2Proof.Machine
open Sys2Proof

section
variable {s : State}

/-! ## WAKE -/

theorem wake_answers (h : Powered s) (hr : s.pnp.power ≠ .resetHeld) :
    exec .wake s = .next (finish (answered .ok [] (wakeUp s))) := by
  change run (panelIn true false fun s => reply (wakeUp s) .ok) s = _
  rw [run_powered h, panelIn_taken (powerRefusal_standby hr false)]
  rfl

theorem power_ne_reset_of_standby (hs : s.pnp.power = .standby ∨ s.pnp.power = .standbyPending) :
    s.pnp.power ≠ .resetHeld := by
  rcases hs with hs | hs <;> simp [hs]

theorem woken_pending (hs : s.pnp.power = .standbyPending) : woken s = { s with
    pnp := { s.pnp with power := .run, event := .woken, pend := { s.pnp.pend with power := true } } } := by
  rw [woken, if_neg (by simp [hs])]
  rfl

theorem woken_standby (hs : s.pnp.power = .standby) : woken s = { s with
    cdc := s.cdc.restart
    pnp := { s.pnp with power := .run, event := .woken, pend := { s.pnp.pend with power := true } } } := by
  rw [woken, if_pos hs]
  rfl

theorem wake_from_standby (h : Powered s) (hs : s.pnp.power = .standby) :
    ∃ t, exec .wake s = .next t ∧ t.pnp.resp = some ⟨.ok, []⟩ ∧ t.pnp.power = .run ∧ t.pnp.event = .woken
      ∧ t.pnp.pend.power = true ∧ t.cdc.waitQuiet = true ∧ t.cdc.cfg = s.cdc.cfg
      ∧ t.tru = s.tru ∧ t.rmi = s.rmi ∧ t.lkc = s.lkc ∧ t.mem = s.mem
      ∧ (NoneDue s → t.pnp.pend = { s.pnp.pend with power := true } ∧ t.sar = s.sar ∧ t.csq = s.csq
          ∧ t.shc = s.shc ∧ t.dkc = s.dkc ∧ t.crn = s.crn) := by
  obtain ⟨hpower, hevent, hpend, -⟩ := wakeUp_pnp (.inl hs)
  have hcdc : (wakeUp s).cdc = s.cdc.restart := by
    rw [wakeUp_eq (.inl hs), woken_standby hs]
    simp
  refine ⟨_, wake_answers h (power_ne_reset_of_standby (.inl hs)), ?_⟩
  rw [(finish_pend _).1]
  simp only [finish_frame, answered, hcdc, wakeUp_frame]
  refine ⟨trivial, hpower, hevent, hpend, rfl, rfl, trivial, trivial, trivial, trivial, fun hn => ?_⟩
  rw [wakeUp_none (.inl hs) hn, woken_standby hs]
  exact ⟨rfl, rfl, rfl, rfl, rfl, rfl⟩

theorem wake_starts {w : Waiting} {q : Nat} (h : Powered s) (hs : s.pnp.power = .standby ∨ s.pnp.power = .standbyPending)
    (hw : s.sar.waiting = some w) (hd : DueAtRun s w) (hq : startCheck w s = .ok q) :
    ∃ t, exec .wake s = .next t ∧ t.pnp.resp = some ⟨.ok, []⟩ ∧ t.pnp.power = .run ∧ t.pnp.event = .woken
      ∧ StartedPending w q s t ∧ t.tru = s.tru ∧ t.sar.last = s.sar.last := by
  obtain ⟨hpower, hevent, -⟩ := wakeUp_pnp hs
  obtain ⟨hcsq, hsar, -, -, -, -, htru, -⟩ := woken_frame s
  have hcheck : startCheck w (woken s) = .ok q :=
    (startCheck_congr (congrArg (·.sources) hsar) htru (congrArg (·.orphaned) hcsq) w).trans hq
  have hlast := startPending_ok_last (s := woken s) (hsar ▸ hw) ((woken_ready hw).mpr hd) hcheck
  rw [← wakeUp_eq hs, hsar] at hlast
  refine ⟨_, wake_answers h (power_ne_reset_of_standby hs), ?_⟩
  simp only [finish_frame, StartedPending, finish_awaited]
  exact ⟨rfl, hpower, hevent, wakeUp_started hs hw hd hq, by simp [answered], hlast⟩

theorem wake_refuses {w : Waiting} {st : Status} (h : Powered s)
    (hs : s.pnp.power = .standby ∨ s.pnp.power = .standbyPending) (hw : s.sar.waiting = some w) (hd : DueAtRun s w)
    (hf : s.csq.flight = none) (hq : startCheck w s = .error st) :
    ∃ t, exec .wake s = .next t ∧ t.pnp.resp = some ⟨.ok, []⟩ ∧ t.pnp.power = .run ∧ t.pnp.event = .woken
      ∧ RefusedPending w s t ∧ t.sar.holder = s.sar.holder ∧ t.csq = s.csq ∧ t.tru = s.tru := by
  obtain ⟨hpower, hevent, -⟩ := wakeUp_pnp hs
  obtain ⟨hcsq, hsar, -, -, -, -, htru, -⟩ := woken_frame s
  have hcheck : startCheck w (woken s) = .error st :=
    (startCheck_congr (congrArg (·.sources) hsar) htru (congrArg (·.orphaned) hcsq) w).trans hq
  have hready := (woken_ready hw).mpr hd
  have hwoken : wakeUp s = refuseStart w st (woken s) :=
    (wakeUp_eq hs).trans (startPending_error (hsar ▸ hw) hready hcheck)
  have hrefused := startPending_refused (s := s) (t := woken s) (hsar ▸ hw) hready hcheck (hcsq ▸ hf) (by rw [hsar])
  rw [← wakeUp_eq hs] at hrefused
  refine ⟨_, wake_answers h (power_ne_reset_of_standby hs), ?_⟩
  simp only [finish_frame, RefusedPending]
  refine ⟨rfl, hpower, hevent, hrefused, ?_⟩
  simp [answered, hwoken, hsar, hcsq, htru]

/-! ## The idle timer -/

theorem idleTimerExpiry_starts (h : Powered s) (hr : s.pnp.power = .run) (hi : s.pnp.idleSetting ≠ 0)
    (hl : s.lmc.lamp = .off) (hp : s.shc.phase = .stopped) (hs : s.csq.state = .idle) :
    ∃ t, exec .idleTimerExpiry s = .next t ∧ t.pnp.power = .standbyPending ∧ t.pnp.idleElapsed = 0
      ∧ t.lmc.restrike = false ∧ t.lmc.deferred = false ∧ t.sar = s.sar ∧ t.shc = s.shc ∧ t.tru = s.tru := by
  have hexec : exec .idleTimerExpiry s = .next (finish (goneDown (idleZero s))) := by
    have hstandby := requestStandby_run (s := idleZero s) hr hp
    exact run_of_eq h ((if_pos ((idleRuns_iff s).mpr ⟨hr, hi, hl, hp, hs⟩)).trans (congrArg Prod.fst hstandby))
  obtain ⟨hpower, hshc, -, htru, -⟩ := goneDown_frame (idleZero s)
  obtain ⟨hre, hdef, -⟩ := goneDown_lamp (idleZero s)
  obtain ⟨-, -, -, -, fre, fdef, -⟩ := finish_lmc (goneDown (idleZero s))
  have hidle : (finish (goneDown (idleZero s))).pnp.idleElapsed = 0 := by
    have hruns : (goneDown (idleZero s)).idleRuns = false := by simp [State.idleRuns, hpower]
    rw [finish_eq]
    simp [hruns]
  have hdark : lampOut (setPower .standbyPending (idleZero s))
      = setLmc Lmc.clearMarks (setPower .standbyPending (idleZero s)) :=
    lampOut_dark (s := setPower .standbyPending (idleZero s)) (by change s.lmc.lamp ≠ .preheat; rw [hl]; nofun)
      (by change s.lmc.lamp ≠ .lit; rw [hl]; nofun)
  have hsar : (goneDown (idleZero s)).sar = s.sar := by
    rw [goneDown, hdark]
    exact lampReports_sar_idle (s := setLmc Lmc.clearMarks (setPower .standbyPending (idleZero s))) hs
  refine ⟨_, hexec, ?_⟩
  rw [hidle, fre, fdef]
  simp only [finish_frame]
  exact ⟨hpower, trivial, hre, hdef, hsar, hshc, htru⟩

end

/-- Settles O58: the request for STANDBY (`goneDown_lamp`), the entry to it (`standbyEntry_enters`), the return to RUN with
the pending change (`wake_starts`, `wake_refuses`), and the idle timer. -/
theorem standbyAndWake : Obligations.StandbyAndWake := by
  refine ⟨fun s h hc => request_disabled h rfl hc,
    fun s h hc hr hp => request_refused h rfl hc (requestStandby_active hr hp) nofun,
    fun s h hc hr => request_taken h rfl hc (requestStandby_pending hr), fun s h hc hr hp => ?_,
    fun s h hr hs hl hq => standbyEntry_enters h hr hs hl hq, fun s h hno => run_of_eq h (if_neg ?_),
    fun s h hr => ?_, fun s h hr hn => ?_, fun s h hs => wake_from_standby h hs,
    fun s w q h hs hw hd hq => wake_starts h hs hw hd hq,
    fun s w st h hs hw hd hf hq => wake_refuses h hs hw hd hf hq,
    fun s h hr hi hl hp hs => idleTimerExpiry_starts h hr hi hl hp hs, fun s h hno => run_of_eq h (if_neg ?_)⟩
  · obtain ⟨hpower, hshc, hdkc, htru, hmem, hrmi, hlkc⟩ := goneDown_frame s
    obtain ⟨hre, hdef, hout, hburn, hdark⟩ := goneDown_lamp s
    obtain ⟨-, fleft, -, -, fre, fdef, -, -, fout, -⟩ := finish_lmc (answered .ok [] (goneDown s))
    refine ⟨_, request_taken h rfl hc (requestStandby_run hr hp), ?_⟩
    rw [fre, fdef, fout, fleft]
    simp only [finish_frame]
    exact ⟨rfl, hpower, hre, hdef, hout, hburn, hdark, hshc, hdkc, htru, hmem, hrmi, hlkc⟩
  · rw [standbyReady_iff]
    rintro ⟨h1, h2, h3, h4⟩
    rcases hno with hno | hno | hno | hno
    · exact hno h1
    · exact hno h2
    · exact hno h3
    · exact hno h4
  · rw [wake_answers h (by simp [hr]), wakeUp_run hr]
  · rw [wake_answers h (power_ne_reset_of_standby (.inr hr)), wakeUp_none (.inr hr) hn, woken_pending hr]
  · rw [idleRuns_iff]
    rintro ⟨h1, h2, h3, h4, h5⟩
    rcases hno with hno | hno | hno | hno | hno
    · exact hno h1
    · exact h2 hno
    · exact hno h3
    · exact hno h4
    · exact hno h5

end Sys2Proof.Machine
end

section
/-! What a reset keeps of each block and what it clears (11 R190, R191; 04 R92). -/

namespace Sys2Proof.Machine
open Sys2Proof

section
variable {s : State}

/-! ## The parts of a control reset -/

/-- LMC at a control reset, before its settings are loaded. -/
def resetLamp (l : Lmc) : Lmc :=
  let out := if l.lamp = .preheat ∨ l.lamp = .lit then (l.darken .cooling).startCooling else l
  { out.clearMarks.clearGuard with
    claim := .none, dim := false, owed := false, fanStall := false, stallMs := if out.fanStall then 0 else out.stallMs }

/-- The lamp hours that wait after the lamp is put out. -/
def hoursAfter (s : State) : Option Nat :=
  if s.lmc.lamp = .lit ∧ s.pnp.memPresent = true then some s.lmc.hours else s.pnp.hoursWaiting

theorem lampReset_eq (s : State) : lampReset s = { s with
    lmc := resetLamp s.lmc, pnp := { s.pnp with hoursWaiting := hoursAfter s } } := by
  by_cases hl : s.lmc.lamp = .lit
  · have hb : burning s = true := by simp [burning, hl]
    unfold lampReset enterCooling resetLamp hoursAfter
    simp only [hb, hl, handHours_eq, if_true, or_true, true_and]
    rfl
  · by_cases hp : s.lmc.lamp = .preheat
    · have hb : burning s = true := by simp [burning, hp]
      unfold lampReset enterCooling resetLamp hoursAfter
      rw [if_pos hb, if_neg hl, if_pos (.inl hp), if_neg fun h => hl h.1]
      rfl
    · have hb : ¬ burning s = true := by simp [burning, hp, hl]
      unfold lampReset resetLamp hoursAfter
      rw [if_neg hb, if_neg (not_or.mpr ⟨hp, hl⟩), if_neg fun h => hl h.1]
      rfl

theorem resetLamp_fields (l : Lmc) :
    (resetLamp l).lamp = (if l.lamp = .preheat ∨ l.lamp = .lit then .cooling else l.lamp)
    ∧ (resetLamp l).trip = l.trip ∧ (resetLamp l).temp = l.temp ∧ (resetLamp l).part = l.part
    ∧ (resetLamp l).hours = l.hours ∧ (resetLamp l).fanStall = false
    ∧ (l.fanStall = true → (resetLamp l).stallMs = 0) := by
  unfold resetLamp
  dsimp only
  split
  · exact ⟨rfl, rfl, rfl, rfl, rfl, rfl, fun h => if_pos h⟩
  · exact ⟨rfl, rfl, rfl, rfl, rfl, rfl, fun h => if_pos h⟩

/-- The memory as a reset leaves it: a STORE in flight is abandoned. -/
def memAfter (s : State) : Memory := if s.pnp.store = none then s.mem else s.mem.writes [(0, 0), (1, 0)]

theorem abandonStore_eq (s : State) : abandonStore s = { s with mem := memAfter s } := by
  unfold abandonStore memAfter
  split <;> rfl

/-- The settings that a reset loads. -/
def restored (k : Bool) (s : State) : Settings := (imageRead k (memAfter s)).getD .builtIn

/-- CSQ after a control reset. -/
def sequencerAfter (k : Bool) (s : State) : Csq :=
  s.csq.atReset s.pins.sensed (s.csq.state = .idle && s.csq.gate = .seated) (restored k s).seq

/-- LMC after a control reset, the settings loaded. -/
def lampAfter (k : Bool) (s : State) : Lmc :=
  { resetLamp s.lmc with cfg := (restored k s).lamp, showLevel := (restored k s).lamp.initShow }.rederate

theorem controlReset_eq (k : Bool) (s : State) : controlReset k s = { s with
    mem := memAfter s
    tru := { s.tru with
      cfg := (restored k s).tray, position := if s.csq.state = .indexing then none else s.tru.position }
    csq := sequencerAfter k s
    sar := { Sar.reset with sources := (restored k s).sources, cfg := (restored k s).arb }
    lmc := lampAfter k s
    dkc := s.dkc.atReset (restored k s).deck
    cdc := { s.cdc.restart with cfg := (restored k s).decoder, flags := .clear, last := .none }
    crn := { Crn.reset with table := (restored k s).steps }
    shc := { phase := .stopped, ended := false, autoResume := (restored k s).autoResume
             causes := rebuiltCauses (sequencerAfter k s) (lampAfter k s) }
    rmi := rmiAtReset (restored k s).keys (restored k s).remote
    lkc := s.lkc.atReset (restored k s)
    pnp := { s.pnp with
      resp := none, readPos := 0, pend := pendAtReset (sequencerAfter k s), cfg := (restored k s).attn, store := none
      load := false, hoursWrite := none
      hoursWaiting := if hoursAfter s = none then s.pnp.hoursWrite else hoursAfter s
      memPresent := k, defaulted := (imageRead k (memAfter s)).isNone
      idleSetting := (restored k s).idle, idleElapsed := 0, idleMs := 0 } } := by
  unfold controlReset
  rw [lampReset_eq, abandonStore_eq]
  rfl

theorem controlReset_setPower (k : Bool) (p : Power) (s : State) :
    controlReset k (setPower p s) = setPower p (controlReset k s) := by
  rw [controlReset_eq, controlReset_eq]
  rfl

theorem atReset_fields (q : Csq) (d : Sensed) (kept : Bool) (v : SeqSettings) :
    (q.atReset d kept v).flight = none ∧ (q.atReset d kept v).drive = .none ∧ (q.atReset d kept v).shutClosed = false
    ∧ (q.atReset d kept v).state = (if d = .partway then .jammed else .idle)
    ∧ (q.atReset d kept v).origin = (if d = .seated ∧ kept = true then q.origin else none)
    ∧ (q.atReset d kept v).cfg = v := by
  cases d with
  | seated => cases kept <;> exact ⟨rfl, rfl, rfl, rfl, rfl, rfl⟩
  | clear | partway => exact ⟨rfl, rfl, rfl, rfl, rfl, rfl⟩

theorem atReset_jammed (q : Csq) (d : Sensed) (kept : Bool) (v : SeqSettings) :
    decide ((q.atReset d kept v).state = .jammed) = decide (d = .partway) := by
  cases d <;> rfl

theorem atReset_fresh (q : Csq) (d : Sensed) (v : SeqSettings) : q.atReset d false v = { Csq.reset with
    cfg := v
    state := if d = .partway then .jammed else .idle
    stop := if d = .partway then .partialAtReset else .none
    gate := match d with
      | .clear => .empty
      | .seated => .seated
      | .partway => .partway } := by
  cases d <;> rfl

theorem lampAfter_fields (k : Bool) (s : State) :
    (lampAfter k s).lamp = (if s.lmc.lamp = .preheat ∨ s.lmc.lamp = .lit then .cooling else s.lmc.lamp)
    ∧ (lampAfter k s).trip = s.lmc.trip ∧ (lampAfter k s).temp = s.lmc.temp ∧ (lampAfter k s).part = s.lmc.part
    ∧ (lampAfter k s).hours = s.lmc.hours ∧ (lampAfter k s).fanStall = false
    ∧ (s.lmc.fanStall = true → (lampAfter k s).stallMs = 0) := resetLamp_fields s.lmc

theorem restored_settings (k : Bool) (s : State) : (controlReset k s).settings
    = { restored k s with node := s.lkc.node, hours := s.lmc.hours } := by
  obtain ⟨-, -, -, -, hhours, -⟩ := lampAfter_fields k s
  obtain ⟨-, -, -, -, -, hcfg⟩ := atReset_fields s.csq s.pins.sensed (s.csq.state = .idle && s.csq.gate = .seated)
    (restored k s).seq
  rw [controlReset_eq, State.settings]
  simp only [hhours]
  unfold sequencerAfter
  rw [hcfg]
  rfl

theorem rebuiltCauses_after (k : Bool) (s : State) : rebuiltCauses (sequencerAfter k s) (lampAfter k s)
    = { Causes.empty with transport := s.pins.sensed = .partway, lamp := s.lmc.lamp = .fault || s.lmc.trip } := by
  obtain ⟨hlamp, htrip, -⟩ := lampAfter_fields k s
  have hfault : decide ((lampAfter k s).lamp = .fault) = decide (s.lmc.lamp = .fault) := by
    rw [hlamp]
    cases s.lmc.lamp <;> rfl
  unfold rebuiltCauses
  rw [hfault, htrip, sequencerAfter, atReset_jammed]

end

end Sys2Proof.Machine
end

section
/-! The obligation on the resets. -/

namespace Sys2Proof.Machine
open Sys2Proof

section
variable {s : State}

theorem resetControl_eq (k : Bool) (h : Powered s) (hr : s.pnp.power ≠ .resetHeld) :
    exec (.resetControl k) s = .next (finish (answered .ok [] (resetToRun k s))) := by
  change run (panelIn true false fun s => reply (resetToRun k s) .ok) s = _
  rw [run_powered h, panelIn_taken (powerRefusal_standby hr false)]
  rfl

theorem resetHold_eq (k : Bool) (h : Powered s) (hr : s.pnp.power ≠ .resetHeld) :
    exec (.resetHold k) s = .next (finish (answered .ok [] (setPower .resetHeld (controlReset k s)))) := by
  change run (panelIn true false fun s => reply (setPower .resetHeld (controlReset k s)) .ok) s = _
  rw [run_powered h, panelIn_taken (powerRefusal_standby hr false)]
  rfl

theorem powerRefusal_release {p : Power} (h : p ≠ .standby) : powerRefusal false true p = none := by
  cases p with
  | standby => exact absurd rfl h
  | run | standbyPending | resetHeld => rfl

theorem release_eq (k : Bool) (h : Powered s) (hs : s.pnp.power ≠ .standby) : exec (.release k) s
    = .next (finish (answered .ok [] (if s.pnp.power = .resetHeld then resetToRun k s else s))) := by
  change run (panelIn false true fun s => reply (if s.pnp.power = .resetHeld then resetToRun k s else s) .ok) s = _
  rw [run_powered h, panelIn_taken (powerRefusal_release hs)]
  rfl

theorem resetToRun_setPower (k : Bool) (p : Power) (s : State) : resetToRun k (setPower p s) = resetToRun k s := by
  unfold resetToRun
  rw [controlReset_setPower]
  rfl

/-! ## What both resets leave -/

/-- The blocks other than LMC and PNP as a control reset of `s` leaves them. -/
structure ResetTo (k : Bool) (s t : State) : Prop where
  mem : t.mem = memAfter s
  pins : t.pins = s.pins
  tru : t.tru = { s.tru with
    cfg := (restored k s).tray, position := if s.csq.state = .indexing then none else s.tru.position }
  csq : t.csq = sequencerAfter k s
  sar : t.sar = { Sar.reset with sources := (restored k s).sources, cfg := (restored k s).arb }
  dkc : t.dkc = s.dkc.atReset (restored k s).deck
  cdc : t.cdc = { s.cdc.restart with cfg := (restored k s).decoder, flags := .clear, last := .none }
  crn : t.crn = { Crn.reset with table := (restored k s).steps }
  shc : t.shc = ⟨.stopped, { Causes.empty with transport := s.pins.sensed = .partway,
                                               lamp := s.lmc.lamp = .fault || s.lmc.trip }, false,
    (restored k s).autoResume⟩
  rmi : t.rmi = { Rmi.reset with keys := (restored k s).keys, cfg := (restored k s).remote }
  lkc : t.lkc = s.lkc.atReset (restored k s)
  settings : t.settings = { restored k s with node := s.lkc.node, hours := s.lmc.hours }

theorem controlReset_resets (k : Bool) (s : State) : ResetTo k s (controlReset k s) := by
  have hcauses := rebuiltCauses_after k s
  have hset := restored_settings k s
  rw [controlReset_eq] at hset ⊢
  exact ⟨rfl, rfl, rfl, rfl, rfl, rfl, rfl, rfl, by rw [hcauses], rfl, rfl, hset⟩

/-- The answer, the power state and what follows every command leave those blocks. -/
theorem ResetTo.finished {k : Bool} {t u : State} (h : ResetTo k s t) (hu : u = { t with psdo := u.psdo, pnp := u.pnp })
    (hcfg : u.pnp.cfg = t.pnp.cfg ∧ u.pnp.idleSetting = t.pnp.idleSetting) : ResetTo k s (finish u) := by
  have hset : u.settings = t.settings := by
    obtain ⟨hattn, hidle⟩ := hcfg
    rw [hu]
    simp only [State.settings, hattn, hidle]
  obtain ⟨hmem, hpins, htru, hcsq, hsar, hdkc, hcdc, hcrn, hshc, hrmi, hlkc, hset'⟩ := h
  constructor
  case settings => exact (finish_settings u).trans (hset.trans hset')
  all_goals
    simp only [finish_frame]
    rw [hu]
    assumption

theorem finished_resets (k : Bool) (p : Power) (s : State) :
    ResetTo k s (finish (answered .ok [] (setPower p (controlReset k s)))) :=
  (controlReset_resets k s).finished rfl ⟨rfl, rfl⟩

theorem resetToRun_resets (k : Bool) (s : State) : ResetTo k s (finish (answered .ok [] (resetToRun k s))) :=
  (controlReset_resets k s).finished rfl ⟨rfl, rfl⟩

/-- LMC after a control reset. -/
theorem resetToRun_lamp (k : Bool) (s : State) : let t := finish (answered .ok [] (resetToRun k s))
    t.lmc.lamp = (if s.lmc.lamp = .preheat ∨ s.lmc.lamp = .lit then .cooling else s.lmc.lamp)
      ∧ t.lmc.trip = s.lmc.trip ∧ t.lmc.temp = s.lmc.temp ∧ t.lmc.part = s.lmc.part ∧ t.lmc.fanStall = false
      ∧ (s.lmc.fanStall = true → t.lmc.stallMs = 0) := by
  obtain ⟨hlamp, htrip, htemp, hpart, -, hstall, hstallMs⟩ := lampAfter_fields k s
  have hlmc : (answered .ok [] (resetToRun k s)).lmc = lampAfter k s := by
    change (controlReset k s).lmc = _
    rw [controlReset_eq]
  dsimp only
  rw [finish_eq, hlmc]
  refine ⟨hlamp, htrip, htemp, hpart, ?_, fun hs => ?_⟩
  · dsimp only
    rw [hstall, Bool.false_and]
  · dsimp only
    rw [hstallMs hs, ite_self]

/-- The panel port after a control reset. -/
theorem resetToRun_port (k : Bool) (s : State) : let t := finish (answered .ok [] (resetToRun k s))
    t.pnp.resp = some ⟨.ok, []⟩ ∧ t.pnp.power = .run ∧ t.pnp.event = .resetDone
      ∧ t.pnp.pend = { Pend.clear with jam := s.pins.sensed = .partway, power := true }
      ∧ t.pnp.faults = s.pnp.faults ∧ t.pnp.memPresent = k ∧ t.pnp.store = none ∧ t.pnp.load = false
      ∧ t.pnp.hoursWrite = none ∧ t.pnp.defaulted = decide (imageRead k (memAfter s) = none) := by
  have hreset : resetToRun k s = powerEvent .resetDone (setPower .run (controlReset k s)) := rfl
  have hjam : pendAtReset (sequencerAfter k s) = { Pend.clear with jam := s.pins.sensed = .partway } := by
    unfold pendAtReset sequencerAfter
    rw [atReset_jammed]
  dsimp only
  rw [(finish_pend _).1, (finish_pend _).2, finish_faults]
  simp only [finish_frame]
  rw [hreset, controlReset_eq, hjam]
  refine ⟨rfl, rfl, rfl, rfl, rfl, rfl, rfl, rfl, rfl, ?_⟩
  change (imageRead k (memAfter s)).isNone = _
  cases imageRead k (memAfter s) <;> rfl

/-! ## Power-on reset -/

theorem powerOn_eq (k : Bool) (s : State) : powerOn k s =
    { pending := s.pending
      pins := { s.pins with porstLow := false }
      psdo := s.psdo
      mem := memAfter s
      tru := { Tru.reset with cfg := (restored k s).tray }
      csq := s.csq.atReset s.pins.sensed false (restored k s).seq
      sar := { Sar.reset with sources := (restored k s).sources, cfg := (restored k s).arb }
      lmc := { Lmc.reset with
        cfg := (restored k s).lamp, showLevel := (restored k s).lamp.initShow, hours := (restored k s).hours }
      dkc := Dkc.reset.atReset (restored k s).deck
      cdc := { Cdc.reset with cfg := (restored k s).decoder }
      crn := { Crn.reset with table := (restored k s).steps }
      shc := { Shc.reset with
        autoResume := (restored k s).autoResume
        causes := rebuiltCauses (s.csq.atReset s.pins.sensed false (restored k s).seq) Lmc.reset }
      rmi := rmiAtReset (restored k s).keys (restored k s).remote
      lkc := Lkc.atReset { Lkc.reset with
        node := (restored k s).node, lock := (restored k s).node ≠ Config.unassigned } (restored k s)
      pnp := { Pnp.reset with
        pend := pendAtReset (s.csq.atReset s.pins.sensed false (restored k s).seq), cfg := (restored k s).attn
        idleSetting := (restored k s).idle, memPresent := k
        defaulted := (imageRead k (memAfter s)).isNone } } := by
  unfold powerOn
  rw [abandonStore_eq]
  rfl

/-- The blocks other than LMC and PNP after a power-on reset. -/
theorem powerOn_blocks (k : Bool) (s : State) : (powerOn k s).pins = { s.pins with porstLow := false }
    ∧ (powerOn k s).mem = memAfter s ∧ (powerOn k s).settings = restored k s
    ∧ (powerOn k s).tru = { Tru.reset with cfg := (restored k s).tray }
    ∧ (powerOn k s).csq = { Csq.reset with
        cfg := (restored k s).seq
        state := if s.pins.sensed = .partway then .jammed else .idle
        stop := if s.pins.sensed = .partway then .partialAtReset else .none
        gate := match s.pins.sensed with
          | .clear => .empty
          | .seated => .seated
          | .partway => .partway }
    ∧ (powerOn k s).sar = { Sar.reset with sources := (restored k s).sources, cfg := (restored k s).arb }
    ∧ (powerOn k s).dkc = { Dkc.reset with
        cfg := (restored k s).deck
        audio := ⟨(restored k s).deck.initAudio, (restored k s).deck.initAudio, 0, 0, 0⟩ }
    ∧ (powerOn k s).cdc = { Cdc.reset with cfg := (restored k s).decoder }
    ∧ (powerOn k s).crn = { Crn.reset with table := (restored k s).steps }
    ∧ (powerOn k s).shc = ⟨.stopped, { Causes.empty with transport := s.pins.sensed = .partway }, false,
        (restored k s).autoResume⟩
    ∧ (powerOn k s).rmi = { Rmi.reset with keys := (restored k s).keys, cfg := (restored k s).remote }
    ∧ (powerOn k s).lkc.node = (restored k s).node ∧ (powerOn k s).lkc.lock = decide ((restored k s).node ≠ 15)
    ∧ (powerOn k s).lkc.txq = [] ∧ (powerOn k s).lkc.rxbuf = [] := by
  have hcauses : rebuiltCauses (s.csq.atReset s.pins.sensed false (restored k s).seq) Lmc.reset
      = { Causes.empty with transport := s.pins.sensed = .partway } := by
    unfold rebuiltCauses
    rw [atReset_jammed]
    rfl
  obtain ⟨-, -, -, -, -, hcfg⟩ := atReset_fields s.csq s.pins.sensed false (restored k s).seq
  have hset : (powerOn k s).settings = restored k s := by
    rw [powerOn_eq, State.settings]
    dsimp only
    rw [hcfg]
    rfl
  rw [hset, powerOn_eq, hcauses, atReset_fresh]
  exact ⟨rfl, rfl, rfl, rfl, rfl, rfl, rfl, rfl, rfl, rfl, rfl, rfl, rfl, rfl, rfl⟩

theorem powerOn_lamp (k : Bool) (s : State) : (finish (powerOn k s)).lmc = { Lmc.reset with
    cfg := (restored k s).lamp, showLevel := (restored k s).lamp.initShow, hours := (restored k s).hours } := by
  rw [finish_eq, powerOn_eq]
  rfl

theorem powerOn_port (k : Bool) (s : State) : (finish (powerOn k s)).pnp = { Pnp.reset with
    pend := { Pend.clear with jam := s.pins.sensed = .partway }, cfg := (restored k s).attn
    idleSetting := (restored k s).idle, memPresent := k
    defaulted := decide (imageRead k (memAfter s) = none) } := by
  have hjam : pendAtReset (s.csq.atReset s.pins.sensed false (restored k s).seq)
      = { Pend.clear with jam := s.pins.sensed = .partway } := by
    unfold pendAtReset
    rw [atReset_jammed]
  have hnone : (imageRead k (memAfter s)).isNone = decide (imageRead k (memAfter s) = none) := by
    cases imageRead k (memAfter s) <;> rfl
  have hpnp : (powerOn k s).pnp = { Pnp.reset with
      pend := { Pend.clear with jam := s.pins.sensed = .partway }, cfg := (restored k s).attn
      idleSetting := (restored k s).idle, memPresent := k
      defaulted := decide (imageRead k (memAfter s) = none) } := by
    rw [powerOn_eq, hjam, hnone]
  rw [finish_eq]
  dsimp only
  rw [hpnp]
  exact ite_self _

end

/-- Settles O59: every block after a control reset (`resetToRun_resets`, `resetToRun_lamp`, `resetToRun_port`), the same
blocks in RESET_HELD, the release, and the power-on values. -/
theorem resetsRestoreTheBlocks : Obligations.ResetsRestoreTheBlocks := by
  refine ⟨fun s k h hr => ?_, fun s k h hr => ?_, fun s k h hs => ?_, fun s k h hs => ?_, fun s k => ?_, ?_, rfl, rfl,
    rfl, rfl, rfl, rfl, rfl, rfl⟩
  · obtain ⟨hresp, hpower, hevent, hpend, hfaults, hpresent, hstore, hload, hwrite, hdef⟩ := resetToRun_port k s
    obtain ⟨hlamp, htrip, htemp, hpart, hstall, hstallMs⟩ := resetToRun_lamp k s
    obtain ⟨hmem, hpins, htru, hcsq, hsar, hdkc, hcdc, hcrn, hshc, hrmi, hlkc, hset⟩ := resetToRun_resets k s
    obtain ⟨hflight, hdrive, hshut, hstate, horigin, -⟩ := atReset_fields s.csq s.pins.sensed
      (s.csq.state = .idle && s.csq.gate = .seated) (restored k s).seq
    refine ⟨_, resetControl_eq k h hr, ?_⟩
    generalize finish (answered .ok [] (resetToRun k s)) = t at *
    rw [hset, hmem, htru, hcsq, hsar, hdkc, hcdc, hcrn, hshc, hrmi, hlkc]
    refine ⟨hresp, hpower, hevent, hpend, hfaults, hpresent, hstore, hload, hwrite, hdef, rfl, rfl, rfl, rfl, rfl,
      hflight, hdrive, hshut, hstate, ?_, rfl, rfl, rfl, hlamp, htrip, htemp, hpart, hstall, hstallMs, rfl, rfl, rfl,
      rfl, rfl, rfl, rfl, rfl, rfl, rfl, rfl, rfl, rfl, rfl, rfl, hpins⟩
    refine horigin.trans (if_congr ?_ rfl rfl)
    simp only [Bool.and_eq_true, decide_eq_true_eq]
  · have ht := resetToRun_resets k s
    have hu := finished_resets k .resetHeld s
    refine ⟨_, _, resetControl_eq k h hr, resetHold_eq k h hr, ?_⟩
    rw [(finish_pend _).1, hu.settings, ht.settings, hu.csq, ht.csq, hu.tru, ht.tru, hu.sar, ht.sar, hu.dkc, ht.dkc,
      hu.cdc, ht.cdc, hu.crn, ht.crn, hu.shc, ht.shc, hu.rmi, ht.rmi, hu.lkc, ht.lkc, hu.mem, ht.mem]
    refine ⟨by simp only [finish_frame]; rfl, ?_, ?_, by simp only [finish_frame]; rfl, rfl, rfl, rfl, rfl, rfl, rfl, rfl,
      rfl, rfl, rfl, rfl⟩
    · simp only [finish_frame]
      exact (controlReset_frame k s).2.2.2.2.2.2.2.2.2.2.2
    · rw [controlReset_eq]
      rfl
  · have hne : s.pnp.power ≠ .resetHeld ∧ s.pnp.power ≠ .standby := by
      rcases hs with hs | hs <;> simp [hs]
    rw [release_eq k h hne.2, if_neg hne.1]
  · have hrun : exec (.resetControl k) (setPower .run s) = _ :=
      resetControl_eq (s := setPower .run s) k h (by simp [setPower])
    rw [release_eq k h (by simp [hs]), if_pos hs]
    exact ((hrun.trans (by rw [resetToRun_setPower]))).symm
  · have hpower : exec (.powerOnReset k) s = .next (finish (powerOn k s)) := rfl
    have hlmc := powerOn_lamp k s
    obtain ⟨hpins, hmem, hset, htru, hcsq, hsar, hdkc, hcdc, hcrn, hshc, hrmi, hnode, hlock, htxq, hrxbuf⟩ :=
      powerOn_blocks k s
    refine ⟨_, hpower, ?_⟩
    rw [powerOn_port, hlmc, finish_settings, hset]
    simp only [finish_frame]
    rw [hmem]
    exact ⟨(powerOn_frame k s).1, hpins, rfl, rfl, rfl, htru, hsar, trivial, hcrn, hcdc, hdkc, hshc, hcsq, hnode, hlock, htxq,
      hrxbuf, hrmi⟩
  · intro l _
    cases l <;> rfl

end Sys2Proof.Machine
end

section
/-! What 1 ms does to each block. -/

namespace Sys2Proof.Machine
open Sys2Proof

/-! ## Running counts -/

theorem eq_decide_of_iff {b : Bool} {p : Prop} [Decidable p] (h : b = true ↔ p) : b = decide p :=
  Bool.eq_iff_iff.mpr (h.trans decide_eq_true_iff.symm)

theorem countUp_units_if (b : Bool) (per units ms : Nat) :
    (if b = true then (countUp per units ms).1 else units) = units + unitDone b per ms := by
  cases b <;> simp [countUp_eq]

theorem countUp_ms_if (b : Bool) (per units ms : Nat) :
    (if b = true then (countUp per units ms).2 else ms) = msAfter b per ms := by
  cases b <;> simp [countUp_eq]

/-! ## The blocks -/

theorem tick_low {s : State} (h : s.pins.porstLow = true) : tick s = s := if_pos h

theorem due_low {s : State} (h : s.pins.porstLow = true) : due s = none := if_pos h

theorem tick_powered {s : State} (h : Powered s) : tick s = { s with
    tru := tickTru s, csq := tickCsq s.csq, sar := tickSar s, lmc := tickLmc s, dkc := tickDkc s, cdc := tickCdc s
    crn := tickCrn s, rmi := if s.pnp.power = .resetHeld then s.rmi else s.rmi.tick
    lkc := if s.linkOn then s.lkc.tick else s.lkc, pnp := tickPnp s } :=
  if_neg (by simp [h])

theorem tickTru_eq (s : State) : tickTru s = { s.tru with
    readingMs := if s.pins.tprs = true ∧ s.tru.present = false then min 50 (s.tru.readingMs + 1)
      else s.tru.readingMs } := by
  have hruns : (s.pins.tprs && !s.tru.present) = true ↔ s.pins.tprs = true ∧ s.tru.present = false := by simp
  unfold tickTru
  by_cases h : s.pins.tprs = true ∧ s.tru.present = false
  · rw [if_pos h]
    exact if_pos (hruns.mpr h)
  · rw [if_neg h]
    exact if_neg fun hr => h (hruns.mp hr)

theorem driveRuns_iff (q : Csq) : q.drive ≠ .none ↔ q.lft = true ∨ q.drp = true := by
  unfold Csq.lft Csq.drp
  cases q.drive <;> simp

theorem tickCsq_eq (q : Csq) : tickCsq q = { q with
    timerMs := if q.lft = true ∨ q.drp = true ∨ q.state = .indexing then q.timerMs + 1 else q.timerMs
    shutMs := q.shutMs.map (· + 1) } := by
  simp only [tickCsq, driveRuns_iff, or_assoc]

theorem tickSar_eq (s : State) : tickSar s = { s.sar with
    tenureLeft := s.sar.tenureLeft - unitDone (decide (s.sar.holder ≠ none ∧ Counting s)) 100 s.sar.tenureMs
    tenureMs := msAfter (decide (s.sar.holder ≠ none ∧ Counting s)) 100 s.sar.tenureMs } := by
  have hruns : (s.sar.holder.isSome && deckActs s) = decide (s.sar.holder ≠ none ∧ Counting s) :=
    eq_decide_of_iff (by rw [Bool.and_eq_true, deckActs_iff, Option.isSome_iff_ne_none])
  simp only [tickSar, hruns]
  cases decide (s.sar.holder ≠ none ∧ Counting s)
  · rfl
  · simp [countDown_eq]

theorem tickLmc_eq (s : State) :
    let opens := decide (250 ≤ s.lmc.sampleMs + 1 ∧ s.lmc.answered = true)
    let cools := decide (s.lmc.coolRunning = true ∧ s.pnp.power ≠ .standby)
    let burns := decide (s.lmc.lamp = .lit ∧ s.pnp.power ≠ .standby)
    tickLmc s = { s.lmc with
      sampleMs := if opens then 0 else s.lmc.sampleMs + 1
      answered := s.lmc.answered && !opens
      coolLeft := s.lmc.coolLeft - unitDone cools 1000 s.lmc.coolMs
      coolMs := msAfter cools 1000 s.lmc.coolMs
      preheatMs := if s.lmc.lamp = .preheat then s.lmc.preheatMs + 1 else s.lmc.preheatMs
      ramp := if s.lmc.lamp = .lit ∧ s.lmc.ramp.elapsed < s.lmc.ramp.duration then
          { s.lmc.ramp with ms := s.lmc.ramp.ms + 1 } else s.lmc.ramp
      part := s.lmc.part + unitDone burns 1000 s.lmc.partMs
      partMs := msAfter burns 1000 s.lmc.partMs
      openMs := if OpenRuns s then s.lmc.openMs + 1 else 0
      guardElapsed := s.lmc.guardElapsed + unitDone (GuardRuns s) 1000 s.lmc.guardMs
      guardMs := msAfter (GuardRuns s) 1000 s.lmc.guardMs
      stallMs := if s.lmc.fan = .off then s.lmc.stallMs else min 2000 (s.lmc.stallMs + 1) } := by
  intro opens cools burns
  have hcools : (s.lmc.coolRunning && decide (s.pnp.power ≠ .standby)) = cools := eq_decide_of_iff (by simp)
  have hburns : (decide (s.lmc.lamp = .lit) && decide (s.pnp.power ≠ .standby)) = burns := eq_decide_of_iff (by simp)
  have hguard : s.guardRuns = decide (GuardRuns s) := eq_decide_of_iff (guardRuns_iff s)
  simp only [tickLmc, tickBurning_eq, tickCooling_eq, tickSample_eq, countUp_units_if, countUp_ms_if, openRuns_iff,
    hguard, hcools, hburns]
  rfl

theorem tickDkc_eq (s : State) : tickDkc s = { s.dkc with
    stopPulse := s.dkc.stopPulse.map (· + 1)
    timerMs := if (s.dkc.deck = .starting ∨ s.dkc.deck = .pausing) ∧ Counting s then s.dkc.timerMs + 1
      else s.dkc.timerMs
    stall := if Counting s then s.dkc.stall.map (· + 1) else s.dkc.stall
    clockMs := if s.dkc.deck = .playing ∧ Counting s then s.dkc.clockMs + 1 else s.dkc.clockMs
    audio := if s.dkc.audio.elapsed < s.dkc.audio.duration ∧ Counting s then
        { s.dkc.audio with ms := s.dkc.audio.ms + 1 } else s.dkc.audio } := by
  unfold tickDkc
  by_cases h : Counting s
  · simp only [if_pos ((deckActs_iff s).mpr h), h, and_true, if_true]
  · simp only [deckActs_iff, h, and_false, if_false]

theorem tickCdc_counting {s : State} (h : Counting s) : tickCdc s = { s.cdc with
    watchMs := min 3 (s.cdc.watchMs + 1)
    pulse := match s.cdc.pulse with
      | .measuring n a b h => .measuring (n + 1) a b h
      | p => p
    wordMs := if s.cdc.word = .idle then s.cdc.wordMs else s.cdc.wordMs + 1 } :=
  (if_pos ((decoderActs_iff s).mpr h)).trans (by rfl)

theorem tickCdc_held {s : State} (h : ¬ Counting s) : tickCdc s = s.cdc :=
  if_neg fun hr => h ((decoderActs_iff s).mp hr)

theorem tickCrn_eq (s : State) : tickCrn s = { s.crn with
    dwell := s.crn.dwell.map (· - unitDone (DwellRuns s) 100 s.crn.dwellMs)
    dwellMs := msAfter (DwellRuns s) 100 s.crn.dwellMs } := by
  have hruns : dwellRuns s = decide (DwellRuns s) := eq_decide_of_iff (dwellRuns_iff s)
  rw [← hruns]
  unfold tickCrn
  cases dwellRuns s
  · simp
  · simp [countDown_eq]

theorem irReleaseRuns_iff (r : Rmi) :
    (r.irHeld.isSome && !r.injected) = true ↔ r.irHeld ≠ none ∧ r.injected = false := by
  rw [Bool.and_eq_true, Option.isSome_iff_ne_none, Bool.not_eq_true']

theorem press_tick_eq : Press.tick = pressedLonger := funext Press.tick_eq

theorem focus_tick_eq (f : Focus) : f.tick = match f with
    | .run d (.timed left) n => .run d (.timed (left - 1)) (n + 1)
    | .run d e n => .run d e (n + 1)
    | .stopped => .stopped := by
  unfold Focus.tick
  rfl

theorem rmi_tick_eq (r : Rmi) : r.tick = { r with
    fwd := r.tick.fwd, rev := r.tick.rev, fin := r.tick.fin, fout := r.tick.fout
    irPress := r.irPress.map pressedLonger
    irReleaseMs := if r.irHeld ≠ none ∧ r.injected = false then r.irReleaseMs + 1 else r.irReleaseMs
    digitMs := if r.digit ≠ none then r.digitMs + 1 else r.digitMs
    focus := match r.focus with
      | .run d (.timed left) n => .run d (.timed (left - 1)) (n + 1)
      | .run d e n => .run d e (n + 1)
      | .stopped => .stopped } := by
  simp only [Rmi.tick, irReleaseRuns_iff, Option.isSome_iff_ne_none, press_tick_eq]
  rfl

theorem rmi_tick_line (r : Rmi) (l : Line) : r.tick.line l = (r.line l).tick := by
  cases l <;> rfl

theorem lineRec_tick_eq (l : LineRec) : l.tick = { l with
    press := l.press.map pressedLonger
    reading := match l.reading with
      | .watched => .watched
      | .resumed n => .resumed (n + 1)
      | .first n => .first (n + 1) } := by
  simp only [LineRec.tick, press_tick_eq]
  rfl

theorem tickPnp_eq (s : State) : tickPnp s = { s.pnp with
    idleElapsed := s.pnp.idleElapsed + unitDone (IdleRuns s) 1000 s.pnp.idleMs
    idleMs := msAfter (IdleRuns s) 1000 s.pnp.idleMs } := by
  have hruns : s.idleRuns = decide (IdleRuns s) := eq_decide_of_iff (idleRuns_iff s)
  rw [← hruns]
  unfold tickPnp
  cases s.idleRuns
  · rfl
  · simp [countUp_eq]

end Sys2Proof.Machine
end

section
/-! The rows that the search for a due command looks at, each true exactly where its command is due. -/

namespace Sys2Proof.Machine
open Sys2Proof

/-- Each row's condition says that its command is due. -/
def Exact (s : State) (rows : List (Bool × Instr)) : Prop := ∀ p ∈ rows, (p.1 = true ↔ Due s p.2)

section
variable {s : State} {c : Instr} {rows : List (Bool × Instr)}

theorem Exact.nil : Exact s [] := nofun

theorem Exact.cons {b : Bool} (h : b = true ↔ Due s c) (ht : Exact s rows) : Exact s ((b, c) :: rows) :=
  List.forall_mem_cons.mpr ⟨h, ht⟩

theorem Exact.append {rows' : List (Bool × Instr)} (h : Exact s rows) (h' : Exact s rows') : Exact s (rows ++ rows') :=
  List.forall_mem_append.mpr ⟨h, h'⟩

theorem Exact.sound (h : Exact s rows) (hm : (true, c) ∈ rows) : Due s c := (h _ hm).mp rfl

/-- A command that is due and has a row has its row true. -/
theorem Exact.complete (h : Exact s rows) (hc : c ∈ rows.map (·.2)) (hd : Due s c) : (true, c) ∈ rows := by
  obtain ⟨⟨b, d⟩, hm, rfl⟩ := List.mem_map.mp hc
  have hb : b = true := (h _ hm).mpr hd
  exact hb ▸ hm

/-! ## The mechanism and the lamp -/

theorem getD_zero_reached {o : Option Nat} {n : Nat} (hn : 0 < n) :
    n ≤ o.getD 0 ↔ ∃ m, o = some m ∧ n ≤ m := by
  cases o
  · simp [Nat.ne_of_gt hn]
  · simp

theorem dueMechanism_exact (s : State) : Exact s (dueMechanism s) := by
  refine .cons ?_ <| .cons ?_ <| .cons ?_ <| .cons ?_ <| .cons ?_ .nil
  · simp only [Bool.and_eq_true, decide_eq_true_eq]
    exact .rfl
  · simp only [Bool.and_eq_true, decide_eq_true_eq]
    exact .rfl
  · simp only [Bool.and_eq_true, decide_eq_true_eq]
    exact .rfl
  · have hlimit : 0 < Config.shutterLimitMs := by decide
    simp only [Bool.and_eq_true, decide_eq_true_eq, getD_zero_reached hlimit]
    exact and_comm
  · simp [Due, deckActs_iff, Option.isSome_iff_ne_none, and_assoc]

theorem dueLamp_exact (s : State) : Exact s (dueLamp s) := by
  refine .cons ?_ <| .cons ?_ <| .cons ?_ <| .cons ?_ <| .cons ?_ <| .cons ?_ <| .cons ?_ <| .cons ?_ .nil
  · simp only [Bool.and_eq_true, decide_eq_true_eq, Bool.not_eq_true', Due, true_and]
    exact and_comm
  · simp only [Bool.and_eq_true, decide_eq_true_eq]
    exact .rfl
  · simp [Due, coolingOn_iff, and_assoc]
  · simp [Due, and_assoc]
  · simp only [Bool.and_eq_true, decide_eq_true_eq, openRuns_iff]
    exact .rfl
  · simp only [Bool.and_eq_true, decide_eq_true_eq, guardRuns_iff]
    exact .rfl
  · simp only [Bool.and_eq_true, decide_eq_true_eq, Bool.not_eq_true', and_assoc]
    exact .rfl
  · simp only [Bool.and_eq_true, decide_eq_true_eq, and_assoc]
    exact .rfl

/-! ## The deck, the cue input and the link -/

theorem dueDeck_exact (s : State) : Exact s (dueDeck s) := by
  refine .cons ?_ <| .cons ?_ <| .cons ?_ <| .cons ?_ <| .cons ?_ <| .cons ?_ .nil
  · have hlimit : 0 < Config.stopPulseMs := by decide
    simp only [decide_eq_true_eq, getD_zero_reached hlimit]
    exact .rfl
  · simp only [Bool.and_eq_true, decide_eq_true_eq]
    exact .rfl
  · have hlimit : 0 < Config.stallLimitMs := by decide
    simp only [Bool.and_eq_true, decide_eq_true_eq, getD_zero_reached hlimit]
    exact .rfl
  · simp only [Bool.and_eq_true, decide_eq_true_eq]
    exact .rfl
  · simp only [Bool.and_eq_true, decide_eq_true_eq, deckActs_iff, and_assoc]
    exact .rfl
  · simp only [Bool.and_eq_true, decide_eq_true_eq, deckActs_iff, and_assoc]
    exact .rfl

theorem holdReached_iff (p : PulseRun) : holdReached p = true ↔ ∃ n a b h, p = .measuring n a b h ∧ h ≤ n := by
  cases p <;> simp [holdReached]

theorem watchMatters_iff (c : Cdc) : watchMatters c = true
    ↔ c.tone ≠ .none ∨ c.count ≠ 0 ∨ c.waitQuiet = true ∨ c.risen = true := by
  simp [watchMatters, or_assoc]

theorem dueCues_exact (s : State) : Exact s (dueCues s) := by
  refine .cons ?_ <| .cons ?_ <| .cons ?_ <| .cons ?_ <| .cons ?_ <| .cons ?_ .nil
  · exact holdReached_iff s.cdc.pulse
  · simp only [Bool.and_eq_true, decide_eq_true_eq, decoderActs_iff, watchMatters_iff, and_assoc]
    exact .rfl
  · rw [Bool.and_eq_true, decide_eq_true_eq, Due]
    exact and_congr_right fun hw => by simp [sampleDue, sampleAt, hw]
  · simp only [Bool.and_eq_true, Bool.or_eq_true, decide_eq_true_eq, Due, or_and_right]
    exact or_congr (and_congr_right fun hw => by simp [sampleDue, sampleAt, hw])
      (and_congr_right fun hw => by simp [sampleDue, sampleAt, hw])
  · rw [Bool.and_eq_true, decide_eq_true_eq, Due]
    exact and_congr_right fun hw => by simp [sampleDue, sampleAt, hw]
  · rw [Bool.and_eq_true, decide_eq_true_eq, dwellRuns_iff]
    exact .rfl

theorem charUs_eq (l : Lkc) : l.charUs = [1042, 521, 260].getD l.cfg.rate 174 := by
  unfold Lkc.charUs
  split
  · next h => rw [h]; rfl
  · next h => rw [h]; rfl
  · next h => rw [h]; rfl
  · next h0 h1 h2 =>
    have hlen : 2 < l.cfg.rate := Nat.two_lt_of_ne h0 h1 h2
    exact (List.getD_eq_default _ _ hlen).symm

theorem slotsDone_iff (l : Lkc) : l.slotsDone = true ↔ l.access = .waitSlots ∧ l.lineIdle = true
    ∧ (if l.retry = 0 then l.cfg.level + 1 else l.cfg.level + l.node + 2)
        * [1042, 521, 260].getD l.cfg.rate 174 ≤ l.idleForUs := by
  rw [Lkc.slotsDone, Bool.and_eq_true, Bool.and_eq_true, decide_eq_true_eq, decide_eq_true_eq, charUs_eq, Lkc.slots,
    and_assoc]

theorem dueLink_exact (s : State) : Exact s (dueLink s) := by
  refine .cons ?_ <| .cons ?_ <| .cons ?_ <| .cons ?_ .nil
  · simp only [Bool.and_eq_true, decide_eq_true_eq, linkOn_iff]
    exact and_assoc
  · simp only [Bool.and_eq_true, decide_eq_true_eq, linkOn_iff, Bool.not_eq_true']
    exact and_assoc.trans and_assoc
  · simp only [Bool.and_eq_true, linkOn_iff, slotsDone_iff, Bool.not_eq_true', List.isEmpty_eq_false_iff, Due,
      and_assoc]
    exact and_congr_right fun _ => and_congr_right fun _ => and_congr_right fun _ => and_congr_right fun _ => and_comm
  · simp only [Bool.and_eq_true, decide_eq_true_eq, idleRuns_iff]
    exact .rfl

end
end Sys2Proof.Machine
end

section
/-! The rows of the remote control, of the levels and follow-up steps, and of the heard frame. -/

namespace Sys2Proof.Machine
open Sys2Proof

section
variable {s : State} {c : Instr} {rows : List (Bool × Instr)}

/-! ## The remote control -/

theorem Exact.map {α : Type} {f : α → Bool} {g : α → Instr} (l : List α)
    (h : ∀ x, f x = true ↔ Due s (g x)) : Exact s (l.map fun x => (f x, g x)) :=
  List.forall_mem_map.mpr fun x _ => h x

theorem focusTimedOut_iff (f : Focus) : focusTimedOut f = true ↔ ∃ d n, f = .run d (.timed 0) n := by
  unfold focusTimedOut
  split <;> simp_all

theorem focusTooLong_iff (f : Focus) :
    focusTooLong f = true ↔ ∃ d e n, f = .run d e n ∧ Config.focusLimitMs ≤ n := by
  cases f <;> simp [focusTooLong]

theorem codeLine_iff (k : Nat) (l : Line) : codeLine k = some l ↔ k = lineCode l := by
  refine ⟨fun h => ?_, fun h => h ▸ codeLine_lineCode l⟩
  unfold codeLine at h
  split at h <;> cases h <;> rfl

theorem codeLine_none_iff (k : Nat) : codeLine k = none ↔ ∀ l, k ≠ lineCode l := by
  simp only [Option.eq_none_iff_forall_ne_some, ne_eq, codeLine_iff]

/-- The press record of a line's code is the line's own; of another code it is that of the code held on the IR
receiver. -/
theorem pressOf_iff (k : Nat) (p : Press) : pressOf k s = some p
    ↔ (∃ l, k = lineCode l ∧ (s.rmi.line l).press = some p)
      ∨ ((∀ l, k ≠ lineCode l) ∧ s.rmi.irHeld = some k ∧ s.rmi.irPress = some p) := by
  simp only [← codeLine_none_iff, ← codeLine_iff, pressOf]
  cases codeLine k <;> simp

theorem repeatDue_iff (k : Nat) : repeatDue s k = true ↔ ∃ p, RepeatDue p ∧ pressOf k s = some p := by
  unfold repeatDue
  cases hk : pressOf k s with
  | none => simp
  | some p => cases hm : p.mode <;> simp [RepeatDue, hm]

theorem linesWatched_iff : linesWatched s = true ↔ s.pnp.power ≠ .resetHeld ∧ s.rmi.test = false := by
  simp [linesWatched]

theorem lineRow_iff (l : Line) : (linesWatched s && (s.rmi.line l).reading.due) = true
    ↔ Due s (.wiredLineChange l (s.pins.line l)) := by
  simp only [Bool.and_eq_true, linesWatched_iff, LineRead.due_iff, and_assoc, Due, and_true]
  refine and_congr_right fun _ => and_congr_right fun _ => exists_congr fun n => and_congr_right fun _ => or_comm

theorem keyRow_iff (k : Nat) : repeatDue s k = true ↔ Due s (.keyRepeatExpiry k) := by
  simp only [repeatDue_iff, pressOf_iff, Due]

theorem dueRemote_exact (s : State) : Exact s (dueRemote s) := by
  refine .append (.append ?_ (.map _ lineRow_iff)) (.map _ keyRow_iff)
  refine .cons ?_ <| .cons ?_ <| .cons ?_ <| .cons ?_ .nil
  · simp only [Bool.and_eq_true, decide_eq_true_eq, Bool.not_eq_true', Option.isSome_iff_ne_none]
    exact and_assoc
  · simp only [Bool.and_eq_true, decide_eq_true_eq, Option.isSome_iff_ne_none]
    exact .rfl
  · exact focusTimedOut_iff s.rmi.focus
  · exact focusTooLong_iff s.rmi.focus

/-! ## Levels and follow-up steps -/

theorem sensed_seated_iff (p : Pins) : p.sensed = .seated ↔ p.seat = true ∧ p.clear = false := by
  unfold Pins.sensed
  cases p.seat <;> cases p.clear <;> simp

theorem sensed_clear_iff (p : Pins) : p.sensed = .clear ↔ p.seat = false ∧ p.clear = true := by
  unfold Pins.sensed
  cases p.seat <;> cases p.clear <;> simp

theorem lifted_iff (p : Pins) : p.lifted = true ↔ p.liftUp = true ∧ p.seat = false ∧ p.clear = true := by
  rw [Pins.lifted, Bool.and_eq_true, decide_eq_true_eq, sensed_clear_iff]

theorem levels_exact (s : State) : Exact s ((dueNow s).take 4) := by
  refine .cons ?_ <| .cons ?_ <| .cons ?_ <| .cons ?_ .nil
  · simp only [Bool.and_eq_true, lifted_iff]
    exact .rfl
  · simp only [Bool.and_eq_true, Bool.or_eq_true, decide_eq_true_eq]
    exact .rfl
  · simp only [Bool.and_eq_true, decide_eq_true_eq, sensed_seated_iff]
    exact .rfl
  · simp only [Bool.and_eq_true, decide_eq_true_eq, Bool.not_eq_true', and_assoc]
    exact .rfl

theorem pendingReady_iff :
    pendingReady s = true ↔ s.pnp.power = .run ∧ ∃ w, s.sar.waiting = some w ∧ DueAtRun s w := by
  cases hw : s.sar.waiting with
  | none => simp [pendingReady, hw]
  | some w => simp [pendingReady_iff_due hw]

theorem hoursReady_iff :
    hoursReady s = true ↔ s.pnp.hoursWaiting ≠ none ∧ s.pnp.store = none ∧ s.pnp.load = false
      ∧ s.pnp.hoursWrite = none := by
  simp [hoursReady, Option.isSome_iff_ne_none, and_assoc]

theorem followUps_exact (s : State) : Exact s ((dueNow s).drop 6) := by
  refine .cons ?_ <| .cons ?_ <| .cons ?_ <| .cons ?_ <| .cons ?_ .nil
  · exact pendingReady_iff
  · rw [Bool.and_eq_true, decide_eq_true_eq, Bool.not_eq_true', List.isEmpty_eq_false_iff]
    exact and_congr_right takeWait_zero_iff
  · simp only [Bool.and_eq_true, decide_eq_true_eq, runOut_iff]
    exact .rfl
  · exact standbyReady_iff s
  · exact hoursReady_iff

/-! ## The frame heard in loopback -/

/-- The rows of the frame that the part's own receiver heard. -/
def heardRows (s : State) : List (Bool × Instr) := ((dueNow s).drop 4).take 2

theorem dueNow_eq (s : State) : dueNow s = (dueNow s).take 4 ++ heardRows s ++ (dueNow s).drop 6 := rfl

theorem heardRows_some {f : LinkFrame} (hf : s.lkc.looped = some f) : heardRows s =
    [(s.linkOn && s.lkc.cfg.loopback && s.lkc.accepts f.dest, .ownAddressFrame f.dest f.kind f.payload),
     (s.linkOn && s.lkc.cfg.loopback && !s.lkc.accepts f.dest, .frameNotAccepted ⟨f.level, f.src, f.dest⟩)] := by
  simp only [heardRows, dueNow, hf]
  rfl

theorem heardRows_none (hf : s.lkc.looped = none) : heardRows s = [(false, .lineIdle), (false, .lineIdle)] := by
  simp only [heardRows, dueNow, hf]
  rfl

theorem heardRows_exact {f : LinkFrame} (hf : s.lkc.looped = some f) : Exact s (heardRows s) := by
  rw [heardRows_some hf]
  refine .cons ?_ <| .cons ?_ .nil
  · simp only [Bool.and_eq_true, linkOn_iff, Due, hf]
    simp [and_assoc]
  · simp only [Bool.and_eq_true, linkOn_iff, Due, hf]
    simp [and_assoc]

theorem heardRows_sound (hm : (true, c) ∈ heardRows s) : Due s c := by
  cases hf : s.lkc.looped with
  | none => simp [heardRows_none hf] at hm
  | some f => exact (heardRows_exact hf).sound hm

theorem heardRows_own {d : Byte} {k : Byte} {p : List Byte} (hd : Due s (.ownAddressFrame d k p)) :
    (true, .ownAddressFrame d k p) ∈ heardRows s := by
  obtain ⟨-, -, -, f, hf, heq⟩ := id hd
  cases heq
  exact (heardRows_exact hf).complete (by simp [heardRows_some hf]) hd

theorem heardRows_other {h : FrameHead} (hd : Due s (.frameNotAccepted h)) :
    (true, .frameNotAccepted h) ∈ heardRows s := by
  obtain ⟨-, -, -, f, hf, heq⟩ := id hd
  cases heq
  exact (heardRows_exact hf).complete (by simp [heardRows_some hf]) hd

end
end Sys2Proof.Machine
end

section
/-! What the part takes on an empty queue: the search finds a command exactly where one is due, and 1 ms passes where
none is. -/

namespace Sys2Proof.Machine
open Sys2Proof

section
variable {s : State} {c : Instr}

theorem mem_dueNow_iff {p : Bool × Instr} :
    p ∈ dueNow s ↔ p ∈ (dueNow s).take 4 ∨ p ∈ heardRows s ∨ p ∈ (dueNow s).drop 6 := by
  conv_lhs => rw [dueNow_eq]
  rw [List.mem_append, List.mem_append, or_assoc]

theorem mem_dueList_iff {p : Bool × Instr} : p ∈ dueList s ↔ (p ∈ (dueNow s).take 4 ∨ p ∈ heardRows s
    ∨ p ∈ (dueNow s).drop 6) ∨ p ∈ dueMechanism s ∨ p ∈ dueLamp s ∨ p ∈ dueDeck s ∨ p ∈ dueCues s ∨ p ∈ dueRemote s
    ∨ p ∈ dueLink s := by
  rw [← mem_dueNow_iff]
  simp only [dueList, List.mem_append, or_assoc]

theorem due_of_mem (h : (true, c) ∈ dueList s) : Due s c := by
  rcases mem_dueList_iff.mp h with (h | h | h) | h | h | h | h | h | h
  · exact (levels_exact s).sound h
  · exact heardRows_sound h
  · exact (followUps_exact s).sound h
  · exact (dueMechanism_exact s).sound h
  · exact (dueLamp_exact s).sound h
  · exact (dueDeck_exact s).sound h
  · exact (dueCues_exact s).sound h
  · exact (dueRemote_exact s).sound h
  · exact (dueLink_exact s).sound h

/-- The code of a repeat that is due has a row: it is a line's, or the one held on the IR receiver. -/
theorem keyRow_listed {k : Nat} (hd : Due s (.keyRepeatExpiry k)) : .keyRepeatExpiry k ∈ (dueRemote s).map (·.2) := by
  have hk : k ∈ [60, 61, 62, 63] ++ s.rmi.irHeld.toList := by
    obtain ⟨p, -, ⟨l, rfl, -⟩ | ⟨-, hheld, -⟩⟩ := hd
    · cases l <;> simp [lineCode]
    · simp [hheld]
  exact List.mem_map.mpr ⟨_, List.mem_append_right _ (List.mem_map_of_mem hk), rfl⟩

theorem lineRow_listed (l : Line) : .wiredLineChange l (s.pins.line l) ∈ (dueRemote s).map (·.2) := by
  have hl : l ∈ [Line.fwd, .rev, .fin, .fout] := by cases l <;> simp
  exact List.mem_map.mpr ⟨_, List.mem_append_left _ (List.mem_append_right _ (List.mem_map_of_mem hl)), rfl⟩

theorem mem_of_due (hd : Due s c) : (true, c) ∈ dueList s := by
  have level (hc : c ∈ ((dueNow s).take 4).map (·.2)) : (true, c) ∈ dueList s :=
    mem_dueList_iff.mpr (.inl (.inl ((levels_exact s).complete hc hd)))
  have heard (hm : (true, c) ∈ heardRows s) : (true, c) ∈ dueList s := mem_dueList_iff.mpr (.inl (.inr (.inl hm)))
  have followUp (hc : c ∈ ((dueNow s).drop 6).map (·.2)) : (true, c) ∈ dueList s :=
    mem_dueList_iff.mpr (.inl (.inr (.inr ((followUps_exact s).complete hc hd))))
  have mechanism (hc : c ∈ (dueMechanism s).map (·.2)) : (true, c) ∈ dueList s :=
    mem_dueList_iff.mpr (.inr (.inl ((dueMechanism_exact s).complete hc hd)))
  have lamp (hc : c ∈ (dueLamp s).map (·.2)) : (true, c) ∈ dueList s :=
    mem_dueList_iff.mpr (.inr (.inr (.inl ((dueLamp_exact s).complete hc hd))))
  have deck (hc : c ∈ (dueDeck s).map (·.2)) : (true, c) ∈ dueList s :=
    mem_dueList_iff.mpr (.inr (.inr (.inr (.inl ((dueDeck_exact s).complete hc hd)))))
  have cue (hc : c ∈ (dueCues s).map (·.2)) : (true, c) ∈ dueList s :=
    mem_dueList_iff.mpr (.inr (.inr (.inr (.inr (.inl ((dueCues_exact s).complete hc hd))))))
  have remote (hc : c ∈ (dueRemote s).map (·.2)) : (true, c) ∈ dueList s :=
    mem_dueList_iff.mpr (.inr (.inr (.inr (.inr (.inr (.inl ((dueRemote_exact s).complete hc hd)))))))
  have link (hc : c ∈ (dueLink s).map (·.2)) : (true, c) ∈ dueList s :=
    mem_dueList_iff.mpr (.inr (.inr (.inr (.inr (.inr (.inr ((dueLink_exact s).complete hc hd)))))))
  cases c
  case liftSuccess | liftRetryDropEnd | dropSeated | trayInsertion => exact level (by simp [dueNow])
  case ownAddressFrame => exact heard (heardRows_own hd)
  case frameNotAccepted => exact heard (heardRows_other hd)
  case pendingChangeStart | cueTake | endingShowEnd | standbyEntry | hoursWriteStart =>
    exact followUp (by simp [dueNow])
  case liftTimeout | dropTimeout | stepTimeout | shutterTimeout | tenureExpiry =>
    exact mechanism (by simp [dueMechanism])
  case temperatureSample =>
    obtain ⟨rfl, -⟩ := id hd
    exact lamp (by simp [dueLamp])
  case preheatExpiry | coolingTimerExpiry | lampRampTick | lampOpenDetect | heatGuardExpiry | fanStallExpiry
      | lampHoursTick =>
    exact lamp (by simp [dueLamp])
  case stopPulseEnd | startTimeout | stallTimeout | pauseTimeout | showClockTick | audioRampTick =>
    exact deck (by simp [dueDeck])
  case holdMinReached | edgeWatchExpiry | wordStartCheck | wordElementSample | wordCue | dwellExpiry =>
    exact cue (by simp [dueCues])
  case wiredLineChange l v =>
    obtain ⟨-, -, -, rfl⟩ := id hd
    exact remote (lineRow_listed l)
  case keyRepeatExpiry => exact remote (keyRow_listed hd)
  case irReleaseTimeout | digitTimeout | focusTimedEnd | focusRunLimit => exact remote (by simp [dueRemote])
  case frameSent | lineIdle | frameSendStart | idleTimerExpiry => exact link (by simp [dueLink])
  all_goals exact False.elim hd

theorem mem_dueList_iff_due : (true, c) ∈ dueList s ↔ Due s c := ⟨due_of_mem, mem_of_due⟩

end

/-! ## A step on an empty queue -/

theorem step_due {s : State} (hq : s.pending = []) {c : Instr} (h : due s = some c) : step s = exec c s := by
  simp only [step, hq, h]

theorem step_tick {s : State} (hq : s.pending = []) (h : due s = none) : step s = .next (tick s) := by
  simp only [step, hq, h]

theorem due_none_iff {s : State} (h : Powered s) : due s = none ↔ ∀ c, ¬ Due s c := by
  simp only [due_eq_none_iff h, mem_dueList_iff_due]

theorem tick_rmi {s : State} (h : Powered s) (hr : s.pnp.power ≠ .resetHeld) : (tick s).rmi = s.rmi.tick := by
  rw [tick_powered h]
  exact if_neg hr

/-- Settles O2: the search runs through the rows, each exact, and 1 ms changes each block by its own count. -/
theorem anEmptyQueueTakesWhatIsDue : Obligations.AnEmptyQueueTakesWhatIsDue := by
  unfold Obligations.AnEmptyQueueTakesWhatIsDue
  refine ⟨fun s hq => ⟨fun c h => step_due hq h, step_tick hq⟩,
    fun s h => ⟨fun c hc => due_of_mem (mem_dueList_of_due hc), due_none_iff h⟩,
    fun s h => ⟨due_low h, tick_low h⟩, fun s h => ?_, fun s h => ?_, fun s h => ?_, fun s h => ?_, fun s h => ?_,
    fun s h => ?_, fun s h hc => ?_, fun s h hc => ?_, fun s h => ?_, fun s h hr => ?_, fun s h hr => ?_,
    fun s l h hr => ?_, fun s h hon => ?_, fun s h hon => ?_, fun s h => ?_⟩
  · rw [tick_powered h]
  · rw [tick_powered h]
    exact tickTru_eq s
  · rw [tick_powered h]
    exact tickCsq_eq s.csq
  · rw [tick_powered h]
    exact tickSar_eq s
  · rw [tick_powered h]
    exact tickLmc_eq s
  · rw [tick_powered h]
    exact tickDkc_eq s
  · rw [tick_powered h]
    exact tickCdc_counting hc
  · rw [tick_powered h]
    exact tickCdc_held hc
  · rw [tick_powered h]
    exact tickCrn_eq s
  · rw [tick_powered h]
    exact if_pos hr
  · rw [tick_rmi h hr]
    exact rmi_tick_eq s.rmi
  · rw [tick_rmi h hr, rmi_tick_line]
    exact lineRec_tick_eq (s.rmi.line l)
  · rw [tick_powered h]
    exact if_pos ((linkOn_iff s).mpr hon)
  · rw [tick_powered h]
    exact if_neg fun hl => hon ((linkOn_iff s).mp hl)
  · rw [tick_powered h]
    exact tickPnp_eq s

end Sys2Proof.Machine
end
